-- ==== Sys2Proof/Word.lean ====
section
/-!
DEFINITION. The word types of the block: bytes, 32-bit register and Cue Code words, 64-bit beat counts and entries,
128-bit port words and microwords. Little-endian everywhere (spec 00_scope.md, "Byte order").
-/
namespace Sys2Proof

/-- One byte. -/
abbrev Byte := BitVec 8
/-- A 32-bit register, Cue Code cell or record word (R20, R208). -/
abbrev Word := BitVec 32
/-- A 64-bit value: BEATNO, a page-table entry, a Pattern Store entry. -/
abbrev Word64 := BitVec 64
/-- A 128-bit port word of a link (R43) or microword (R174). -/
abbrev Word128 := BitVec 128

end Sys2Proof
end

