-- ==== Sys2Proof/Syntax.lean ====
section
/-!
DEFINITION. The commands of the block: one constructor per row of spec/opcode_table.json, in its order. The table gives the rows no
operands; those below are the model's: the unit a step happens in, the data that arrives with it, and every choice the spec leaves
open (log entry 5). A unit's number is a `Fin` of its range, so that no command names a unit the block lacks (R5).
-/
namespace Sys2Proof

/-- Who makes a register-space access: a host master through the Host Register Port with its identifier, or crossbar
master `m` of R305 (0 to 15 cluster ports, 16 the House engine, 17 the Stagehand, 18 the Host Register Port, 19 the Host Fabric
inbound, 20 the stream-network gateway). -/
inductive Master where
  | hrp (id : BitVec 8)
  | xbar (m : Fin 21)
  deriving DecidableEq, Repr

/-- The register pages of R21 (the ring table has no page). -/
inductive Page where
  | block | callboard | permit | wings | curtain | timebase | trust | debug | xbar
  | link (n : Fin 128)
  | cue (e : Fin 256)
  | house
  | cluster (c : Fin 16)
  | pipe (p : Fin 64)
  | timer (t : Fin 8)
  | capture (i : Fin 4)
  | pin (k : Fin 32)
  | memctl (j : Fin 16)
  deriving DecidableEq, Repr

/-- The outcome of decoding one RS(544,514) codeword (R43). -/
inductive Codeword where
  | clean | corrected | uncorrectable
  deriving DecidableEq, Repr

/-- What the receiver found about a whole Lieno frame (R43). -/
inductive FrameCheck where
  | good | overlapsUncorrectable | lengthMismatch
  deriving DecidableEq, Repr

/-- The three registers a BUDGET_WRITE may name (R388). -/
inductive BudgetReg where
  | peakMw | reserveMw | vddMv
  deriving DecidableEq, Repr

/-- The kinds of access of R289. -/
inductive Access where
  | fetch | read | write
  deriving DecidableEq, Repr

/-- What stands after a REP prefix (R210): a string instruction, or another opcode, which makes the prefix an illegal opcode. -/
inductive StringOp where
  | movs | fils | cmps | scas
  | other (opc : BitVec 8)
  deriving DecidableEq, Repr

/-- What an access meets at the first word it is served: nothing, or an overlapping access by the bank's other requester, a read or a write.
`later`: this access is served second. The other requester is the other port of a local bank (R299), or the stream network at an
Event Memory bank (R297). -/
inductive Collision where
  | apart
  | otherReads (later : Bool)
  | otherWrites (later : Bool)
  deriving DecidableEq, Repr

/-- The retention units of R303. -/
inductive RetUnit where
  | eventBank (b : Fin 1024)
  | patternBank (b : Fin 256)
  | clusterBank (c : Fin 16)
  | houseBank
  | secureBank
  | channelMap
  deriving DecidableEq, Repr

/-- What resets the TAP (R399). -/
inductive TapReset where
  | trst | fiveTms | por
  deriving DecidableEq, Repr

/-- A request of the host on the inbound pair (R426, R427): address, transfers minus 1, tag, and for a write its bytes with one
enable each (32 per transfer; `none` where the byte enable is clear). -/
structure InboundReq where
  write : Bool
  addr : BitVec 40
  nm1 : Fin 64
  tag : Fin 32
  data : List (Option Byte)
  deriving DecidableEq, Repr

/-- The commands. -/
inductive Instr where
  /-- REGISTER_WRITE (R30). -/
  | registerWrite (m : Master) (addr : BitVec 24) (data : Word) (strb : BitVec 4)
  /-- RESERVED_ADDRESS_ACCESS (R22). -/
  | reservedAddressAccess (m : Master) (addr : BitVec 24) (write : Bool)
  /-- RC_FIELD_READ (R32). -/
  | rcFieldRead (m : Master) (addr : BitVec 24)
  /-- HIGHWATER_READ (R390). -/
  | highwaterRead (m : Master)
  /-- SOFT_RESET (R26). -/
  | softReset (p : Page) (m : Master)
  /-- SOFT_RESET_COMPLETE (R26). -/
  | softResetComplete (p : Page)
  /-- PAGE_ENABLE (R25). -/
  | pageEnable (p : Page) (m : Master)
  /-- PAGE_DISABLE (R25). -/
  | pageDisable (p : Page) (m : Master)
  /-- PAGE_LOCK (R29). -/
  | pageLock (p : Page) (m : Master)
  /-- OWNER_CLAIM (R34). -/
  | ownerClaim (m : Master)
  /-- OWNER_RELEASE (R34). -/
  | ownerRelease (m : Master)
  /-- ERR_INFO_CLEAR (R30). -/
  | errInfoClear (m : Master)
  /-- CALLBOARD_UPDATE (R38). -/
  | callboardUpdate (r : Fin 64)
  /-- OP_ABORT (R39). -/
  | opAbort (r : Fin 64) (m : Master)
  /-- OP_RELEASE (R36). -/
  | opRelease (r : Fin 64) (m : Master)
  /-- CODEWORD_DECODE (R43). -/
  | codewordDecode (n : Fin 128) (phy : List (BitVec 256)) (first : Fin 128)
  /-- LIENO_FRAME_RECEIVE (R43). -/
  | lienoFrameReceive (n : Fin 128) (cls : Fin 16) (words : List Word128) (check : FrameCheck)
  /-- RECEIVE_RING_WRITE (R446). -/
  | receiveRingWrite (n : Fin 128) (cls : Fin 16)
  /-- CREDIT_BLOCK (R46). -/
  | creditBlock (n : Fin 128) (g : Fin 4) (c0 c1 c2 c3 : BitVec 12)
  /-- ALIGNMENT_MARKER (R48). -/
  | alignmentMarker (n : Fin 128) (good : Bool)
  /-- LIENO_FRAME_TRANSMIT (R446). -/
  | lienoFrameTransmit (n : Fin 128) (fine : BitVec 8)
  /-- LINK_TRAINING (R49). -/
  | linkTraining (n : Fin 128) (m : Master)
  /-- TRAINING_STEP_DONE (R49). -/
  | trainingStepDone (n : Fin 128)
  /-- TRAINING_STEP_TIMEOUT (R49). -/
  | trainingStepTimeout (n : Fin 128)
  /-- PARSE_END (R51). -/
  | parseEnd (n : Fin 128)
  /-- PARSE_MATCH (R51). -/
  | parseMatch (n : Fin 128)
  /-- PARSE_ANY (R51). -/
  | parseAny (n : Fin 128)
  /-- PARSE_STREAM (R51). -/
  | parseStream (n : Fin 128)
  /-- PARSE_TAG (R53). -/
  | parseTag (n : Fin 128)
  /-- PARSE_SKIP (R51). -/
  | parseSkip (n : Fin 128)
  /-- PARSE_TAKE (R51). -/
  | parseTake (n : Fin 128)
  /-- PARSE_TAKE_REST (R51). -/
  | parseTakeRest (n : Fin 128)
  /-- PARSE_JUMP (R51). -/
  | parseJump (n : Fin 128)
  /-- PARSE_DROP_OP (R51). -/
  | parseDropOp (n : Fin 128)
  /-- PARSE_RESERVED_OP (R51). -/
  | parseReservedOp (n : Fin 128)
  /-- PARSE_STEP_LIMIT (R52). -/
  | parseStepLimit (n : Fin 128)
  /-- INGRESS_WORD_WRITE (R57). -/
  | ingressWordWrite (n : Fin 128)
  /-- FRAME_RING_ENABLE (R54). -/
  | frameRingEnable (m : Master) (data : Word)
  /-- FRAME_RING_DISABLE (R54). -/
  | frameRingDisable (m : Master) (data : Word)
  /-- CLOSE_TIMEOUT (R58). -/
  | closeTimeout (frame : Word64)
  /-- FRAME_READY (R58). -/
  | frameReady
  /-- FR_RELEASE (R58). -/
  | frRelease (m : Master) (data : Word)
  /-- RING_ENABLE (R61). -/
  | ringEnable (r : Fin 16384) (m : Master) (data : Word)
  /-- RING_DISABLE (R61). -/
  | ringDisable (r : Fin 16384) (m : Master) (data : Word)
  /-- RING_RESERVE (R62). -/
  | ringReserve (r : Fin 16384) (m : Master)
  /-- RING_COMMIT (R62). -/
  | ringCommit (r : Fin 16384) (m : Master) (k : Word)
  /-- RING_POP (R62). -/
  | ringPop (r : Fin 16384) (m : Master)
  /-- RING_RELEASE (R62). -/
  | ringRelease (r : Fin 16384) (m : Master) (k : Word)
  /-- CUE_ISSUE (R72). -/
  | cueIssue (r : Fin 4096)
  /-- FENCE_WAIT_END (R72). -/
  | fenceWaitEnd (r : Fin 4096)
  /-- PIPE_ASSIGN (R449). -/
  | pipeAssign (p : Fin 64)
  /-- PERMIT_GRANT (R385). -/
  | permitGrant
  /-- HEAD_AGED (R386). -/
  | headAged
  /-- BUDGET_WRITE (R388). -/
  | budgetWrite (reg : BudgetReg) (m : Master) (data : Word)
  /-- ENERGY_CLEAR (R390). -/
  | energyClear (m : Master)
  /-- ELEMENT_STEP (R82). -/
  | elementStep (p : Fin 64)
  /-- CHAIN_TIMEOUT (R88). -/
  | chainTimeout (p : Fin 64)
  /-- FINAL_RECORD (R94). -/
  | finalRecord (p : Fin 64)
  /-- DECISION_POSTING (R139). -/
  | decisionPosting
  /-- CURTAIN_RELEASE (R141). -/
  | curtainRelease
  /-- RELEASE_FRAME (R145). -/
  | releaseFrame (n : Fin 128)
  /-- DECISION_PIN_PULSE_END (R146). -/
  | decisionPinPulseEnd (pin : Fin 1024)
  /-- CURTAIN_WRITE_ACCEPT (R447). -/
  | curtainWriteAccept
  /-- STREAM_ENABLE (R148). -/
  | streamEnable (d : Fin 64) (m : Master) (data : Word)
  /-- STREAM_DISABLE (R148). -/
  | streamDisable (d : Fin 64) (m : Master) (data : Word)
  /-- LATENCY_WRITE (R147). -/
  | latencyWrite (d : Fin 64) (m : Master) (data : Word)
  /-- TCMD_OPEN (R154). -/
  | tcmdOpen (t : Fin 8) (m : Master)
  /-- TADDR (R155). -/
  | taddr (t : Fin 8) (m : Master) (data : Word)
  /-- TDATA (R155). -/
  | tdata (t : Fin 8) (m : Master) (data : Word)
  /-- TCMD_PREPARE (R157). -/
  | tcmdPrepare (t : Fin 8) (m : Master)
  /-- PREPARE_COMPLETE (R158). -/
  | prepareComplete (t : Fin 8)
  /-- TCMD_RAISE (R159). -/
  | tcmdRaise (t : Fin 8) (m : Master)
  /-- RAISE (R160). -/
  | wingsRaise
  /-- PREP (R166). -/
  | prep (gtag : Word) (raiseBeat voteBeat : Word64) (coord : BitVec 9)
  /-- VOTE (R166). -/
  | vote (gtag : Word) (sender : BitVec 9) (yes : Bool)
  /-- VOTE_DEADLINE (R166). -/
  | voteDeadline (t : Fin 8)
  /-- WINGS_COMMIT (R166). -/
  | wingsCommit (gtag : Word) (raiseBeat : Word64)
  /-- WINGS_ABORT (R166). -/
  | wingsAbort (gtag : Word) (sender : BitVec 9)
  /-- PREP_EXPIRY (R166). -/
  | prepExpiry (t : Fin 8)
  /-- COMMIT_TIMEOUT (R167). -/
  | commitTimeout (t : Fin 8)
  /-- MICROWORD (R171). -/
  | microword (e : Fin 257)
  /-- PACING_TICK (R200). -/
  | pacingTick (e : Fin 257)
  /-- ENGINE_RUN (R203). -/
  | engineRun (e : Fin 257) (m : Master)
  /-- ENGINE_STOP (R203). -/
  | engineStop (e : Fin 257) (m : Master) (clearEn : Bool)
  /-- CONTROL_STORE_COMMIT (R202). -/
  | controlStoreCommit (e : Fin 257) (m : Master) (data : Word)
  /-- DISPATCH_ENTRY_COMMIT (R202). -/
  | dispatchEntryCommit (e : Fin 257) (m : Master) (data : Word)
  /-- SHARED_STORE_COMMIT (R206). -/
  | sharedStoreCommit (c : Fin 16) (m : Master) (data : Word)
  /-- SHARED_STORE_COMMIT_RESUME (R206). -/
  | sharedStoreCommitResume (c : Fin 16)
  /-- STORE_BUFFER_DRAIN (R224). -/
  | storeBufferDrain (e : Fin 257) (col : Collision)
  /-- LATE_STORE_ERROR (R226). -/
  | lateStoreError (e : Fin 257)
  /-- EXCEPTION_ENTRY (R264). -/
  | exceptionEntry (e : Fin 257) (opc : Option (BitVec 8))
  /-- ISET (R272). -/
  | iset (e : Fin 257) (m : Master) (data : Word)
  /-- INTERMISSION_EXIT (R256). -/
  | intermissionExit (e : Fin 257)
  /-- NOP (R237). -/
  | nop (e : Fin 257)
  /-- LIT8 (R237). -/
  | lit8 (e : Fin 257) (imm : BitVec 8)
  /-- LIT16 (R237). -/
  | lit16 (e : Fin 257) (imm : BitVec 16)
  /-- LIT32 (R237). -/
  | lit32 (e : Fin 257) (imm : BitVec 32)
  /-- LIT16U (R237). -/
  | lit16u (e : Fin 257) (imm : BitVec 16)
  /-- DUP (R237). -/
  | dup (e : Fin 257)
  /-- DROP (R237). -/
  | drop (e : Fin 257)
  /-- SWAP (R237). -/
  | swap (e : Fin 257)
  /-- OVER (R237). -/
  | overOp (e : Fin 257)
  /-- ROT (R237). -/
  | rot (e : Fin 257)
  /-- NIP (R237). -/
  | nip (e : Fin 257)
  /-- TUCK (R237). -/
  | tuck (e : Fin 257)
  /-- DUP2 (R237). -/
  | dup2 (e : Fin 257)
  /-- DROP2 (R237). -/
  | drop2 (e : Fin 257)
  /-- PICK (R238). -/
  | pick (e : Fin 257) (imm : BitVec 8)
  /-- DEPTH (R237). -/
  | depth (e : Fin 257)
  /-- RPUSH (R238). -/
  | rpush (e : Fin 257)
  /-- RPOP (R238). -/
  | rpop (e : Fin 257)
  /-- RPEEK (R238). -/
  | rpeek (e : Fin 257)
  /-- FLUSH (R238). -/
  | flush (e : Fin 257)
  /-- ADD (R239). -/
  | add (e : Fin 257)
  /-- ADC (R239). -/
  | adc (e : Fin 257)
  /-- SUB (R239). -/
  | sub (e : Fin 257)
  /-- SBC (R239). -/
  | sbc (e : Fin 257)
  /-- NEG (R240). -/
  | neg (e : Fin 257)
  /-- ADDS (R240). -/
  | adds (e : Fin 257)
  /-- SUBS (R240). -/
  | subs (e : Fin 257)
  /-- ADDUS (R240). -/
  | addus (e : Fin 257)
  /-- MUL (R239). -/
  | mul (e : Fin 257)
  /-- MULHS (R239). -/
  | mulhs (e : Fin 257)
  /-- MULHU (R239). -/
  | mulhu (e : Fin 257)
  /-- DIVS (R241). -/
  | divs (e : Fin 257)
  /-- DIVU (R241). -/
  | divu (e : Fin 257)
  /-- REMS (R241). -/
  | rems (e : Fin 257)
  /-- REMU (R241). -/
  | remu (e : Fin 257)
  /-- CMP (R240). -/
  | cmp (e : Fin 257)
  /-- AND (R239). -/
  | andOp (e : Fin 257)
  /-- OR (R239). -/
  | orOp (e : Fin 257)
  /-- XOR (R239). -/
  | xorOp (e : Fin 257)
  /-- ANDN (R239). -/
  | andn (e : Fin 257)
  /-- NOT (R239). -/
  | notOp (e : Fin 257)
  /-- SHL (R242). -/
  | shl (e : Fin 257)
  /-- SHR (R242). -/
  | shr (e : Fin 257)
  /-- SAR (R242). -/
  | sar (e : Fin 257)
  /-- ROL (R242). -/
  | rol (e : Fin 257)
  /-- ROR (R242). -/
  | ror (e : Fin 257)
  /-- ADDI (R239). -/
  | addi (e : Fin 257) (imm : BitVec 8)
  /-- CMPI (R239). -/
  | cmpi (e : Fin 257) (imm : BitVec 8)
  /-- TST (R239). -/
  | tst (e : Fin 257)
  /-- MINS (R239). -/
  | mins (e : Fin 257)
  /-- MAXS (R239). -/
  | maxs (e : Fin 257)
  /-- CLZ (R239). -/
  | clz (e : Fin 257)
  /-- LD8U (R243). -/
  | ld8u (e : Fin 257)
  /-- LD8S (R243). -/
  | ld8s (e : Fin 257)
  /-- LD16U (R243). -/
  | ld16u (e : Fin 257)
  /-- LD16S (R243). -/
  | ld16s (e : Fin 257)
  /-- LD32 (R221). -/
  | ld32 (e : Fin 257)
  /-- LD32NC (R243). -/
  | ld32nc (e : Fin 257)
  /-- ST8 (R243). -/
  | st8 (e : Fin 257)
  /-- ST16 (R243). -/
  | st16 (e : Fin 257)
  /-- ST32 (R243). -/
  | st32 (e : Fin 257)
  /-- LD32D (R243). -/
  | ld32d (e : Fin 257) (imm : BitVec 16)
  /-- ST32D (R243). -/
  | st32d (e : Fin 257) (imm : BitVec 16)
  /-- LDR (R245). -/
  | ldr (e : Fin 257)
  /-- STC (R245). -/
  | stc (e : Fin 257)
  /-- TAS (R244). -/
  | tas (e : Fin 257)
  /-- JMP (R247). -/
  | jmp (e : Fin 257)
  /-- CALL (R219). -/
  | call (e : Fin 257) (imm : BitVec 16)
  /-- CALLL (R247). -/
  | calll (e : Fin 257) (imm : BitVec 32)
  /-- CALLI (R247). -/
  | calli (e : Fin 257)
  /-- RET (R219). -/
  | ret (e : Fin 257)
  /-- RETE (R266). -/
  | rete (e : Fin 257)
  /-- BZ (R247). -/
  | bz (e : Fin 257) (imm : BitVec 16)
  /-- BNZ (R247). -/
  | bnz (e : Fin 257) (imm : BitVec 16)
  /-- DBNZ (R247). -/
  | dbnz (e : Fin 257) (imm : BitVec 16)
  /-- TRAP (R249). -/
  | trap (e : Fin 257) (imm : BitVec 8)
  /-- BAL (R247). -/
  | bal (e : Fin 257) (imm : BitVec 16)
  /-- BNV (R248). -/
  | bnv (e : Fin 257) (imm : BitVec 16)
  /-- BEQ (R247). -/
  | beq (e : Fin 257) (imm : BitVec 16)
  /-- BNE (R247). -/
  | bne (e : Fin 257) (imm : BitVec 16)
  /-- BLT (R247). -/
  | blt (e : Fin 257) (imm : BitVec 16)
  /-- BGE (R247). -/
  | bge (e : Fin 257) (imm : BitVec 16)
  /-- BLE (R247). -/
  | ble (e : Fin 257) (imm : BitVec 16)
  /-- BGT (R247). -/
  | bgt (e : Fin 257) (imm : BitVec 16)
  /-- BCS (R247). -/
  | bcs (e : Fin 257) (imm : BitVec 16)
  /-- BCC (R247). -/
  | bcc (e : Fin 257) (imm : BitVec 16)
  /-- BHI (R247). -/
  | bhi (e : Fin 257) (imm : BitVec 16)
  /-- BLS (R247). -/
  | bls (e : Fin 257) (imm : BitVec 16)
  /-- BMI (R247). -/
  | bmi (e : Fin 257) (imm : BitVec 16)
  /-- BPL (R247). -/
  | bpl (e : Fin 257) (imm : BitVec 16)
  /-- BVS (R247). -/
  | bvs (e : Fin 257) (imm : BitVec 16)
  /-- BVC (R247). -/
  | bvc (e : Fin 257) (imm : BitVec 16)
  /-- BKPT (R249). -/
  | bkpt (e : Fin 257)
  /-- REP (R229). -/
  | rep (e : Fin 257) (op : StringOp) (imm : BitVec 8)
  /-- MOVS (R250). -/
  | movs (e : Fin 257) (imm : BitVec 8)
  /-- FILS (R250). -/
  | fils (e : Fin 257) (imm : BitVec 8)
  /-- CMPS (R251). -/
  | cmps (e : Fin 257) (imm : BitVec 8)
  /-- SCAS (R251). -/
  | scas (e : Fin 257) (imm : BitVec 8)
  /-- LDA (R252). -/
  | lda (e : Fin 257) (imm : BitVec 8)
  /-- STA (R252). -/
  | sta (e : Fin 257) (imm : BitVec 8)
  /-- RDSR (R254). -/
  | rdsr (e : Fin 257) (imm : BitVec 8)
  /-- WRSR (R254). -/
  | wrsr (e : Fin 257) (imm : BitVec 8)
  /-- SYNC_P (R212). -/
  | syncP (e : Fin 257)
  /-- SYNC_I (R258). -/
  | syncI (e : Fin 257)
  /-- SYNC_M (R253). -/
  | syncM (e : Fin 257)
  /-- DINV (R253). -/
  | dinv (e : Fin 257)
  /-- TINV (R292). -/
  | tinv (e : Fin 257)
  /-- TSYNC (R292). -/
  | tsync (e : Fin 257)
  /-- KSET (R255). -/
  | kset (e : Fin 257)
  /-- CUE (R256). -/
  | cue (e : Fin 257) (imm : BitVec 8)
  /-- POST (R256). -/
  | post (e : Fin 257)
  /-- RRES (R253). -/
  | rres (e : Fin 257)
  /-- RCOM (R253). -/
  | rcom (e : Fin 257)
  /-- RPOP_RING (R253). -/
  | rpopRing (e : Fin 257)
  /-- WAIT (R256). -/
  | wait (e : Fin 257) (imm : BitVec 8)
  /-- RREL (R253). -/
  | rrel (e : Fin 257)
  /-- USER_OPCODE (R257). -/
  | userOpcode (e : Fin 257) (u : Fin 16) (imm : Word)
  /-- PAGE_WALK (R287). -/
  | pageWalk (e : Fin 257) (va : BitVec 40) (access : Access)
  /-- TINV_BROADCAST (R292). -/
  | tinvBroadcast (e : Fin 257)
  /-- CROSSBAR_GRANT (R306). -/
  | crossbarGrant (t : Fin 26) (words : Option (Fin 32)) (col : Collision)
  /-- SCRUB (R301). -/
  | scrub (j : Fin 16) (m : Master)
  /-- SCRUB_DONE (R301). -/
  | scrubDone (j : Fin 16) (words : Option Word)
  /-- BIST (R301). -/
  | bist (j : Fin 16) (m : Master)
  /-- BIST_DONE (R301). -/
  | bistDone (j : Fin 16) (bank : Option Bool)
  /-- SECURE_BANK_WIPE (R302). -/
  | secureBankWipe
  /-- WIPE_COMPLETE (R302). -/
  | wipeComplete
  /-- RETENTION_REQUEST (R303). -/
  | retentionRequest (u : RetUnit) (m : Master)
  /-- RETENTION_ENTRY (R303). -/
  | retentionEntry (u : RetUnit)
  /-- WAKE (R303). -/
  | wake (u : RetUnit) (byWrite : Option Master)
  /-- WAKE_COMPLETE (R303). -/
  | wakeComplete (u : RetUnit)
  /-- BULK_LOAD (R314). -/
  | bulkLoad (m : Master) (data : Word)
  /-- BULK_LOAD_COMPLETE (R314). -/
  | bulkLoadComplete (entries : Option Word)
  /-- BEATCLK_WRITE_ACCEPT (R317). -/
  | beatclkWriteAccept
  /-- BEATCLK_LOSS (R315). -/
  | beatclkLoss
  /-- BEATCLK_RETURN (R315). -/
  | beatclkReturn
  /-- ISLAND_WRITE_DISCARD (R422). -/
  | islandWriteDiscard
  /-- TIMEBASE_LOAD (R318). -/
  | timebaseLoad (m : Master)
  /-- GSTART (R327). -/
  | gstart (m : Master) (data : Word)
  /-- GSTART_BEAT (R327). -/
  | gstartBeat
  /-- TIMER_START (R321). -/
  | timerStart (n : Fin 64) (m : Master) (data : Word)
  /-- TIMER_STOP (R321). -/
  | timerStop (n : Fin 64) (m : Master) (data : Word)
  /-- CMP_WRITE (R322). -/
  | cmpWrite (n : Fin 64) (m : Master) (data : Word)
  /-- TIMER_COMPARE (R322). -/
  | timerCompare (n : Fin 64)
  /-- TIMER_WRAP (R323). -/
  | timerWrap (n : Fin 64)
  /-- CAPTURE_EDGE (R329). -/
  | captureEdge (i : Fin 256) (rise : Bool) (beat : Word64) (fine : BitVec 8)
  /-- WATCHDOG_ENABLE (R332). -/
  | watchdogEnable (e : Fin 257) (m : Master) (data : Word)
  /-- WATCHDOG_KICK (R333). -/
  | watchdogKick (e : Fin 257) (m : Master) (data : Word)
  /-- WATCHDOG_EXPIRY (R333). -/
  | watchdogExpiry (e : Fin 257)
  /-- PINCLK_WRITE_ACCEPT (R336). -/
  | pinclkWriteAccept (k : Fin 32)
  /-- PIN_NOP (R337). -/
  | pinNop (k : Fin 32) (pins : Word)
  /-- STOP (R337). -/
  | stop (k : Fin 32) (pins : Word)
  /-- SIGNAL (R337). -/
  | signal (k : Fin 32) (pins : Word)
  /-- CLR (R337). -/
  | clr (k : Fin 32) (pins : Word)
  /-- DRIVE (R337). -/
  | drive (k : Fin 32) (pins : Word)
  /-- PUTP (R337). -/
  | putp (k : Fin 32) (pins : Word)
  /-- GETP (R337). -/
  | getp (k : Fin 32) (pins : Word)
  /-- SHO (R338). -/
  | sho (k : Fin 32) (pins : Word)
  /-- SHI (R338). -/
  | shi (k : Fin 32) (pins : Word)
  /-- TAKE (R339). -/
  | take (k : Fin 32) (pins : Word)
  /-- GIVE (R339). -/
  | give (k : Fin 32) (pins : Word)
  /-- AWAIT_PIN (R337). -/
  | awaitPin (k : Fin 32) (pins : Word)
  /-- AWAIT_BEAT (R340). -/
  | awaitBeat (k : Fin 32) (pins : Word)
  /-- BR (R341). -/
  | br (k : Fin 32) (pins : Word)
  /-- LDLC (R337). -/
  | ldlc (k : Fin 32) (pins : Word)
  /-- LOOP (R341). -/
  | pinLoop (k : Fin 32) (pins : Word)
  /-- PIN_RESERVED_OP (R342). -/
  | pinReservedOp (k : Fin 32) (pins : Word)
  /-- PIN_ENGINE_RUN (R344). -/
  | pinEngineRun (k : Fin 32) (m : Master) (data : Word)
  /-- PIN_ENGINE_STOP (R344). -/
  | pinEngineStop (k : Fin 32) (m : Master) (data : Word)
  /-- TXD_WRITE (R343). -/
  | txdWrite (k : Fin 32) (m : Master) (data : Word)
  /-- RXD_POP (R343). -/
  | rxdPop (k : Fin 32) (m : Master)
  /-- INJECT (R345). -/
  | inject (k : Fin 32) (m : Master) (data : Word)
  /-- PEER_ENABLE (R349). -/
  | peerEnable (m : Master) (data : Word)
  /-- HELLO (R351). -/
  | hello (n : Fin 128) (devno : BitVec 9) (dir : BitVec 3)
  /-- ROUTED_MESSAGE (R357). -/
  | routedMessage (n : Fin 128) (cls : Fin 16) (msg : List Word128)
  /-- FRAGMENT_SEND (R358). -/
  | fragmentSend (n : Fin 128)
  /-- FRAME_FRAGMENT_RECEIVE (R358). -/
  | frameFragmentReceive (n : Fin 128) (beat : Word64) (stream : BitVec 8)
  /-- DECISION_RECEIVE (R359). -/
  | decisionReceive (n : Fin 128)
  /-- ALIGNMENT_MEASUREMENT (R361). -/
  | alignmentMeasurement
  /-- ALIGN_CALL (R361). -/
  | alignCall (n : Fin 128) (t2 : Word64)
  /-- ALIGN_RESP (R362). -/
  | alignResp (n : Fin 128) (t2 t3 t4 : Word64)
  /-- MEASUREMENT_MISS (R361). -/
  | measurementMiss
  /-- PROBE (R364). -/
  | probe (m : Master) (data : Word)
  /-- ECHO (R364). -/
  | echo (src : BitVec 9)
  /-- ECHOR (R364). -/
  | echor (src : BitVec 9) (fine : BitVec 9)
  /-- PROBE_TIMEOUT (R364). -/
  | probeTimeout
  /-- LIFE_CYCLE_CHANGE (R368). -/
  | lifeCycleChange (code : BitVec 8)
  /-- SECRET_WORD (R370). -/
  | secretWord (w : Word)
  /-- SECRET_TIMEOUT (R370). -/
  | secretTimeout
  /-- TAMPER (R371). -/
  | tamper
  /-- BOOTCMD (R372). -/
  | bootcmd (m : Master)
  /-- BOOT_IMAGE_LOAD (R372). -/
  | bootImageLoad (bytes : Option (List Byte))
  /-- HOUSE_EXTEND (R378). -/
  | houseExtend (m : Master) (data : Word)
  /-- PAGE_MEASUREMENT (R378). -/
  | pageMeasurement
  /-- QUOTE (R380). -/
  | quote (m : Master) (data : Word)
  /-- PEER_QUOTE_REQUEST (R380). -/
  | peerQuoteRequest (m : Master) (data : Word)
  /-- QREQ (R380). -/
  | qreq (src : BitVec 9) (nonce : List Word128)
  /-- QRESP (R380). -/
  | qresp (half : Bool) (words : List Word128)
  /-- QUOTE_TIMEOUT (R380). -/
  | quoteTimeout
  /-- QUOTE_COMPLETE (R379). -/
  | quoteComplete
  /-- DEBUG_QUOTE (R416). -/
  | debugQuote
  /-- TAP_RESET (R399). -/
  | tapReset (cause : TapReset)
  /-- DACC_READ (R400). -/
  | daccRead (off : BitVec 12)
  /-- DACC_WRITE (R400). -/
  | daccWrite (off : BitVec 12) (data : Word)
  /-- CHALLENGE_NEW (R402). -/
  | challengeNew
  /-- CHALLENGE_CHECK (R402). -/
  | challengeCheck (lvl : BitVec 2)
  /-- CHALLENGE_BACKOFF_END (R402). -/
  | challengeBackoffEnd
  /-- DEBUG_HALT_REQUEST (R404). -/
  | debugHaltRequest (sel : BitVec 9)
  /-- DEBUG_HALT (R405). -/
  | debugHalt (e : Fin 257)
  /-- RESUME (R406). -/
  | resume (sel : BitVec 9)
  /-- STEP (R406). -/
  | step (sel : BitVec 9)
  /-- BKPTON (R404). -/
  | bkpton (sel : BitVec 9)
  /-- BKPTOFF (R404). -/
  | bkptoff (sel : BitVec 9)
  /-- PROMPTER (R407). -/
  | prompter (w : Option Word)
  /-- STAGEHAND_TRANSFER (R408). -/
  | stagehandTransfer (data : Word)
  /-- STAGEHAND_DONE (R408). -/
  | stagehandDone
  /-- STAGEHAND_RESET (R310). -/
  | stagehandReset
  /-- FREEZE (R410). -/
  | freeze (data : Word)
  /-- FREEZE_END (R410). -/
  | freezeEnd (data : Word)
  /-- BELLSTRIKE (R412). -/
  | bellstrike (data : Word)
  /-- STIMULUS (R415). -/
  | stimulus (m : Master) (port : Fin 256) (data : Word)
  /-- HOST_FABRIC_INBOUND (R429). -/
  | hostFabricInbound (req : InboundReq)
  /-- HOST_FABRIC_RESPONSE (R428). -/
  | hostFabricResponse (tag : Fin 32) (bytes : List Byte) (errs : List Bool)
  /-- INBOUND_MASTER_RESET (R430). -/
  | inboundMasterReset
  /-- PHY_READY (R433). -/
  | phyReady (n : Fin 128)
  /-- PHY_READY_FALL (R433). -/
  | phyReadyFall (n : Fin 128)
  /-- PHY_GROUP_ACK (R433). -/
  | phyGroupAck (g : Fin 8)
  /-- RETENTION_ACK (R439). -/
  | retentionAck
  /-- POR_ASSERT (R441). -/
  | porAssert
  /-- POR_RELEASE (R441). -/
  | porRelease (tamperLow : Bool)
  /-- RESET_ASSERT (R441). -/
  | resetAssert
  /-- RESET_RELEASE (R441). -/
  | resetRelease (tamperLow : Bool)
  /-- BEATCLK_EDGE (R315). -/
  | beatclkEdge
  /-- TCK_EDGE (R399). -/
  | tckEdge (tms tdi : Bool)
  /-- HFI_RST_REQ_FALL (R430). -/
  | hfiRstReqFall
  /-- DOORBELL_WRITE (R177). -/
  | doorbellWrite (e : Fin 257) (m : Master)
  deriving DecidableEq, Repr

end Sys2Proof
end

