-- ==== Sys2Proof/Decode.lean ====
section
/-!
DEFINITION. Decoding a command from the bits of spec/opcode_table.json. The commands of a block come from outside, and no row of the
table gives bits, so every word is refused.
-/
namespace Sys2Proof

/-- The command that a word of `nbits` bits spells by the table's bits: none, for no row gives bits (log entry 16). -/
def decodeTableWord (_nbits _w : Nat) : Option Instr := none

end Sys2Proof
end

