-- ==== Sys2Proof/Machine/Bits.lean ====
section
/-!
DEFINITION. Bit fields and little-endian byte order (spec 00_scope.md, "Bit numbering", "Byte order").
-/
namespace Sys2Proof.Machine

/-- The field of `len` bits whose least significant bit is bit `lo`, as a number. -/
def fld {w : Nat} (x : BitVec w) (lo len : Nat) : Nat := (x.toNat >>> lo) % 2 ^ len

/-- Bit `i`. -/
def bitAt {w : Nat} (x : BitVec w) (i : Nat) : Bool := x.getLsbD i

/-- A word with bits `lo` to `lo + len - 1` set. -/
def maskOf (w lo len : Nat) : BitVec w := BitVec.ofNat w ((2 ^ len - 1) <<< lo)

/-- `x` with the field of `len` bits at `lo` replaced by `v`. -/
def putFld {w : Nat} (x : BitVec w) (lo len v : Nat) : BitVec w :=
  (x &&& ~~~ maskOf w lo len) ||| BitVec.ofNat w ((v % 2 ^ len) <<< lo)

/-- `x` with bit `i` set to `b`. -/
def putBit {w : Nat} (x : BitVec w) (i : Nat) (b : Bool) : BitVec w := putFld x i 1 (if b then 1 else 0)

/-- A truth value as a number. -/
def b2n (b : Bool) : Nat := if b then 1 else 0

/-- `x` extended by its sign from `len` bits, as an integer. -/
def sextInt {w : Nat} (x : BitVec w) (len : Nat) : Int :=
  let v := x.toNat % 2 ^ len
  if 2 ^ (len - 1) ≤ v then (v : Int) - 2 ^ len else v

/-- The low bytes of `v`, lowest address first. -/
def bytesLE : Nat → Nat → List Byte
  | 0, _ => []
  | n + 1, v => BitVec.ofNat 8 v :: bytesLE n (v / 256)

/-- The number that bytes spell, lowest address first. -/
def natLE : List Byte → Nat
  | [] => 0
  | b :: rest => b.toNat + 256 * natLE rest

/-- A 32-bit word from up to four bytes. -/
def wordLE (bs : List Byte) : Word := BitVec.ofNat 32 (natLE bs)

/-- The bytes of a list of 32-bit words. -/
def bytesOfWords (ws : List Word) : List Byte := ws.flatMap (fun w => bytesLE 4 w.toNat)

/-- 32-bit words from bytes, four at a time (a short last group is zero-extended). -/
def wordsOfBytes : Nat → List Byte → List Word
  | 0, _ => []
  | n + 1, bs => wordLE (bs.take 4) :: wordsOfBytes n (bs.drop 4)

/-- The bytes of a list of 128-bit port words. -/
def bytesOfPortWords (ws : List Word128) : List Byte := ws.flatMap (fun w => bytesLE 16 w.toNat)

/-- 128-bit port words from bytes, sixteen at a time. -/
def portWordsOfBytes : Nat → List Byte → List Word128
  | 0, _ => []
  | n + 1, bs => BitVec.ofNat 128 (natLE (bs.take 16)) :: portWordsOfBytes n (bs.drop 16)

/-- ceil(a / b). -/
def ceilDiv (a b : Nat) : Nat := (a + b - 1) / b

/-- The low `n` bits of `v` in reversed order (rev_n of R77 and R227). -/
def revBits : Nat → Nat → Nat
  | 0, _ => 0
  | n + 1, v => (v % 2) * 2 ^ n + revBits n (v / 2)

/-- Beat `a` is at or before beat `b`, modulo 2^64: `b` lies less than 2^63 beats after it (R8; DEDUCED, log entry 116). -/
def beatLe (a b : Word64) : Bool := decide ((b - a).toNat < 2 ^ 63)
/-- Beat `a` is before beat `b`. -/
def beatLt (a b : Word64) : Bool := a != b && beatLe a b

/-- floor(log2 v) for v ≥ 1, at most `fuel`; 0 for v = 0. -/
def log2Floor : Nat → Nat → Nat
  | 0, _ => 0
  | fuel + 1, v => if v < 2 then 0 else 1 + log2Floor fuel (v / 2)

/-- The number of set bits among the low `n`. -/
def popCount : Nat → Nat → Nat
  | 0, _ => 0
  | n + 1, v => v % 2 + popCount n (v / 2)

/-- Keep the first element of a list that satisfies `p` apart: (that element, the rest in order). -/
def takeFirst {α : Type} (p : α → Bool) : List α → Option (α × List α)
  | [] => none
  | a :: rest => if p a then some (a, rest) else (takeFirst p rest).map (fun r => (r.1, a :: r.2))

end Sys2Proof.Machine
end

