-- ==== Sys2Proof/Machine/State.lean ====
section
/-!
DEFINITION. The state of the block as plain data, and the block right after reset. Every register of the register space that is not
held in one of the records below is in `regs`, by its register address (R20); an unlisted register holds its reset value, which the
register maps give (Machine/Pages.lean). Every byte of the physical memories of R295 is in `mem`, by its physical address.
-/
namespace Sys2Proof.Machine

/-- Why a step stops. No behaviour the spec gives ends in one of these. -/
inductive Fault where
  /-- Raised by nothing: the block has no step that stops it; every error the spec names is state. Safe. -/
  | never
  deriving DecidableEq, Repr

/-- Why a command has no meaning in the state it meets. -/
inductive Refusal where
  /-- A command not modelled yet, by its table mnemonic. Safe. -/
  | notModelled (mnemonic : String)
  /-- An engine whose base dispatch entry for the opcode differs from R233's map: "not defined" (R235). Raised by the Cue Code
  commands. Safe: the model stops where the spec gives no behaviour. -/
  | baseDispatchDiffers
  /-- A register page reached through a memory type other than DEVICE: "not defined" (R282). Raised by engine
  accesses. Safe. -/
  | registerPageNotDevice
  deriving DecidableEq, Repr

/-! ### Responses and waiting accesses -/

/-- Who makes an access: the crossbar master (21: the stream network), the engine or 256 or none, the page walk that it is made for by
partition and page, House mode, a debugger's access. -/
structure Who where
  m : Nat
  eng : Nat := 511
  walk : Option (Nat × Nat) := none
  hm : Bool := false
  dbg : Bool := false
  deriving DecidableEq, Repr

/-- The answer to the last access answered: data, error, BUSY (R423, R426). -/
structure Rsp where
  data : Word := 0
  err : Bool := false
  busy : Bool := false
  deriving DecidableEq, Repr

/-- A request that the Host Register Port has taken and whose response it has not delivered: a number of its own, the identifier as
presented, its answer once it has one (R423, R424). -/
structure HrpReq where
  seq : Nat
  id : BitVec 8
  answer : Option Rsp := none
  deriving DecidableEq, Repr

/-- A response of the Host Register Port: `hrp_rsp_id`, its data and error (R423). -/
structure HrpRsp where
  id : BitVec 8
  data : Word
  err : Bool
  deriving DecidableEq, Repr

/-- What a register write that waits for its acceptance edge is to be answered to (R422): a request of the Host Register Port by its number, an
engine's oldest store, the burst of a crossbar master, or no access but the command's own. -/
inductive WriteFrom where
  | port (seq : Nat)
  | store (e : Fin 257)
  | burst (m : Nat)
  | none
  deriving DecidableEq, Repr

/-- A single access of a crossbar master that waits at a target's arbiter, or that the arbiter has granted (R306). -/
structure Single where
  m : Nat
  t : Nat
  granted : Bool
  deriving DecidableEq, Repr

/-- A register write waiting for its island's acceptance edge: the beat in which it arrived (BEATCLK islands), its page's island,
the write, `synced`: an edge of PINCLK has sampled it, and what its response goes to (R317, R336, R422, R447). -/
structure IslandWrite where
  beat : Word64
  pinPage : Option (Fin 32)
  curtain : Bool
  m : Master
  addr : Nat
  data : Word
  synced : Bool := false
  origin : WriteFrom := .none
  deriving DecidableEq, Repr

/-! ### Callboard -/

/-- OP_STATE[2:0] (R36). -/
inductive OpState where
  | idle | queued | permitWait | running | done | failed | aborted
  deriving DecidableEq, Repr

/-- The values of a Callboard record but for the update count. -/
structure CbVals where
  kind : Nat := 0
  ptype : Nat := 0
  pinst : Nat := 0
  st : OpState := .idle
  progress : Word := 0
  total : Word := 0
  result : Word := 0
  partials : Word := 0
  beat : Word := 0
  deriving DecidableEq, Repr

/-- A Callboard record: the operation's own values, the values the page shows, the update count, and an ABORT not yet honoured. -/
structure CbRec where
  cur : CbVals := {}
  vis : CbVals := {}
  count : BitVec 8 := 0
  abort : Bool := false
  deriving DecidableEq, Repr

/-! ### Power -/

/-- Who holds or asks for a grant (R384). -/
inductive Requester where
  | cue (chain : Nat)
  | prepare (t : Fin 8)
  | bulk
  | scrub (j : Fin 16)
  | bist (j : Fin 16)
  | boot
  | quote (r : Fin 64)
  | train (n : Fin 128)
  | wake (u : RetUnit)
  deriving DecidableEq, Repr

/-- A power request waiting in a queue: the amount it asks for in mW at 0.75 V (its charge is that of the supply when it is granted, log
entry 122), the beat at which it became the head, whether it is aged (R385, R386). -/
structure PermitReq where
  who : Requester
  mw : Nat
  since : Word64
  aged : Bool
  deriving DecidableEq, Repr

/-- The Permit unit: the three queues, the requests waiting to enter (R390), the grants held with their charges, the energy of the
three planes in units of 0.1 pJ x (mV)^2 / 750^2 (R391, log entry 13). -/
structure Permit where
  q0 : List PermitReq := []
  q1 : List PermitReq := []
  q2 : List PermitReq := []
  entering : List (Nat × PermitReq) := []
  grants : List (Requester × Nat) := []
  eData : Nat := 0
  eCtrl : Nat := 0
  eMgmt : Nat := 0
  deriving DecidableEq, Repr

/-! ### Links and frames -/

/-- A Lieno frame waiting in a receive buffer: class, payload words still there, length, BEATNO at arrival, the entries of it that are
written to its receive ring (R446), whether its credits are still to be returned (not so after a loss of lock, log entry 114). -/
structure RxFrame where
  cls : Nat
  words : List Word128
  len : Nat
  beat : Word64
  sent : Nat := 0
  owes : Bool := true
  deriving DecidableEq, Repr

/-- A message that this device makes (R354): class, KIND, source, destination, BCAST, STAGE, HOPS, BREM, the sender's BEATNO, and the fields
its kind carries (R166, R351, R361, R364, R380), in the order the spec lists them. The spec gives those fields no bit positions, so
they are kept as values (log entry 29). -/
structure Msg where
  cls : Nat
  kind : Nat
  src : Nat := 0
  dest : Nat
  bcast : Bool := false
  stage : Nat := 0
  hops : Nat := 0
  brem : Nat := 0
  beat : Word64 := 0
  fields : List Word64 := []
  len : Nat := 2
  deriving DecidableEq, Repr

/-- A Lieno frame on the transmit side: payload words, a message of this device, or a frame fragment with its header's values (R358). -/
inductive TxFrame where
  | data (cls : Nat) (words : List Word128)
  | msg (m : Msg)
  | fragment (beat : Word64) (stream lenw devno : Nat) (data : List Word128)
  deriving DecidableEq, Repr

/-- What fills a block slot of a transmitted line (R42, R43): nothing, an alignment marker, a credit block with its group and counts (R46), the
start block of a frame with its class and length, a payload block by its number in the frame, the frame's end block. -/
inductive TxBlock where
  | idle
  | marker
  | credit (g : Fin 4) (c0 c1 c2 c3 : BitVec 12)
  | start (cls len : Nat)
  | payload (k : Nat)
  | done
  deriving DecidableEq, Repr

/-- Bits of a line that are on their way: how many, and their value, the first of them lowest. -/
structure Bits where
  n : Nat := 0
  v : Nat := 0
  deriving DecidableEq, Repr

/-- A message waiting for its outbound port: direction, class, port, frame (R352, R357). -/
structure Fwd where
  dir : Nat
  cls : Nat
  port : Fin 128
  frame : TxFrame
  deriving DecidableEq, Repr

/-- Link training in progress: its Callboard record, the rate tried, the step (0 block lock to 3 credit exchange), whether it has
its power, the steps done so far (R49). -/
structure Training where
  cb : Fin 64
  rate : Nat
  auto : Bool
  step : Nat
  granted : Bool
  total : Nat
  deriving DecidableEq, Repr

/-- A link port n (R41 to R53, R145, R433) apart from its registers. Counts of credit are per class and modulo 4,096 (R46). `winOwed`: the
full windows of a new lock are still to be granted (R46, R48). `presented`: the frame of the word that the port has presented and that is
not yet done with; `waiting`: the same while a wrap wait holds it (R64). `taking`: the stream and frame that a TAKE of the append layout is
writing (R57). `markGap`, `creditGap`: block slots filled since the last alignment marker and credit block sent, `creditNext`: the group of
the next credit block, `line`: the blocks of the last transmission (R42, R46). `txBits`: bits of sent blocks that no codeword holds yet,
`txLeft`: bits of codewords that fill no PHY word yet, `txWords`: the PHY words of the last transmission, `lnk_tx_data` in order. `rxBits`: decoded
bits that fill no block yet, `rxBlocks`: the 66-bit blocks of the last codeword decoded (R42, R431, R432). -/
structure Port where
  phyEn : Bool := false
  phyRdy : Bool := false
  rate : Nat := 0
  training : Option Training := none
  lockTry : Bool := false
  goodMarks : Nat := 0
  badMarks : Nat := 0
  rx : List RxFrame := []
  step : Nat := 0
  run : Nat := 0
  curStream : BitVec 8 := 0
  tag : Option (Nat × Nat) := none
  takeLeft : Nat := 0
  takeRest : Bool := false
  closedTo : Nat := 0
  presented : Option Nat := none
  waiting : Option Nat := none
  taking : Option (Nat × Nat) := none
  granted : Vector (BitVec 12) 16 := Vector.replicate 16 0
  owed : Vector Nat 16 := Vector.replicate 16 0
  winOwed : Bool := false
  txLimit : Vector (BitVec 12) 16 := Vector.replicate 16 0
  txSent : Vector (BitVec 12) 16 := Vector.replicate 16 0
  txKnown : Vector Bool 16 := Vector.replicate 16 false
  relQ : List TxFrame := []
  rr : Nat := 15
  lastTx : Option TxFrame := none
  markGap : Nat := 0
  creditGap : Nat := 0
  creditNext : Fin 4 := 0
  line : List TxBlock := []
  txBits : Bits := {}
  txLeft : Bits := {}
  txWords : List (BitVec 256) := []
  rxBits : Bits := {}
  rxBlocks : List (BitVec 66) := []
  deriving DecidableEq, Repr

/-- A frame slot in use: its frame, whether READY, the streams' holds (TAKEN or not), the words written per stream and
subregion port, the streams that overflowed (R54 to R59). -/
structure Slot where
  frame : Nat
  ready : Bool
  holds : List (Nat × Bool)
  written : List (Nat × Nat × Nat)
  overflow : List Nat
  deriving DecidableEq, Repr

/-- A frame-ready entry committed and not popped or shed: stream, ring, ring count, frame (R58). -/
structure ReadyEntry where
  stream : Nat
  ring : Nat
  k : Word
  frame : Nat
  deriving DecidableEq, Repr

/-- The frame ring: the oldest frame not yet READY, the slots in use by slot number, runs of frames (first, last) with a contribution closed by timeout,
READY entries, the streams whose entry of the oldest frame is dealt with, whether a wrap wait of the oldest frame itself has begun. -/
structure Frames where
  oldest : Nat := 0
  slots : List (Nat × Slot) := []
  incomplete : List (Nat × Nat) := []
  entries : List ReadyEntry := []
  committed : List Nat := []
  emptyWait : Bool := false
  deriving DecidableEq, Repr

/-! ### Vector work -/

/-- A window as a cue uses it, fixed at issue (R73): virtual range and physical base, in bytes. -/
structure CueWindow where
  lo : Nat
  hi : Nat
  pa : Nat
  deriving DecidableEq, Repr

/-- A cue taken from its ring: its sixteen record words, its ring count, the windows of its streams A, B, C, D (0 to 3) and of their
gather indices (4 to 7), its working type T and the type its last unit's result is converted to (R103, R104). -/
structure Member where
  words : List Word
  k : Word
  wins : List (Option CueWindow) := []
  wt : Nat := 0
  out : Nat := 0
  deriving DecidableEq, Repr

/-- Where an issued cue or chain stands in the sequence of R72. -/
inductive ChainStage where
  | fence | pipes | permit | running
  deriving DecidableEq, Repr

/-- An issued cue or fused chain: its number, ring, owning engine, members, stage, pipes assigned (positions in the group), cost
class, whether urgent. -/
structure Chain where
  id : Nat
  ring : Nat
  eng : Nat
  members : List Member
  stage : ChainStage
  pipes : List Nat
  cclass : Nat
  urgent : Bool
  ended : Nat
  deriving DecidableEq, Repr

/-- FLAGS of a cue (R107). -/
abbrev Flags := BitVec 8

/-- What a cue's scan unit carries from element to element (R117, R118): the running value, the values of the window, newest
first. -/
structure ScanState where
  acc : Int := 0
  window : List Int := []
  fresh : Bool := true
  deriving DecidableEq, Repr

/-- The outcome code of a cue with what its record reports (R95). -/
structure CueEnd where
  code : Nat
  fstream : Nat
  faddr : Nat
  result : Option Word64
  deriving DecidableEq, Repr

/-- The cue running on a pipe: its chain and its place in it, its ring and engine, the elements completed, the running flags, counts
and scan, what a whole-vector operation has read (elements, values of A, of B, bins of D), whether it has looked up a table and
whether a Raise has written that table since (R128), since when it waits for a fill mark, and, once it has ended, how. `inPlace`: the
sources whose elements lie at D's addresses where those repeat, `orig`: bytes as they stood before the cue wrote them (R83). `mflags`:
the flags of the masks read. `lines`: the Channel Map lines that its present step has read (R391). `stallAt`: the last step that CSTALL has
counted (R100). -/
structure PipeRun where
  chain : Nat
  idx : Nat
  eng : Nat
  ring : Nat
  cclass : Nat
  m : Member
  done : Nat := 0
  flags : Flags := 0
  nonzero : Nat := 0
  firstNz : Option Nat := none
  scanRes : Word64 := 0
  scan : ScanState := {}
  taken : Nat := 0
  used : Nat := 0
  work : List Word := []
  masks : List Word := []
  mflags : List Flags := []
  inPlace : List Nat := []
  orig : List (Nat × Byte) := []
  bins : List Word := []
  looked : Bool := false
  raised : Bool := false
  lines : List Nat := []
  stallAt : Option Nat := none
  waitSince : Option Word64 := none
  fin : Option CueEnd := none
  deriving DecidableEq, Repr

/-- A final record of a cue that has no pipe, waiting for room in its ring (R94): command ring, engine, completion ring, record. -/
structure PendRec where
  ring : Nat
  eng : Nat
  cring : Nat
  bytes : List Byte
  deriving DecidableEq, Repr

/-- A pipe group's dispatcher and chain slots: cues issued and not ended, rings passed over (served ring, ring passed over), the
claimant of each chain slot (slot, chain, member), final records that wait. -/
structure Group where
  chains : List Chain := []
  passed : List (Nat × Nat) := []
  claims : List (Nat × Nat × Nat) := []
  recs : List PendRec := []
  deriving DecidableEq, Repr

/-! ### Curtain -/

/-- A held decision: frame beat and the eight record words (R133, R135). -/
structure Held where
  b : Word64
  words : List Word
  deriving DecidableEq, Repr

/-- A record at the posting port: acceptance beat, posting engine, record (R138). -/
structure Posted where
  beat : Word64
  eng : Nat
  words : List Word
  deriving DecidableEq, Repr

/-- A decision stream apart from its registers: enable beat, LATENCY regimes (first frame beat, LATENCY), newest first, the pulses that
run (pin, beat at which it ends), the level that its last release left (pin, level) (R146 to R148). -/
structure CurStream where
  enableBeat : Word64 := 0
  regimes : List (Word64 × Nat) := []
  pulses : List (Nat × Word64) := []
  level : Option (Nat × Bool) := none
  deriving DecidableEq, Repr

/-! ### Wings -/

/-- TSTATE (R169). -/
inductive TState where
  | free | opened | preparing | voting | prepared | armed
  deriving DecidableEq, Repr

/-- A staging entry: TADDR as written (none: opened by TDATA, R155) and its data words in order. -/
structure StageEntry where
  start : Option Word
  data : List Word
  deriving DecidableEq, Repr

/-- A range of tracking units touched by a writer other than the transaction: space, first and last unit (R153, R157). -/
structure Touch where
  space : Nat
  lo : Nat
  hi : Nat
  deriving DecidableEq, Repr

/-- A transaction slot (R154 to R167). `bufErr`: the entry whose staged data has an uncorrectable error, 4,095 for one outside every
entry (R157). -/
structure WSlot where
  st : TState := .free
  seq : BitVec 8 := 0
  owner : BitVec 8 := 0
  cb : BitVec 8 := 255
  overflow : Bool := false
  bufErr : Option Nat := none
  entries : List StageEntry := []
  entryOpen : Bool := false
  touched : List Touch := []
  bulkRan : Bool := false
  raiseAsked : Bool := false
  granted : Bool := false
  raiseBeat : Word64 := 0
  prep : Option (Word64 × Word64 × BitVec 9) := none
  votes : List (BitVec 9) := []
  noVotes : List (BitVec 9) := []
  voted : Bool := false
  deriving DecidableEq, Repr

/-! ### Engines -/

/-- STATE of ESTATE (R201). -/
inductive RunState where
  | stopped | running | intermission | halted | dark
  deriving DecidableEq, Repr

/-- A store in the store buffer: virtual and physical address, bytes, whether it has left and waits for the host's answer, or for the acceptance
edge of its register's island (R422). -/
structure StoreEntry where
  va : Nat
  pa : Nat
  bytes : List Byte
  sent : Option (Fin 32)
  island : Bool := false
  deriving DecidableEq, Repr

/-- A translation held in a TLB: partition, first virtual address and size of the span, physical address of its start, key, type,
rights X W R (R284 to R286). -/
structure TlbEntry where
  part : Nat
  va : Nat
  size : Nat
  pa : Nat
  key : Nat
  typ : Nat
  x : Bool
  w : Bool
  r : Bool
  deriving DecidableEq, Repr

/-- A pointer held in a walk cache: partition, level (1 or 2), the virtual address bits it covers, the next table (R286). -/
structure WalkEntry where
  part : Nat
  level : Nat
  idx : Nat
  next : Nat
  deriving DecidableEq, Repr

/-- A translation invalidation an engine has broadcast: partition, whether it has arrived, store-buffer entries still awaited per
engine, walks of the partition still awaited: walking engine and page (R292). -/
structure Tinv where
  part : Nat
  arrived : Bool
  waits : List (Nat × Nat)
  walks : List (Nat × Nat) := []
  deriving DecidableEq, Repr

/-- A watchdog (R332 to R334). `held`: stopped by SECOND. `zero`: the last edge took the count to 0 and nothing has reloaded it. `q1`,
`eff`: the engine's state on its way through the synchronizer, and as the watchdog sees it (R317, R333). `started`, `released`: a start and a
release since the last edge; `start1`, `rel1`: in the beat before (R334). -/
structure Watchdog where
  en : Bool := false
  frz : Bool := true
  reloadOnRun : Bool := false
  load : Word := 0x00100000
  cnt : Word := 0
  second : Bool := false
  pend : Bool := false
  exp : Bool := false
  held : Bool := false
  zero : Bool := false
  q1 : RunState := .stopped
  eff : RunState := .stopped
  started : Bool := false
  start1 : Bool := false
  released : Bool := false
  rel1 : Bool := false
  deriving DecidableEq, Repr

/-- A Cue engine, or the House engine (number 256), apart from the registers of its page. The cells are the cached stack cells, TS0
first, so TOSN is their number (R179). `oldStore` and `oldWin`: shared control store words and window words that a Raise has replaced and
that a microroutine or a REP instruction in progress still sees (R161). `stopReq`: RUN or EN has been cleared, and the engine has not stopped yet
(R203). `inInstr`: a base instruction is at work, and its boundary is still to come (R281). `lastUpc`: the micro-address of the DISPATCH word that
ended the last instruction, a user routine; none: base microcode has run since (R192). `cfgSync`: CFG as a SYNC.P has found it, due at the
next boundary (R212). `badLines`: lines of the instruction (true) or the data cache with an uncorrectable error (R198). -/
structure Engine where
  run : RunState := .stopped
  micro : Bool := false
  cells : List Word := []
  x : Vector Word 4 := Vector.replicate 4 0
  mdr : Word := 0
  mdrOld : Word := 0
  lc : BitVec 16 := 0
  mstack : List (BitVec 16) := []
  upc : BitVec 16 := 0
  opc : BitVec 8 := 0
  immv : Word := 0
  ipc : Word := 0
  xcause : BitVec 8 := 0
  evl : BitVec 6 := 0
  uf : BitVec 8 := 0
  prevRes : Word := 0
  lastStc : Bool := false
  rep : Bool := false
  waitMask : Option (BitVec 6) := none
  waitEv : Option Nat := none
  pc : Word := 0
  stat : Word := 0x8000
  statNext : Option Word := none
  dsp : Word := 0x100
  dsl : Word := 0
  rsp : Word := 0x100
  rsl : Word := 0
  lnk : Word := 0
  ecause : Word := 0
  eaddr : Word := 0
  vbase : Word := 0
  krights : Word := 0xFFFFFFFE
  part : Word := 0
  sptr : Word := 0
  dptr : Word := 0
  scnt : Word := 0
  cfg : Word := 0
  cfgSync : Option Word := none
  lseaddr : Word := 0
  lse : Bool := false
  ag : Vector Word 20 := Vector.replicate 20 0
  reserved : Option Nat := none
  sbuf : List StoreEntry := []
  load : Option (Nat × Word) := none
  itlb : List TlbEntry := []
  dtlb : List TlbEntry := []
  dcache : List (Nat × List Byte) := []
  icache : List Nat := []
  badLines : List (Bool × Nat) := []
  pred : List (Nat × Nat) := []
  tinvs : List Tinv := []
  wdg : Watchdog := {}
  haltReq : List Nat := []
  haltCause : Nat := 0
  bkpt : Bool := false
  stepping : Bool := false
  stopReq : Bool := false
  inInstr : Bool := false
  lastUpc : Option (BitVec 16) := none
  dreason : BitVec 8 := 0
  dpc : BitVec 16 := 0
  lderr : Bool := false
  tickWait : Nat := 0
  paceLate : Bool := false
  oldStore : List (Nat × Word128) := []
  oldWin : List (Nat × Word) := []
  deriving DecidableEq, Repr

/-- A page walk: walking engine, partition, 4 KiB page, the level and the address of the entry it reads next, the pointers it has read,
whether a TINV of its partition has arrived since it began (R287, R292). -/
structure Walk where
  eng : Nat
  part : Nat
  page : Nat
  level : Nat
  addr : Nat
  ptrs : List WalkEntry := []
  stale : Bool := false
  deriving DecidableEq, Repr

/-- Translation structures that a cluster's engines share (R286). -/
structure Shared where
  utlb : List TlbEntry := []
  walk : List WalkEntry := []
  deriving DecidableEq, Repr

/-! ### Memories, crossbar, host fabric -/

/-- A scrub or BIST of a MEMCTL page: its record, whether it has asked for its power, whether it has it, the units of the page that it has
done with, the words that a scrub has checked in the unit it works on, the units that a BIST has skipped (R301). -/
structure MemOp where
  cb : Fin 64
  asked : Bool := false
  granted : Bool := false
  units : Nat := 0
  words : Nat := 0
  skipped : List RetUnit := []
  deriving DecidableEq, Repr

/-- The Pattern Store bulk load: record, whether it has asked for its power, whether it has it, whether the clear is over, source
entries done, overflow count (R314). -/
structure BulkLoad where
  cb : Fin 64
  asked : Bool := false
  granted : Bool := false
  cleared : Bool := false
  doneEntries : Nat := 0
  overflow : Nat := 0
  deriving DecidableEq, Repr

/-- A burst waiting at a target arbiter or partly served: master, target, address of its next transfer, transfers left, bytes per
transfer (32, or 4 for single register accesses), direction, the write's bytes still to deliver, the read data gathered, error and BUSY
of each transfer so far, its tag, the transfers left of the sub-burst granted and not yet complete, whether the next transfer's first
16-byte word has been served, whether its register write waits for its acceptance edge (R297, R304, R306, R408, R422). A burst that was
refused whole and waits for its place among the responses has no transfer left (R308, R429). -/
structure Burst where
  m : Nat
  t : Nat
  addr : Nat
  left : Nat
  size : Nat
  write : Bool
  data : List (Option Byte)
  got : List Byte
  err : List Bool
  busy : List Bool
  tag : Nat
  granted : Nat := 0
  half : Bool := false
  island : Bool := false
  deriving DecidableEq, Repr

/-- A request on the outbound pair waiting for the host's response, or answered: its tag, who makes it, host address, bytes, whether a
write, the write's bytes, those enabled, the answer with the error of each beat, and whether its maker has been reset since: then the answer is
discarded (R310, R426 to R428). -/
structure HostReq where
  tag : Fin 32
  who : Who
  addr : Nat
  size : Nat
  write : Bool
  data : List (Option Byte)
  answer : Option (List Byte × List Bool)
  orphan : Bool := false
  deriving DecidableEq, Repr

/-- A response delivered on the inbound pair: its data, and error and BUSY of each beat (R427, R429). -/
structure InboundRsp where
  tag : Nat
  data : List Byte
  err : List Bool
  busy : List Bool
  deriving DecidableEq, Repr

/-! ### Timers and pins -/

/-- STATE of a timer (R320). -/
inductive TimerRun where
  | stopped | armed | running
  deriving DecidableEq, Repr

/-- A timer (R320 to R324). `moved` and `wrapped` say what the last edge did, for the compare and the wrap of that edge. -/
structure Timer where
  st : TimerRun := .stopped
  gs : Bool := false
  link : Bool := false
  reloadMode : Bool := false
  pre : BitVec 8 := 0
  phase : Nat := 0
  count : Word := 0
  reload : Word := 0
  cmp : Word := 0
  cmpact : Word := 0
  rldact : Word := 0
  route : Word := 0x1FF
  carmed : Bool := false
  hit : Bool := false
  wrap : Bool := false
  heldCmp : Option Word := none
  heldReload : Option Word := none
  moved : Bool := false
  wrapped : Bool := false
  deriving DecidableEq, Repr

/-- A pin engine's STATE (R346). -/
inductive PinRun where
  | stopped | running | stalled
  deriving DecidableEq, Repr

/-- A pin engine apart from DIR, BTGT, PROUTE, its counters and IMEM, which are registers (R335 to R346). `busy`: the current
instruction has begun. `half`: its strobed bit is in step b next. `spill`: its last bit waits for a GIVE. `injStopped`: the engine was
STOPPED when the instruction in progress was injected. `sync1`, `pinIn`: the inputs on their way in. `beatIn`: a beat has started since the
last edge; `beat1`, `beat2`: the beat sampled at the last edge, and at the one before; `beatNow`: the beat whose edge is seen at this edge;
`beatSeen`: the beat most recently seen (R336). `frz1`, `frz`: the freeze on its way in, and as the engine sees it (R410). -/
structure PinEng where
  st : PinRun := .stopped
  pc : Nat := 0
  startpc : Nat := 0
  psel : Nat := 0
  order : Bool := false
  strb : Bool := false
  strbpin : Nat := 0
  pout : Word := 0
  sr : Word := 0
  lc : Nat := 0
  bc : Nat := 0
  nrem : Nat := 0
  busy : Bool := false
  half : Bool := false
  spill : Bool := false
  injected : Option (BitVec 16) := none
  injStopped : Bool := false
  txd : Word := 0
  rxd : Word := 0
  txfull : Bool := false
  rxfull : Bool := false
  blate : Bool := false
  err : Bool := false
  lderr : Bool := false
  sync1 : Word := 0
  pinIn : Word := 0
  strobed : Bool := false
  beatIn : Bool := false
  beat1 : Option Word64 := none
  beat2 : Option Word64 := none
  beatNow : Option Word64 := none
  beatSeen : Option Word64 := none
  frz1 : Bool := false
  frz : Bool := false
  deriving DecidableEq, Repr

/-! ### Trust and debug -/

/-- Where boot stands (R372). -/
inductive BootStage where
  | wipe | secret | waitGo | waitPermit | descriptor | images | done | failed
  deriving DecidableEq, Repr

/-- Who asked for a quote (R379, R380). -/
inductive QuoteFor where
  | host | debugger | peer (src : BitVec 9)
  deriving DecidableEq, Repr

/-- A quote: record, requester, nonce bytes, whether granted, its snapshot of LOGCNT, BEATNO and MEAS. -/
structure Quote where
  cb : Fin 64
  who : QuoteFor
  nonce : List Byte
  snap : Option (List Byte)
  deriving DecidableEq, Repr

/-- The Trust unit apart from its registers. -/
structure Trust where
  lc : Option (BitVec 8) := none
  keys : Bool := false
  tamper : Bool := false
  sectmo : Bool := false
  lcerr : Bool := false
  logfull : Bool := false
  secretReq : Bool := false
  noKeys : Bool := false
  rs : List Word := []
  boot : BootStage := .wipe
  goHeld : Bool := false
  desc : List Byte := []
  image : Nat := 0
  quotes : List Quote := []
  hostRec : Option (Fin 64) := none
  peerRec : Option (Fin 64) := none
  peerBeat : Word64 := 0
  peerHalves : Nat := 0
  pages : List Nat := []
  deriving DecidableEq, Repr

/-- The states of the TAP controller (R399, IEEE 1149.1). -/
inductive Tap where
  | testLogicReset | runTestIdle
  | selectDr | captureDr | shiftDr | exit1Dr | pauseDr | exit2Dr | updateDr
  | selectIr | captureIr | shiftIr | exit1Ir | pauseIr | exit2Ir | updateIr
  deriving DecidableEq, Repr

/-- The debug logic apart from the DEBUG registers. `tck`: the level of `tck`. `prompt`: the instruction the Prompter feeds, and to which engine. `resumeHeld`: a RESUME
(false) or STEP (true) of that engine that waits for it (R406). `traceQ`: trace packets on their way to their ring, the count that an overflow packet carries (else 0), the
bytes (R415). -/
structure Debug where
  tap : Tap := .testLogicReset
  ir : BitVec 4 := 1
  irShift : BitVec 4 := 1
  dr : BitVec 46 := 0
  tdo : Bool := false
  tck : Bool := false
  daccStatus : Nat := 0
  daccOff : BitVec 12 := 0
  daccData : Word := 0
  ccount : Word64 := 0
  level : Nat := 0
  lockout : Bool := false
  backoff : Bool := false
  chalValid : Bool := false
  rung : BitVec 8 := 0
  shBusy : Bool := false
  shErr : Bool := false
  shDone : Nat := 0
  shWrite : Bool := false
  shReg : Bool := false
  prompt : Option (Fin 257 × List Byte) := none
  resumeHeld : Option Bool := none
  pExc : Bool := false
  pNotHalted : Bool := false
  pEmpty : Bool := false
  pCause : BitVec 8 := 0
  pResult : Word := 0
  traceLost : Nat := 0
  traceErr : Bool := false
  traceQ : List (Nat × Nat × List Byte) := []
  deriving DecidableEq, Repr

/-! ### The block -/

/-- The whole block. -/
structure State where
  /-- Commands that wait, first in first out. -/
  pending : List Instr := []
  /-- Both resets as they stand: `por_n` = 0, `rst_n` = 0. -/
  porLow : Bool := false
  rstLow : Bool := false
  /-- The BEATCLK island has seen its first edge since the release of `rst_n` (R315, R441). -/
  firstEdge : Bool := false
  clkOk : Bool := false
  beatno : Word64 := 0
  fofs : BitVec 8 := 0
  /-- Registers by address. -/
  regs : List (Nat × Word) := []
  rsp : Rsp := {}
  /-- The Host Register Port: requests in order of arrival, the responses delivered last, the number of the next request (R424). -/
  hrpQ : List HrpReq := []
  hrpOut : List HrpRsp := []
  hrpSeq : Nat := 0
  islandQ : List IslandWrite := []
  /-- An island has been without a clock edge for 2,048 HCLK cycles (R315, R422): BEATCLK, PINCLK. -/
  clkLost : Bool := false
  pinLost : Bool := false
  callboard : Vector CbRec 64 := Vector.replicate 64 {}
  permit : Permit := {}
  /-- Rings: committed counts beyond TAIL, released counts beyond REL. -/
  ringAhead : List (Nat × List Word) := []
  ringRel : List (Nat × List Word) := []
  ports : Vector Port 128 := Vector.replicate 128 {}
  frames : Frames := {}
  fwdQ : List Fwd := []
  groups : Vector Group 8 := Vector.replicate 8 {}
  pipes : Vector (Option PipeRun) 64 := Vector.replicate 64 none
  nextChain : Nat := 0
  curtain : Vector CurStream 64 := Vector.replicate 64 {}
  store : List (Nat × Option Held) := []
  posted : List Posted := []
  /-- Curtain log entries not yet written, oldest first: ring and bytes (R150). -/
  logQ : List (Nat × List Byte) := []
  /-- The beat whose release the Curtain decides next (R141). -/
  relNext : Word64 := 0
  slots : Vector WSlot 8 := Vector.replicate 8 {}
  engines : Vector Engine 257 := (Vector.replicate 257 {}).set 256
    { run := .running, micro := true, wdg := { q1 := .running, eff := .running } }
  shared : Vector Shared 17 := Vector.replicate 17 {}
  /-- Page walks in progress (R287). -/
  walks : List Walk := []
  /-- Private control stores by engine x 2,048 + word, dispatch entries by engine x 256 + opcode, shared stores by cluster x 16,384 +
  word, and words with an error (true: uncorrectable). -/
  cstore : List (Nat × Word128) := []
  dispatch : List (Nat × Word) := []
  sstore : List (Nat × Word128) := []
  csErr : List (Nat × Option Bool) := []
  ssErr : List (Nat × Option Bool) := []
  dispErr : List (Nat × Option Bool) := []
  ssWait : Vector Bool 16 := Vector.replicate 16 false
  mem : List Host.Cell := []
  /-- Memory words with a check error, by the address of the word (true: uncorrectable). -/
  memErr : List (Nat × Option Bool) := []
  retained : List RetUnit := []
  entering : List RetUnit := []
  waking : List RetUnit := []
  /-- Accesses that wait for a unit to wake, and that it has not served yet (R303). -/
  wakeFor : List (RetUnit × Who) := []
  scrubs : Vector (Option MemOp) 16 := Vector.replicate 16 none
  bists : Vector (Option MemOp) 16 := Vector.replicate 16 none
  bulk : Option BulkLoad := none
  wiping : Bool := true
  bursts : List Burst := []
  lastGrant : Vector Nat 26 := Vector.replicate 26 20
  /-- Single accesses at the targets' arbiters (R306). -/
  singles : List Single := []
  /-- Words of local banks whose next read on the other port overlaps a write: the word, whether that read is on port A (R299). -/
  clash : List (Nat × Bool) := []
  hostReqs : List HostReq := []
  inbound : List InboundRsp := []
  /-- `hfi_rst_req` and `hfi_rst_ack` (R430). -/
  hfiRst : Bool := false
  hfiAck : Bool := false
  /-- The freeze on its way into the BEATCLK island, and as its units see it (R410, R421). -/
  frz1 : Bool := false
  frzClk : Bool := false
  timers : Vector Timer 64 := Vector.replicate 64 {}
  gsWait : Option Word64 := none
  /-- Capture inputs with a rise latched since the previous fall (R329). -/
  capRise : Vector Bool 256 := Vector.replicate 256 false
  pins : Vector PinEng 32 := Vector.replicate 32 {}
  /-- An alignment measurement under way: port, T1 once the CALL has left, the beat at which it began (R361). -/
  align : Option (Nat × Option Word64 × Word64) := none
  alignGood : Nat := 0
  alignDue : Word64 := 0
  probe : Option (BitVec 9 × Word64) := none
  phyReq : Vector Bool 8 := Vector.replicate 8 false
  phyAck : Vector Bool 8 := Vector.replicate 8 false
  retReq : Bool := false
  retAck : Bool := false
  trust : Trust := {}
  dbg : Debug := {}
  /-- The MODEL's own counter of free values drawn (log entry 7). -/
  freeIndex : Nat := 0
  deriving DecidableEq, Repr

/-- Record 0 of the Callboard at the release of `rst_n`: held by boot, QUEUED (R37, R372). -/
def CbRec.boot : CbRec :=
  { cur := { kind := 1, ptype := 7, st := .queued }, vis := { kind := 1, ptype := 7, st := .queued } }

/-- The block right after reset: `por_n` and `rst_n` released, every register at its reset value, memories with nothing listed,
boot at its first step (R372, R441), the queue of commands empty. -/
def State.reset : State := { callboard := (Vector.replicate 64 {}).set 0 CbRec.boot }

end Sys2Proof.Machine
end

