-- ==== Sys2Proof/Machine/Float.lean ====
section
/-!
DEFINITION. binary16 and binary32 arithmetic by IEEE 754-2019 with the fixings of R113, computed exactly over Nat and Int and rounded
once (log entry 11), and the event flags of R107.
-/
namespace Sys2Proof.Machine

/-! ### The flags of R107 -/

/-- WRAP. -/
def fWrap : Flags := 0x01
/-- SAT. -/
def fSat : Flags := 0x02
/-- DZ. -/
def fDz : Flags := 0x04
/-- INV. -/
def fInv : Flags := 0x08
/-- OVF. -/
def fOvf : Flags := 0x10
/-- UNF. -/
def fUnf : Flags := 0x20
/-- INX. -/
def fInx : Flags := 0x40
/-- OPX. -/
def fOpx : Flags := 0x80
/-- A flag when a condition holds. -/
def fIf (c : Bool) (f : Flags) : Flags := if c then f else 0

/-! ### Formats -/

/-- A binary format: exponent and fraction widths. -/
structure Fmt where
  ebits : Nat
  mbits : Nat
  deriving DecidableEq, Repr

/-- binary16. -/
def b16 : Fmt := ⟨5, 10⟩
/-- binary32. -/
def b32 : Fmt := ⟨8, 23⟩
/-- The exponent bias. -/
def Fmt.bias (f : Fmt) : Int := 2 ^ (f.ebits - 1) - 1
/-- The exponent of the least significant bit of a subnormal. -/
def Fmt.qmin (f : Fmt) : Int := 1 - f.bias - f.mbits
/-- The exponent field of infinities and NaNs. -/
def Fmt.emax (f : Fmt) : Nat := 2 ^ f.ebits - 1
/-- The quiet NaN that every operation produces (R113). -/
def Fmt.qnan (f : Fmt) : Nat := f.emax * 2 ^ f.mbits + 2 ^ (f.mbits - 1)
/-- A zero or an infinity or another magnitude with its sign. -/
def Fmt.signed (f : Fmt) (neg : Bool) (mag : Nat) : Nat := b2n neg * 2 ^ (f.ebits + f.mbits) + mag
/-- Infinity. -/
def Fmt.inf (f : Fmt) (neg : Bool) : Nat := f.signed neg (f.emax * 2 ^ f.mbits)
/-- The largest finite value. -/
def Fmt.maxFin (f : Fmt) (neg : Bool) : Nat := f.signed neg (f.emax * 2 ^ f.mbits - 1)

/-- A value taken apart: NaN, infinity, or sign and magnitude m × 2^e. -/
inductive FVal where
  | nan (signalling : Bool)
  | inf (neg : Bool)
  | num (neg : Bool) (m : Nat) (e : Int)
  deriving DecidableEq, Repr

/-- Take a bit pattern apart. -/
def Fmt.unpack (f : Fmt) (x : Nat) : FVal :=
  let m := x % 2 ^ f.mbits
  let e := x / 2 ^ f.mbits % 2 ^ f.ebits
  let neg := x / 2 ^ (f.ebits + f.mbits) % 2 == 1
  if e = f.emax then (if m = 0 then .inf neg else .nan (decide (m < 2 ^ (f.mbits - 1))))
  else if e = 0 then .num neg m f.qmin
  else .num neg (m + 2 ^ f.mbits) (f.qmin + (e - 1 : Nat))

/-- Bits of a number. -/
def bitLen (n : Nat) : Nat := if n = 0 then 0 else Nat.log2 n + 1

/-! ### Rounding -/

/-- Round m × 2^(−sh), with `sticky` for a lost part below m, to an integer under RM: 0 to nearest, ties to even; 1 toward zero; 2
toward +∞; 3 toward −∞. The answer says whether it is inexact. -/
def roundShift (rm : Nat) (neg sticky : Bool) (m sh : Nat) : Nat × Bool :=
  let q := m >>> sh
  let r := m % 2 ^ sh
  let half := if sh = 0 then 0 else 2 ^ (sh - 1)
  let inexact := decide (r ≠ 0) || sticky
  let up : Bool := match rm with
    | 0 => if sh = 0 then false else decide (half < r) || (r == half && (sticky || q % 2 == 1))
    | 1 => false
    | 2 => inexact && !neg
    | _ => inexact && neg
  (if up then q + 1 else q, inexact)

/-- m × 2^e at exponent `q` of its last place: shifted left exactly, or rounded. -/
def roundAt (rm : Nat) (neg sticky : Bool) (m : Nat) (e q : Int) : Nat × Bool :=
  if q ≤ e then (m <<< (e - q).toNat, sticky) else roundShift rm neg sticky m (q - e).toNat

/-- Round the exact value (−1)^neg × m × 2^e to a format (R103, R113): tininess is detected after rounding. `sticky` says that a part
below m's last place was dropped; the callers keep m long enough for that. -/
def Fmt.round (f : Fmt) (rm : Nat) (neg sticky : Bool) (m : Nat) (e : Int) : Nat × Flags :=
  if m = 0 then (f.signed neg 0, 0)
  else
    let p := f.mbits + 1
    let free := e + bitLen m - p
    let q := max free f.qmin
    let (r, inexact) := roundAt rm neg sticky m e q
    let tiny := decide (free < f.qmin) && decide ((roundAt rm neg sticky m e free).1 < 2 ^ (p - 1 + (f.qmin - free).toNat))
    let (r, q) := if r = 2 ^ p then (2 ^ (p - 1), q + 1) else (r, q)
    let biased := if r < 2 ^ (p - 1) then 0 else (q - f.qmin + 1).toNat
    if f.emax ≤ biased then
      let toMax : Bool := match rm with | 0 => false | 1 => true | 2 => neg | _ => !neg
      (if toMax then f.maxFin neg else f.inf neg, fOvf ||| fInx)
    else
      (f.signed neg (if biased = 0 then r else biased * 2 ^ f.mbits + (r - 2 ^ f.mbits)),
        fIf inexact fInx ||| fIf (tiny && inexact) fUnf)

/-- An integer rounded to a format. -/
def Fmt.ofInt (f : Fmt) (rm : Nat) (v : Int) : Nat × Flags := f.round rm (decide (v < 0)) false v.natAbs 0

/-- NaN as a result: INV for a signalling operand. -/
def Fmt.nanOf (f : Fmt) (sig : Bool) : Nat × Flags := (f.qnan, fIf sig fInv)

/-- Convert between formats (R103, R104). -/
def Fmt.convert (from_ out : Fmt) (rm x : Nat) : Nat × Flags :=
  match from_.unpack x with
  | .nan sg => out.nanOf sg
  | .inf neg => (out.inf neg, 0)
  | .num neg m e => out.round rm neg false m e

/-- Round a float to an integer and clamp it to [lo, hi]; a NaN gives 0; a NaN or a clamp sets INV (R104). -/
def Fmt.toInt (f : Fmt) (rm x : Nat) (lo hi : Int) : Int × Flags :=
  match f.unpack x with
  | .nan _ => (0, fInv)
  | .inf neg => (if neg then lo else hi, fInv)
  | .num neg m e =>
    let a := (roundAt rm neg false m e 0).1
    let v : Int := if neg then -(a : Int) else a
    if v < lo then (lo, fInv) else if hi < v then (hi, fInv) else (v, 0)

/-! ### Arithmetic (R113) -/

/-- x + y, or x − y with the second sign turned. -/
def Fmt.addSub (f : Fmt) (rm : Nat) (sub : Bool) (x y : Nat) : Nat × Flags :=
  match f.unpack x, f.unpack y with
  | .nan a, .nan b => f.nanOf (a || b)
  | .nan a, _ => f.nanOf a
  | _, .nan b => f.nanOf b
  | .inf a, .inf b => if a == (b != sub) then (f.inf a, 0) else (f.qnan, fInv)
  | .inf a, _ => (f.inf a, 0)
  | _, .inf b => (f.inf (b != sub), 0)
  | .num na ma ea, .num nb mb eb =>
    let nb := nb != sub
    let e := min ea eb
    let a : Int := (ma <<< (ea - e).toNat : Nat)
    let b : Int := (mb <<< (eb - e).toNat : Nat)
    let v := (if na then -a else a) + (if nb then -b else b)
    if v = 0 then (f.signed (if na == nb then na else rm == 3) 0, 0)
    else f.round rm (decide (v < 0)) false v.natAbs e

/-- x × y. -/
def Fmt.mul (f : Fmt) (rm x y : Nat) : Nat × Flags :=
  match f.unpack x, f.unpack y with
  | .nan a, .nan b => f.nanOf (a || b)
  | .nan a, _ => f.nanOf a
  | _, .nan b => f.nanOf b
  | .inf a, .inf b => (f.inf (a != b), 0)
  | .inf a, .num b m _ => if m = 0 then (f.qnan, fInv) else (f.inf (a != b), 0)
  | .num a m _, .inf b => if m = 0 then (f.qnan, fInv) else (f.inf (a != b), 0)
  | .num na ma ea, .num nb mb eb => f.round rm (na != nb) false (ma * mb) (ea + eb)

/-- x / y. -/
def Fmt.div (f : Fmt) (rm x y : Nat) : Nat × Flags :=
  match f.unpack x, f.unpack y with
  | .nan a, .nan b => f.nanOf (a || b)
  | .nan a, _ => f.nanOf a
  | _, .nan b => f.nanOf b
  | .inf _, .inf _ => (f.qnan, fInv)
  | .inf a, .num b _ _ => (f.inf (a != b), 0)
  | .num a _ _, .inf b => (f.signed (a != b) 0, 0)
  | .num na ma ea, .num nb mb eb =>
    if mb = 0 then (if ma = 0 then (f.qnan, fInv) else (f.inf (na != nb), fDz))
    else if ma = 0 then (f.signed (na != nb) 0, 0)
    else
      let k := f.mbits + 3 + bitLen mb
      let n := ma <<< k
      f.round rm (na != nb) (n % mb != 0) (n / mb) (ea - eb - k)

/-- floor(sqrt n), bit by bit from bit `i - 1` down. -/
def isqrt : Nat → Nat → Nat → Nat
  | 0, _, r => r
  | i + 1, n, r => isqrt i n (if (r + 2 ^ i) * (r + 2 ^ i) ≤ n then r + 2 ^ i else r)

/-- √x. -/
def Fmt.sqrt (f : Fmt) (rm x : Nat) : Nat × Flags :=
  match f.unpack x with
  | .nan a => f.nanOf a
  | .inf neg => if neg then (f.qnan, fInv) else (f.inf false, 0)
  | .num neg m e =>
    if m = 0 then (f.signed neg 0, 0)
    else if neg then (f.qnan, fInv)
    else
      let odd := (e % 2).toNat
      let k := f.mbits + 3
      let n := m <<< (2 * k + odd)
      let r := isqrt (bitLen n / 2 + 1) n 0
      f.round rm false (r * r != n) r ((e - odd) / 2 - k)

/-! ### Order -/

/-- The exact order of two values that are no NaN: x < y. −0 and +0 are equal. -/
def fLt (a b : FVal) : Bool :=
  match a, b with
  | .inf na, .inf nb => na && !nb
  | .inf na, _ => na
  | _, .inf nb => !nb
  | .num na ma ea, .num nb mb eb =>
    let e := min ea eb
    let x : Int := (ma <<< (ea - e).toNat : Nat)
    let y : Int := (mb <<< (eb - e).toNat : Nat)
    decide ((if na then -x else x) < (if nb then -y else y))
  | _, _ => false

/-- A quiet comparison: (unordered, x < y, y < x, flags) (R114). -/
def Fmt.cmp (f : Fmt) (x y : Nat) : Bool × Bool × Bool × Flags :=
  match f.unpack x, f.unpack y with
  | .nan a, .nan b => (true, false, false, fIf (a || b) fInv)
  | .nan a, _ => (true, false, false, fIf a fInv)
  | _, .nan b => (true, false, false, fIf b fInv)
  | a, b => (false, fLt a b, fLt b a, 0)

/-- FMIN and FMAX (R113). -/
def Fmt.minMax (f : Fmt) (max_ : Bool) (x y : Nat) : Nat × Flags :=
  match f.unpack x, f.unpack y with
  | .nan a, .nan b => f.nanOf (a || b)
  | .nan a, _ => (y, fIf a fInv)
  | _, .nan b => (x, fIf b fInv)
  | a, b =>
    let neg := fun z => z / 2 ^ (f.ebits + f.mbits) % 2 == 1
    let less := fLt a b || (!fLt b a && neg x && !neg y)
    (if less != max_ then x else y, 0)

/-- A key that orders bit patterns by totalOrder (R121). -/
def Fmt.totalKey (f : Fmt) (x : Nat) : Int :=
  let mag := x % 2 ^ (f.ebits + f.mbits)
  if x / 2 ^ (f.ebits + f.mbits) % 2 == 1 then -(mag : Int) - 1 else mag

/-- The pattern is a NaN. -/
def Fmt.isNan (f : Fmt) (x : Nat) : Bool := match f.unpack x with | .nan _ => true | _ => false

end Sys2Proof.Machine
end

