-- ==== Sys2Proof/Machine/VecOps.lean ====
section
/-!
DEFINITION. The vector operations on element values: types (R76), conversions (R103, R104), element operations (R109 to R114), scans
(R117), and the whole-vector operations on complete inputs (R119 to R124).
-/
namespace Sys2Proof.Machine

/-! ### Element types (R76) -/

/-- Width in bits of an ETYPE. -/
def etWidth (t : Nat) : Nat := match t with | 0 | 1 => 8 | 2 | 3 | 6 => 16 | 8 => 1 | _ => 32
/-- Size in bytes; 0 for BIT. -/
def etSize (t : Nat) : Nat := etWidth t / 8
/-- Signed integers. -/
def etSigned (t : Nat) : Bool := t == 1 || t == 3 || t == 5
/-- Integers: u8 to s32. -/
def etInt (t : Nat) : Bool := decide (t ≤ 5)
/-- binary16 or binary32. -/
def etFloat (t : Nat) : Bool := t == 6 || t == 7
/-- The format of a float type. -/
def etFmt (t : Nat) : Fmt := if t = 6 then b16 else b32
/-- Elements per element step of `l` lanes (R68). -/
def etPerStep (l t : Nat) : Nat := if etWidth t = 32 then l / 2 else l
/-- The largest value of an integer type. -/
def etMax (t : Nat) : Int := if etSigned t then 2 ^ (etWidth t - 1) - 1 else 2 ^ etWidth t - 1
/-- The smallest value of an integer type. -/
def etMin (t : Nat) : Int := if etSigned t then -2 ^ (etWidth t - 1) else 0
/-- The value of a bit pattern of an integer type or BIT. -/
def etVal (t : Nat) (x : Word) : Int := if etSigned t then sextInt x (etWidth t) else (x.toNat % 2 ^ etWidth t : Nat)
/-- The low bits of an integer as a pattern of a type. -/
def etBits (t : Nat) (v : Int) : Word := BitVec.ofNat 32 (v % 2 ^ etWidth t).toNat
/-- An exact result that wraps: WRAP when it is not representable (R110). -/
def etWrap (t : Nat) (v : Int) : Word × Flags := (etBits t v, fIf (decide (v < etMin t ∨ etMax t < v)) fWrap)
/-- An exact result that saturates: SAT when clamped (R110). -/
def etSat (t : Nat) (v : Int) : Word × Flags :=
  if v < etMin t then (etBits t (etMin t), fSat) else if etMax t < v then (etBits t (etMax t), fSat) else (etBits t v, 0)
/-- Not zero under the BIT rule of R104. -/
def etNonzero (t : Nat) (x : Word) : Bool :=
  let v := x.toNat % 2 ^ etWidth t
  if etFloat t then v % 2 ^ (etWidth t - 1) != 0 else v != 0
/-- A float result as a pattern. -/
def fBits (r : Nat × Flags) : Word × Flags := (BitVec.ofNat 32 r.1, r.2)
/-- 1 in a type: 1.0 in a float type. -/
def etOne (t : Nat) : Word := match t with | 6 => 0x3C00 | 7 => 0x3F800000 | _ => 1

/-! ### Conversions -/

/-- B and C elements converted to T as they are read (R103). T = BIT counts as an integer of width 1: an integer keeps its bit 0
(DESIGN CHOICE, log entry 128). -/
def convIn (src t rm : Nat) (x : Word) : Word × Flags :=
  if src = t then (x, 0)
  else if etFloat t then
    (if etFloat src then fBits ((etFmt src).convert (etFmt t) rm x.toNat) else fBits ((etFmt t).ofInt rm (etVal src x)))
  else (etBits t (etVal src x), 0)

/-- The last unit's result converted from T to D's type (R104). -/
def convOut (t d rm : Nat) (nsat : Bool) (x : Word) : Word × Flags :=
  if t = d then (x, 0)
  else if d = 8 then (if etNonzero t x then 1 else 0, 0)
  else if etFloat t then
    (if etFloat d then fBits ((etFmt t).convert (etFmt d) rm x.toNat)
     else
      let r := (etFmt t).toInt rm x.toNat (etMin d) (etMax d)
      (etBits d r.1, r.2))
  else
    let v := etVal t x
    if etFloat d then fBits ((etFmt d).ofInt rm v)
    else if etWidth t < etWidth d then (etBits d v, 0)
    else if nsat then etSat d v
    else etWrap d v

/-! ### Element operations (R109 to R114) -/

/-- The class of an operation code for cost (R98): 0 none, L 30, I 50, M 80, T 70, S 80 mW at 64 lanes; none: a code not assigned. -/
def opWeight (c : Nat) : Option Nat :=
  if c = 0 then some 0
  else if c ≤ 0x08 then some 30
  else if (0x10 ≤ c ∧ c ≤ 0x1E) ∨ (0x20 ≤ c ∧ c ≤ 0x25) ∨ (0x70 ≤ c ∧ c ≤ 0x77) then some 50
  else if c = 0x46 ∨ c = 0x47 ∨ c = 0x83 ∨ c = 0x84 then some 30
  else if (0x30 ≤ c ∧ c ≤ 0x34) ∨ (0x40 ≤ c ∧ c ≤ 0x48) ∨ (0x80 ≤ c ∧ c ≤ 0x82) ∨ c = 0x85 then some 80
  else if 0x60 ≤ c ∧ c ≤ 0x63 then some 70
  else none

/-- An operation code may be used with a working type (R104, R109). -/
def opAllows (c t : Nat) : Bool :=
  if c ≤ 0x08 then true
  else if t = 8 then false
  else if (0x10 ≤ c ∧ c ≤ 0x1E) ∨ (0x30 ≤ c ∧ c ≤ 0x34) ∨ (0x70 ≤ c ∧ c ≤ 0x77) ∨ c = 0x82 then etInt t
  else if (0x20 ≤ c ∧ c ≤ 0x25) ∨ c = 0x80 ∨ c = 0x81 ∨ c = 0x83 ∨ c = 0x84 then true
  else if (0x40 ≤ c ∧ c ≤ 0x48) ∨ c = 0x85 then etFloat t
  else if c = 0x60 then t != 0 && t != 1
  else if c = 0x61 then t == 4 || t == 5
  else if c = 0x62 ∨ c = 0x63 then etInt t && decide (2 ≤ t)
  else false

/-- DIV and REM (R111). -/
def vDiv (t : Nat) (rem : Bool) (x y : Int) : Word × Flags :=
  if y = 0 then (if rem then etBits t x else etBits t (-1), fWrap ||| fDz)
  else if etSigned t && x == etMin t && y == -1 then (if rem then 0 else etBits t x, fWrap)
  else (etBits t (if rem then x.tmod y else x.tdiv y), 0)

/-- SHL (R112). -/
def vShl (t : Nat) (x : Int) (n : Nat) : Word × Flags :=
  if etWidth t ≤ n then (0, fIf (x != 0) fWrap) else etWrap t (x * 2 ^ n)

/-- A comparison's outcome: less, equal, greater, or unordered. -/
def vCompare (t : Nat) (x y : Word) : Bool × Bool × Bool × Flags :=
  if etFloat t then (etFmt t).cmp x.toNat y.toNat
  else (false, decide (etVal t x < etVal t y), decide (etVal t y < etVal t x), 0)

/-- The compare operations 0x20 to 0x25 (R114). -/
def vCmp (c t : Nat) (x y : Word) : Word × Flags :=
  let (un, lt, gt, fl) := vCompare t x y
  let r : Bool := match c with
    | 0x20 => !un && !lt && !gt
    | 0x21 => un || lt || gt
    | 0x22 => lt
    | 0x23 => !un && !gt
    | 0x24 => gt
    | _ => !un && !lt
  (if r then etOne t else 0, fl)

/-- The element-wise operations 0x00 to 0x48: x, y, B[i], C[i]. -/
def vElem (c t rm : Nat) (x y b cc : Word) : Word × Flags :=
  let m : Word := maskOf 32 0 (etWidth t)
  let xi := etVal t x
  let yi := etVal t y
  let sh := y.toNat % 2 ^ etWidth t
  let f := etFmt t
  match c with
  | 0x01 => (y, 0)
  | 0x02 => (x &&& y, 0)
  | 0x03 => (x ||| y, 0)
  | 0x04 => (x ^^^ y, 0)
  | 0x05 => (x &&& ~~~y, 0)
  | 0x06 => (~~~x &&& m, 0)
  | 0x07 => (if etNonzero t x then b else cc, 0)
  | 0x08 => (if etNonzero t x then y else 0, 0)
  | 0x10 => etWrap t (xi + yi)
  | 0x11 => etSat t (xi + yi)
  | 0x12 => etWrap t (xi - yi)
  | 0x13 => etSat t (xi - yi)
  | 0x14 => etWrap t (yi - xi)
  | 0x15 => etWrap t (-xi)
  | 0x16 => etWrap t xi.natAbs
  | 0x17 => etSat t (xi - yi).natAbs
  | 0x18 => (if yi < xi then y else x, 0)
  | 0x19 => (if xi < yi then y else x, 0)
  | 0x1A => (etBits t ((xi + yi) / 2), 0)
  | 0x1B => vShl t xi sh
  | 0x1C => (BitVec.ofNat 32 ((x.toNat % 2 ^ etWidth t) >>> sh), 0)
  | 0x1D => (etBits t ((if etSigned t then xi else sextInt x (etWidth t)) / 2 ^ min sh 64), 0)
  | 0x1E =>
    let w := etWidth t
    let n := sh % w
    let v := x.toNat % 2 ^ w
    (BitVec.ofNat 32 ((v <<< n) % 2 ^ w + v >>> (w - n)), 0)
  | 0x30 => etWrap t (xi * yi)
  | 0x31 => etSat t (xi * yi)
  | 0x32 => (etBits t (xi * yi / 2 ^ etWidth t), 0)
  | 0x33 => vDiv t false xi yi
  | 0x34 => vDiv t true xi yi
  | 0x40 => fBits (f.addSub rm false x.toNat y.toNat)
  | 0x41 => fBits (f.addSub rm true x.toNat y.toNat)
  | 0x42 => fBits (f.mul rm x.toNat y.toNat)
  | 0x43 => fBits (f.div rm x.toNat y.toNat)
  | 0x44 => fBits (f.minMax false x.toNat y.toNat)
  | 0x45 => fBits (f.minMax true x.toNat y.toNat)
  | 0x46 => (x &&& maskOf 32 0 (etWidth t - 1), 0)
  | 0x47 => (x ^^^ maskOf 32 (etWidth t - 1) 1, 0)
  | 0x48 => fBits (f.sqrt rm x.toNat)
  | _ => if 0x20 ≤ c ∧ c ≤ 0x25 then vCmp c t x y else (x, 0)

/-- CAL on a Channel Map entry (R116). An entry whose GAIN field is 0 gives 0, and a binary16 GAIN of −0 multiplies (DESIGN CHOICE, log entry
48); a signalling NaN in PED or GAIN sets INV (R113). -/
def vCal (t rm : Nat) (x entry : Word) : Word × Flags :=
  let gain := fld entry 16 16
  let ped : Word := entry &&& 0xFFFF
  if gain = 0 then (0, 0)
  else if etFloat t then
    let p := b16.convert (etFmt t) rm ped.toNat
    let g := b16.convert (etFmt t) rm gain
    let d := (etFmt t).addSub rm true x.toNat p.1
    let r := (etFmt t).mul rm d.1 g.1
    (BitVec.ofNat 32 r.1, p.2 ||| g.2 ||| d.2 ||| r.2)
  else etSat t (((etVal t x - sextInt ped 16) * gain + 2048) / 4096)

/-! ### Scans (R117) -/

/-- One element of a scan but COINC: PARAM, the running state, x, y; a segment starts where y ≠ 0 and at element 0. -/
def vScan (c t param : Nat) (st : ScanState) (x : Word) (yNz : Bool) : Word × Flags × ScanState :=
  let start := yNz || st.fresh
  let xi := etVal t x
  let acc := if start then 0 else st.acc
  let win := (xi :: (if start then [] else st.window)).take (param + 1)
  let st' : ScanState := { acc := st.acc, window := win, fresh := false }
  match c with
  | 0x70 =>
    let r := etWrap t (acc + xi)
    (r.1, r.2, { st' with acc := acc + xi })
  | 0x71 =>
    let r := etSat t (acc + xi)
    (r.1, r.2, { st' with acc := etVal t r.1 })
  | 0x72 =>
    let v := if start then xi else max st.acc xi
    (etBits t v, 0, { st' with acc := v })
  | 0x73 =>
    let v := if start then xi else min st.acc xi
    (etBits t v, 0, { st' with acc := v })
  | 0x74 => let r := etWrap t win.sum; (r.1, r.2, st')
  | 0x75 => let r := etSat t win.sum; (r.1, r.2, st')
  | _ => (etBits t (win.foldl max xi), 0, st')

/-- A scan's result for RESULT: extended by T to 64 bits (R108). -/
def scanWord (t : Nat) (x : Word) : Word64 := BitVec.ofInt 64 (etVal t x)

/-! ### Whole-vector operations (R119 to R124) -/

/-- Insert an item by a rank in a list sorted by it; equal ranks keep their order. -/
def rankInsert (key : α → Int) (a : α) : List α → List α
  | [] => [a]
  | b :: rest => if key b ≤ key a then b :: rankInsert key a rest else a :: b :: rest

/-- The first `k` items by rank. -/
def rankTake (key : α → Int) (k : Nat) (l : List α) : List α := l.foldl (fun acc a => (rankInsert key a acc).take k) []

/-- The rank of a key: the smallest ranks first (R121). -/
def keyRank (t : Nat) (small : Bool) (x : Word) : Int :=
  let v := if etFloat t then (etFmt t).totalKey x.toNat else etVal t x
  if small then v else -v

/-- What a whole-vector operation delivers: D's elements with their flags, the flags that belong to no element, RESULT, the keys by rank
(SORT and TOPK). -/
structure WholeOut where
  outs : List (Word × Flags)
  flags : Flags := 0
  result : Word64 := 0
  keys : List Word := []
  deriving DecidableEq, Repr

/-- An index written to D's integer type: reduced, with WRAP (R121, R123). -/
def idxOut (d i : Nat) : Word × Flags := (BitVec.ofNat 32 (i % 2 ^ etWidth d), fIf (decide (2 ^ etWidth d ≤ i)) fWrap)

/-- SORT and TOPK with `k` ranks; `keys` and `pay` are the elements read (R121). -/
def vRank (t d rm : Nat) (nsat : Bool) (out : Nat) (small topk : Bool) (k : Nat) (keys pay : List Word) : WholeOut :=
  let items := (List.range keys.length).zip keys
  let ranked := rankTake (fun p : Nat × Word => keyRank t small p.2) k items
  let low : Word := if etFloat t then maskOf 32 0 (if small then etWidth t - 1 else etWidth t)
    else etBits t (if small then etMax t else etMin t)
  let real := ranked.map (fun p => match out with
    | 0 => convOut t d rm nsat p.2
    | 1 => idxOut d p.1
    | _ => (pay.getD p.1 0, 0))
  let fill : Word × Flags := match out with | 0 => convOut t d rm nsat low | 1 => (maskOf 32 0 (etWidth d), 0) | _ => (0, 0)
  let nan := etFloat t && keys.any (fun x => (etFmt t).isNan x.toNat)
  let last := (ranked.getLast?.map (·.2)).getD 0
  { outs := real ++ List.replicate (k - keys.length) fill
    flags := if topk then fIf (decide (keys.length < k)) fOpx else fIf nan fOpx
    result := BitVec.ofNat 64 (if topk then last.toNat * 2 ^ 32 + ranked.length else keys.length)
    keys := ranked.map (·.2) }

/-- HIST: `bins` at the start, keys and weights (R122). -/
def vHist (t : Nat) (bins : List Nat) (keys : List Word) (weights : List Nat) : WholeOut :=
  let add := fun (a : List (Nat × Flags) × Nat × Nat) (p : Word × Nat) =>
    let v := etVal t p.1
    if v < 0 ∨ (bins.length : Int) ≤ v then (a.1, a.2.1, a.2.2 + 1)
    else
      let b := a.1.getD v.toNat (0, 0)
      let n := b.1 + p.2
      (a.1.set v.toNat (if 0xFFFFFFFF < n then (0xFFFFFFFF, fSat) else (n, b.2)), a.2.1 + 1, a.2.2)
  let r := (keys.zip weights).foldl add (bins.map (fun b => (b, (0 : Flags))), 0, 0)
  { outs := r.1.map (fun b => (BitVec.ofNat 32 b.1, b.2))
    flags := fIf (decide (r.2.2 ≠ 0)) fOpx
    result := BitVec.ofNat 64 (r.2.1 + r.2.2 * 2 ^ 32) }

/-- COMPRESS (R123). -/
def vCompress (t d rm : Nat) (nsat noFill idx : Bool) (fill : Word × Flags) (xs : List Word) (mask : List Bool) : WholeOut :=
  let kept := (((List.range xs.length).zip xs).zip mask).filter (·.2)
  let real := kept.map (fun p => if idx then idxOut d p.1.1 else convOut t d rm nsat p.1.2)
  { outs := real ++ (if noFill then [] else List.replicate (xs.length - kept.length) fill)
    result := BitVec.ofNat 64 kept.length }

/-- EXPAND: the mask, and the elements of A read for it (R123). -/
def vExpand (t d rm : Nat) (nsat : Bool) (fill : Word × Flags) : List Bool → List Word → List (Word × Flags)
  | [], _ => []
  | true :: ms, x :: xs => convOut t d rm nsat x :: vExpand t d rm nsat fill ms xs
  | true :: ms, [] => fill :: vExpand t d rm nsat fill ms []
  | false :: ms, xs => fill :: vExpand t d rm nsat fill ms xs

/-! ### FFT (R124) -/

/-- Fraction bits of the angles' fixed-point values. -/
def twBits : Nat := 120
/-- cos and sin of 2π / 2^j in units of 2^−120, by halving the angle: j = 1 gives (−1, 0). -/
def twHalf : Nat → Int × Int
  | 0 => (2 ^ twBits, 0)
  | 1 => (-2 ^ twBits, 0)
  | 2 => (0, 2 ^ twBits)
  | j + 1 =>
    let c := (twHalf j).1
    let root := fun (v : Int) => (isqrt 122 ((v / 2).toNat * 2 ^ twBits) 0 : Int)
    (root (2 ^ twBits + c), root (2 ^ twBits - c))
/-- The product of two angles' values, rounded to nearest. -/
def twMul (a b : Int × Int) : Int × Int :=
  let r := fun (v : Int) => (v + 2 ^ (twBits - 1)) / 2 ^ twBits
  (r (a.1 * b.1 - a.2 * b.2), r (a.1 * b.2 + a.2 * b.1))
/-- cos and sin of 2π k / 2^s. -/
def twAngle : Nat → Nat → Int × Int
  | 0, _ => (2 ^ twBits, 0)
  | s + 1, k => twMul (if k % 2 = 1 then twHalf (s + 1) else (2 ^ twBits, 0)) (twAngle s (k / 2))
/-- The binary32 value nearest a fixed-point value. -/
def twRound (v : Int) : Nat := (b32.round 0 (decide (v < 0)) false v.natAbs (-(twBits : Int))).1
/-- exp(∓2πi k / 2^s) in binary32. -/
def twiddle (inv : Bool) (s k : Nat) : Nat × Nat :=
  let a := twAngle s k
  (twRound a.1, twRound (if inv then a.2 else -a.2))

/-- Flags gathered while values are computed. -/
def fl1 (r : Nat × Flags) (f : Flags) : Nat × Flags := (r.1, f ||| r.2)

/-- One butterfly: (u + t, u − t, flags) with t = w × v, each product and sum rounded. -/
def butterfly (w u v : Nat × Nat) : (Nat × Nat) × (Nat × Nat) × Flags :=
  let a := b32.mul 0 w.1 v.1
  let b := b32.mul 0 w.2 v.2
  let c := b32.mul 0 w.1 v.2
  let d := b32.mul 0 w.2 v.1
  let re := b32.addSub 0 true a.1 b.1
  let im := b32.addSub 0 false c.1 d.1
  let p1 := b32.addSub 0 false u.1 re.1
  let p2 := b32.addSub 0 false u.2 im.1
  let m1 := b32.addSub 0 true u.1 re.1
  let m2 := b32.addSub 0 true u.2 im.1
  ((p1.1, p2.1), (m1.1, m2.1), a.2 ||| b.2 ||| c.2 ||| d.2 ||| re.2 ||| im.2 ||| p1.2 ||| p2.2 ||| m1.2 ||| m2.2)

/-- Every second item. -/
def everySecond {α : Type} : List α → List α
  | [] => []
  | [a] => [a]
  | a :: _ :: rest => a :: everySecond rest

/-- Radix-2 decimation in time of 2^p points: the last stage joins the transforms of the even and the odd points. -/
def fftRec (inv : Bool) : Nat → List (Nat × Nat) → List (Nat × Nat) × Flags
  | 0, xs => (xs, 0)
  | p + 1, xs =>
    let e := fftRec inv p (everySecond xs)
    let o := fftRec inv p (everySecond (xs.drop 1))
    let bs := ((List.range e.1.length).zip (e.1.zip o.1)).map (fun q => butterfly (twiddle inv (p + 1) q.1) q.2.1 q.2.2)
    (bs.map (·.1) ++ bs.map (·.2.1), bs.foldl (fun f b => f ||| b.2.2) (e.2 ||| o.2))

/-- 2^−p in binary32. -/
def pow2neg (p : Nat) : Nat := (b32.round 0 false false 1 (-(p : Int))).1

/-- One transform of 2^p points, scaled when inverse: X_0.re, X_0.im, … in binary32. -/
def fftOne (inv : Bool) (p : Nat) (xs : List (Nat × Nat)) : List Nat × Flags :=
  let r := fftRec inv p xs
  let flat := r.1.flatMap (fun z => [z.1, z.2])
  if inv then
    let m := flat.map (fun v => b32.mul 0 v (pow2neg p))
    (m.map (·.1), m.foldl (fun f q => f ||| q.2) r.2)
  else (flat, r.2)

/-- The transforms of a whole input, `n` of them: each value with the flags of every stage of its transform, those of its inputs among
them. -/
def fftAll (inv : Bool) (p : Nat) : Nat → List ((Nat × Nat) × Flags) → List (Nat × Flags)
  | 0, _ => []
  | n + 1, xs =>
    let ys := xs.take (2 ^ p)
    let a := fftOne inv p (ys.map (·.1))
    let f := ys.foldl (fun f y => f ||| y.2) a.2
    a.1.map (fun v => (v, f)) ++ fftAll inv p n (xs.drop (2 ^ p))

/-- FFT: real and imaginary parts in T, the latter with the flags of their conversion; D's elements converted under OPT.RM. -/
def vFft (t d rm : Nat) (nsat inv : Bool) (p : Nat) (re im : List Word) (imFlags : List Flags) : WholeOut :=
  let up := fun (x : Word) => convOut t 7 0 false x
  let points := (re.zip (im.zip imFlags)).map (fun x =>
    let a := up x.1
    let b := up x.2.1
    ((a.1.toNat, b.1.toNat), a.2 ||| b.2 ||| x.2.2))
  let n := re.length / 2 ^ p
  { outs := (fftAll inv p n points).map (fun v =>
      let o := convOut 7 d rm nsat (BitVec.ofNat 32 v.1)
      (o.1, o.2 ||| v.2))
    result := BitVec.ofNat 64 n }

end Sys2Proof.Machine
end

