-- ==== Sys2Proof/Config.lean ====
section
/-!
DEFINITION. What one built block fixes (the generation parameters of R6, the host's tie-offs) and the free values: what the
spec leaves open is a constant without a body, so that nothing proved can rest on its value.
-/
namespace Sys2Proof.Config

/-- Undefined data (R12), drawn by number: the n-th value the run draws. No body: any claim holds for every value. -/
opaque freeWord : Nat → Word
/-- The 256 KiB boot ROM's bytes by offset (R295, R372). The spec does not give them. -/
opaque bootRom : Nat → Byte
/-- Krovvel's base microcode, words 0x0000 to 0x03FF of a Cue engine's private store (R189, R201). The spec does not give it. -/
opaque baseMicrocode : Nat → Word128
/-- Krovvel's boot and base microcode in the House engine's private store (R207). The spec does not give it. -/
opaque houseMicrocode : Nat → Word128
/-- TARGET of Krovvel's base dispatch entry of an opcode (R194). The spec does not give it. -/
opaque baseTarget : Nat → BitVec 16
/-- How many microwords of Krovvel's base microcode a Cue Code instruction or an entry runs (R201's UWORDS), by the number of the draw.
The spec does not give it. -/
opaque baseMicrowords : Nat → Nat
/-- How many pacing ticks their PX fields add (R188, R200), by the number of the draw. The spec does not give them. -/
opaque basePx : Nat → Nat
/-- How many of those microwords were not ready at their pacing tick (R200's PACEOVR), by the number of the draw. It hangs on timing. -/
opaque baseOverruns : Nat → Nat
/-- Whether the predictor gave a wrong next address for a control-flow instruction (R199), by the number of the draw. -/
opaque mispredict : Nat → Bool
/-- PHY_WORD = 256 (R6), reported in GENCAP.PHYW. -/
opaque phyWord256 : Bool
/-- XBAR_SLICE[m][t] of the build (R6), reduced to 0, 1 or 2 where it is read. -/
opaque xbarSlice : Nat → Nat → Nat
/-- The 64 bits of content of a control block (R42, R43, R46): its kind (0 idle, 1 alignment marker, 2 credit, 3 start, 4 end) and what it
carries. The spec does not lay them out (log entry 113). -/
opaque controlContent : List Nat → Word64
/-- Word `i` ≥ 1 of a message of this device: by class, KIND, fields (R166, R351, R361, R364, R380). The spec gives the fields no places
(log entry 29). -/
opaque messageWord : Nat → Nat → List Word64 → Nat → Word128
/-- The header word of a frame fragment: BEAT, STREAM, LENW, DEVNO (R358). The spec gives the fields no places (log entry 29). -/
opaque fragmentHeader : Word64 → Nat → Nat → Nat → Word128
/-- `jtag_mfr[10:0]` as the host ties it (R399, R437). -/
opaque jtagMfr : BitVec 11

end Sys2Proof.Config
end

