-- ==== Sys2Proof/Machine/Sparse.lean ====
section
/-!
DEFINITION. A sparse table: a list of (key, value) pairs, keys strictly rising, no value equal to what an unlisted key reads as. The
register space, the memories and the control stores are held so, and equal contents are equal lists.
-/
namespace Sys2Proof.Machine

/-- The value at key `k`; an unlisted key reads `d k`. -/
def spGet {α : Type} (d : Nat → α) : List (Nat × α) → Nat → α
  | [], k => d k
  | (k', v) :: rest, k => if k = k' then v else spGet d rest k

/-- Write `v` at key `k`, keeping the table's form: writing what an unlisted key reads as removes the entry. -/
def spSet {α : Type} [DecidableEq α] (d : Nat → α) : List (Nat × α) → Nat → α → List (Nat × α)
  | [], k, v => if v = d k then [] else [(k, v)]
  | (k', v') :: rest, k, v =>
    if k < k' then (if v = d k then (k', v') :: rest else (k, v) :: (k', v') :: rest)
    else if k = k' then (if v = d k then rest else (k, v) :: rest)
    else (k', v') :: spSet d rest k v

/-- Drop every entry whose key satisfies `p`: those keys read as unlisted again. -/
def spClear {α : Type} (p : Nat → Bool) (m : List (Nat × α)) : List (Nat × α) :=
  m.filter (fun e => !p e.1)

/-- The table's form holds: every key is at least `lo`, keys rise strictly, no entry is what an unlisted key reads as. -/
def spWfFrom {α : Type} [DecidableEq α] (d : Nat → α) : Nat → List (Nat × α) → Bool
  | _, [] => true
  | lo, (k, v) :: rest => decide (lo ≤ k) && decide (v ≠ d k) && spWfFrom d (k + 1) rest

/-- The table's form (R20's registers and R295's memories are held in it). -/
def spWf {α : Type} [DecidableEq α] (d : Nat → α) (m : List (Nat × α)) : Bool := spWfFrom d 0 m

end Sys2Proof.Machine
end

