-- ==== Sys2Proof/Machine/Pages.lean ====
section
/-!
DEFINITION. The register pages of R21, the common header of R23 and the register maps of every family: which offsets exist, their
reset values, which bits a write stores (RW), clears (W1C), which registers a read clears (RC), which are staged-capable and which
accept writes from the House engine alone. A register with none of these is read-only, write-only or has a special effect (Bus.lean).
-/
namespace Sys2Proof.Machine

/-- One row of a register map: `cnt` registers from offset `off`, `stride` bytes apart. -/
structure RegDesc where
  off : Nat
  cnt : Nat := 1
  stride : Nat := 4
  reset : Word := 0
  rw : Word := 0
  w1c : Word := 0
  rc : Bool := false
  house : Bool := false
  staged : Bool := false
  deriving DecidableEq, Repr

/-- A register that software cannot change by a plain write. -/
def rRo (off : Nat) (reset : Word := 0) (cnt : Nat := 1) (stride : Nat := 4) : RegDesc := { off, reset, cnt, stride }
/-- A register with stored bits `rw`. -/
def rRw (off : Nat) (rw : Word) (reset : Word := 0) (cnt : Nat := 1) (stride : Nat := 4) : RegDesc := { off, rw, reset, cnt, stride }
/-- A counter that a read clears. -/
def rRc (off : Nat) (cnt : Nat := 1) (stride : Nat := 4) : RegDesc := { off, cnt, stride, rc := true }
/-- A register whose bits `w1c` a written 1 clears. -/
def rW1c (off : Nat) (w1c : Word) (cnt : Nat := 1) (stride : Nat := 4) : RegDesc := { off, w1c, cnt, stride }
/-- A staged-capable register with stored bits `rw`. -/
def rStaged (off : Nat) (rw : Word) (reset : Word := 0) (cnt : Nat := 1) (stride : Nat := 4) : RegDesc :=
  { off, rw, reset, cnt, stride, staged := true }
/-- A register that only the House engine may write. -/
def rHouse (off : Nat) (rw : Word) (cnt : Nat := 1) (stride : Nat := 4) (staged : Bool := false) (reset : Word := 0) : RegDesc :=
  { off, rw, cnt, stride, house := true, staged, reset }

/-! ### Families -/

/-- The base of a page (R21). -/
def pageBase : Page → Nat
  | .block => 0x000000 | .callboard => 0x001000 | .permit => 0x002000 | .wings => 0x003000 | .curtain => 0x004000
  | .timebase => 0x005000 | .trust => 0x006000 | .debug => 0x007000 | .xbar => 0x008000
  | .link n => 0x100000 + 0x1000 * n.val
  | .cue e => 0x200000 + 0x1000 * e.val
  | .house => 0x300000
  | .cluster c => 0x310000 + 0x1000 * c.val
  | .pipe p => 0x340000 + 0x1000 * p.val
  | .timer t => 0x380000 + 0x1000 * t.val
  | .capture i => 0x390000 + 0x1000 * i.val
  | .pin k => 0x3A0000 + 0x1000 * k.val
  | .memctl j => 0x3C0000 + 0x1000 * j.val

/-- The type code of a page's family (R21). -/
def pageType : Page → Nat
  | .block => 0x01 | .callboard => 0x02 | .permit => 0x03 | .wings => 0x04 | .curtain => 0x05
  | .timebase => 0x06 | .trust => 0x07 | .debug => 0x08 | .xbar => 0x09
  | .link _ => 0x10 | .cue _ => 0x20 | .house => 0x30 | .cluster _ => 0x31 | .pipe _ => 0x34
  | .timer _ => 0x38 | .capture _ => 0x39 | .pin _ => 0x3A | .memctl _ => 0x3C

/-- The instance number of a page (R23). -/
def pageInst : Page → Nat
  | .link n => n.val | .cue e => e.val | .cluster c => c.val | .pipe p => p.val
  | .timer t => t.val | .capture i => i.val | .pin k => k.val | .memctl j => j.val
  | _ => 0

/-- The bit of a page's family in BLOCK.IRQ_FAMILY (R28, R35). -/
def familyBit : Page → Nat
  | .block => 0 | .callboard => 1 | .permit => 2 | .wings => 3 | .curtain => 4 | .timebase => 5 | .trust => 6
  | .debug => 7 | .xbar => 8 | .link _ => 9 | .cue _ => 10 | .house => 11 | .cluster _ => 12 | .pipe _ => 13
  | .timer _ => 14 | .capture _ => 15 | .pin _ => 16 | .memctl _ => 17

/-- The page that holds a register address, if the address lies in a page of R21. -/
def pageAt (addr : Nat) : Option Page :=
  let q := addr / 0x1000
  if q < 9 then
    match q with
    | 0 => some .block | 1 => some .callboard | 2 => some .permit | 3 => some .wings | 4 => some .curtain
    | 5 => some .timebase | 6 => some .trust | 7 => some .debug | _ => some .xbar
  else if h : 0x100 ≤ q ∧ q < 0x180 then some (.link ⟨q - 0x100, by omega⟩)
  else if h : 0x200 ≤ q ∧ q < 0x300 then some (.cue ⟨q - 0x200, by omega⟩)
  else if q = 0x300 then some .house
  else if h : 0x310 ≤ q ∧ q < 0x320 then some (.cluster ⟨q - 0x310, by omega⟩)
  else if h : 0x340 ≤ q ∧ q < 0x380 then some (.pipe ⟨q - 0x340, by omega⟩)
  else if h : 0x380 ≤ q ∧ q < 0x388 then some (.timer ⟨q - 0x380, by omega⟩)
  else if h : 0x390 ≤ q ∧ q < 0x394 then some (.capture ⟨q - 0x390, by omega⟩)
  else if h : 0x3A0 ≤ q ∧ q < 0x3C0 then some (.pin ⟨q - 0x3A0, by omega⟩)
  else if h : 0x3C0 ≤ q ∧ q < 0x3D0 then some (.memctl ⟨q - 0x3C0, by omega⟩)
  else none

/-- Every page of R21. -/
def allPages : List Page :=
  [.block, .callboard, .permit, .wings, .curtain, .timebase, .trust, .debug, .xbar, .house]
    ++ (List.finRange 128).map .link ++ (List.finRange 256).map .cue ++ (List.finRange 16).map .cluster
    ++ (List.finRange 64).map .pipe ++ (List.finRange 8).map .timer ++ (List.finRange 4).map .capture
    ++ (List.finRange 32).map .pin ++ (List.finRange 16).map .memctl

/-- The page of an engine: CUE e, or HOUSE for engine 256 (R281). -/
def enginePage (e : Fin 257) : Page := if h : e.val < 256 then .cue ⟨e.val, h⟩ else .house

/-- EN_FIXED (R24). -/
def enFixed : Page → Bool
  | .block | .callboard | .permit | .trust | .debug | .xbar | .timebase | .house | .memctl _ => true
  | _ => false

/-- SRST_OK (R24). -/
def srstOk : Page → Bool
  | .block | .callboard | .trust | .debug | .house => false
  | _ => true

/-- FRZ_OK (R411). -/
def frzOk : Page → Bool
  | .block | .callboard | .permit | .trust | .debug | .xbar | .timebase | .curtain | .cluster _ => false
  | _ => true

/-- STAGED_OK: the family's map has staged-capable registers (R23; R151, R169, R201, R281, R283). -/
def stagedOk : Page → Bool
  | .curtain | .wings | .cue _ | .house => true
  | _ => false

/-! ### Register maps -/

/-- The BLOCK page (R33 to R35, R348). -/
def blockRegs : List RegDesc :=
  [rRo 0x040 0x47390902, rRo 0x044, rRo 0x048, rRo 0x04C, rRo 0x050, rRw 0x054 0x1F1F, rRo 0x058, rRo 0x05C,
   rRw 0x080 0x800001FF, rRw 0x084 0x33FF0777, rRc 0x088, rRc 0x08C]

/-- The CALLBOARD page (R35). -/
def callboardRegs : List RegDesc := [rRo 0x040, rRo 0x044, rRo 0x100 0 512]

/-- The PERMIT page (R390). -/
def permitRegs : List RegDesc :=
  [rRw 0x040 0x1FFFF 0x11940, rRw 0x044 0x1FFFF 0x7530, rRo 0x048, rRo 0x04C 0x9790, rRo 0x050, rRw 0x054 0xFFFF 0x1000,
   rRw 0x058 0x3FF 0x2EE, rRc 0x05C, rRc 0x060, rRc 0x064, rRc 0x068, rRo 0x070, rRo 0x074, rRo 0x078, rRo 0x07C,
   rRo 0x080, rRo 0x084, rRo 0x088]

/-- The WINGS page (R169). -/
def wingsRegs : List RegDesc :=
  [rRo 0x040 0x40001000, rRw 0x044 0xFF 0x8, rRo 0x048, rRo 0x04C, rRo 0x050, rRc 0x054, rStaged 0x080 0xFFFFFFFF 0 32,
   rRo 0x200 0 8 0x40, rRo 0x204 0xFF00 8 0x40, rRo 0x208 0 8 0x40, rRo 0x20C 0 8 0x40,
   rRw 0x210 0xFFFFFFFF 0 8 0x40, rRw 0x214 0xFFFFFFFF 0 8 0x40, rRw 0x218 0xC3FFFFFF 0 8 0x40, rRw 0x21C 0xFFFFFFFF 0 8 0x40]

/-- The CURTAIN page (R151). -/
def curtainRegs : List RegDesc :=
  [rRo 0x040, rRw 0x044 0x80003FFF, rRw 0x048 0xFF 0xFE, rRc 0x04C 4,
   rRw 0x400 0x8000003F 0 64 0x30, rRw 0x404 0x3FFF3FFF 0 64 0x30, rStaged 0x408 0xFFFF 0x10 64 0x30, rStaged 0x40C 0xFF01 0 64 0x30,
   rStaged 0x410 0xFFFFFFFF 0 64 0x30, rStaged 0x414 0xFFF0FFF0 0 64 0x30, rStaged 0x418 0xFF0003FF 0 64 0x30,
   rRc 0x41C 64 0x30, rRc 0x420 64 0x30, rRc 0x424 64 0x30, rRc 0x428 64 0x30, rRo 0x42C 0 64 0x30]

/-- The TIMEBASE page (R319, R360). -/
def timebaseRegs : List RegDesc :=
  [rRo 0x040, rRo 0x044, rW1c 0x048 0x3, rRw 0x04C 0xFFFFFFFF, rRw 0x050 0xFFFFFFFF, rRo 0x054, rRo 0x058,
   rRw 0x060 0xFFFFFFFF, rRw 0x064 0xFFFFFFFF, rRw 0x068 0xFFFFFFFF, rRw 0x06C 0xFFFFFFFF, rRo 0x070,
   rRw 0x080 0xA0FFFFFF 0x00040400, rRo 0x084, rRo 0x088, rRw 0x08C 0x1FF, rRo 0x090, rRw 0x094 0x1FF]

/-- The TRUST page (R381). -/
def trustRegs : List RegDesc :=
  [rRo 0x040, rRo 0x044, rRw 0x048 0xFFFFFFC0, rRw 0x04C 0xFF, rRo 0x050, rRo 0x054, rRw 0x058 0x400001FF, rRo 0x05C 0xFF, rRc 0x060,
   rRw 0x080 0xFFFFFFFF 0 8, rHouse 0x0C0 0xFFFFFFFF 12, rHouse 0x0F0 0, rRo 0x100 0 96, rRo 0x800 0 128]

/-- The DEBUG page (R413, R416). The rings' and listeners' lists of the eight bells are one run of 128 words. -/
def debugRegs : List RegDesc :=
  [rRo 0x040, rRw 0x044 0x3, rRo 0x048, rRo 0x04C, rRw 0x050 0xFF01, rRo 0x054, rRo 0x058, rRc 0x05C, rRo 0x060 0 8,
   rRw 0x080 0xFFFFFFFF 0 12, rRw 0x0B0 0xE0007F0F, rRw 0x0B4 0x3FFF, rRc 0x0B8, rRw 0x0BC 0xFFFF, rRo 0x0C0 0 9, rRo 0x100 0 9,
   rRw 0x140 0x1FF, rRw 0x144 0xFFFFFFFF, rRw 0x148 0xFF, rRo 0x14C, rRo 0x150, rRo 0x154, rRo 0x158, rRw 0x15C 0x1 0x1,
   rRw 0x160 0xFFFFFFFF, rRw 0x164 0xFF, rRo 0x168, rRo 0x16C, rRo 0x170, rRo 0x174 0xFF, rRw 0x180 0xFFFFFFFF 0 8,
   rRo 0x1A0, rRo 0x1A4, rRo 0x1C0 0 8, rRo 0x1E0 0 8, rRw 0x200 0xFFFFFFFF 0 128, rRo 0x400 0 256, rRw 0x800 0xFFFFFFFF 0 512]

/-- The XBAR page (R311). -/
def xbarRegs : List RegDesc :=
  [rRc 0x040, rRo 0x044, rRo 0x048, rW1c 0x04C 0x80000000, rRw 0x100 0xFFFFFFFF 0x88888888 26 0x10,
   rRw 0x104 0xFFFFFFFF 0x88888888 26 0x10, rRw 0x108 0x000FFFFF 0x00088888 26 0x10]

/-- A LINK page (R49, R56, R350); LINK 0 has the frame ring's registers. -/
def linkRegs (n : Nat) : List RegDesc :=
  [rRw 0x040 0x337 0x5, rRo 0x044, rRo 0x048 0xFF, rRw 0x04C 0xFFFF 0x40, rRc 0x050 5, rRw 0x080 0x7FF 0 16, rRo 0x0C0 0 16,
   rRw 0x100 0xFFFFFFFF 0 32 8, rRw 0x104 0xFFFFF800 0 32 8, rRw 0x200 0xE0007F7F 0 2 0x20, rRw 0x204 0xFFFFFFFF 0 2 0x20, rRw 0x208 0x3FFF 0 2 0x20,
   rRw 0x20C 0xFFF 0x4 2 0x20, rRc 0x210 2 0x20, rRc 0x214 2 0x20, rRc 0x218 2 0x20, rRo 0x21C 0 2 0x20,
   rRw 0x380 0x7 0x7, rRw 0x384 0x80003FFF, rRw 0x388 0x80003FFF, rRo 0x38C, rRo 0x390, rRc 0x394]
    ++ (if n = 0 then [rRw 0x300 0x07FFF000, rRw 0x304 0x803FFFFF, rRw 0x308 0xFFFFFFFF 0 4, rRo 0x318, rRc 0x31C, rRo 0x320] else [])

/-- The registers at the same offsets in CUE and HOUSE pages (R207, R272, R281, R332). -/
def engineRegs : List RegDesc :=
  [rW1c 0x080 0xFFFFFFFF, rRw 0x084 0xFFFFFFFF, rRo 0x088, rRo 0x08C, rRw 0x090 0x77777777 0 4, rRo 0x0A0 0 8,
   rRo 0x0C0 0x40000000, rRo 0x0C4 0x00100000, rRo 0x0C8, rRo 0x0CC]
/-- The counters of translation and the reserved word after them; those of the HOUSE page accept writes from the House engine alone (R281). -/
def missRegs (house : Bool) : List RegDesc := [{ rRc 0x180 3 with house }, { rRo 0x18C with house }]

/-- A CUE page (R201, R281). -/
def cueRegs : List RegDesc :=
  [rHouse 0x040 0x1, rRo 0x044, rHouse 0x048 0xC00007FF, rHouse 0x04C 0xFFFFFFFF 4, rHouse 0x05C 0xFFFFFFFF, rRw 0x060 0xFFF 0x1,
   rRc 0x064, rRc 0x068, rRo 0x06C, rRc 0x070, rRc 0x074, rRo 0x078 0 2,
   rHouse 0x100 0x00FFFFFF 8 0x10 true, rHouse 0x104 0x01FFFFFF 8 0x10 true, rHouse 0x108 0x00FFFFFF 8 0x10 true,
   rHouse 0x10C 0x80000F37 8 0x10 true] ++ engineRegs ++ missRegs false

/-- Window word `f` of window `w` of the House engine at reset (R376). -/
def houseWindow (w f : Nat) : Word :=
  match w, f with
  | 0, 1 => 0x4 | 0, 2 => 0x7000 | 0, 3 => 0x80000005
  | 1, 0 => 0x10 | 1, 1 => 0x40 | 1, 2 => 0x4000 | 1, 3 => 0x80000103
  | 2, 0 => 0x50 | 2, 1 => 0x40 | 2, 2 => 0x4000 | 2, 3 => 0x80000005
  | 3, 0 => 0x7F00 | 3, 1 => 0x50 | 3, 2 => 0x7F00 | 3, 3 => 0x80000133
  | 4, 0 => 0x4800 | 4, 1 => 0x4 | 4, 2 => 0x4800 | 4, 3 => 0x80000113
  | 5, 0 => 0x8000 | 5, 1 => 0x8000 | 5, 2 => 0x800000 | 5, 3 => 0x80000113
  | _, _ => 0

/-- The stored bits of window word `f` (R280). -/
def windowMask (f : Nat) : Word := match f with | 0 => 0x00FFFFFF | 1 => 0x01FFFFFF | 2 => 0x00FFFFFF | _ => 0x80000F37

/-- The HOUSE page (R207, R281, R283, R376). -/
def houseRegs : List RegDesc :=
  [rHouse 0x048 0xC00007FF, rHouse 0x04C 0xFFFFFFFF 4, rHouse 0x200 0xFFFFE001 64 8 true, rHouse 0x204 0xFF 64 8 true]
    ++ (List.range 32).map (fun i => rHouse (0x100 + 4 * i) (windowMask (i % 4)) 1 4 true (houseWindow (i / 4) (i % 4)))
    ++ engineRegs ++ missRegs true

/-- A CLUSTER page (R205). -/
def clusterRegs : List RegDesc :=
  [rHouse 0x040 0x80003FFF, rHouse 0x044 0xFFFFFFFF 4, rRc 0x054, rRo 0x058, rW1c 0x05C 0xFFFFFFFF, rW1c 0x060 0xFFFFFFFF, rRo 0x064]

/-- A PIPE page (R100); PIPE 8g has the group's registers. -/
def pipeRegs (p : Nat) : List RegDesc :=
  [rRo 0x040, rRo 0x044, rRo 0x048, rRo 0x04C 0x1FF, rRc 0x050 5]
    ++ (if p % 8 = 0 then [rRw 0x100 0xFFFF 0x400, rRo 0x104, rW1c 0x108 0x3, rRo 0x10C, rRc 0x110 4, rRo 0x140 0 16] else [])

/-- A TIMER page (R320). -/
def timerRegs : List RegDesc := [rRo 0x100 0 8 0x20, rRo 0x104 0 8 0x20, rRo 0x108 0 8 0x20, rRo 0x10C 0 8 0x20, rRo 0x110 0 8 0x20,
  rRo 0x114 0 8 0x20, rRo 0x118 0x1FF 8 0x20, rRo 0x11C 0 8 0x20]

/-- A CAPTURE page (R328). -/
def captureRegs : List RegDesc :=
  [rW1c 0x040 0xFFFFFFFF, rW1c 0x044 0xFFFFFFFF, rRw 0x048 0xDF0001FF 0x1FF, rRw 0x100 0xF8000000 0 64 0x20, rW1c 0x104 0xF 64 0x20,
   rRo 0x108 0 64 0x20, rRo 0x10C 0 64 0x20, rRo 0x110 0 64 0x20, rRo 0x114 0 64 0x20, rRo 0x118 0 64 0x20, rRo 0x11C 0 64 0x20]

/-- A PIN page (R346). -/
def pinRegs : List RegDesc :=
  [rRo 0x040, rRo 0x044, rRw 0x048 0xFFFFFFFF, rRo 0x04C, rRo 0x050, rRo 0x054, rRo 0x058, rRo 0x05C, rRo 0x060, rRo 0x064, rRo 0x068,
   rRw 0x06C 0xFFFFFFFF, rRw 0x070 0xFFFFFFFF, rRw 0x074 0xDFF001FF 0x1FF, rRc 0x078 3, rRw 0x100 0xFFFF 0 64]

/-- A MEMCTL page (R312); MEMCTL 0 has the units of the whole block and the bulk load. -/
def memctlRegs (j : Nat) : List RegDesc :=
  let l : Word := if j = 0 then 0x000FFFFF else 0x0001FFFF
  [rRw 0x040 0xFFFFFFFF, rRw 0x044 0xFFFFFFFF, rRw 0x048 0xFFFFFFFF, rRw 0x04C 0xFFFFFFFF, rRo 0x050 0xFFFFFFFF, rRo 0x054 0xFFFFFFFF,
   rRw 0x058 l, rRw 0x05C l, rRo 0x060 l, rRc 0x064, rRc 0x068, rRo 0x06C, rRc 0x070, rRo 0x074 0xFF, rRo 0x078 0xFF, rRc 0x080 22]
    ++ (if j = 0 then [rRw 0x0D8 0xFFFFFFF8, rRw 0x0DC 0xFF, rRw 0x0E0 0x7FFFFF, rRw 0x0E4 0x40000000 0xFF] else [])

/-- The register map of a page, header apart. -/
def pageRegs : Page → List RegDesc
  | .block => blockRegs | .callboard => callboardRegs | .permit => permitRegs | .wings => wingsRegs | .curtain => curtainRegs
  | .timebase => timebaseRegs | .trust => trustRegs | .debug => debugRegs | .xbar => xbarRegs
  | .link n => linkRegs n.val | .cue _ => cueRegs | .house => houseRegs | .cluster _ => clusterRegs | .pipe p => pipeRegs p.val
  | .timer _ => timerRegs | .capture _ => captureRegs | .pin _ => pinRegs | .memctl j => memctlRegs j.val

/-- The header of a page (R23): PAGE_CTRL stores IRQ_LINE, STAGED, FRZ and EN where the page has them; PAGE_STAT keeps ERR,
SRST_BUSY and READY. -/
def headerRegs (p : Page) : List RegDesc :=
  [rRo 0x000 (BitVec.ofNat 32 (pageType p * 2 ^ 24 + pageInst p * 2 ^ 16 + 0x0902)),
   rRo 0x004 (BitVec.ofNat 32 (8 * b2n (frzOk p) + 4 * b2n (stagedOk p) + 2 * b2n (enFixed p) + b2n (srstOk p))),
   rRw 0x008 (BitVec.ofNat 32 (0x300 + 8 * b2n (stagedOk p) + 2 * b2n (frzOk p) + b2n (!enFixed p))) (BitVec.ofNat 32 (b2n (enFixed p))),
   rRo 0x00C, rRo 0x010, rRw 0x014 0xFFFFFFFF, rW1c 0x018 0xFFFFFFFF, rRo 0x01C]

/-- Whether a row holds the register at offset `off`. -/
def RegDesc.covers (d : RegDesc) (off : Nat) : Bool :=
  decide (d.off ≤ off) && ((off - d.off) % d.stride == 0) && decide ((off - d.off) / d.stride < d.cnt)

/-- The row of a page's maps for offset `off` (a multiple of 4); none: a reserved address (R22). -/
def regDesc (p : Page) (off : Nat) : Option RegDesc :=
  (headerRegs p ++ pageRegs p).find? (fun d => d.covers off)

/-! ### The ring table -/

/-- The base of ring r's descriptor (R21, R61). -/
def ringBase (r : Nat) : Nat := 0x400000 + 0x40 * r

/-- CTRL at reset: rings 0 to 4,095 read CLASS 3, ESIZE 2 and, as OWNER, their engine, rings 4,096 to 8,191 CLASS 4 (R61, R69). -/
def ringCtrlReset (r : Nat) : Word := if r < 4096 then BitVec.ofNat 32 (0x03000080 + r / 16 * 256) else if r < 8192 then 0x04000000 else 0

/-- The row of a ring descriptor for offset `off` below 0x40 (R61). Offsets 0x34 to 0x3C read 0. -/
def ringDesc (r off : Nat) : RegDesc :=
  match off with
  | 0x00 => rRw 0x00 0xFFFFFFFF
  | 0x04 => rRw 0x04 0xFF
  | 0x08 => rRw 0x08 (if r < 4096 then 0x8000001F else if r < 8192 then 0x8001FFDF else 0x8F01FFDF) (ringCtrlReset r)
  | 0x24 => rW1c 0x24 0xF
  | 0x28 => rRc 0x28
  | o => rRo o

/-- The reset value of the register at an address; 0 where there is none. -/
def regReset (addr : Nat) : Word :=
  if 0x400000 ≤ addr ∧ addr < 0x500000 then (ringDesc ((addr - 0x400000) / 0x40) (addr % 0x40)).reset
  else match pageAt addr with
    | none => 0
    | some p => match regDesc p (addr % 0x1000) with | none => 0 | some d => d.reset

end Sys2Proof.Machine
end

