-- ==== Sys2Proof/Machine/Ops.lean ====
section
/-!
DEFINITION. The named operations that every unit uses: registers, interrupts and events of pages, the units' records, the Callboard
(R36 to R40), free values, the event routing to engines, the debugger's freeze.
-/
namespace Sys2Proof.Machine

/-- What a command answers. -/
abbrev Out := Host.Outcome State Fault Refusal

/-- A reset is asserted: `por_n` or `rst_n` is 0 (R441). -/
def State.inReset (s : State) : Bool := s.porLow || s.rstLow

/-! ### Registers -/

/-- The stored word of the register at an address. -/
def State.getReg (s : State) (addr : Nat) : Word := spGet regReset s.regs addr
/-- Store a word in the register at an address. -/
def State.setReg (s : State) (addr : Nat) (v : Word) : State := { s with regs := spSet regReset s.regs addr v }
/-- Change the stored word of a register. -/
def State.modReg (s : State) (addr : Nat) (f : Word → Word) : State := s.setReg addr (f (s.getReg addr))
/-- A counter counts one (a counter wraps modulo 2^32, log entry 24). -/
def State.incReg (s : State) (addr : Nat) : State := s.modReg addr (· + 1)
/-- Add to a counter. -/
def State.addReg (s : State) (addr n : Nat) : State := s.modReg addr (· + BitVec.ofNat 32 n)
/-- Set bits of a register. -/
def State.orReg (s : State) (addr : Nat) (m : Word) : State := s.modReg addr (· ||| m)
/-- A register as a number. -/
def State.regN (s : State) (addr : Nat) : Nat := (s.getReg addr).toNat

/-- Event `bit` of a page occurs: IRQ_STAT takes it, whatever IRQ_EN holds (R27). -/
def State.irq (s : State) (p : Page) (bit : Nat) : State := s.orReg (pageBase p + 0x18) (maskOf 32 bit 1)
/-- PAGE_STAT.ERR of a page sets (R26). -/
def State.pageErr (s : State) (p : Page) : State := s.orReg (pageBase p + 0x0C) 0x8
/-- PAGE_CTRL.EN (R25). -/
def State.pageEn (s : State) (p : Page) : Bool := bitAt (s.getReg (pageBase p + 0x08)) 0
/-- PAGE_STAT.SRST_BUSY (R26). -/
def State.srstBusy (s : State) (p : Page) : Bool := bitAt (s.getReg (pageBase p + 0x0C)) 1
/-- PAGE_LOCK bit 0 (R29). -/
def State.pageLocked (s : State) (p : Page) : Bool := bitAt (s.getReg (pageBase p + 0x1C)) 0
/-- PAGE_CTRL.STAGED (R30). -/
def State.pageStaged (s : State) (p : Page) : Bool := bitAt (s.getReg (pageBase p + 0x08)) 3
/-- A counter register counts one and an event of its page occurs. -/
def State.countIrq (s : State) (p : Page) (off bit : Nat) : State := (s.incReg (pageBase p + off)).irq p bit

/-- BEATNO runs on by `d` (a LOAD, or the correction of R362): what was measured in beats from the old count is measured from the new one,
so that writes and postings keep their acceptance edges and times that run keep their lengths (R138, R317, R362). -/
def State.rebase (s : State) (d : Word64) : State :=
  let late := fun (r : PermitReq) => { r with since := r.since + d }
  { s with
    beatno := s.beatno + d
    islandQ := s.islandQ.map (fun w => { w with beat := w.beat + d })
    posted := s.posted.map (fun p => { p with beat := p.beat + d })
    relNext := s.relNext + d
    curtain := s.curtain.map (fun c => { c with pulses := c.pulses.map (fun p => (p.1, p.2 + d)) })
    permit := { s.permit with q0 := s.permit.q0.map late, q1 := s.permit.q1.map late, q2 := s.permit.q2.map late,
                              entering := s.permit.entering.map (fun e => (e.1, late e.2)) }
    pipes := s.pipes.map (fun r => r.map (fun r => { r with waitSince := r.waitSince.map (· + d) }))
    trust := { s.trust with peerBeat := s.trust.peerBeat + d }
    alignDue := s.alignDue + d
    align := s.align.map (fun a => (a.1, a.2.1.map (· + 256 * d), a.2.2 + d))
    probe := s.probe.map (fun p => (p.1, p.2 + d)) }

/-! ### The time (R317, R318) -/

/-- The acceptance beat of a waiting write, modulo 2^64 (R8, R317, R447). -/
def IslandWrite.due (w : IslandWrite) : Word64 := w.beat + 2

/-- A LOAD is refused: the Curtain or the frame ring is enabled, or a Wings slot is VOTING or ARMED (R318). -/
def State.loadBarred (s : State) : Bool :=
  bitAt (s.getReg 0x004008) 0 || bitAt (s.getReg 0x100304) 31 ||
    (List.finRange 8).any (fun t => s.slots[t].st == .voting || s.slots[t].st == .armed)

/-- BEATNO and FOFS with what a LOAD is to load, as they change with a write accepted at the last edge. -/
structure TimeNow where
  beat : Word64
  fofs : BitVec 8
  lo : Word
  hi : Word

/-- A write to LOAD_LO, LOAD_HI, TBCMD or FOFS (R319). -/
def State.timeWrite (s : State) (t : TimeNow) (w : IslandWrite) : TimeNow :=
  match w.addr with
  | 0x00504C => { t with lo := w.data }
  | 0x005050 => { t with hi := w.data }
  | 0x005054 => if bitAt w.data 0 && !s.loadBarred then { t with beat := t.hi ++ t.lo } else t
  | 0x005058 => { t with fofs := w.data.setWidth 8 }
  | _ => t

/-- BEATNO and FOFS after the writes that the last edge accepts, whether or not their rows have come (R317, R318). -/
def State.timeNow (s : State) : TimeNow :=
  (s.islandQ.filter (fun w => w.pinPage.isNone && !w.curtain && beatLe w.due s.beatno)).foldl s.timeWrite
    { beat := s.beatno, fofs := s.fofs, lo := s.getReg 0x00504C, hi := s.getReg 0x005050 }

/-! ### The debugger's freeze (R410) -/

/-- The freeze is in effect. -/
def State.freezeOn (s : State) : Bool :=
  bitAt (s.getReg 0x007050) 0 || (s.dbg.rung &&& BitVec.ofNat 8 (fld (s.getReg 0x007050) 8 8)) != 0
/-- The freeze as the unit of a page sees it: timers, captures and pin engines behind the synchronizer of their island (R410, R421). -/
def State.freezeAt (s : State) (p : Page) : Bool :=
  match p with
  | .timer _ | .capture _ => s.frzClk
  | .pin k => s.pins[k].frz
  | _ => s.freezeOn
/-- The unit of a page is under the freeze: PAGE_CTRL.FRZ = 1 and the freeze in effect. -/
def State.frozen (s : State) (p : Page) : Bool := s.freezeAt p && bitAt (s.getReg (pageBase p + 0x08)) 1

/-! ### Free values -/

/-- Draw undefined data (R12; log entry 7). -/
def State.draw (s : State) : Word × State := (Config.freeWord s.freeIndex, { s with freeIndex := s.freeIndex + 1 })
/-- Skip `n` draws: the values are read at their own indices. -/
def State.drew (s : State) (n : Nat) : State := { s with freeIndex := s.freeIndex + n }
/-- A free byte, by the draw's index. -/
def freeByte (i : Nat) : Byte := (Config.freeWord i).setWidth 8

/-! ### The units' records -/

/-- The engine `e`. -/
def State.eng (s : State) (e : Fin 257) : Engine := s.engines[e]
/-- Change engine `e`. -/
def State.modEng (s : State) (e : Fin 257) (f : Engine → Engine) : State := { s with engines := s.engines.set e (f s.engines[e]) }
/-- Change link port `n`. -/
def State.modPort (s : State) (n : Fin 128) (f : Port → Port) : State := { s with ports := s.ports.set n (f s.ports[n]) }
/-- Change pipe group `g`. -/
def State.modGroup (s : State) (g : Fin 8) (f : Group → Group) : State := { s with groups := s.groups.set g (f s.groups[g]) }
/-- Set what pipe `p` runs. -/
def State.setPipe (s : State) (p : Fin 64) (r : Option PipeRun) : State := { s with pipes := s.pipes.set p r }
/-- Change decision stream `d`. -/
def State.modStream (s : State) (d : Fin 64) (f : CurStream → CurStream) : State := { s with curtain := s.curtain.set d (f s.curtain[d]) }
/-- Change Wings slot `t`. -/
def State.modSlot (s : State) (t : Fin 8) (f : WSlot → WSlot) : State := { s with slots := s.slots.set t (f s.slots[t]) }
/-- Change timer `n`. -/
def State.modTimer (s : State) (n : Fin 64) (f : Timer → Timer) : State := { s with timers := s.timers.set n (f s.timers[n]) }
/-- Change pin engine `k`. -/
def State.modPin (s : State) (k : Fin 32) (f : PinEng → PinEng) : State := { s with pins := s.pins.set k (f s.pins[k]) }
/-- Change Callboard record `r`. -/
def State.modCb (s : State) (r : Fin 64) (f : CbRec → CbRec) : State := { s with callboard := s.callboard.set r (f s.callboard[r]) }
/-- Change the translation structures of cluster `c` (16: the House engine's). -/
def State.modShared (s : State) (c : Fin 17) (f : Shared → Shared) : State := { s with shared := s.shared.set c (f s.shared[c]) }
/-- Change the Permit unit. -/
def State.modPermit (s : State) (f : Permit → Permit) : State := { s with permit := f s.permit }
/-- Change the Trust unit. -/
def State.modTrust (s : State) (f : Trust → Trust) : State := { s with trust := f s.trust }
/-- Change the debug logic. -/
def State.modDebug (s : State) (f : Debug → Debug) : State := { s with dbg := f s.dbg }
/-- Change the frame ring. -/
def State.modFrames (s : State) (f : Frames → Frames) : State := { s with frames := f s.frames }
/-- Set the response at the port of the last access. -/
def State.respond (s : State) (r : Rsp) : State := { s with rsp := r }

/-- The engine with a number in a 9-bit ENGINE or OWNER field: 0 to 255, 256 the House engine; any other value names none (R61,
R320, R346). -/
def engineNo (n : Nat) : Option (Fin 257) := if h : n < 257 then some ⟨n, h⟩ else none
/-- The House engine. -/
def houseNo : Fin 257 := ⟨256, by decide⟩
/-- The cluster of an engine, 16 for the House engine. -/
def clusterOf (e : Fin 257) : Fin 17 := ⟨e.val / 16, by omega⟩

/-! ### Masters -/

/-- The folding of a host identifier: 0xE0 to 0xFF have bit 5 cleared on entry (R424). -/
def foldId (id : BitVec 8) : BitVec 8 := if 0xE0 ≤ id.toNat then id &&& 0xDF else id
/-- The code of a master in ERR_INFO.MASTER and TSTAT.OWNER (R34, R154). -/
def masterCode : Master → BitVec 8
  | .hrp id => foldId id
  | .xbar m => BitVec.ofNat 8 (0xE0 + m.val)
/-- The master is the House engine's crossbar port (R305). -/
def isHouse (m : Master) : Bool := match m with | .xbar k => k.val == 16 | .hrp _ => false
/-- The Stagehand, whose reads are peeks (R31, R409). -/
def isStagehand (m : Master) : Bool := match m with | .xbar k => k.val == 17 | .hrp _ => false

/-! ### Events to engines (R177, R272, R325, R343) -/

/-- EVL bit `i` of an engine sets. -/
def State.setEvl (s : State) (e : Fin 257) (i : Nat) : State := s.modEng e (fun g => { g with evl := putBit g.evl i true })
/-- Interrupt source `src` of an engine becomes pending: IPEND bit (R272). -/
def State.raiseSource (s : State) (e : Fin 257) (src : Nat) : State := s.orReg (pageBase (enginePage e) + 0x80) (maskOf 32 src 1)
/-- An event goes where a TROUTE, CROUTE or PROUTE word sends it: EVEN to EVL bit `i`, IEN to the source SRC, of ENGINE (R320). -/
def State.routeEvent (s : State) (route : Word) (i : Nat) : State :=
  match engineNo (fld route 0 9) with
  | none => s
  | some e =>
    let s := if bitAt route 31 then s.setEvl e i else s
    if bitAt route 30 then s.raiseSource e (fld route 24 5) else s

/-! ### The Callboard (R36 to R40) -/

/-- The number of OP_STATE (R36). -/
def OpState.code : OpState → Nat
  | .idle => 0 | .queued => 1 | .permitWait => 2 | .running => 3 | .done => 4 | .failed => 5 | .aborted => 6
/-- DONE, FAILED and ABORTED are final (R36). -/
def OpState.final : OpState → Bool
  | .done | .failed | .aborted => true
  | _ => false

/-- The lowest-numbered record in state IDLE (R37). -/
def State.cbFree (s : State) : Option (Fin 64) := (List.finRange 64).find? (fun r => s.callboard[r].cur.st == .idle)

/-- An operation starts: it takes the record found, QUEUED, with its kind and its page (R36, R37). Without a free record it does not
start, and CALLBOARD IRQ_STAT bit 1 sets. -/
def State.cbStart (s : State) (kind : Nat) (p : Page) : Option (Fin 64) × State :=
  match s.cbFree with
  | none => (none, s.irq .callboard 1)
  | some r => (some r, s.modCb r (fun c => { c with abort := false, cur :=
      { kind, ptype := pageType p, pinst := pageInst p, st := .queued, beat := s.beatno.setWidth 32 } }))

/-- Change what a record reports while it runs. -/
def State.cbReport (s : State) (r : Fin 64) (f : CbVals → CbVals) : State := s.modCb r (fun c => { c with cur := f c.cur })

/-- A record enters a state; OP_BEAT takes BEATNO[31:0]; a final state sets CALLBOARD IRQ_STAT bit 0, and that of record 0 TRUST IRQ_STAT bit
0 (R37, R382). -/
def State.cbEnter (s : State) (r : Fin 64) (st : OpState) : State :=
  let s := s.cbReport r (fun v => { v with st, beat := s.beatno.setWidth 32 })
  let s := if st.final then s.irq .callboard 0 else s
  if st.final && r == 0 then s.irq .trust 0 else s

/-- A record ends in a final state with its result: detail in [31:8], code in [7:0] (R40). -/
def State.cbEnd (s : State) (r : Fin 64) (st : OpState) (code detail : Nat) : State :=
  (s.cbReport r (fun v => { v with result := BitVec.ofNat 32 (detail * 256 + code) })).cbEnter r st

/-- The codes of OP_RESULT[7:0] (R40). -/
def opOk : Nat := 0x00
def opPermitRefused : Nat := 0x01
def opAbortReq : Nat := 0x02
def opConflict : Nat := 0x03
def opTimeout : Nat := 0x04
def opMemError : Nat := 0x05
def opSoftReset : Nat := 0x06
def opDeviceError : Nat := 0x07

/-- The registers of a Callboard record as the page shows them (R35, R39). -/
def CbRec.regAt (c : CbRec) (i : Nat) : Word :=
  let v := c.vis
  match i with
  | 0 => BitVec.ofNat 32 (v.kind * 2 ^ 24 + v.ptype * 2 ^ 16 + v.pinst * 2 ^ 8)
  | 1 => BitVec.ofNat 32 (c.count.toNat * 2 ^ 24 + v.st.code)
  | 2 => v.progress
  | 3 => v.total
  | 4 => v.result
  | 5 => v.partials
  | 7 => v.beat
  | _ => 0

/-- FINAL_LO (from 0) or FINAL_HI (from 32): the records that show a final state. -/
def State.cbFinalMask (s : State) (from_ : Nat) : Word :=
  BitVec.ofNat 32 (((List.finRange 64).filter (fun r => decide (from_ ≤ r.val ∧ r.val < from_ + 32) && s.callboard[r].vis.st.final)).foldl
    (fun a r => a + 2 ^ (r.val - from_)) 0)

/-- CALLBOARD_UPDATE: a record whose values differ from what the page shows shows the latest of them together and counts one
(R38). -/
def State.cbUpdate (s : State) (r : Fin 64) : State :=
  let c := s.callboard[r]
  if c.cur = c.vis then s else s.modCb r (fun c => { c with vis := c.cur, count := c.count + 1 })

/-- RELEASE: a record in a final state returns to IDLE, its registers clear and its count advances; else ignored (R36). The state meant is
the one that the record shows: while a merged update still hides the final state, RELEASE is ignored, so that the final state always
becomes visible (R38; DESIGN CHOICE, log entry 111). The release itself shows at once. -/
def State.cbRelease (s : State) (r : Fin 64) : State :=
  if s.callboard[r].vis.st.final then s.modCb r (fun c => { cur := {}, vis := {}, count := c.count + 1, abort := false }) else s

/-- Count how many elements of a list satisfy a test. -/
def countIf {α : Type} (p : α → Bool) (l : List α) : Nat := (l.filter p).length

end Sys2Proof.Machine
end

