-- ==== Sys2Proof/Machine/Permit.lean ====
section
/-!
DEFINITION. The Permit unit: charges and capacity (R383), the amounts of R384, the three queues (R385 to R387, R390), the energy
counters (R391).
-/
namespace Sys2Proof.Machine

/-- VDD_MV in effect: below 600 acts as 600, above 850 as 850 (R390). -/
def State.vddMv (s : State) : Nat := min 850 (max 600 (s.regN 0x002058))
/-- PEAK_MW in effect: above 95,000 acts as 95,000 (R390). -/
def State.peakMw (s : State) : Nat := min 95000 (s.regN 0x002040)
/-- WAITLIM in effect: 0 acts as 1 (R390). -/
def State.waitLim (s : State) : Nat := max 1 (s.regN 0x002054)
/-- AVAIL: PEAK_MW − 3,200 − RESERVE_MW, floored at 0 (R383). -/
def State.avail (s : State) : Nat := s.peakMw - 3200 - s.regN 0x002044
/-- GRANTED: the sum of the charges of the grants held (R383). -/
def State.granted (s : State) : Nat := (s.permit.grants.map (·.2)).sum
/-- The charge of a request of `mw`: scaled by (VDD_MV / 750)^2, rounded up (R383). -/
def State.charge (s : State) (mw : Nat) : Nat := ceilDiv (mw * s.vddMv * s.vddMv) (750 * 750)

/-- The queue of a duration class. -/
def Permit.queue (p : Permit) (c : Nat) : List PermitReq := match c with | 0 => p.q0 | 1 => p.q1 | _ => p.q2
/-- Replace the queue of a duration class. -/
def Permit.setQueue (p : Permit) (c : Nat) (q : List PermitReq) : Permit :=
  match c with | 0 => { p with q0 := q } | 1 => { p with q1 := q } | _ => { p with q2 := q }
/-- Requests waiting in the queues. -/
def Permit.waiting (p : Permit) : Nat := p.q0.length + p.q1.length + p.q2.length

/-- A queue whose head has just become its head waits from `now` (R386). -/
def headFrom (now : Word64) : List PermitReq → List PermitReq
  | [] => []
  | r :: rest => { r with since := now, aged := false } :: rest

/-- The lowest duration class whose head is aged: it has become aged, or has waited WAITLIM beats by now (R386). -/
def State.agedClass (s : State) : Option Nat :=
  [0, 1, 2].find? (fun c => match s.permit.queue c with
    | r :: _ => r.aged || decide (s.waitLim ≤ (s.beatno - r.since).toNat)
    | [] => false)

/-- The duration class an evaluation grants next: the aged head if one is aged, else the first head that fits (R385, R386). -/
def State.nextGrant (s : State) : Option Nat :=
  let fits := fun c => match s.permit.queue c with | r :: _ => decide (s.granted + s.charge r.mw ≤ s.avail) | [] => false
  match s.agedClass with
  | some c => if fits c then some c else none
  | none => [0, 1, 2].find? fits

/-- HIGHWATER follows GRANTED (R390). -/
def State.highwater (s : State) : State := s.modReg 0x002068 (fun w => BitVec.ofNat 32 (max w.toNat s.granted))

/-- A request enters its queue, or waits to enter while 1,024 wait (R385, R390). -/
def Permit.enqueue (p : Permit) (c : Nat) (r : PermitReq) : Permit :=
  if p.waiting < 1024 then p.setQueue c (p.queue c ++ [r]) else { p with entering := p.entering ++ [(c, r)] }

/-- Requests that waited to enter take the room there is, first come first. -/
def Permit.takeIn (now : Word64) (p : Permit) : Permit :=
  match p.entering with
  | [] => p
  | (c, r) :: rest =>
    if p.waiting < 1024 then { p.setQueue c (p.queue c ++ [{ r with since := now }]) with entering := rest } else p

/-- The answer to a request. -/
inductive PermitAns where
  | granted | waiting | refused
  deriving DecidableEq, Repr

/-- A charge of a duration class can be granted at once: it fits, no head is aged, no request of its class waits, not even
to enter (R385 to R387, R390). -/
def State.grantNow (s : State) (ch cls : Nat) : Bool :=
  decide (s.granted + ch ≤ s.avail) && s.agedClass == none && (s.permit.queue cls).isEmpty
    && s.permit.entering.all (fun e => e.1 != cls)

/-- An operation asks for power (R385, R387). A charge that can never fit is refused at once, and counts in REFUSALS too if it carries NOWAIT;
with NOWAIT the request is granted at once or refused; otherwise it enters its queue. -/
def State.askPermit (s : State) (who : Requester) (mw cls : Nat) (nowait : Bool) : PermitAns × State :=
  let ch := s.charge mw
  if s.avail < ch then (.refused, (if nowait then s.countIrq .permit 0x060 1 else s).countIrq .permit 0x064 1)
  else if nowait then
    if s.grantNow ch cls then
      (.granted, ((s.modPermit (fun p => { p with grants := p.grants ++ [(who, ch)] })).incReg 0x00205C).highwater)
    else (.refused, s.countIrq .permit 0x060 1)
  else (.waiting, s.modPermit (fun p => p.enqueue cls { who, mw, since := s.beatno, aged := false }))

/-- A holder releases its grant (R384). -/
def State.releaseGrant (s : State) (who : Requester) : State :=
  s.modPermit (fun p => { p with grants := p.grants.filter (fun g => g.1 ≠ who) })

/-- Take a requester out of a queue; a new head counts its wait from now. -/
def dropReq (now : Word64) (who : Requester) (q : List PermitReq) : List PermitReq :=
  match q with
  | [] => []
  | r :: rest => if r.who = who then headFrom now rest else r :: rest.filter (fun x => x.who ≠ who)

/-- An operation that ends while it waits or holds: its request and its grant are gone. -/
def State.withdraw (s : State) (who : Requester) : State :=
  (s.modPermit (fun p => Permit.takeIn s.beatno { p with
    q0 := dropReq s.beatno who p.q0, q1 := dropReq s.beatno who p.q1, q2 := dropReq s.beatno who p.q2,
    entering := p.entering.filter (fun e => e.2.who ≠ who) })).releaseGrant who

/-- One grant of an evaluation: the head granted, and the state with the grant held (R385). -/
def State.grantOne (s : State) : Option (Requester × State) :=
  match s.nextGrant with
  | none => none
  | some c =>
    match s.permit.queue c with
    | [] => none
    | r :: rest =>
      some (r.who, ((s.modPermit (fun p => Permit.takeIn s.beatno
        { p.setQueue c (headFrom s.beatno rest) with grants := p.grants ++ [(r.who, s.charge r.mw)] })).incReg 0x00205C).highwater)

/-- After a write of the budget to `old`: one that lowers PEAK_MW, raises RESERVE_MW or raises VDD_MV, and leaves GRANTED above the new
capacity, is an event (R388). -/
def State.budgetCheck (s old : State) : State :=
  if (s.peakMw < old.peakMw ∨ old.regN 0x002044 < s.regN 0x002044 ∨ old.vddMv < s.vddMv) ∧ s.avail < s.granted then s.irq .permit 2 else s

/-- HEAD_AGED: the lowest class whose head has waited WAITLIM beats and is not aged yet becomes aged (R386). -/
def State.ageHead (s : State) : State :=
  let due := fun c => match s.permit.queue c with
    | r :: _ => !r.aged && decide (s.waitLim ≤ (s.beatno - r.since).toNat)
    | [] => false
  match [0, 1, 2].find? due with
  | none => s
  | some c => (s.modPermit (fun p => p.setQueue c (match p.queue c with
      | r :: rest => { r with aged := true } :: rest
      | [] => []))).irq .permit 0

/-- WAITING: AGED, the class of the aged head, the requests waiting (R390). -/
def State.waitingReg (s : State) : Word :=
  BitVec.ofNat 32 (s.permit.waiting + match s.agedClass with | some c => 2 ^ 31 + c * 2 ^ 24 | none => 0)

/-! ### Energy (R391): a coefficient in 0.1 pJ at 0.75 V, times VDD_MV squared; one nJ is 5,625,000,000 of these units. -/

/-- Data-plane energy of `n` events. -/
def State.useData (s : State) (coef n : Nat) : State := s.modPermit (fun p => { p with eData := p.eData + coef * n * s.vddMv * s.vddMv })
/-- Control-plane energy of `n` events. -/
def State.useCtrl (s : State) (coef n : Nat) : State := s.modPermit (fun p => { p with eCtrl := p.eCtrl + coef * n * s.vddMv * s.vddMv })
/-- Management-plane energy of `n` events. -/
def State.useMgmt (s : State) (coef n : Nat) : State := s.modPermit (fun p => { p with eMgmt := p.eMgmt + coef * n * s.vddMv * s.vddMv })
/-- A counter's value in whole nJ, low (0) or high (1) word; it wraps at 64 bits. -/
def energyReg (e i : Nat) : Word := BitVec.ofNat 32 ((e / 5625000000) >>> (32 * i))
/-- A microword of an engine: control plane, or management plane for the House engine. -/
def State.useMicro (s : State) (e : Fin 257) (n : Nat) : State := if e.val = 256 then s.useMgmt 352 n else s.useCtrl 352 n

end Sys2Proof.Machine
end

