-- ==== Sys2Proof/Machine/Memory.lean ====
section
/-!
DEFINITION. The physical memories: the map of R295, paths and refusals (R296, R305, R311), check codes (R300), retention and wake
(R303), bytes, and accesses to host memory (R426 to R428). Register pages and the ring table are reached through Bus.lean.
-/
namespace Sys2Proof.Machine

/-- What an access waits for: a wake it must start, or one under way; a host response it must ask for; a target's arbiter (R306); the acceptance
edge of an engine's register store (R422); or something else already under way. -/
inductive Wait where
  | wake (u : RetUnit) (who : Who)
  | waking (u : RetUnit) (who : Who)
  | host (who : Who) (addr size : Nat) (write : Bool) (data : List (Option Byte))
  | arb (m t : Nat)
  | island (e : Fin 257) (w : IslandWrite)
  | busy
  | walk (k : Walk) (w : Wait)
  deriving DecidableEq, Repr

/-- How an access ends without its result: an error response, or a wait. A command that meets a wait starts what it waits for and
changes nothing else; it acts when it comes again (log entry 26). -/
inductive MErr where
  | fault
  | wait (w : Wait)
  deriving DecidableEq, Repr

/-- An access to memory. -/
abbrev MemM := EStateM MErr State

/-! ### The physical map (R295) -/

/-- The regions of R295. -/
inductive Region where
  | em
  | cluster (c : Fin 16)
  | house
  | secure
  | pattern
  | chanmap
  | staging (n : Fin 128)
  | rom
  | rings
  | pages
  | host
  deriving DecidableEq, Repr

/-- The region of a physical address, and the offset in it. -/
def regionOf (pa : Nat) : Option (Region × Nat) :=
  if pa < 0x08000000 then some (.em, pa)
  else if h : 0x20000000 ≤ pa ∧ pa < 0x22000000 then some (.cluster ⟨(pa - 0x20000000) / 0x200000, by omega⟩, (pa - 0x20000000) % 0x200000)
  else if 0x40000000 ≤ pa ∧ pa < 0x40400000 then some (.house, pa - 0x40000000)
  else if 0x48000000 ≤ pa ∧ pa < 0x48040000 then some (.secure, pa - 0x48000000)
  else if 0x50000000 ≤ pa ∧ pa < 0x52000000 then some (.pattern, pa - 0x50000000)
  else if 0x54000000 ≤ pa ∧ pa < 0x54400000 then some (.chanmap, pa - 0x54000000)
  else if h : 0x60000000 ≤ pa ∧ pa < 0x61000000 then some (.staging ⟨(pa - 0x60000000) / 0x20000, by omega⟩, (pa - 0x60000000) % 0x20000)
  else if 0x70000000 ≤ pa ∧ pa < 0x70040000 then some (.rom, pa - 0x70000000)
  else if 0x7F400000 ≤ pa ∧ pa < 0x7F500000 then some (.rings, pa - 0x7F000000)
  else if 0x7F000000 ≤ pa ∧ pa < 0x7F400000 then some (.pages, pa - 0x7F000000)
  else if 0x8000000000 ≤ pa ∧ pa < 0x10000000000 then some (.host, pa - 0x8000000000)
  else none

/-- The crossbar target of a region (R295). -/
def Region.target : Region → Nat
  | .em => 0 | .cluster c => 1 + c.val | .house => 17 | .secure => 18 | .pattern => 19 | .chanmap => 20
  | .staging _ => 21 | .rom => 22 | .rings => 23 | .pages => 24 | .host => 25

/-- Whether master `m` has a path to target `t` (R305). -/
def hasPath (m t : Nat) : Bool :=
  if m < 16 then t != 18 && t != 22 else if m = 16 then true else if m = 17 then t != 18 && t != 22
  else if m = 18 then t == 23 || t == 24 else if m = 19 then t != 18 && t != 22 && t != 25
  else if m = 20 then decide (t ≤ 17) || t == 25 else false

/-- A refusal under R295 or R296: DECERR counts it, and the first since DECINFO.VALID was cleared is recorded (R311). -/
def State.decErr (s : State) (m t pa : Nat) : State :=
  let s := s.incReg 0x008040
  if bitAt (s.getReg 0x00804C) 31 then s
  else ((((s.setReg 0x008044 (BitVec.ofNat 32 pa)).setReg 0x008048 (BitVec.ofNat 32 (pa / 2 ^ 32 % 256))).setReg 0x00804C
    (BitVec.ofNat 32 (2 ^ 31 + m * 2 ^ 8 + t))).irq .xbar 0)

/-! ### Banks, pages and units -/

/-- The Event Memory bank of a byte offset (R81). -/
def emBank (x : Nat) : Nat := ((x / 16) % 1024) ^^^ ((x / 16384) % 1024)
/-- The Pattern Store bank of a byte offset: the low bits of its bucket (R126). -/
def patternBank (x : Nat) : Nat := (x / 64) % 256

/-- The retention unit of an address (R303); staging, boot ROM, registers and host memory have none. -/
def unitOf (r : Region) (off : Nat) : Option RetUnit :=
  match r with
  | .em => some (.eventBank (Fin.ofNat 1024 (emBank off)))
  | .cluster c => some (.clusterBank c)
  | .house => some .houseBank
  | .secure => some .secureBank
  | .pattern => some (.patternBank (Fin.ofNat 256 (patternBank off)))
  | .chanmap => some .channelMap
  | _ => none

/-- The MEMCTL page that covers a unit (R312). -/
def unitPage : RetUnit → Fin 16
  | .eventBank b => ⟨b.val / 64, by omega⟩
  | .patternBank b => ⟨b.val / 16, by omega⟩
  | .clusterBank c => c
  | _ => 0

/-- The RET register (offset in its MEMCTL page) and bit of a unit (R312); NOWAKE lies 8 or 4 bytes on. -/
def unitBit : RetUnit → Nat × Nat
  | .eventBank b => (0x40 + 4 * (b.val % 64 / 32), b.val % 32)
  | .patternBank b => (0x58, b.val % 16)
  | .clusterBank _ => (0x58, 16)
  | .houseBank => (0x58, 17)
  | .secureBank => (0x58, 18)
  | .channelMap => (0x58, 19)

/-- The address of a unit's RET register. -/
def retAddr (u : RetUnit) : Nat := pageBase (.memctl (unitPage u)) + (unitBit u).1
/-- The address of a unit's NOWAKE register. -/
def noWakeAddr (u : RetUnit) : Nat := retAddr u + (if (unitBit u).1 = 0x58 then 4 else 8)
/-- The unit's NOWAKE bit. -/
def State.noWake (s : State) (u : RetUnit) : Bool := bitAt (s.getReg (noWakeAddr u)) (unitBit u).2
/-- Every retention unit of R303. -/
def allUnits : List RetUnit :=
  (List.finRange 1024).map .eventBank ++ (List.finRange 256).map .patternBank ++ (List.finRange 16).map .clusterBank
    ++ [.houseBank, .secureBank, .channelMap]
/-- AWAKE: the unit serves accesses (R303, R312). -/
def State.awake (s : State) (u : RetUnit) : Bool := !(s.retained.contains u) && !(s.waking.contains u)
/-- The power a wake asks for, mW (R384). -/
def wakeMw : RetUnit → Nat
  | .eventBank _ => 20 | .patternBank _ => 30 | .clusterBank _ => 60 | .houseBank => 100 | .secureBank => 20 | .channelMap => 120

/-- A wake starts: the unit asks for power, its RET bit clears (R303, R393). A wake whose request can never fit leaves the unit
retained. -/
def State.wakeStart (s : State) (u : RetUnit) : State :=
  if s.retained.contains u then
    match s.askPermit (.wake u) (wakeMw u) 0 false with
    | (.refused, s) => s
    | (_, s) => { (s.modReg (retAddr u) (fun w => putBit w (unitBit u).2 false)) with
        retained := s.retained.erase u, waking := s.waking ++ [u] }
  else s

/-- A debugger is attached: DCTRL.ATTACH = 1 at LEVEL 1 or above; retention and intermission are then emulated (R394, R403). -/
def State.attached (s : State) : Bool := bitAt (s.getReg 0x007044) 0 && decide (1 ≤ s.dbg.level)

/-- The units of page `j` are under test (R301): every access but BIST's own gets an error response. BIST never covers the Secure
Bank; a unit that is retained, or that it has skipped, is not under test. -/
def State.underBist (s : State) (u : RetUnit) : Bool :=
  (match s.bists[unitPage u] with | some b => b.granted && !b.skipped.contains u | none => false) && u != .secureBank && s.awake u

/-- The engine behind an access, if it is one. -/
def Who.engine (w : Who) : Option (Fin 257) := engineNo w.eng
/-- The stream network, which serves the pipes and the ingress writers. -/
def streamWho : Who := { m := 21 }
/-- Two accesses are of the same maker. -/
def Who.same (a b : Who) : Bool := a.m == b.m && a.eng == b.eng && a.walk == b.walk

/-- An access reaches a unit (R303): under BIST, retained with NOWAKE, retained, waking, or served; those that waited for the wake are then
served. A Stagehand or scan access is served at once while a debugger is attached (R394). -/
def gateUnit (who : Who) (u : RetUnit) : MemM Unit := fun s =>
  if s.underBist u then .error .fault s
  else if who.dbg && s.attached then .ok () s
  else if s.retained.contains u then
    if s.noWake u then .error .fault (s.irq (.memctl (unitPage u)) 2) else .error (.wait (.wake u who)) s
  else if s.waking.contains u then .error (.wait (.waking u who)) s
  else .ok () { s with wakeFor := s.wakeFor.filter (fun x => !(x.1 == u && x.2.same who)) }

/-! ### Bytes and check codes -/

/-- What a byte of memory that nothing has written reads as (R444; log entry 2). -/
def memDefault : Nat → Byte := fun _ => 0
/-- The form of the memory list: addresses rising, no entry that an unlisted address reads as. -/
def Memory.wf (m : List Host.Cell) : Bool := spWf memDefault m
/-- The stored byte at a physical address. -/
def State.byteAt (s : State) (pa : Nat) : Byte := spGet memDefault s.mem pa
/-- Store a byte. -/
def State.setByte (s : State) (pa : Nat) (b : Byte) : State := { s with mem := spSet memDefault s.mem pa b }
/-- `n` stored bytes from a physical address. -/
def State.bytesAt (s : State) (pa n : Nat) : List Byte := (List.range n).map (fun i => s.byteAt (pa + i))
/-- Store bytes, those enabled. -/
def State.setBytes (s : State) (pa : Nat) : List (Option Byte) → State
  | [] => s
  | none :: rest => s.setBytes (pa + 1) rest
  | some b :: rest => (s.setByte pa b).setBytes (pa + 1) rest
/-- The check error of the word at an address: none, single, double. -/
def State.errAt (s : State) (w : Nat) : Option Bool := spGet (fun _ => none) s.memErr w
/-- Set the check error of a word. -/
def State.setErr (s : State) (w : Nat) (e : Option Bool) : State := { s with memErr := spSet (fun _ => none) s.memErr w e }

/-- The size of a checked word: 8 bytes in the Pattern Store and Channel Map, else 16 (R300). -/
def wordSize (r : Region) : Nat := match r with | .pattern | .chanmap => 8 | _ => 16
/-- The base addresses of the words that `n` bytes from `pa` touch. -/
def wordsOf (ws pa n : Nat) : List Nat :=
  if n = 0 then [] else (List.range ((pa + n - 1) / ws - pa / ws + 1)).map (fun i => (pa / ws + i) * ws)

/-- A word is read (R300): a single error is corrected, written back and counted; a double error is counted, recorded and fails. -/
def readWord (j : Fin 16) (w : Nat) : MemM Unit := fun s =>
  match s.errAt w with
  | none => .ok () s
  | some false => .ok () ((s.countIrq (.memctl j) 0x064 1).setErr w none)
  | some true => .error .fault ((s.countIrq (.memctl j) 0x068 0).setReg (pageBase (.memctl j) + 0x06C) (BitVec.ofNat 32 (w / 16)))

/-- A write to a reserved granule by another loses the reservation (R245). `except_`: the engine whose own STC writes. -/
def State.loseReservations (s : State) (granules : List Nat) (except_ : Option (Fin 257)) : State :=
  { s with engines := Vector.ofFn (fun e => let g := s.engines[e]
      match g.reserved with
      | some a => if granules.contains a && except_ != some e then { g with reserved := none } else g
      | none => g) }

/-- Master `m` reaches the two-port bank of an address on its port A: the bank's own cluster or the House engine (R298). -/
def onPortA (m pa : Nat) : Bool :=
  match regionOf pa with
  | some (.cluster c, _) => m == c.val
  | some (.house, _) => m == 16
  | _ => false

/-- A word of a unit is accessed: an Event Memory access uses its energy, but not one that reaches a unit in emulated retention (R391, R394). -/
def State.wordUse (s : State) (r : Region) (u : RetUnit) : State := if r = .em ∧ s.awake u then s.useData 118 1 else s

/-- Read `n` bytes in one region of memory: every word it touches is gated and checked. A word that overlaps a write on its bank's other
port reads as undefined data (R299). -/
def readRegion (who : Who) (r : Region) (pa off n : Nat) : MemM (List Byte) := do
  let ws := wordSize r
  (wordsOf ws pa n).forM (fun w => do
    match unitOf r (off - (pa - w) + (w - pa)) with
    | some u =>
      gateUnit who u
      modify (fun s => s.wordUse r u)
      readWord (unitPage u) w
    | none => pure ())
  let s ← get
  let hit := (wordsOf ws pa n).filter (fun w => s.clash.contains (w, onPortA who.m pa))
  if hit.isEmpty then return s.bytesAt pa n
  set { s with clash := s.clash.filter (fun w => !(hit.contains w.1 && w.2 == onPortA who.m pa)), freeIndex := s.freeIndex + n }
  return (List.range n).map (fun i => if hit.contains ((pa + i) / ws * ws) then freeByte (s.freeIndex + i) else s.byteAt (pa + i))

/-- Write bytes in one region of memory, word by word: a whole word gets fresh check bits, a partial write of a word with an
uncorrectable error is refused (R300). -/
def writeRegion (who : Who) (own : Option (Fin 257)) (r : Region) (pa off : Nat) (data : List (Option Byte)) : MemM Unit := do
  let ws := wordSize r
  (wordsOf ws pa data.length).forM (fun w => do
    match unitOf r (off - (pa - w) + (w - pa)) with
    | some u =>
      gateUnit who u
      modify (fun s => s.wordUse r u)
    | none => pure ()
    let lo := max w pa
    let part := (data.drop (lo - pa)).take (w + ws - lo)
    if part.any Option.isSome then
      let whole := part.length == ws && part.all Option.isSome
      let s ← get
      if !whole && s.errAt w == some true then throw .fault
      modify (fun s => ((if whole then s.setErr w none else s).setBytes lo part).loseReservations [w / 16] own))

/-- The bank with two ports that holds an address: the MEMCTL page that counts its BUSY responses, none for the staging area (R298, R312). -/
def twoPort (pa : Nat) : Option (Option (Fin 16)) :=
  match regionOf pa with
  | some (.cluster c, _) => some (some c)
  | some (.house, _) => some (some 0)
  | some (.staging _, _) => some none
  | _ => none

/-- What the block keeps of an access by crossbar master `m` to the word at `pa` and of the access it meets there: at an Event Memory bank the
master that waited counts in CONF, 21 for the stream network (R297, R312); at a local bank a collision counts in BUSYCNT, and a write
that meets a read makes that read's data undefined (R299). -/
def State.meets (s : State) (m pa : Nat) (write : Bool) (col : Collision) : State :=
  let busy := fun (p : Option (Fin 16)) => match p with | some p => s.countIrq (.memctl p) 0x070 3 | none => s
  match regionOf pa, twoPort pa, col with
  | some (.em, o), _, .otherReads later | some (.em, o), _, .otherWrites later =>
    s.incReg (pageBase (.memctl (Fin.ofNat 16 (emBank o / 64))) + 0x080 + 4 * (if later then m else 21))
  | _, some p, .otherReads _ =>
    let x := (pa / 16 * 16, !onPortA m pa)
    if write then { busy p with clash := x :: s.clash.erase x } else s
  | _, some p, .otherWrites _ => busy p
  | _, _, _ => s

/-! ### Host memory (R296, R426 to R428) -/

/-- One beat of a request on the outbound pair: `req_addr`, `req_nm1`, `req_tag`, `req_write`, the data with the bytes enabled, `req_last`
(R426, R427). -/
structure HostBeat where
  addr : BitVec 40
  nm1 : BitVec 6
  tag : Fin 32
  write : Bool
  data : List (Option Byte)
  last : Bool
  deriving DecidableEq, Repr

/-- The transfers of 32 bytes of a request, at least one. -/
def HostReq.transfers (q : HostReq) : Nat := max 1 (ceilDiv (q.addr % 32 + q.size) 32)
/-- The beats of a request: one for a read, one for each transfer of a write (R427). -/
def HostReq.beats (q : HostReq) : List HostBeat :=
  let line := List.replicate (q.addr % 32) none ++ q.data ++ List.replicate 32 none
  let n := q.transfers
  (List.range (if q.write then n else 1)).map (fun i => {
    addr := BitVec.ofNat 40 (q.addr / 32 * 32), nm1 := BitVec.ofNat 6 (n - 1), tag := q.tag, write := q.write,
    data := (line.drop (32 * i)).take 32, last := decide (i + 1 = n) || !q.write })

/-- A request to host memory: answered, it ends with its bytes and the error of each beat; else it waits for the host's response. A page walk
takes the answer to its own request alone (R287). -/
def hostTransfer (who : Who) (addr size : Nat) (write : Bool) (data : List (Option Byte)) : MemM (List Byte × List Bool) := fun s =>
  match takeFirst (fun q : HostReq =>
      q.who.same who && !q.orphan && q.addr == addr && q.size == size && q.write == write && q.data == data) s.hostReqs with
  | none => .error (.wait (.host who addr size write data)) s
  | some (q, rest) =>
    match q.answer with
    | none => .error (.wait .busy) s
    | some a => .ok a { s with hostReqs := rest }
/-- An access to host memory of one transfer; an error of the host is its error response (R428). -/
def hostAccess (who : Who) (addr size : Nat) (write : Bool) (data : List (Option Byte)) : MemM (List Byte) := do
  let (bytes, errs) ← hostTransfer who addr size write data
  if errs.any id then throw .fault
  return bytes

/-- A request to the host goes out with the lowest free tag, while fewer than 32 are outstanding (R427, R428). -/
def State.hostAsk (s : State) (who : Who) (addr size : Nat) (write : Bool) (data : List (Option Byte)) : State :=
  match (List.finRange 32).find? (fun t => s.hostReqs.all (fun q => q.tag != t)) with
  | none => s
  | some tag => { s with hostReqs := s.hostReqs ++ [{ tag, who, addr, size, write, data, answer := none }] }

/-- The maker of some requests has been reset, or has no more use for them: an answer that has come is dropped, one still to come is
discarded as it comes (R310). -/
def State.orphanReqs (s : State) (p : HostReq → Bool) : State :=
  { s with hostReqs := s.hostReqs.filterMap (fun q =>
      if !p q then some q else if q.answer.isSome then none else some { q with orphan := true }) }

/-- The request of a page walk for its next entry is of no more use. -/
def State.walkRead (s : State) (k : Walk) : State :=
  s.orphanReqs (fun q => q.who.eng == k.eng && q.who.walk == some (k.part, k.page))
/-- The walk of engine `e` for a page, in partition `part`. -/
def State.walkOf (s : State) (e part page : Nat) : Option Walk :=
  s.walks.find? (fun k => k.eng == e && k.part == part && k.page == page)
/-- A walk stands at the entry it reads next; the entry before it has been taken (R287). -/
def State.putWalk (s : State) (k : Walk) : State :=
  let s := match s.walkOf k.eng k.part k.page with
    | some o => if o.level < k.level then s.walkRead o else s
    | none => s
  { s with walks := s.walks.filter (fun o => !(o.eng == k.eng && o.part == k.part && o.page == k.page)) ++ [k] }

/-! ### Arbiters (R306) -/

/-- The single access of master `m` at target `t` passes the target's arbiter (R306): not the owner of a local bank on its port A (R298), not
the stream network at its own port, not a burst, which CROSSBAR_GRANT has granted. -/
def arbitrated (m t : Nat) : Bool := !(m == 17 || m == 19 || m == 21 || (m < 16 && t == m + 1) || (m == 16 && t == 17))
/-- The place of master `m` in target `t`'s cyclic order, from the one after the last granted (R306). -/
def State.cyclic (s : State) (m : Nat) (t : Fin 26) : Nat := (m + 21 - (s.lastGrant[t] + 1) % 21) % 21
/-- PRI[m][t]. -/
def State.pri (s : State) (m t : Nat) : Nat := fld (s.getReg (0x008100 + 0x10 * t + 4 * (m / 8))) (4 * (m % 8)) 4
/-- Where both wait at target `t`, master `m'` comes before master `m`: with a higher priority, or an equal one and the turn (R306). -/
def State.comesFirst (s : State) (m' m : Nat) (t : Fin 26) : Bool :=
  decide (s.pri m t.val < s.pri m' t.val) || (s.pri m' t.val == s.pri m t.val && decide (s.cyclic m' t < s.cyclic m t))
/-- A request is before master `m` at target `t`: a sub-burst that is being served, or a burst or single access that waits and comes first
(R306). -/
def State.outranked (s : State) (m : Nat) (t : Fin 26) : Bool :=
  s.bursts.any (fun b => b.t == t.val && !b.island && (decide (0 < b.granted) || s.comesFirst b.m m t)) ||
    s.singles.any (fun x => x.t == t.val && !x.granted && s.comesFirst x.m m t)
/-- A single access of master `m` can be served at target `t` now: the arbiter grants it, or has granted it (R306). -/
def State.grants (s : State) (m t : Nat) : Bool :=
  !s.outranked m (Fin.ofNat 26 t) || s.singles.contains { m, t, granted := true } || !arbitrated m t
/-- The single access that has been served, or is about to be: the arbiter remembers its master. -/
def State.grantSingle (s : State) (m t : Nat) : State :=
  { s with
    singles := s.singles.filter (fun x => !(x.m == m && x.t == t))
    lastGrant := if !arbitrated m t || s.singles.contains { m, t, granted := true } then s.lastGrant
      else s.lastGrant.set (Fin.ofNat 26 t) m }

/-! ### What a wait starts -/

/-- An access waits for a unit that wakes, which serves it before it can enter retention again (R303). -/
def State.waitsFor (s : State) (u : RetUnit) (who : Who) : State :=
  if s.waking.contains u ∧ s.wakeFor.all (fun x => !(x.1 == u && x.2.same who)) then { s with wakeFor := (u, who) :: s.wakeFor } else s

/-- A single access waits at a target's arbiter (R306). -/
def State.arbWaits (s : State) (m t : Nat) : State :=
  if s.singles.any (fun x => x.m == m && x.t == t) then s else { s with singles := s.singles ++ [{ m, t, granted := false }] }

/-- Start what an access waits for. -/
def State.settle (s : State) : Wait → State
  | .wake u who => (s.wakeStart u).waitsFor u who
  | .waking u who => s.waitsFor u who
  | .host who addr size write data => s.hostAsk who addr size write data
  | .arb m t => s.arbWaits m t
  | .island e w => { s.grantSingle (clusterOf e).val 24 with islandQ := s.islandQ ++ [w] }.modEng e (fun g => { g with sbuf := match g.sbuf with
      | x :: r => { x with island := true } :: r
      | [] => [] })
  | .busy => s
  | .walk k w => (s.putWalk k).settle w

/-! ### Accesses by crossbar masters -/

/-- The refusals of R295, R296 and R305 for an access that is no register access: the region, or a decode error. -/
def checkAccess (w : Who) (pa : Nat) (write : Bool) : MemM (Region × Nat) := fun s =>
  match regionOf pa with
  | none => .error .fault (s.decErr w.m 31 pa)
  | some (r, off) =>
    let bad : Bool := !hasPath w.m r.target || (match r with
      | .secure => !(w.m == 16 && w.hm) | .pattern | .chanmap | .staging _ => write | .rom => w.m != 16 || write
      | .rings | .pages => true | _ => false)
    if bad then .error .fault (s.decErr w.m r.target pa)
    else if r = .secure ∧ s.wiping then .error .fault s
    else .ok (r, off) s

/-- The arbiter of target `t` grants a single access of master `m`, or the access waits for what comes before it. -/
def arbGate (m t : Nat) : MemM Unit := fun s =>
  if s.grants m t then .ok () (s.grantSingle m t) else .error (.wait (.arb m t)) s

/-- Read `n` bytes that lie in one region (R296). An uncorrectable word of the boot ROM or of the staging area is an error response (R300).
The layout of a receive buffer in the staging area is not given: its bytes are undefined data (log entry 25). -/
def memRead (w : Who) (pa n : Nat) : MemM (List Byte) := do
  let (r, off) ← checkAccess w pa false
  arbGate w.m r.target
  let s ← get
  match r with
  | .host => hostAccess w off n false []
  | .rom =>
    if (wordsOf 16 pa n).any (fun x => s.errAt x == some true) then throw .fault
    return (List.range n).map (fun i => Config.bootRom (off + i))
  | .staging _ =>
    if (wordsOf 16 pa n).any (fun x => s.errAt x == some true) then throw .fault
    set (s.drew n)
    return (List.range n).map (fun i => freeByte (s.freeIndex + i))
  | r => readRegion w r pa off n

/-- Write bytes that lie in one region (R296). -/
def memWrite (w : Who) (pa : Nat) (data : List (Option Byte)) : MemM Unit := do
  let (r, off) ← checkAccess w pa true
  arbGate w.m r.target
  match r with
  | .host => let _ ← hostAccess w off data.length true data; return ()
  | r => writeRegion w none r pa off data

/-- Catch an error response; a wait passes on. -/
def memTry {α : Type} (m : MemM α) : MemM (Option α) := fun s =>
  match m s with
  | .ok a s' => .ok (some a) s'
  | .error .fault s' => .ok none s'
  | .error (.wait w) s' => .error (.wait w) s'

/-- Run an access as a command does: on success, on an error response, or, where it waits, only what it waits for starts. -/
def State.access {α : Type} (s : State) (m : MemM α) (ok : α → State → State) (bad : State → State) : State :=
  match m s with
  | .ok a s' => ok a s'
  | .error .fault s' => bad s'
  | .error (.wait w) _ => s.settle w

end Sys2Proof.Machine
end

