-- ==== Sys2Proof/Machine/Rings.lean ====
section
/-!
DEFINITION. The ring table (R61 to R63): descriptors, RESERVE, COMMIT, POP, RELEASE, shedding (R65), the hardware producers and
consumers (R62).
-/
namespace Sys2Proof.Machine

/-! ### Descriptors -/

/-- CTRL of ring `r`. -/
def State.ringCtrl (s : State) (r : Nat) : Word := s.getReg (ringBase r + 0x08)
/-- CTRL.EN. -/
def State.ringEn (s : State) (r : Nat) : Bool := bitAt (s.ringCtrl r) 31
/-- CTRL.CLASS. -/
def State.ringClass (s : State) (r : Nat) : Nat := fld (s.ringCtrl r) 24 4
/-- CTRL.OWNER: the owning engine, if one (R61). -/
def State.ringOwner (s : State) (r : Nat) : Option (Fin 257) := engineNo (fld (s.ringCtrl r) 8 9)
/-- CTRL.ESIZE. -/
def State.ringEsize (s : State) (r : Nat) : Nat := fld (s.ringCtrl r) 6 2
/-- Entry size in bytes. -/
def State.ringBytes (s : State) (r : Nat) : Nat := 16 * 2 ^ s.ringEsize r
/-- The number of entries, 2^LOG2N. -/
def State.ringSlots (s : State) (r : Nat) : Nat := 2 ^ fld (s.ringCtrl r) 0 5
/-- RSTAT.MEMERR. -/
def State.ringMemErr (s : State) (r : Nat) : Bool := bitAt (s.getReg (ringBase r + 0x24)) 1
/-- No reserved CLASS, ESIZE or LOG2N (R61). -/
def State.ringLegal (s : State) (r : Nat) : Bool :=
  (decide (r < 8192) || decide (s.ringClass r ≤ 2)) && s.ringEsize r != 3 && decide (fld (s.ringCtrl r) 0 5 ≤ 16)
/-- The base address of the entries. -/
def State.ringMem (s : State) (r : Nat) : Nat := s.regN (ringBase r) + 2 ^ 32 * s.regN (ringBase r + 0x04)
/-- The address of entry `k`: BASE + (k mod 2^LOG2N) × ESIZE (R62), modulo the address space. -/
def State.entryAddr (s : State) (r : Nat) (k : Word) : Nat := (s.ringMem r + k.toNat % s.ringSlots r * s.ringBytes r) % 2 ^ 40

/-- The free-running counts. -/
def State.ringHead (s : State) (r : Nat) : Word := s.getReg (ringBase r + 0x0C)
/-- TAIL. -/
def State.ringTail (s : State) (r : Nat) : Word := s.getReg (ringBase r + 0x10)
/-- RSV. -/
def State.ringRsv (s : State) (r : Nat) : Word := s.getReg (ringBase r + 0x14)
/-- REL. -/
def State.ringRelCount (s : State) (r : Nat) : Word := s.getReg (ringBase r + 0x30)

/-- Counts committed beyond TAIL. -/
def State.ahead (s : State) (r : Nat) : List Word := spGet (fun _ => []) s.ringAhead r
/-- Set the counts committed beyond TAIL. -/
def State.setAhead (s : State) (r : Nat) (l : List Word) : State := { s with ringAhead := spSet (fun _ => []) s.ringAhead r l }
/-- Counts released beyond REL. -/
def State.relAhead (s : State) (r : Nat) : List Word := spGet (fun _ => []) s.ringRel r
/-- Set the counts released beyond REL. -/
def State.setRelAhead (s : State) (r : Nat) (l : List Word) : State := { s with ringRel := spSet (fun _ => []) s.ringRel r l }

/-- `k` lies in the half-open run of counts from `a` to `b`, modulo 2^32. -/
def countIn (a b k : Word) : Bool := decide ((k - a).toNat < (b - a).toNat)

/-- The entries reserved and not released: RSV − REL. -/
def State.ringUsed (s : State) (r : Nat) : Nat := (s.ringRsv r - s.ringRelCount r).toNat
/-- The ring is full (R62). -/
def State.ringFull (s : State) (r : Nat) : Bool := decide (s.ringSlots r ≤ s.ringUsed r)
/-- Reservations not committed. -/
def State.uncommitted (s : State) (r : Nat) : Nat := (s.ringRsv r - s.ringTail r).toNat - (s.ahead r).length

/-! ### The operations of R62 -/

/-- CTRL.EN clears: outstanding reservations are discarded (R61). -/
def State.ringClearEn (s : State) (r : Nat) : State :=
  (((s.modReg (ringBase r + 0x08) (fun w => putBit w 31 false)).setReg (ringBase r + 0x14) (s.ringTail r)).setAhead r [])

/-- A slot that is READY and that no stream holds is FREE (R58). -/
def Frames.freeSlots (fr : Frames) : Frames :=
  { fr with slots := fr.slots.filter (fun p => !(p.2.ready && p.2.holds.isEmpty && !(p.2.frame == fr.oldest))) }
/-- A stream's hold on a frame's slot ends. -/
def Frames.dropHold (fr : Frames) (f st : Nat) : Frames :=
  Frames.freeSlots { fr with
    slots := fr.slots.map (fun p => if p.2.frame = f then (p.1, { p.2 with holds := p.2.holds.filter (fun h => h.1 ≠ st) }) else p) }
/-- The frame-ready entries of a ring whose counts start again are gone: they leave READY and their holds end (DESIGN CHOICE, log entry
114: R58 and R61 say nothing of them). -/
def Frames.forget (fr : Frames) (r : Nat) : Frames :=
  (fr.entries.filter (fun e => e.ring == r)).foldl (fun fr e => ({ fr with entries := fr.entries.erase e } : Frames).dropHold e.frame e.stream) fr

/-- CTRL.EN sets: the four counts are 0 (R61). -/
def State.ringSetEn (s : State) (r : Nat) : State :=
  let s := (s.modFrames (fun fr => fr.forget r)).modReg (ringBase r + 0x08) (fun w => putBit w 31 true)
  (((((s.setReg (ringBase r + 0x0C) 0).setReg (ringBase r + 0x10) 0).setReg (ringBase r + 0x14) 0).setReg
    (ringBase r + 0x30) 0).setAhead r []).setRelAhead r []

/-- MEMERR: the ring cannot be used by its hardware producer; MEMERR sets and EN clears (R62). -/
def State.ringFail (s : State) (r : Nat) : State := (s.orReg (ringBase r + 0x24) 0x2).ringClearEn r

/-- RESERVE, without its effect: the count it would return (R62, R409). -/
def State.reservePeek (s : State) (r : Nat) : Option Word :=
  if s.ringEn r && s.ringLegal r && !s.ringFull r && decide (s.uncommitted r < 64) then some (s.ringRsv r) else none

/-- A read of RESERVE: the count, or none and, for lack of room, FULLCNT counts (R61, R62). -/
def State.ringReserve (s : State) (r : Nat) : Option Word × State :=
  match s.reservePeek r with
  | some k => (some k, s.setReg (ringBase r + 0x14) (k + 1))
  | none => (none, if s.ringEn r && s.ringLegal r then s.incReg (ringBase r + 0x28) else s)

/-- Advance over the run of counts of a list that starts at `k`; `fuel` bounds it by the list's length. -/
def runOver : Nat → List Word → Word → List Word × Word
  | 0, l, k => (l, k)
  | n + 1, l, k => if l.contains k then runOver n (l.erase k) (k + 1) else (l, k)

/-- TAIL advances over the committed run; if it advances, the owner receives its ring event, EVL[0] (R62, R177). -/
def State.advanceTail (s : State) (r : Nat) : State :=
  let (l, k) := runOver (s.ahead r).length (s.ahead r) (s.ringTail r)
  if k = s.ringTail r then s
  else
    let s := (s.setAhead r l).setReg (ringBase r + 0x10) k
    match s.ringOwner r with
    | some e => s.setEvl e 0
    | none => s

/-- A write of COMMIT: a reserved count not yet committed is committed; any other sets BADCOMMIT (R62). -/
def State.ringCommit (s : State) (r : Nat) (k : Word) : State :=
  if countIn (s.ringTail r) (s.ringRsv r) k && !(s.ahead r).contains k then (s.setAhead r (k :: s.ahead r)).advanceTail r
  else s.orReg (ringBase r + 0x24) 0x1

/-- POP, without its effect: HEAD when the ring operates and holds an entry; a command ring is popped by no one (R61, R70, R409). -/
def State.popPeek (s : State) (r : Nat) : Option Word :=
  if decide (4096 ≤ r) && s.ringEn r && s.ringLegal r && s.ringHead r != s.ringTail r then some (s.ringHead r) else none

/-- A frame-ready entry that is popped makes its stream's hold on the slot TAKEN and leaves READY (R58). -/
def takeHold (f : Frames) (r : Nat) (k : Word) : Frames :=
  match takeFirst (fun e : ReadyEntry => e.ring == r && e.k == k) f.entries with
  | none => f
  | some (e, rest) =>
    { f with
      entries := rest,
      slots := f.slots.map (fun p => if p.2.frame = e.frame then
        (p.1, { p.2 with holds := p.2.holds.map (fun h => if h.1 = e.stream then (h.1, true) else h) }) else p) }

/-- A read of POP: HEAD, which advances; none when empty, with EMPTYPOP, or when the ring does not operate (R61, R62). -/
def State.ringPop (s : State) (r : Nat) : Option Word × State :=
  match s.popPeek r with
  | some k => (some k, (s.setReg (ringBase r + 0x0C) (k + 1)).modFrames (fun f => takeHold f r k))
  | none => (none, if decide (4096 ≤ r) && s.ringEn r && s.ringLegal r then s.orReg (ringBase r + 0x24) 0x4 else s)

/-- Count an entry as released; REL advances over the released run (R62). -/
def State.ringReleased (s : State) (r : Nat) (k : Word) : State :=
  let l0 := k :: s.relAhead r
  let (l, k') := runOver l0.length l0 (s.ringRelCount r)
  (s.setRelAhead r l).setReg (ringBase r + 0x30) k'

/-- A write of RELEASE: a popped count not yet released is released; any other sets BADREL (R62). -/
def State.ringRelease (s : State) (r : Nat) (k : Word) : State :=
  if countIn (s.ringRelCount r) (s.ringHead r) k && !(s.relAhead r).contains k then s.ringReleased r k
  else s.orReg (ringBase r + 0x24) 0x8

/-! ### Hardware producers and consumers -/

/-- The stream-network gateway, crossbar master 20 (R305). -/
def gateway : Who := { m := 20 }

/-- What a hardware producer meets: done with its count, full, not usable, or the ring went to MEMERR. -/
inductive Put where
  | done (k : Word)
  | full
  | unusable
  | failed
  deriving DecidableEq, Repr

/-- One entry is placed on a ring: reserve, write, commit (R62). A ring with EN = 0 or with a reserved CLASS, ESIZE or LOG2N is not usable;
an entry that cannot be written sends the ring to MEMERR. -/
def ringPutBy (who : Who) (r : Nat) (bytes : List Byte) : MemM Put := do
  let s ← get
  if !s.ringEn r || !s.ringLegal r then return .unusable
  match s.reservePeek r with
  | none => return .full
  | some k =>
    set (s.setReg (ringBase r + 0x14) (k + 1))
    match ← memTry (memWrite who (s.entryAddr r k) (bytes.map some)) with
    | none =>
      modify (fun s => s.ringFail r)
      return .failed
    | some () =>
      modify (fun s => s.ringCommit r k)
      return .done k

/-- A hardware producer on the stream network. A ring with MEMERR set is not usable to it, also one that software has enabled again (DESIGN
CHOICE for a completion ring, log entry 114: R94 both discards on MEMERR and lets a ring that meets its conditions again receive records). -/
def ringPut (r : Nat) (bytes : List Byte) : MemM Put := do
  let s ← get
  if s.ringMemErr r then return .unusable
  ringPutBy gateway r bytes

/-- A hardware consumer reads entry `k` of a ring. -/
def ringRead (r : Nat) (k : Word) : MemM (List Byte) := do
  let s ← get
  memRead gateway (s.entryAddr r k) (s.ringBytes r)

/-- Read `n` entries from `k`, joined. -/
def ringReadAll (r : Nat) (k : Word) : Nat → MemM (List Byte)
  | 0 => return []
  | n + 1 => do
    let a ← ringRead r k
    let b ← ringReadAll r (k + 1) n
    return a ++ b

/-- A hardware consumer pops and releases `n` entries from `k` (R62). -/
def State.ringConsume (s : State) (r : Nat) (k : Word) : Nat → State
  | 0 => s
  | n + 1 => (((s.setReg (ringBase r + 0x0C) (k + 1)).ringReleased r k)).ringConsume r (k + 1) n

end Sys2Proof.Machine
end

