-- ==== Sys2Proof/Machine/Windows.lean ====
section
/-!
DEFINITION. Window registers (R280) and key rights (R289), used by engine accesses and by vector streams.
-/
namespace Sys2Proof.Machine

/-- A window that takes part in matching: virtual range [lo, lo + size), physical start, key, type, rights. -/
structure Win where
  lo : Nat
  size : Nat
  pa : Nat
  key : Nat
  typ : Nat
  x : Bool
  w : Bool
  r : Bool
  deriving DecidableEq, Repr

/-- Word `f` of window `w` of engine `e`. -/
def State.winWord (s : State) (e : Fin 257) (w f : Nat) : Word := s.getReg (pageBase (enginePage e) + 0x100 + 0x10 * w + 4 * f)

/-- The window that four words describe, unless it never matches: EN = 0, SIZE 0 or above 2^24, or a bound beyond 2^40 (R280). -/
def windowOf (word : Nat → Word) : Option Win :=
  let vb := fld (word 0) 0 24
  let sz := fld (word 1) 0 25
  let pb := fld (word 2) 0 24
  let a := word 3
  if bitAt a 31 ∧ sz ≠ 0 ∧ sz ≤ 2 ^ 24 ∧ vb + sz ≤ 2 ^ 24 ∧ pb + sz ≤ 2 ^ 24 then
    some { lo := vb * 65536, size := sz * 65536, pa := pb * 65536, key := fld a 8 4, typ := fld a 4 2,
           x := bitAt a 2, w := bitAt a 1, r := bitAt a 0 }
  else none

/-- Window `w` of engine `e`, as cues take it at issue (R73). -/
def State.window (s : State) (e : Fin 257) (w : Nat) : Option Win := windowOf (s.winWord e w)

/-- The lowest-numbered window that contains a virtual address. -/
def State.windowFor (s : State) (e : Fin 257) (va : Nat) : Option Win :=
  ((List.range 8).filterMap (s.window e)).find? (fun w => decide (w.lo ≤ va ∧ va < w.lo + w.size))

/-- The kinds of access by the right they need. -/
inductive Right where
  | execute | read | write
  deriving DecidableEq, Repr

/-- KRIGHTS grants an access under a key (R289). -/
def keyGrants (krights : Word) (key : Nat) (k : Right) : Bool :=
  match k, fld krights (2 * key) 2 with
  | .read, c => c != 0
  | .execute, c => c == 2
  | .write, c => c == 3

/-- A right among X, W, R. -/
def hasRight (x w r : Bool) : Right → Bool
  | .execute => x | .write => w | .read => r

end Sys2Proof.Machine
end

