-- ==== Sys2Proof/Machine/Cue.lean ====
section
/-!
DEFINITION. Cues: the record and its streams (R74 to R77), the checks at issue (R72, R77 to R80, R91, R94, R103 to R106, R120), issue
(R71, R72, R448), the wait for pipes and for power (R449, R99), completion records (R94, R95).
-/
namespace Sys2Proof.Machine

/-! ### The record (R74, R75) -/

/-- CTRL. -/
def Member.ctrl (m : Member) : Word := m.words.getD 0 0
/-- COUNT. -/
def Member.cnt (m : Member) : Word := m.words.getD 1 0
/-- UNITS. -/
def Member.units (m : Member) : Word := m.words.getD 2 0
/-- TAG. -/
def Member.tag (m : Member) : Word := m.words.getD 3 0
/-- FUSE: 0 solo, 1 head, 2 middle, 3 tail. -/
def Member.fuse (m : Member) : Nat := fld m.ctrl 30 2
/-- N. -/
def Member.n (m : Member) : Nat := fld m.cnt 0 20
/-- LANEL. -/
def Member.lanel (m : Member) : Nat := fld m.cnt 20 3
/-- L, the lanes. -/
def Member.lanes (m : Member) : Nat := 64 >>> m.lanel
/-- PROG. -/
def Member.prog (m : Member) : Nat := fld m.ctrl 24 4
/-- CRING. -/
def Member.cring (m : Member) : Nat := fld m.ctrl 0 14
/-- The code of unit u. -/
def Member.op (m : Member) (u : Nat) : Nat := fld m.units (8 * u) 8
/-- OPT. -/
def Member.opt (m : Member) : Nat := fld m.units 24 8
/-- OPT.RM. -/
def Member.rm (m : Member) : Nat := m.opt / 32 % 4
/-- OPT.NSAT. -/
def Member.nsat (m : Member) : Bool := decide (128 ≤ m.opt)
/-- OPT.PARAM. -/
def Member.param (m : Member) : Nat := m.opt % 16
/-- OPT[4:0] of a whole-vector operation. -/
def Member.param5 (m : Member) : Nat := m.opt % 32
/-- The elements per step (R68): by D's type, or the passed type. -/
def Member.perStep (m : Member) : Nat := etPerStep m.lanes m.out
/-- U0 holds a whole-vector operation. -/
def Member.whole (m : Member) : Bool := decide (0x80 ≤ m.op 0 ∧ m.op 0 ≤ 0x85)
/-- The unit that holds a scan operation. -/
def Member.scanUnit (m : Member) : Option Nat := [0, 1, 2].find? (fun u => decide (0x70 ≤ m.op u ∧ m.op u ≤ 0x77))

/-- A stream descriptor. -/
structure Desc where
  base : Nat
  etype : Nat
  mode : Nat
  fill : Bool
  param : Nat
  deriving DecidableEq, Repr

/-- The descriptor of stream k: A, B, C, D are 0 to 3. -/
def Member.desc (m : Member) (k : Nat) : Desc :=
  let w := fun i => (m.words.getD (4 + 3 * k + i) 0).toNat
  { base := w 0 + (w 1 % 256) * 2 ^ 32, etype := w 1 / 256 % 16, mode := w 1 / 4096 % 8, fill := w 1 / 32768 % 2 == 1,
    param := w 1 / 65536 + w 2 * 65536 }

/-- STRIDE of LINEAR. -/
def Desc.stride (d : Desc) : Int := (BitVec.ofNat 32 d.param).toInt
/-- MODLEN of MODULO. -/
def Desc.modlen (d : Desc) : Nat := d.param % 2 ^ 20
/-- PHASE of MODULO. -/
def Desc.phase (d : Desc) : Nat := d.param / 2 ^ 20 % 2 ^ 20
/-- STEP of MODULO. -/
def Desc.step (d : Desc) : Int := (BitVec.ofNat 4 (d.param / 2 ^ 40)).toInt
/-- NB of BITREV. -/
def Desc.nb (d : Desc) : Nat := d.param % 32
/-- IBASE of GATHER. -/
def Desc.ibase (d : Desc) : Nat := d.param % 2 ^ 40
/-- ITYPE of GATHER. -/
def Desc.itype (d : Desc) : Nat := d.param / 2 ^ 40 % 4
/-- The index size of GATHER in bytes. -/
def Desc.isize (d : Desc) : Nat := 2 ^ d.itype

/-- The virtual address of element i of a stream that forms its own addresses (R77). -/
def Desc.addr (d : Desc) (i : Nat) : Int :=
  let sz : Int := etSize d.etype
  match d.mode with
  | 1 => if d.etype = 8 then d.base + (i / 8 : Nat) else d.base + i * d.stride * sz
  | 2 => d.base + ((d.phase + i * d.step) % d.modlen) * sz
  | _ => d.base + (revBits d.nb (i % 2 ^ d.nb) + 2 ^ d.nb * (i / 2 ^ d.nb) : Nat) * sz

/-! ### The encoding check (R77, R103 to R106, R120) -/

/-- The fields of a stream in use are legal. -/
def Desc.ok (d : Desc) : Bool :=
  decide (d.etype ≤ 8) && decide (d.mode ≤ 5) && (d.etype != 8 || (d.mode == 1 && d.stride == 1)) &&
  (d.mode == 5 || d.etype == 8 || d.base % etSize d.etype == 0) &&
  (match d.mode with
    | 2 => d.modlen != 0 && decide (d.phase < d.modlen)
    | 3 => d.nb != 0 && decide (d.nb ≤ 20)
    | 4 => d.itype != 3 && d.ibase % d.isize == 0
    | _ => true)

/-- The value of a SCALAR stream: BASE[31:0] truncated to its type. -/
def Desc.scalar (d : Desc) : Word := BitVec.ofNat 32 (d.base % 2 ^ etWidth d.etype)

/-- A linear stream of stride 1. -/
def Desc.linear1 (d : Desc) : Bool := d.mode == 1 && d.stride == 1

/-- The operand requirements of a whole-vector operation are met (R106, R119, R120). -/
def Member.wholeOk (m : Member) : Bool :=
  let a := m.desc 0
  let b := m.desc 1
  let c := m.desc 2
  let d := m.desc 3
  let p := m.param5
  let idxD := etInt d.etype
  m.fuse == 0 && m.op 1 == 0 && m.op 2 == 0 && !d.fill && d.linear1 &&
  (match m.op 0 with
    | 0x80 => decide (m.n ≤ 4096) && p % 4 != 3 && (p % 4 != 2 || (b.mode != 0 && b.etype == d.etype)) && (p % 4 != 1 || idxD)
    | 0x81 => c.mode == 5 && decide (1 ≤ c.scalar.toNat ∧ c.scalar.toNat ≤ 256) && p % 4 != 3 &&
        (p % 4 != 2 || b.mode != 0) && (p % 4 != 1 || idxD)
    | 0x82 => c.mode == 5 && decide (1 ≤ c.scalar.toNat ∧ c.scalar.toNat ≤ 4096) && d.etype == 4
    | 0x83 => (c.mode == 5 || c.mode == 0) && (p / 2 % 2 == 0 || idxD)
    | 0x84 => c.mode == 5 || c.mode == 0
    | _ =>
      let e := p % 16
      decide (1 ≤ e ∧ e ≤ 12) && a.mode == 3 && a.nb == e && (b.mode == 0 || (b.mode == 3 && b.nb == e)) && etFloat d.etype &&
        m.n % 2 ^ e == 0)

/-- B's elements are copied, not converted: the payload of SORT and TOPK. -/
def Member.payload (m : Member) : Bool := (m.op 0 == 0x80 || m.op 0 == 0x81) && m.param5 % 4 == 2

/-- The cue passes the encoding check of R72 step 2, its place in a chain apart. -/
def Member.encOk (m : Member) : Bool :=
  let t := m.wt
  let d := m.desc 3
  let head := decide (m.fuse < 2)
  let tail := m.fuse == 0 || m.fuse == 3
  let srcs := (if head then [0] else []) ++ [1, 2]
  decide (m.prog < 12) && decide (m.lanel < 4) && m.n != 0 && decide (t ≤ 8) &&
  (srcs ++ (if tail then [3] else [])).all (fun k => (m.desc k).mode == 0 || (m.desc k).ok) &&
  (!tail || (d.mode != 5 && !(d.fill && d.mode == 0))) &&
  (tail || decide (d.etype ≤ 8)) &&
  decide (countIf (fun k => (m.desc k).fill && (m.desc k).mode != 0) srcs ≤ 1) &&
  (etWidth t != 32 || (tail && d.mode == 0) || etWidth m.out == 32) &&
  [1, 2].all (fun k => (m.desc k).mode == 0 || etFloat t || !etFloat (m.desc k).etype || (k == 1 && m.payload)) &&
  [0, 1, 2].all (fun u => (opWeight (m.op u)).isSome && opAllows (m.op u) t && (u == 0 || decide (m.op u < 0x80))) &&
  decide (countIf (fun u => decide (0x70 ≤ m.op u ∧ m.op u ≤ 0x77)) [0, 1, 2] ≤ 1) &&
  (!m.whole || m.wholeOk)

/-! ### Windows at issue (R78 to R80) -/

/-- The number of D's elements (R120); for COMPRESS with NOFILL the largest it can be. -/
def Member.nD (m : Member) : Nat :=
  match m.op 0 with
  | 0x81 | 0x82 => (m.desc 2).scalar.toNat
  | 0x85 => 2 * m.n
  | _ => m.n

/-- The extent of a stream of `n` elements, its target apart from a GATHER's: [lo, hi) (R78). -/
def Desc.extent (d : Desc) (n : Nat) : Int × Int :=
  let sz : Int := etSize d.etype
  match d.mode with
  | 1 =>
    if d.etype = 8 then (d.base, d.base + ceilDiv n 8)
    else (d.base + min 0 ((n - 1) * d.stride) * sz, d.base + max 0 ((n - 1) * d.stride) * sz + sz)
  | 2 => (d.base, d.base + d.modlen * sz)
  | 3 => (d.base, d.base + (2 ^ d.nb * ceilDiv n (2 ^ d.nb) : Nat) * sz)
  | _ => (d.ibase, d.ibase + n * d.isize)

/-- A failure at issue: code, stream, address. -/
abbrev IssueErr := Nat × Nat × Nat

/-- An address for FADDR; a negative one modulo 2^40 (DESIGN CHOICE, log entry 127). -/
def faddr (v : Int) : Nat := (v % 2 ^ 40).toNat

/-- An extent lies in one window and in Event Memory, and the window and its key grant it (R79). -/
def State.fitWindow (s : State) (e : Fin 257) (k : Nat) (right : Right) (lo hi : Int) : Except IssueErr CueWindow :=
  if lo < 0 ∨ 2 ^ 40 < hi then .error (2, k, faddr lo)
  else match s.windowFor e lo.toNat with
    | none => .error (2, k, faddr lo)
    | some w =>
      let pa := w.pa + (lo.toNat - w.lo)
      if w.lo + w.size < hi.toNat ∨ 0x08000000 < pa + (hi.toNat - lo.toNat) then .error (2, k, faddr lo)
      else if !hasRight w.x w.w w.r right || !keyGrants (s.eng e).krights w.key right then .error (3, k, faddr lo)
      else .ok { lo := w.lo, hi := w.lo + w.size, pa := w.pa }

/-- The windows of one stream: its extent or its GATHER index extent, then a GATHER's target window (R80). A target has no extent, and
a failure of its window reports BASE (DESIGN CHOICE, log entry 127). -/
def State.streamWindows (s : State) (e : Fin 257) (m : Member) (k : Nat) : Except IssueErr (Option CueWindow × Option CueWindow) :=
  let d := m.desc k
  let right : Right := if k = 3 then .write else .read
  if d.mode = 0 ∨ d.mode = 5 then .ok (none, none)
  else
    let (lo, hi) := d.extent (if k = 3 ∧ m.whole then m.nD else m.n)
    if d.mode = 4 then
      match s.fitWindow e k .read lo hi with
      | .error x => .error x
      | .ok iw =>
        match s.windowFor e d.base with
        | none => .error (2, k, d.base)
        | some w =>
          if !hasRight w.x w.w w.r right || !keyGrants (s.eng e).krights w.key right then .error (3, k, d.base)
          else .ok (some { lo := w.lo, hi := w.lo + w.size, pa := w.pa }, some iw)
    else match s.fitWindow e k right lo hi with
      | .error x => .error x
      | .ok w => .ok (some w, none)

/-- Check streams in the order A, B, C, D; collect their windows. -/
def State.allWindows (s : State) (e : Fin 257) (m : Member) : List Nat → Except IssueErr (List (Nat × Option CueWindow))
  | [] => .ok []
  | k :: rest =>
    match s.streamWindows e m k with
    | .error x => .error x
    | .ok (w, iw) =>
      match s.allWindows e m rest with
      | .error x => .error x
      | .ok l => .ok ((k, w) :: (k + 4, iw) :: l)

/-- The streams of a member that are memory streams of its own: A in a solo or head, D in a solo or tail (R90). -/
def Member.ownStreams (m : Member) : List Nat :=
  (if m.fuse < 2 then [0] else []) ++ [1, 2] ++ (if m.fuse = 0 ∨ m.fuse = 3 then [3] else [])

/-! ### Completion records (R94, R95) -/

/-- A completion ring meets the conditions of R94 for engine `e`. -/
def State.cringOk (s : State) (r e : Nat) : Bool :=
  s.ringEn r && s.ringClass r == 2 && s.ringEsize r == 1 && fld (s.ringCtrl r) 8 9 == e

/-- PIPE 8g's address. -/
def groupAddr (g : Fin 8) (off : Nat) : Nat := 0x340000 + 0x8000 * g.val + off
/-- PIPE 8g. -/
def groupPage (g : Fin 8) : Page := .pipe ⟨8 * g.val, by omega⟩
/-- The group of a pipe. -/
def groupOf (p : Fin 64) : Fin 8 := ⟨p.val / 8, by omega⟩

/-- The fields of a completion record. -/
structure RecF where
  final : Bool
  pipe : Nat := 0
  code : Nat
  fstream : Nat := 0
  faddr : Nat := 0
  cclass : Nat
  flags : Flags := 0
  done : Nat := 0
  result : Word64
  deriving DecidableEq, Repr

/-- The 32 bytes of a completion record (R95). FUSED is 1 for a middle or tail without a head too (DESIGN CHOICE, log entry 127). -/
def recBytes (g : Fin 8) (ring : Nat) (m : Member) (f : RecF) : List Byte :=
  bytesLE 4 m.tag.toNat ++
  bytesLE 4 (b2n f.final * 2 ^ 31 + b2n (m.fuse != 0) * 2 ^ 30 + f.pipe * 2 ^ 27 + g.val * 2 ^ 24 + f.code * 2 ^ 16 + f.fstream * 2 ^ 14 +
    f.cclass % 64 * 2 ^ 8 + f.flags.toNat) ++
  bytesLE 4 (f.done % 2 ^ 20) ++ bytesLE 4 (f.faddr % 2 ^ 32) ++ bytesLE 4 (f.faddr / 2 ^ 32 % 256) ++
  bytesLE 4 (m.k.toNat % 65536 + ring * 65536) ++ bytesLE 8 f.result.toNat

/-- RESULT of a cue that has completed nothing (R108). -/
def Member.result0 (m : Member) : Word64 := if m.whole || m.scanUnit.isSome then 0 else 0xFFFFFFFF00000000

/-- A write of a record: written, discarded and counted in GDROP, or its ring is full. -/
def recPut (g : Fin 8) (eng cring : Nat) (bytes : List Byte) : MemM Bool := do
  let s ← get
  if !s.cringOk cring eng then
    set (s.incReg (groupAddr g 0x110))
    return true
  match ← ringPut cring bytes with
  | .done _ => return true
  | .full => return false
  | _ =>
    modify (fun s => s.incReg (groupAddr g 0x110))
    return true

/-- A final record of a cue that has no pipe: written, or waiting in the group for room. -/
def recOrWait (g : Fin 8) (ring eng cring : Nat) (bytes : List Byte) : MemM Unit := do
  if !(← recPut g eng cring bytes) then
    modify (fun s => s.modGroup g (fun gr => { gr with recs := gr.recs ++ [{ ring, eng, cring, bytes }] }))

/-- Write the waiting records of a group that can be written. -/
def flushRecs (g : Fin 8) : List PendRec → MemM Unit
  | [] => return ()
  | r :: rest => do
    if ← recPut g r.eng r.cring r.bytes then
      modify (fun s => s.modGroup g (fun gr => { gr with recs := gr.recs.erase r }))
    flushRecs g rest

/-! ### Issue (R71, R72, R91, R448) -/

/-- Ring index parts: the engine, the group, whether urgent (R69). -/
def cueEngine (r : Nat) : Fin 257 := Fin.ofNat 257 (r / 16)
/-- The pipe group of a command ring. -/
def cueGroup (r : Nat) : Fin 8 := Fin.ofNat 8 (r / 2)
/-- An urgent ring. -/
def cueUrgent (r : Nat) : Bool := r % 2 == 1

/-- FUSE of the entry with count `k`, as it stands in memory. -/
def State.peekFuse (s : State) (r : Nat) (k : Word) : Nat := (s.byteAt (s.entryAddr r k + 3)).toNat / 64

/-- The head cue's chain is committed up to its tail, or up to what ends it (R89, R91). -/
def State.chainHere (s : State) (r : Nat) (k : Word) : Nat → Bool
  | 0 => true
  | n + 1 => if k = s.ringTail r then false else if s.peekFuse r k ≠ 2 then true else s.chainHere r (k + 1) n

/-- A ring is ready: enabled, a committed cue at its head, no cue of it waiting (R71). -/
def State.cueReady (s : State) (r : Nat) : Bool :=
  s.ringEn r && s.ringLegal r && s.ringHead r != s.ringTail r &&
  (s.groups[cueGroup r].chains.all (fun c => c.ring != r || c.stage == .running)) &&
  (s.peekFuse r (s.ringHead r) != 1 || s.chainHere r (s.ringHead r + 1) 7)

/-- The command rings of a group that are as urgent as `r`. -/
def cuePeers (r : Nat) : List Nat := (List.range 256).map (fun e => 16 * e + r % 16)

/-- The dispatcher may serve ring r: no urgent ring is ready before a normal one, and no ready ring of its urgency was passed over
since r was served (R71). -/
def State.mayServe (s : State) (r : Nat) : Bool :=
  s.cueReady r && (cueUrgent r || !((cuePeers (r + 1)).any s.cueReady)) &&
  s.groups[cueGroup r].passed.all (fun p => p.1 != r || !s.cueReady p.2)

/-- Serving r passes over the other ready rings of its urgency. -/
def State.served (s : State) (r : Nat) : State :=
  let passed := (cuePeers r).filter (fun q => q != r && s.cueReady q)
  s.modGroup (cueGroup r) (fun g => { g with passed := g.passed.filter (fun p => p.2 != r && p.1 != r) ++ passed.map (fun q => (r, q)) })

/-- What was read of an issue: the members (none: its read had an error), whether the chain is malformed. -/
structure Taken where
  members : List (Word × Option (List Word))
  bad : Bool
  deriving DecidableEq, Repr

/-- Read entry `k` of a command ring. -/
def cueRead (r : Nat) (k : Word) : MemM (Option (List Word)) := do
  match ← memTry (ringRead r k) with
  | none => return none
  | some b => return some (wordsOfBytes 16 b)

/-- FUSE of a record read; of one whose read had an error, FUSE where its own word reads well. -/
def State.fuseOf (s : State) (r : Nat) (k : Word) : Option (List Word) → Option Nat
  | some w => some (fld (w.getD 0 0) 30 2)
  | none => match memRead gateway (s.entryAddr r k) 4 s with
    | .ok b _ => some (fld (wordLE b) 30 2)
    | _ => none

/-- Read the members after a head until the tail or what breaks the chain (R89, R91). -/
def readChain (r : Nat) (k : Word) : Nat → MemM Taken
  | 0 => return { members := [], bad := true }
  | n + 1 => do
    let s ← get
    if k = s.ringTail r then return { members := [], bad := true }
    let w ← cueRead r k
    let f := (s.fuseOf r k w).getD 2
    if f < 2 then return { members := [], bad := true }
    if f = 3 then return { members := [(k, w)], bad := false }
    let t ← readChain r (k + 1) n
    return { t with members := (k, w) :: t.members }

/-- Take the cue or chain at the head of a ring. An entry whose FUSE cannot be read either stands alone at the head and counts as a middle
within a chain (DESIGN CHOICE, log entry 119: R448 does not say how far its chain goes). -/
def takeCues (r : Nat) : MemM Taken := do
  let s ← get
  let k := s.ringHead r
  let w ← cueRead r k
  match (s.fuseOf r k w).getD 0 with
  | 0 => return { members := [(k, w)], bad := false }
  | 1 =>
    let t ← readChain r (k + 1) 7
    return { t with members := (k, w) :: t.members }
  | _ => return { members := [(k, w)], bad := true }

/-- Give members their types along the chain (R103, R104). E of a solo cue or tail without D is that of T (DESIGN CHOICE, log entry 128). -/
def typeMembers (wt : Option Nat) : List Member → List Member
  | [] => []
  | m :: rest =>
    let t := wt.getD (m.desc 0).etype
    let d := m.desc 3
    let out := if (m.fuse = 0 ∨ m.fuse = 3) ∧ d.mode = 0 then t else d.etype
    { m with wt := t, out } :: typeMembers (some d.etype) rest

/-- The cost of a cue in mW (R98). A reserved operation code weighs nothing in a BADCUE cue's CCLASS (DESIGN CHOICE, log entry 127). -/
def Member.cost (m : Member) : Nat :=
  20 + ([0, 1, 2].map (fun u => ceilDiv ((opWeight (m.op u)).getD 0 * m.lanes) 64)).sum

/-- The cost class of a cost (R99). -/
def costClass (c : Nat) : Nat := if c ≤ 50 then 0 else ceilDiv c 50 - 1

/-- How a member fares in steps 2 to 4 of R72: its windows, a code, or a drop without a record. -/
inductive Fare where
  | ok (wins : List (Nat × Option CueWindow))
  | fail (e : IssueErr)
  | drop
  deriving DecidableEq, Repr

/-- Steps 2 to 4 of R72 for one member. -/
def State.fare (s : State) (r : Nat) (bad : Bool) (m : Member) : Fare :=
  if bad || !m.encOk then .fail (1, 0, 0)
  else if !s.cringOk m.cring (r / 16) then .drop
  else match s.allWindows (cueEngine r) m m.ownStreams with
    | .error e => .fail e
    | .ok w => .ok w

/-- GERR sets with its event and GERR_RING (R94, R448); a dropped cue counts in GDROP. -/
def State.cueDrop (s : State) (r bit : Nat) : State :=
  let g := cueGroup r
  (((s.orReg (groupAddr g 0x108) (maskOf 32 bit 1)).irq (groupPage g) 2).setReg (groupAddr g 0x10C) (BitVec.ofNat 32 r)).incReg
    (groupAddr g 0x110)

/-- The records of members that failed at issue: their own code, ABORTED for the others, or a drop. -/
def issueRecords (r cclass : Nat) : List (Member × Fare) → MemM Unit
  | [] => return ()
  | (m, f) :: rest => do
    match f with
    | .drop => modify (fun s => s.cueDrop r 0)
    | _ =>
      let (code, fs, fa) : IssueErr := match f with | .fail e => e | _ => (7, 0, 0)
      recOrWait (cueGroup r) r (r / 16) m.cring
        (recBytes (cueGroup r) r m { final := true, code, fstream := fs, faddr := fa, cclass, result := m.result0 })
    issueRecords r cclass rest

/-- Earlier cues of the ring have not all ended (R72 step 5). -/
def State.fenced (s : State) (r id : Nat) : Bool :=
  s.groups[cueGroup r].chains.any (fun c => c.ring == r && decide (c.id < id)) || s.groups[cueGroup r].recs.any (fun p => p.ring == r)

/-- Steps 2 to 5 of R72 for the members read. -/
def issueTaken (r : Nat) (ms : List Member) (bad : Bool) : MemM Unit := do
  let ms := typeMembers none ms
  let h := ms.headD { words := [], k := 0 }
  let bad := bad || ms.any (fun m => m.n != h.n || m.lanel != h.lanel)
  let cclass := costClass ((ms.map Member.cost).sum)
  let s ← get
  let fares := ms.map (fun m => (m, s.fare r bad m))
  if fares.all (fun f => match f.2 with | .ok _ => true | _ => false) then
    let ms := fares.map (fun f => match f.2 with
      | .ok w => { f.1 with wins := (List.range 8).map (fun k => ((w.find? (fun x => x.1 == k)).map (·.2)).join) }
      | _ => f.1)
    let fence := bitAt h.ctrl 23 && s.fenced r s.nextChain
    let c : Chain := { id := s.nextChain, ring := r, eng := r / 16, members := ms, stage := if fence then .fence else .pipes, pipes := [],
                       cclass, urgent := cueUrgent r, ended := 0 }
    set ({ s with nextChain := s.nextChain + 1 }.modGroup (cueGroup r) (fun g => { g with chains := g.chains ++ [c] }))
  else issueRecords r cclass fares

/-- CUE_ISSUE on a ring that may be served. -/
def cueIssue (r : Nat) : MemM Unit := do
  let t ← takeCues r
  modify (fun s => (s.served r).ringConsume r (s.ringHead r) t.members.length)
  if t.members.any (fun m => m.2.isNone) then
    modify (fun s => t.members.foldl (fun s _ => s.cueDrop r 1) s)
  else issueTaken r (t.members.map (fun m => { words := m.2.getD [], k := m.1 })) t.bad

/-! ### Pipes and power (R449, R99, R72 steps 6 to 8) -/

/-- Change a chain of a group. -/
def State.modChain (s : State) (g : Fin 8) (id : Nat) (f : Chain → Chain) : State :=
  s.modGroup g (fun gr => { gr with chains := gr.chains.map (fun c => if c.id = id then f c else c) })
/-- Drop a chain of a group. -/
def State.dropChain (s : State) (g : Fin 8) (id : Nat) : State :=
  s.modGroup g (fun gr => { gr with chains := gr.chains.filter (fun c => c.id ≠ id) })
/-- The chain with a number. -/
def State.chainOf (s : State) (g : Fin 8) (id : Nat) : Option Chain := s.groups[g].chains.find? (fun c => c.id == id)

/-- FENCE_WAIT_END: the cue at its fence goes on to wait for pipes, behind those that reached that step before it. -/
def State.fenceEnd (s : State) (r : Nat) : State :=
  let g := cueGroup r
  match takeFirst (fun c : Chain => c.ring == r && c.stage == .fence) s.groups[g].chains with
  | none => s
  | some (c, rest) => if s.fenced r c.id then s else s.modGroup g (fun gr => { gr with chains := rest ++ [{ c with stage := .pipes }] })

/-- The physical address of a virtual address in a window fixed at issue. -/
def CueWindow.at (w : CueWindow) (va : Nat) : Nat := w.pa + (va - w.lo)

/-- Window `k` of a member. -/
def Member.win (m : Member) (k : Nat) : CueWindow := ((m.wins.getD k none).getD { lo := 0, hi := 0, pa := 0 })

/-- The physical address of element i of stream `k`, as the state stands. -/
def State.elemAt (s : State) (m : Member) (k i : Nat) : Option Nat :=
  let d := m.desc k
  match d.mode with
  | 0 | 5 => none
  | 4 => some ((m.win k).at (d.base + natLE (s.bytesAt ((m.win (k + 4)).at (d.ibase + i * d.isize)) d.isize) * etSize d.etype))
  | _ => some ((m.win k).at (d.addr i).toNat)

/-- The sources that lie at D's address for every element, where D's addresses may repeat: the cue runs in place (R83). -/
def State.inPlace (s : State) (m : Member) : List Nat :=
  let d := m.desc 3
  if (d.mode = 1 ∧ d.stride = 0) ∨ d.mode = 2 ∨ d.mode = 4 then
    m.ownStreams.filter (fun k => k != 3 && (s.elemAt m k 0).isSome && (List.range m.n).all (fun i => s.elemAt m k i == s.elemAt m 3 i))
  else []

/-- CHAIN register of a slot. -/
def chainAddr (g : Fin 8) (slot : Nat) : Nat := groupAddr g (0x140 + 4 * (slot % 16))

/-- Step 8: every member starts on its pipe; a D with FILL claims its chain slot (R86). -/
def State.startChain (s : State) (g : Fin 8) (c : Chain) : State :=
  let s := s.modChain g c.id (fun c => { c with stage := .running })
  ((List.range c.members.length).zip (c.members.zip c.pipes)).foldl (fun s x =>
    let m := x.2.1
    let run : PipeRun := { chain := c.id, idx := x.1, eng := c.eng, ring := c.ring, cclass := c.cclass, m,
                           inPlace := if m.ownStreams.contains 3 then s.inPlace m else [] }
    let s := s.setPipe (Fin.ofNat 64 (8 * g.val + x.2.2)) (some run)
    if (m.desc 3).fill && (m.fuse == 0 || m.fuse == 3) then
      let slot := fld m.cnt 28 4
      (s.setReg (chainAddr g slot) 0x80000000).modGroup g (fun gr =>
        { gr with claims := (slot, c.id, x.1) :: gr.claims.filter (fun y => y.1 ≠ slot) })
    else s) s

/-- A refusal of power: every member reports PERMIT_REFUSED, in a record that may have to wait; the pipes are released (R72 step 7, R91). The
members have run on no pipe, and no PIPE page counts them in CUES or FAULTS (DESIGN CHOICE, log entry 129). -/
def State.refuseChain (s : State) (g : Fin 8) (c : Chain) : State :=
  let recs := (c.members.zip c.pipes).map (fun x : Member × Nat =>
    let f : RecF := { final := true, pipe := x.2, code := 4, cclass := c.cclass, result := x.1.result0 }
    ({ ring := c.ring, eng := c.eng, cring := x.1.cring, bytes := recBytes g c.ring x.1 f } : PendRec))
  ((s.addReg (groupAddr g 0x11C) recs.length).dropChain g c.id).modGroup g (fun gr => { gr with recs := gr.recs ++ recs })

/-- The duration class by N (R99). -/
def durationClass (n : Nat) : Nat := if n ≤ 4096 then 0 else if n ≤ 65536 then 1 else 2

/-- Step 7 of R72 for a chain that has its pipes. PWAIT counts it when it cannot be granted at once (R100). -/
def State.chainPower (s : State) (g : Fin 8) (c : Chain) : State :=
  let h := c.members.headD { words := [], k := 0 }
  if c.cclass = 0 then s.startChain g c
  else
    match s.askPermit (.cue c.id) (50 * (c.cclass + 1)) (durationClass h.n) (bitAt h.ctrl 29) with
    | (.granted, s) => s.startChain g c
    | (.waiting, s1) =>
      let s1 := s1.modChain g c.id (fun c => { c with stage := .permit })
      if s.grantNow (s.charge (50 * (c.cclass + 1))) (durationClass h.n) then s1 else s1.incReg (groupAddr g 0x118)
    | (.refused, s1) =>
      let s1 := s1.refuseChain g c
      s1.access (flushRecs g s1.groups[g].recs) (fun _ s => s) (fun s => s)

/-- A pipe is free and enabled: it runs nothing, no chain has it, its page is enabled and not in soft reset. -/
def State.pipeFree (s : State) (p : Fin 64) : Bool :=
  s.pipes[p].isNone && s.pageEn (.pipe p) && !s.srstBusy (.pipe p) &&
  s.groups[groupOf p].chains.all (fun c => c.stage == .running || !c.pipes.contains (p.val % 8))

/-- PIPE_ASSIGN: the pipe goes to the first cue waiting for pipes, urgent ones first; with its last pipe the cue asks for power. -/
def State.pipeAssign (s : State) (p : Fin 64) : State :=
  let g := groupOf p
  let waits := s.groups[g].chains.filter (fun c => c.stage == .pipes)
  if !s.pipeFree p then s
  else match (waits.filter (·.urgent) ++ waits.filter (fun c => !c.urgent)).head? with
    | none => s
    | some c =>
      let c := { c with pipes := c.pipes ++ [p.val % 8] }
      let s1 := s.modChain g c.id (fun _ => c)
      if c.pipes.length < c.members.length then s1 else s1.chainPower g c

/-- A grant of a chain that waited for it starts it. -/
def State.chainGranted (s : State) (id : Nat) : State :=
  match (List.finRange 8).find? (fun g => (s.chainOf g id).isSome) with
  | none => s
  | some g => match s.chainOf g id with | none => s | some c => s.startChain g c

/-! ### Meanings -/

/-- CUE_ISSUE (R72). -/
def execCueIssue (r : Fin 4096) (s : State) : Out :=
  .next (if s.mayServe r.val then s.access (cueIssue r.val) (fun _ s => s) (fun s => s) else s)
/-- FENCE_WAIT_END (R72). -/
def execFenceWaitEnd (r : Fin 4096) (s : State) : Out := .next (s.fenceEnd r.val)
/-- PIPE_ASSIGN (R449). -/
def execPipeAssign (p : Fin 64) (s : State) : Out := .next (s.pipeAssign p)

end Sys2Proof.Machine
end

