-- ==== Sys2Proof/Machine/Bursts.lean ====
section
/-!
DEFINITION. Bursts of crossbar masters: their words at a memory or at the host (R297, R304, R308, R427), and what a master reset does to
them (R310).
-/
namespace Sys2Proof.Machine

/-- The transfers of a burst that have ended. -/
def Burst.ended (b : Burst) : Nat := if b.half then b.err.length - 1 else b.err.length

/-- The burst after the next 16-byte word of its transfer; an error response is the whole transfer's, and a refused read returns 0
(R296). -/
def Burst.word (b : Burst) (d : Option (List Byte)) : Burst :=
  let zero := List.replicate 16 (0 : Byte)
  if b.half then
    let e := b.err.getLastD false || d.isNone
    { b with
      left := b.left - 1, granted := b.granted - 1, addr := b.addr + 32, data := b.data.drop 16, half := false
      err := b.err.dropLast ++ [e]
      got := if b.write then [] else if e then b.got.take (b.got.length - 16) ++ zero ++ zero else b.got ++ d.getD zero }
  else
    { b with
      data := b.data.drop 16, half := true, err := b.err ++ [d.isNone], busy := b.busy ++ [false]
      got := if b.write then [] else b.got ++ d.getD zero }

/-- The burst after a transfer of four bytes. -/
def Burst.after (b : Burst) (got : List Byte) (err : Bool) : Burst :=
  { b with
    left := b.left - 1, granted := b.granted - 1, addr := b.addr + b.size, data := b.data.drop b.size
    got := if b.write then [] else b.got ++ got, err := b.err ++ [err], busy := b.busy ++ [false], island := false }

/-- A burst's maker of accesses. -/
def Burst.who (b : Burst) : Who := { m := b.m, dbg := b.m == 17 }

/-- The sub-burst granted at the host: one request of all its transfers, whose response ends each of them, a write's with one error for all
(R427, R428). -/
def hostWords (b : Burst) : MemM Burst := do
  let (bytes, errs) ← hostTransfer b.who (b.addr - 0x8000000000) (32 * b.granted) b.write (b.data.take (32 * b.granted))
  let piece := fun i x : Nat =>
    if errs.getD (if b.write then 0 else i) false then none else some ((bytes.drop (32 * i + 16 * x) ++ List.replicate 16 0).take 16)
  return (List.range b.granted).foldl (fun c i => (c.word (piece i 0)).word (piece i 1)) b

/-- The next 16-byte word of a burst at a memory, an access of its own (R297, R308); at the host, the whole sub-burst. -/
def memWord (b : Burst) : MemM Burst := do
  if b.t = 25 then hostWords b
  else
    let a := b.addr + (if b.half then 16 else 0)
    if b.write then
      match ← memTry (memWrite b.who a (b.data.take 16)) with
      | some () => return b.word (some (List.replicate 16 0))
      | none => return b.word none
    else return b.word (← memTry (memRead b.who a 16))

/-- Up to `n` words of a read. -/
def readOn : Nat → Burst → MemM Burst
  | 0, b => return b
  | n + 1, b => do if b.granted = 0 then return b else readOn n (← memWord b)

/-- A master reset: what is not granted is withdrawn, the rest of a granted write reaches its target with no byte enabled, a granted read is
completed at its target and its data discarded, as is any response on its way; a store that an engine has sent stands (R310). -/
def State.masterReset (s : State) (m : Nat) : State :=
  let idle := { s with
    bursts := s.bursts.filter (fun b => b.m ≠ m), singles := s.singles.filter (fun x => x.m ≠ m)
    wakeFor := s.wakeFor.filter (fun x => x.2.m ≠ m)
    islandQ := s.islandQ.map (fun w => if w.origin = .burst m then { w with origin := .none } else w) }
  ((s.bursts.filter (fun b => b.m == m && !b.write && decide (0 < b.granted))).foldl (fun s b => match readOn (2 * b.granted) b s with
    | .ok _ s' => s'
    | .error _ _ => s) idle).orphanReqs (fun q => q.who.m == m && (!q.write || q.who.engine.isNone))

end Sys2Proof.Machine
end

