-- ==== Sys2Proof/Machine/ControlStore.lean ====
section
/-!
DEFINITION. The control stores (R189, R195, R196, R202, R205): microwords with their check bits, dispatch entries, the shared stores'
changed pages.
-/
namespace Sys2Proof.Machine

/-! ### Check bits (R196) -/

/-- The 120 seven-bit values with at least two bits set, ascending. -/
def checkCodes : List Nat := (List.range 128).filter (fun v => decide (2 ≤ popCount 7 v))
/-- CHK[6:0] of the data bits of a word: the XOR of s(k) over the set d_k. -/
def chk7 (w : Word128) : Nat :=
  (checkCodes.zipIdx.filter (fun c => bitAt w (8 + c.2))).foldl (fun a c => a ^^^ c.1) 0
/-- A word with CHK computed; bits [7:0] as written are ignored. -/
def withChk (w : Word128) : Word128 :=
  let c := chk7 w
  let p := (popCount 120 (w.toNat / 256) + popCount 7 c) % 2
  putFld w 0 8 (c + 128 * p)

/-! ### Words and entries -/

/-- The map of R233: VALID, HOUSE and ILEN (codes 0 to 3 for 0, 1, 2, 4 bytes) of a base opcode's entry, as bits [31:28]; 0 where the
opcode is reserved or a user opcode. -/
def baseFlags (x : Nat) : Nat :=
  if x = 0x65 ∨ x = 0xA6 ∨ x = 0xA7 then 12
  else if [0x03, 0x62].contains x then 11
  else if [0x02, 0x04, 0x49, 0x4A, 0x61, 0x66, 0x67, 0x68].contains x ∨ (0x70 ≤ x ∧ x ≤ 0x7F) then 10
  else if [0x01, 0x0E, 0x3A, 0x3B, 0x69, 0xA0, 0xA1, 0xA9, 0xAE].contains x ∨ (0x81 ≤ x ∧ x ≤ 0x86) then 9
  else if x ≤ 0x13 ∨ (0x20 ≤ x ∧ x ≤ 0x4D) ∨ (0x60 ≤ x ∧ x ≤ 0x64) ∨ x = 0x80 ∨ (0xA2 ≤ x ∧ x ≤ 0xAF) ∨ x = 0xBF then 8
  else 0
/-- A base dispatch entry as the base image supplies it (R233, R235); 0 for a user opcode. The index is engine x 256 + opcode. -/
def dispBase (k : Nat) : Word :=
  let x := k % 256
  if 0xE0 ≤ x ∧ x ≤ 0xEF then 0 else BitVec.ofNat 32 (baseFlags x * 2 ^ 28 + (Config.baseTarget x).toNat)
/-- A private-store word that nothing has loaded: base microcode in the lower half, 0 in the upper (log entry 2). -/
def csBase (k : Nat) : Word128 :=
  let i := k % 2048
  if 0x400 ≤ i then 0 else if 256 ≤ k / 2048 then withChk (Config.houseMicrocode i) else withChk (Config.baseMicrocode i)

/-- A word of engine e's private store. -/
def State.csWord (s : State) (e i : Nat) : Word128 := spGet csBase s.cstore (2048 * e + i)
/-- A word of cluster c's shared store. -/
def State.ssWord (s : State) (c i : Nat) : Word128 := spGet (fun _ => 0) s.sstore (16384 * c + i)
/-- A dispatch entry held by engine e. -/
def State.dispEntry (s : State) (e x : Nat) : Word := spGet dispBase s.dispatch (256 * e + x)
/-- A dispatch entry that has been loaded over the base image's. -/
def State.entryLoaded (s : State) (e x : Nat) : Option Word := (s.dispatch.find? (fun d => d.1 == 256 * e + x)).map (·.2)
/-- The entry of a base opcode is as the map of R233 gives it: VALID, HOUSE and ILEN, of a reserved value VALID alone (R194, R235). -/
def State.entryIsBase (s : State) (e x : Nat) : Bool :=
  match s.entryLoaded e x with
  | none => true
  | some w => if baseFlags x = 0 then !bitAt w 31 else fld w 28 4 == baseFlags x
/-- The entry of a base opcode names another routine than the base image's: an instruction goes there (R193, order 6). -/
def State.entryMoved (s : State) (e x : Nat) : Bool :=
  match s.entryLoaded e x with
  | none => false
  | some w => BitVec.ofNat 16 (fld w 0 16) != Config.baseTarget x
/-- A micro-address that can be executed (R189). -/
def upcOk (house : Bool) (u : Nat) : Bool := decide (u < 0x800) || (!house && decide (0x8000 ≤ u ∧ u < 0xC000))

/-- Write a private-store word, with its CHK; an error in it is gone. -/
def State.setCsWord (s : State) (e i : Nat) (w : Word128) : State :=
  { s with cstore := spSet csBase s.cstore (2048 * e + i) (withChk w), csErr := spSet (fun _ => none) s.csErr (2048 * e + i) none }
/-- Write a dispatch entry held by an engine. -/
def State.setDispEntry (s : State) (e x : Nat) (w : Word) : State :=
  { s with dispatch := spSet dispBase s.dispatch (256 * e + x) w, dispErr := spSet (fun _ => none) s.dispErr (256 * e + x) none }
/-- Boot's step 4: base microcode and base dispatch entries of all 256 Cue engines are loaded from the base image (R372). -/
def State.loadBase (s : State) : State :=
  { s with
    cstore := spClear (fun k => decide (k < 256 * 2048) && decide (k % 2048 < 0x400)) s.cstore
    csErr := spClear (fun k => decide (k < 256 * 2048) && decide (k % 2048 < 0x400)) s.csErr
    dispatch := spClear (fun k => decide (k < 256 * 256)) s.dispatch
    dispErr := spClear (fun k => decide (k < 256 * 256)) s.dispErr }

/-- A page of a shared store changes: its SSCHG bit, CLUSTER IRQ_STAT bit 1, and a measurement of it (R205, R378). -/
def State.ssChanged (s : State) (c : Fin 16) (page : Nat) : State :=
  let s := (s.orReg (pageBase (.cluster c) + 0x05C + 4 * (page / 32)) (maskOf 32 (page % 32) 1)).irq (.cluster c) 1
  if s.trust.pages.contains (64 * c.val + page) then s else s.modTrust (fun t => { t with pages := t.pages ++ [64 * c.val + page] })

/-- Write a shared-store word, with its CHK (R195, R196, R205). -/
def State.setSsWord (s : State) (c : Fin 16) (i : Nat) (w : Word128) : State :=
  { s with sstore := spSet (fun _ => 0) s.sstore (16384 * c.val + i) (withChk w)
           ssErr := spSet (fun _ => none) s.ssErr (16384 * c.val + i) none }.ssChanged c (i / 256)

end Sys2Proof.Machine
end

