-- ==== Sys2Proof/Machine/Fec.lean ====
section
/-!
DEFINITION. The line side of a link port: PHY words and port words (R432), RS(544,514) codewords (R42, R43). The manual names the code by
IEEE 802.3; its field, generator and order of bits are taken from there (PRESUMED, log entry 113).
-/
namespace Sys2Proof.Machine

/-! ### PHY words (R432) -/

/-- The 128-bit port words of received PHY words: at PHY_WORD = 256 each word is two port words, bits [127:0] first; at 128 a word is its low
128 bits. -/
def phySplit (wide : Bool) (ws : List (BitVec 256)) : List Word128 :=
  ws.flatMap (fun (w : BitVec 256) => if wide then [BitVec.setWidth 128 w, BitVec.setWidth 128 (w >>> 128)] else [BitVec.setWidth 128 w])

/-- The PHY words of transmitted port words, in the same order; an odd last word of a wide PHY has zeros above it. -/
def phyJoin (wide : Bool) : List Word128 → List (BitVec 256)
  | [] => []
  | [a] => [a.setWidth 256]
  | a :: b :: rest =>
    if wide then ((b.setWidth 256 <<< 128) ||| a.setWidth 256) :: phyJoin wide rest
    else a.setWidth 256 :: phyJoin wide (b :: rest)

/-- The `k` ten-bit symbols that port words carry from bit `first` of the first word on, the first bit of the line lowest. -/
def symbolsOf (ws : List Word128) (first k : Nat) : List Nat :=
  let line := natLE (bytesOfPortWords ws)
  (List.range k).map (fun i => (line >>> (first + 10 * i)) % 1024)

/-! ### The field of 1,024 elements, modulo x^10 + x^3 + 1 -/

/-- Multiply by x. -/
def gfX (a : Nat) : Nat := if 512 ≤ a then (2 * a) ^^^ 0x409 else 2 * a
/-- The product of `a` and the low `n` bits of `b`. -/
def gfMulN : Nat → Nat → Nat → Nat
  | 0, _, _ => 0
  | n + 1, a, b => (if b % 2 = 1 then a else 0) ^^^ gfMulN n (gfX a) (b / 2)
/-- The product. -/
def gfMul (a b : Nat) : Nat := if a = 0 ∨ b = 0 then 0 else gfMulN 10 a b
/-- The power α^n of α = x. -/
def gfAlpha : Nat → Nat
  | 0 => 1
  | n + 1 => gfX (gfAlpha n)
/-- Divide by x. -/
def gfDivX (a : Nat) : Nat := if a % 2 = 1 then (a ^^^ 0x409) / 2 else a / 2
/-- The inverse of a nonzero element, a^1022. -/
def gfInv (a : Nat) : Nat :=
  let sq := fun b => gfMul b b
  let p := (List.range 9).foldl (fun (x : Nat × Nat) _ =>
    let q := sq x.1
    (q, gfMul x.2 q)) (a, 1)
  p.2

/-! ### The code -/

/-- The value at `x` of the polynomial whose coefficients are listed, the highest power first. -/
def gfEval (x : Nat) (p : List Nat) : Nat := p.foldl (fun a c => gfMul a x ^^^ c) 0
/-- The 30 syndromes of a received word, the values at α^0 to α^29: all 0 for a codeword. -/
def syndromes (r : List Nat) : List Nat := (List.range 30).map (fun j => gfEval (gfAlpha j) r)

/-- A polynomial plus `k` times another, coefficients from the lowest power. -/
def polyAddMul (p : List Nat) (k : Nat) (q : List Nat) : List Nat :=
  (List.range (max p.length q.length)).map (fun i => p.getD i 0 ^^^ gfMul k (q.getD i 0))

/-- Where the Berlekamp-Massey algorithm stands: the locator, the last one before its length grew, its discrepancy, the length, the shift. -/
structure Locate where
  c : List Nat
  b : List Nat
  bd : Nat
  l : Nat
  m : Nat

/-- One step of the algorithm, for syndrome number `n`. -/
def locateStep (s : List Nat) (x : Locate) (n : Nat) : Locate :=
  let d := (List.range (x.l + 1)).foldl (fun a i => a ^^^ gfMul (x.c.getD i 0) (s.getD (n - i) 0)) 0
  if d = 0 then { x with m := x.m + 1 }
  else
    let c' := polyAddMul x.c (gfMul d (gfInv x.bd)) (List.replicate x.m 0 ++ x.b)
    if 2 * x.l ≤ n then { c := c', b := x.c, bd := d, l := n + 1 - x.l, m := 1 } else { x with c := c', m := x.m + 1 }

/-- The error locator of some syndromes, and its length. -/
def locate (s : List Nat) : Locate := (List.range 30).foldl (locateStep s) { c := [1], b := [1], bd := 1, l := 0, m := 1 }

/-- How many of the `n` powers x, x/α, x/α², … are roots of a polynomial, the highest power first. -/
def rootCount (p : List Nat) : Nat → Nat → Nat
  | 0, _ => 0
  | n + 1, x => (if gfEval x p = 0 then 1 else 0) + rootCount p n (gfDivX x)

/-- What decoding 544 received symbols, the first the highest power, comes to: no error, up to 15 symbols corrected, or uncorrectable. The
errors can be corrected when the locator of length at most 15 has as many roots among the places of the codeword. -/
def rsOutcome (r : List Nat) : Codeword :=
  let s := syndromes r
  if s.all (· == 0) then .clean
  else
    let x := locate s
    if decide (x.l ≤ 15) && rootCount x.c.reverse 544 1 == x.l && (x.c.drop (x.l + 1)).all (· == 0) then .corrected else .uncorrectable

/-- The values that a polynomial takes at the `n` powers x, x/α, x/α², …. -/
def valuesDown (p : List Nat) : Nat → Nat → List Nat
  | 0, _ => []
  | n + 1, x => gfEval x p :: valuesDown p n (gfDivX x)

/-- The product of the syndromes' polynomial and the locator, below x^30: what Forney's formula evaluates. -/
def evaluator (s c : List Nat) : List Nat :=
  (List.range 30).map (fun i => (List.range (i + 1)).foldl (fun a j => a ^^^ gfMul (s.getD j 0) (c.getD (i - j) 0)) 0)

/-- The formal derivative of a polynomial, coefficients from the lowest power: the odd powers stay, each one lower. -/
def oddPart (c : List Nat) : List Nat := (List.range (c.length - 1)).map (fun i => if i % 2 = 0 then c.getD (i + 1) 0 else 0)

/-- The error in each of the 544 places, the lowest power first, by Forney's formula with the roots α^0 to α^29: with x the inverse of the
place's power, the error is Ω(x) / (x Λ'(x)) where Λ(x) = 0. -/
def errorValues (s c : List Nat) : List Nat :=
  let om := (evaluator s c).reverse
  let de := (oddPart c).reverse
  let go := fun (acc : Nat × List Nat) (l : Nat) =>
    let x := acc.1
    (gfDivX x, (if l = 0 then gfMul (gfEval x om) (gfInv (gfMul x (gfEval x de))) else 0) :: acc.2)
  ((valuesDown c.reverse 544 1).foldl go (1, [])).2.reverse

/-- A received word as the decoder leaves it: corrected where its errors can be corrected, else as it came (R42). -/
def rsCorrect (r : List Nat) : List Nat :=
  match rsOutcome r with
  | .corrected =>
    let s := syndromes r
    List.zipWith (· ^^^ ·) r (errorValues s (locate s).c).reverse
  | _ => r

/-- The parity of 514 data symbols: the remainder of their polynomial times x^30 by the generator, the product of x − α^j, j = 0 to 29. -/
def rsParity (data : List Nat) : List Nat :=
  let g := (List.range 30).foldl (fun p j => polyAddMul (p ++ [0]) (gfAlpha j) (0 :: p)) [1]
  data.foldl (fun rem d =>
    let f := d ^^^ rem.headD 0
    polyAddMul (rem.drop 1 ++ [0]) f (g.drop 1)) (List.replicate 30 0)

/-- The codeword of 514 data symbols. -/
def rsEncode (data : List Nat) : List Nat := data ++ rsParity data

/-- The codeword that starts at bit `first` of the first of some received PHY words, as symbols (R42, R432). -/
def codewordAt (phy : List (BitVec 256)) (first : Fin 128) : List Nat := symbolsOf (phySplit Config.phyWord256 phy) first.val 544

/-- The outcome of that codeword (R42, R43). -/
def codewordOutcome (phy : List (BitVec 256)) (first : Fin 128) : Codeword := rsOutcome (codewordAt phy first)

/-! ### Blocks and bits (R42) -/

/-- The value of symbols of ten bits, the first lowest. -/
def symbolBits (l : List Nat) : Nat := l.foldr (fun s a => s % 1024 + 1024 * a) 0
/-- `k` symbols of ten bits of a value, the lowest first. -/
def bitSymbols (v k : Nat) : List Nat := (List.range k).map (fun i => (v >>> (10 * i)) % 1024)
/-- Bits after bits. -/
def Bits.append (a b : Bits) : Bits := { n := a.n + b.n, v := a.v % 2 ^ a.n + (b.v % 2 ^ b.n) <<< a.n }
/-- As many whole pieces of `w` bits as there are, and the bits left over. -/
def Bits.cut (b : Bits) (w : Nat) : List Nat × Bits :=
  ((List.range (b.n / w)).map (fun i => (b.v >>> (w * i)) % 2 ^ w), { n := b.n % w, v := (b.v % 2 ^ b.n) >>> (w * (b.n / w)) })

/-- The 66-bit blocks that the data of a decoded codeword completes, after the bits left from the codeword before, and the bits it leaves
(R42). -/
def decodeBlocks (rest : Bits) (r : List Nat) : List (BitVec 66) × Bits :=
  let (bs, left) := (rest.append { n := 5140, v := symbolBits ((rsCorrect r).take 514) }).cut 66
  (bs.map (BitVec.ofNat 66), left)

/-- The codewords that bits complete, and the bits left (R42). -/
def encodeBits (b : Bits) : Bits × Bits :=
  let (ps, left) := b.cut 5140
  (ps.foldl (fun a p => a.append { n := 5440, v := symbolBits (rsEncode (bitSymbols p 514)) }) {}, left)

/-- The bits of a 66-bit block: the sync header first, then 64 bits of content (R42). The headers of data and control blocks are those of
IEEE 802.3, 01 and 10 (PRESUMED, log entry 113). -/
def blockBits (control : Bool) (content : Word64) : Bits := { n := 66, v := (if control then 1 else 2) + content.toNat * 4 }

/-- The PHY words that bits fill, at PHY_WORD bits each, and the bits left (R431, R432). -/
def phyWords (b : Bits) : List (BitVec 256) × Bits :=
  let wide := Config.phyWord256
  let (ws, left) := b.cut (if wide then 256 else 128)
  (phyJoin wide (ws.flatMap (fun w => if wide then [BitVec.ofNat 128 w, BitVec.ofNat 128 (w / 2 ^ 128)] else [BitVec.ofNat 128 w])), left)

end Sys2Proof.Machine
end

