-- ==== Sys2Proof/Machine/Links.lean ====
section
/-!
DEFINITION. Link ports: lock, credits, training, reception and transmission of Lieno frames (R41 to R49, R446, R433).
-/
namespace Sys2Proof.Machine

/-! ### The port's registers -/

/-- The address of a register of LINK n. -/
def linkAddr (n : Fin 128) (off : Nat) : Nat := pageBase (.link n) + off
/-- PCFG. -/
def State.pcfg (s : State) (n : Fin 128) : Word := s.getReg (linkAddr n 0x040)
/-- PSTAT.UP. -/
def State.portUp (s : State) (n : Fin 128) : Bool := bitAt (s.getReg (linkAddr n 0x044)) 0
/-- PSTAT.ROLE: 0 Ingress, 1 Egress, 2 Peer. -/
def State.portRole (s : State) (n : Fin 128) : Nat := fld (s.getReg (linkAddr n 0x044)) 4 2
/-- RXCRc.WINDOW. -/
def State.rxWindow (s : State) (n : Fin 128) (c : Nat) : Nat := s.regN (linkAddr n (0x080 + 4 * c))
/-- PSTAT.CR_ERR: the windows add up to more than 2,048 (R46). -/
def State.crErr (s : State) (n : Fin 128) : Bool := decide (2048 < ((List.range 16).map (s.rxWindow n)).sum)
/-- PSTAT as it reads: RATE is 0 while down (R49). -/
def State.pstat (s : State) (n : Fin 128) : Word :=
  let w := putBit (s.getReg (linkAddr n 0x044)) 7 (s.crErr n)
  putFld w 1 3 (if s.portUp n then s.ports[n].rate else 0)
/-- Discarded by the parse stage: PARSE_DROP and its event (R50). -/
def State.parseDrop (s : State) (n : Fin 128) (k : Nat) : State :=
  if k = 0 then s else (s.addReg (linkAddr n 0x058) k).irq (.link n) 2

/-! ### Credits (R46, R47) -/

/-- Units of a frame of `len` words. -/
def frameUnits (len : Nat) : Nat := ceilDiv len 4

/-- Grant what is owed, and after a new lock the full windows as they stand, unless CR_ERR holds grants back. -/
def State.grantOwed (s : State) (n : Fin 128) : State :=
  if s.crErr n then s
  else s.modPort n (fun p => { p with
    granted := Vector.ofFn (fun c : Fin 16 =>
      p.granted[c] + BitVec.ofNat 12 (p.owed[c] + if p.winOwed then s.rxWindow n c.val else 0))
    owed := Vector.replicate 16 0, winOwed := false })

/-- Units of class `c` left the receive buffer: the port's count for the class advances (R47). -/
def State.returnCredit (s : State) (n : Fin 128) (c units : Nat) : State :=
  (s.modPort n (fun p => { p with owed := p.owed.set (Fin.ofNat 16 c) (p.owed[Fin.ofNat 16 c] + units) })).grantOwed n

/-- Units of a received frame left the receive buffer: its class's count advances (R47), but for a frame from before a loss of lock (log
entry 114). -/
def State.frameCredit (s : State) (n : Fin 128) (f : RxFrame) (units : Nat) : State := if f.owes then s.returnCredit n f.cls units else s

/-- Available transmit credit of a class (R47): none until its credit block has come. -/
def txCredit (p : Port) (c : Nat) : Nat :=
  if p.txKnown[Fin.ofNat 16 c] then (p.txLimit[Fin.ofNat 16 c] - p.txSent[Fin.ofNat 16 c]).toNat else 0

/-- A received credit block of group `g` (R46). -/
def creditBlock (p : Port) (g : Fin 4) (c0 c1 c2 c3 : BitVec 12) : Port :=
  { p with
    txLimit := Vector.ofFn (fun c : Fin 16 => if c.val / 4 = g.val then
      (match c.val % 4 with | 0 => c0 | 1 => c1 | 2 => c2 | _ => c3) else p.txLimit[c])
    txKnown := Vector.ofFn (fun c : Fin 16 => c.val / 4 == g.val || p.txKnown[c]) }

/-- Both sides' counts are 0, and the line starts anew (R48). Frames wholly received stay in the receive buffer; no credit is returned for
them after the new lock, whose full windows stand for the whole buffer (DEDUCED, log entry 114: R48 speaks of frames in flight). -/
def zeroCounts (p : Port) : Port :=
  { p with granted := Vector.replicate 16 0, owed := Vector.replicate 16 0, winOwed := false, txLimit := Vector.replicate 16 0,
           txSent := Vector.replicate 16 0, txKnown := Vector.replicate 16 false, rx := p.rx.map (fun f => { f with owes := false }),
           markGap := 0, creditGap := 0, creditNext := 0, txBits := {}, txLeft := {}, rxBits := {} }

/-! ### The transmitted line (R42, R43, R46) -/

/-- The next credit block: the cumulative counts of its group's classes; the groups go round in the order 0 to 3 (R46). -/
def Port.nextCredit (p : Port) : TxBlock :=
  let c := fun (i : Nat) => p.granted[Fin.ofNat 16 (4 * p.creditNext.val + i)]
  .credit p.creditNext (c 0) (c 1) (c 2) (c 3)
/-- A credit block fills a slot. -/
def Port.sendCredit (p : Port) : Port :=
  { p with line := p.line ++ [p.nextCredit], markGap := p.markGap + 1, creditGap := 0, creditNext := p.creditNext + 1 }
/-- An alignment marker fills every 4,096th slot (R42). -/
def Port.sendMarker (p : Port) : Port :=
  if 4095 ≤ p.markGap then { p with line := p.line ++ [.marker], markGap := 0, creditGap := p.creditGap + 1 } else p
/-- A block fills a slot, after an alignment marker whose slot has come, and a credit block in time for one in every 640 slots (R42). -/
def Port.sendBlock (p : Port) (b : TxBlock) : Port :=
  let p := p.sendMarker
  let p := if 637 ≤ p.creditGap then p.sendCredit.sendMarker else p
  { p with line := p.line ++ [b], markGap := p.markGap + 1, creditGap := p.creditGap + 1 }
/-- The blocks of a Lieno frame: start, with the length it announces, two payload blocks for each of its `len` words, end (R43). -/
def Port.sendFrame (p : Port) (cls announced len : Nat) : Port :=
  let p := ({ p with line := [] } : Port).sendBlock (.start cls announced)
  ((List.range (2 * len)).foldl (fun p k => p.sendBlock (.payload k)) p).sendBlock .done
/-- A port without a frame to send: idle blocks up to and with the next credit block, and one more (R42; DESIGN CHOICE, log entry 113). -/
def Port.sendIdle (p : Port) : Port :=
  (List.range (638 - p.creditGap)).foldl (fun p _ => p.sendBlock .idle) ({ p with line := [] } : Port)

/-- The class of a frame on the transmit side. -/
def TxFrame.cls : TxFrame → Nat
  | .data c _ => c
  | .msg m => m.cls
  | .fragment .. => 8
/-- The length of a frame in words. -/
def TxFrame.len : TxFrame → Nat
  | .data _ ws => ws.length
  | .msg m => m.len
  | .fragment _ _ _ _ ws => 1 + ws.length
/-- The length that a frame's start block carries: a fragment cut short by an error announces the words it was to have (R43, R358). -/
def TxFrame.announced : TxFrame → Nat
  | .fragment _ _ lenw _ _ => 1 + lenw
  | f => f.len

/-- The header word of a message (R354). -/
def Msg.header (m : Msg) : Word128 :=
  BitVec.ofNat 128 (m.dest % 512 + m.src % 512 * 2 ^ 16 + m.kind % 256 * 2 ^ 32 + b2n m.bcast * 2 ^ 40 + m.stage % 4 * 2 ^ 41 +
    m.hops % 1024 * 2 ^ 48 + m.brem % 64 * 2 ^ 58 + m.beat.toNat * 2 ^ 64)

/-- Payload word `i` of a frame on the transmit side (R43, R354, R358). -/
def TxFrame.word : TxFrame → Nat → Word128
  | .data _ ws, i => ws.getD i 0
  | .msg m, 0 => m.header
  | .msg m, i => Config.messageWord m.cls m.kind m.fields i
  | .fragment b st lenw dev _, 0 => Config.fragmentHeader b st lenw dev
  | .fragment _ _ _ _ ws, i => ws.getD (i - 1) 0
/-- The bits of a block of frame `f`: a word's lower half is its first payload block (R42, R43). -/
def TxBlock.bits (f : Option TxFrame) : TxBlock → Bits
  | .idle => blockBits true (Config.controlContent [0])
  | .marker => blockBits true (Config.controlContent [1])
  | .credit g c0 c1 c2 c3 => blockBits true (Config.controlContent [2, g.val, c0.toNat, c1.toNat, c2.toNat, c3.toNat])
  | .start cls len => blockBits true (Config.controlContent [3, cls, len])
  | .payload k =>
    let w := (f.elim 0 (fun f => f.word (k / 2)) : Word128)
    blockBits false (BitVec.ofNat 64 (w.toNat / 2 ^ (64 * (k % 2))))
  | .done => blockBits true (Config.controlContent [4])
/-- The blocks of the line, of frame `f` if there is one, go out: their bits fill codewords, and those the PHY's words (R42, R431, R432). -/
def Port.encodeLine (p : Port) (f : Option TxFrame) : Port :=
  let (coded, bits) := encodeBits (p.line.foldl (fun a b => a.append (b.bits f)) p.txBits)
  let (words, left) := phyWords (p.txLeft.append coded)
  { p with txBits := bits, txLeft := left, txWords := words }

/-! ### Lock (R48, R49) -/

/-- UP falls: LINK IRQ_STAT bit 0; NBVALID and MISWIRE read 0 until the next HELLO (R50, R351). -/
def State.portDown (s : State) (n : Fin 128) : State :=
  let s := if s.portUp n then s.irq (.link n) 0 else s
  ((s.modReg (linkAddr n 0x044) (fun w => putBit w 0 false)).modReg (linkAddr n 0x38C) (fun w => w &&& 0x20000000)).modPort n zeroCounts

/-- SYSCFG.EN (R348). -/
def State.sysEn (s : State) : Bool := bitAt (s.getReg 0x000080) 31
/-- SYSCFG.DEVNO. -/
def State.devno (s : State) : Nat := fld (s.getReg 0x000080) 0 9
/-- PEERCFG.DIR (R350). -/
def State.peerDir (s : State) (n : Fin 128) : Nat := fld (s.getReg (linkAddr n 0x380)) 0 3
/-- PNSTAT.NBVALID (R351). -/
def State.nbValid (s : State) (n : Fin 128) : Bool := bitAt (s.getReg (linkAddr n 0x38C)) 31
/-- The port is up in the Peer role, messaging is enabled, and its DIR is legal (R349, R350). -/
def State.peerUp (s : State) (n : Fin 128) : Bool := s.portUp n && s.portRole n == 2 && s.sysEn && decide (s.peerDir n < 6)
/-- The port carries class 8 to 12 frames now: its page is enabled too (R25, log entry 112) and, but for a HELLO, its neighbour is valid
(R351). -/
def State.peerOk (s : State) (n : Fin 128) (needNb : Bool) : Bool := s.pageEn (.link n) && s.peerUp n && (!needNb || s.nbValid n)

/-- A message of the one-hop kinds goes to a port's queue (R351, R361). -/
def State.sendOnPort (s : State) (n : Fin 128) (m : Msg) : State :=
  { s with fwdQ := s.fwdQ ++ [{ dir := s.peerDir n, cls := m.cls, port := n, frame := .msg { m with src := s.devno } }] }

/-- A HELLO with this device's DEVNO and the port's DIR (R351); none on a port whose DIR is reserved (R350). -/
def State.sendHello (s : State) (n : Fin 128) : State :=
  if s.peerUp n then
    s.sendOnPort n { cls := 11, kind := 1, dest := 0, fields := [BitVec.ofNat 64 s.devno, BitVec.ofNat 64 (s.peerDir n)] }
  else s

/-- UP rises: each class is granted its full window, in credit blocks of the four groups; a Peer port sends a HELLO (R48, R351). -/
def State.portRise (s : State) (n : Fin 128) : State :=
  let s := s.modReg (linkAddr n 0x044) (fun w => putBit w 0 true)
  let s := s.modPort n (fun p => { zeroCounts p with winOwed := true, lockTry := false, goodMarks := 0, badMarks := 0, line := [] })
  ((s.grantOwed n).modPort n (fun p => p.sendCredit.sendCredit.sendCredit.sendCredit.encodeLine none)).sendHello n

/-- Loss of lock: UP falls, counts are 0, the port tries to lock again at the same rate (R48). -/
def State.loseLock (s : State) (n : Fin 128) : State :=
  (s.portDown n).modPort n (fun p => { p with lockTry := true, goodMarks := 0, badMarks := 0 })

/-- An alignment marker, good or missing or mismatched (R48). A port whose page is disabled does not come up (DESIGN CHOICE, log entry
112). -/
def State.marker (s : State) (n : Fin 128) (good : Bool) : State :=
  let p := s.ports[n]
  if s.portUp n then
    if good then s.modPort n (fun p => { p with badMarks := 0 })
    else if p.badMarks + 1 ≥ 3 then s.loseLock n else s.modPort n (fun p => { p with badMarks := p.badMarks + 1 })
  else if p.lockTry && s.pageEn (.link n) then
    if !good then s.modPort n (fun p => { p with goodMarks := 0 })
    else if p.goodMarks + 1 ≥ 2 then s.portRise n else s.modPort n (fun p => { p with goodMarks := p.goodMarks + 1 })
  else s

/-! ### Training (R49, R433) -/

/-- The PHY group of a port (R433). -/
def phyGroup (n : Fin 128) : Fin 8 := ⟨n.val / 16, by omega⟩

/-- The lane enable rises for an attempt once the group is powered and the lane is down; before that the group's power is asked
for (R433). -/
def State.phyTry (s : State) (n : Fin 128) : State :=
  match s.ports[n].training with
  | some t =>
    if t.granted && !s.ports[n].phyEn then
      let s := { s with phyReq := s.phyReq.set (phyGroup n) true }
      if s.phyAck[phyGroup n] && !s.ports[n].phyRdy then s.modPort n (fun p => { p with phyEn := true }) else s
    else s
  | none => s

/-- The group's request falls once every port of it is disabled and its lane is off; the host's acknowledge follows it (R433). -/
def State.phyIdle (s : State) (g : Fin 8) : State :=
  if (List.finRange 128).all (fun n => phyGroup n != g || (!s.pageEn (.link n) && !s.ports[n].phyEn)) then
    { s with phyReq := s.phyReq.set g false, phyAck := s.phyAck.set g false }
  else s

/-- Training ends: the grant goes back; when it failed the port is left down (R49, R384). -/
def State.trainEnd (s : State) (n : Fin 128) (t : Training) (st : OpState) (code detail : Nat) : State :=
  let s := (s.withdraw (.train n)).modPort n (fun p => { p with training := none })
  let s := if st = .done then s else
    ((s.portDown n).modPort n (fun p => { p with phyEn := false, lockTry := false })).phyIdle (phyGroup n)
  s.cbEnd t.cb st code detail

/-- LINK_TRAINING: TRAIN.GO (R49, R384). -/
def State.trainGo (s : State) (n : Fin 128) : State :=
  if !s.pageEn (.link n) || s.ports[n].training.isSome then s
  else match s.cbStart 7 (.link n) with
    | (none, s) => s.setReg (linkAddr n 0x048) 0xFF
    | (some r, s) =>
      let cfg := s.pcfg n
      let rate := fld cfg 0 3
      let auto := bitAt cfg 8
      let role := fld cfg 4 2
      let total := if auto then 4 * rate else 4
      let s := s.setReg (linkAddr n 0x048) (BitVec.ofNat 32 r.val)
      let s := (s.portDown n).modPort n (fun p => { p with phyEn := false, lockTry := false })
      let s := s.modReg (linkAddr n 0x044) (fun w => putBit w 9 (decide (role = 3)))
      let t : Training := { cb := r, rate, auto, step := 0, granted := false, total }
      let s := s.cbReport r (fun v => { v with total := BitVec.ofNat 32 total, partials := BitVec.ofNat 32 rate })
      let s := s.modPort n (fun p => { p with training := some t })
      if role = 3 ∨ rate = 0 ∨ 6 ≤ rate then s.trainEnd n t .failed opDeviceError 0
      else
        let s := s.cbEnter r .permitWait
        match s.askPermit (.train n) 250 1 false with
        | (.refused, s) => s.trainEnd n t .failed opPermitRefused 0
        | (_, s) => s

/-- The grant of a training: its first attempt begins (R49). -/
def State.trainGranted (s : State) (n : Fin 128) : State :=
  match s.ports[n].training with
  | none => s
  | some t => ((s.cbEnter t.cb .running).modPort n (fun p => { p with training := some { t with granted := true } })).phyTry n

/-- A port in a role transmits frames of a class (R44). -/
def roleSends (role cls : Nat) : Bool := if cls < 8 then role == 1 else if cls < 13 then role == 2 else true

/-- A step of the attempt completes: block lock needs the lane locked; after the fourth the port is up with its role and rate, and
the record ends DONE; a ROLE that is reserved by then fails it (R44). ABORT acts at this boundary (R49). Release frames kept from before that the
new role does not carry are dropped (R44; DESIGN CHOICE, log entry 28). -/
def State.trainStep (s : State) (n : Fin 128) : State :=
  match s.ports[n].training with
  | none => s
  | some t =>
    if !t.granted || !s.ports[n].phyEn || !s.ports[n].phyRdy then s
    else if s.callboard[t.cb].abort then s.trainEnd n t .aborted opAbortReq 0
    else
      let s := s.cbReport t.cb (fun v => { v with progress := v.progress + 1 })
      if t.step < 3 then s.modPort n (fun p => { p with training := some { t with step := t.step + 1 } })
      else
        let role := fld (s.pcfg n) 4 2
        if role = 3 then (s.modReg (linkAddr n 0x044) (fun w => putBit w 9 true)).trainEnd n t .failed opDeviceError 0
        else
          let s := s.modPort n (fun p => { p with rate := t.rate, relQ := p.relQ.filter (fun f => roleSends role f.cls) })
          let s := s.modReg (linkAddr n 0x044) (fun w => putFld w 4 2 role)
          (s.trainEnd n t .done opOk t.rate).portRise n

/-- A step runs out of time: the attempt fails; with AUTO the next lower code is tried, else the record ends FAILED (R49). -/
def State.trainTimeout (s : State) (n : Fin 128) : State :=
  match s.ports[n].training with
  | none => s
  | some t =>
    if !t.granted then s
    else if s.callboard[t.cb].abort then s.trainEnd n t .aborted opAbortReq 0
    else if t.auto ∧ 1 < t.rate then
      let s := s.cbReport t.cb (fun v => { v with partials := BitVec.ofNat 32 (t.rate - 1) })
      (s.modPort n (fun p => { p with phyEn := false, training := some { t with rate := t.rate - 1, step := 0 } })).phyTry n
    else s.trainEnd n t .failed opTimeout 0

/-! ### Reception (R43, R44, R446) -/

/-- Where a frame of class `c` on a port goes: the parse script, a receive ring, a Peer consumer, or nowhere (R44, R349 to R351). -/
inductive RxRoute where
  | parse | ring | peer | discard
  deriving DecidableEq, Repr

/-- A class 11 frame is a HELLO: its header's KIND is 1 (R354). -/
def isHello (c : Nat) (words : List Word128) : Bool := c == 11 && fld (words.headD 0) 32 8 == 1

/-- The route of a received frame by class and role; without a valid neighbour only a HELLO passes (R351). -/
def State.rxRoute (s : State) (n : Fin 128) (c : Nat) (words : List Word128) : RxRoute :=
  if 13 ≤ c then .ring
  else if c < 8 then (if s.portRole n = 0 ∧ bitAt (s.pcfg n) 9 then .parse else .discard)
  else if s.peerOk n (!isHello c words) then .peer else .discard

/-- LIENO_FRAME_RECEIVE: a frame is taken whole and routed, or discarded with its credits returned (R43, R44). Fragments and decisions stay
in the receive buffer for the rows that consume them (R358, R359); any other frame for a Peer consumer leaves it at once (log entry 27).
A port whose page is disabled takes in no new frame: it is discarded uncounted, its credits returned (R25; DESIGN CHOICE, log entry
112). -/
def State.frameReceive (s : State) (n : Fin 128) (c : Nat) (words : List Word128) (check : FrameCheck) : State :=
  if !s.portUp n then s
  else if !s.pageEn (.link n) then s.returnCredit n c (frameUnits words.length)
  else
    let s := s.useData 357 words.length
    match check with
    | .overlapsUncorrectable => s.returnCredit n c (frameUnits words.length)
    | .lengthMismatch => (s.parseDrop n 1).returnCredit n c (frameUnits words.length)
    | .good =>
      match s.rxRoute n c words with
      | .discard => (s.parseDrop n 1).returnCredit n c (frameUnits words.length)
      | .peer =>
        if c < 10 then s.modPort n (fun p => { p with rx := p.rx ++ [{ cls := c, words, len := words.length, beat := s.beatno }] })
        else s.returnCredit n c (frameUnits words.length)
      | _ => s.modPort n (fun p => { p with rx := p.rx ++ [{ cls := c, words, len := words.length, beat := s.beatno }] })

/-- Credit units that have left the buffer when `left` words of a frame of `len` are still there. -/
def unitsLeft (len left : Nat) : Nat := if left = 0 then frameUnits len else (len - left) / 4

/-- The oldest frame of a class in a receive buffer, and the others. -/
def State.rxHead (s : State) (n : Fin 128) (c : Nat) : Option (RxFrame × List RxFrame) :=
  takeFirst (fun f : RxFrame => f.cls == c) s.ports[n].rx
/-- What the frames of a class still have to do: words to deliver and ring entries to write; it falls at each word and each entry. -/
def State.rxLeft (s : State) (n : Fin 128) (c : Nat) : Nat :=
  ((s.ports[n].rx.filter (fun f => f.cls == c)).map (fun f => f.words.length + f.len + 1 - f.sent)).sum
/-- Repeat a piece of work on the oldest frame of a class, at most `k` times, until the frame has left or the work gets no further. -/
def untilStuck (n : Fin 128) (c : Nat) (work : State → State) : Nat → State → State
  | 0, s => s
  | k + 1, s =>
    let t := work s
    if t.rxLeft n c < s.rxLeft n c ∧ t.ports[n].rx.length = s.ports[n].rx.length then untilStuck n c work k t else t

/-- The entries of a Lieno frame in a link ring: an 8-byte header, then the payload in 64-byte entries (R45). The bytes of the last entry
beyond the payload are written as zeros (DESIGN CHOICE, log entry 114: R45 gives them no value). -/
def linkEntries (c : Nat) (words : List Word128) (beat : Word) : List (List Byte) :=
  let bytes := bytesLE 2 words.length ++ [BitVec.ofNat 8 c, 0] ++ bytesLE 4 beat.toNat ++ bytesOfPortWords words
  let n := ceilDiv bytes.length 64
  (List.range n).map (fun i => let b := (bytes.drop (64 * i)).take 64; b ++ List.replicate (64 - b.length) 0)

/-- Words of a frame of `len` that `i` entries have carried whole: 56 bytes in the first, 64 in each other (R45). -/
def entryWords (len i : Nat) : Nat := min len ((64 * i - 8) / 16)

/-- Write the next entry of the oldest frame of class `c` to its receive ring; while the ring is full the frame waits; a ring that cannot be
used, or that goes to MEMERR, has the frame discarded whole and counted (R446). A port whose page is disabled begins no frame (R25). -/
def State.receiveEntry (n : Fin 128) (c : Nat) (s : State) : State :=
  match s.rxHead n c with
  | none => s
  | some (f, rest) =>
    if f.sent = 0 ∧ !s.pageEn (.link n) then s else
    let r := 4096 + 32 * n.val + c
    let es := linkEntries c f.words (f.beat.setWidth 32)
    let gone := unitsLeft f.len (f.len - entryWords f.len f.sent)
    let leave := fun (s : State) => (s.modPort n (fun p => { p with rx := rest })).frameCredit n f (frameUnits f.len - gone)
    if s.ringEsize r != 2 then (leave s).parseDrop n 1
    else s.access (ringPut r (es.getD f.sent [])) (fun p s =>
      match p with
      | .done _ =>
        if f.sent + 1 < es.length then
          (s.modPort n (fun p => { p with rx := { f with sent := f.sent + 1 } :: rest })).frameCredit n f
            (unitsLeft f.len (f.len - entryWords f.len (f.sent + 1)) - gone)
        else leave s
      | .full => s
      | _ => (leave s).parseDrop n 1) (fun s => s)

/-- RECEIVE_RING_WRITE: the oldest waiting frame of a class 13 to 15 goes to its receive ring, entry by entry as far as there is room
(R446). -/
def State.receiveRing (s : State) (n : Fin 128) (c : Nat) : State :=
  match s.rxHead n c with
  | none => s
  | some (f, _) =>
    if c < 13 then s
    else untilStuck n c (State.receiveEntry n c) ((linkEntries c f.words (f.beat.setWidth 32)).length - f.sent) s

/-! ### Transmission (R446, R47) -/

/-- A frame goes out on a port: its blocks fill the line, its credit is used (R42, R47). -/
def State.transmit (s : State) (n : Fin 128) (f : TxFrame) : State :=
  (s.useData 357 f.len).modPort n (fun p => { (p.sendFrame f.cls f.announced f.len).encodeLine (some f) with
    lastTx := some f
    txSent := p.txSent.set (Fin.ofNat 16 f.cls) (p.txSent[Fin.ofNat 16 f.cls] + BitVec.ofNat 12 (frameUnits f.len)) })

/-- The port may start a frame that is no release frame: enabled, not frozen, up, its release queue empty (R25, R145, R446). -/
def State.txReady (s : State) (n : Fin 128) : Bool :=
  s.pageEn (.link n) && !s.frozen (.link n) && s.portUp n && s.ports[n].relQ.isEmpty

/-- A whole frame at the head of a transmit ring with credit for it: the frame and its entries. A bad header, or an entry that
cannot be read, sends the ring to MEMERR (R446). -/
def txRingHead (n : Fin 128) (c : Nat) : MemM (Option (List Word128 × Nat)) := do
  let r := 4096 + 32 * n.val + 16 + c
  let s ← get
  if !s.ringEn r || !s.ringLegal r || s.ringEsize r != 2 || s.ringHead r == s.ringTail r then return none
  match ← memTry (ringRead r (s.ringHead r)) with
  | none =>
    modify (fun s => s.ringFail r)
    return none
  | some h =>
    let len := natLE (h.take 2)
    if len = 0 ∨ 4096 < len then
      modify (fun s => s.ringFail r)
      return none
    let n' := ceilDiv (8 + 16 * len) 64
    if (s.ringTail r - s.ringHead r).toNat < n' ∨ txCredit s.ports[n] c < frameUnits len then return none
    match ← memTry (ringReadAll r (s.ringHead r) n') with
    | none =>
      modify (fun s => s.ringFail r)
      return none
    | some b => return some (portWordsOfBytes len (b.drop 8), n')

/-- A message of a one-hop kind: HELLO, CALL or RESP (R353). -/
def Msg.oneHop (m : Msg) : Bool := m.cls == 11 && decide (m.kind < 4)
/-- A HELLO of this device. -/
def TxFrame.hello : TxFrame → Bool
  | .msg m => m.cls == 11 && m.kind == 1
  | _ => false

/-- The first message of a class that the port may carry now, if there is credit for it (R349 to R351, R357). -/
def State.fwdHead (s : State) (n : Fin 128) (c : Nat) : Option Fwd :=
  match s.fwdQ.find? (fun f => f.port == n && f.cls == c && s.peerOk n (!f.frame.hello)) with
  | some f => if frameUnits f.frame.len ≤ txCredit s.ports[n] c then some f else none
  | none => none

/-- A fine time with FOFS added (R316); a write of FOFS accepted at the last edge counts (R318). -/
def State.stamp (s : State) (t : Word64) : Word64 := t + s.timeNow.fofs.signExtend 64
/-- The fine time of fine unit `f` of the present beat, FOFS included. -/
def State.stampNow (s : State) (f : BitVec 8) : Word64 := s.stamp (s.timeNow.beat * 256 + f.setWidth 64)

/-- A message as it leaves: its BEATNO is the beat in which it leaves its originator (R354), and a RESP carries as T3 the time at which its
start block is handed to the port (R361). -/
def State.stamped (s : State) (fine : BitVec 8) : TxFrame → TxFrame
  | .msg m => .msg { m with
      beat := s.timeNow.beat
      fields := if m.cls = 11 ∧ m.kind = 3 then [m.fields.headD 0, s.stampNow fine] else m.fields }
  | f => f

/-- A CALL leaves: T1 of the measurement under way is its time (R361). -/
def State.callSent (s : State) (fine : BitVec 8) : TxFrame → State
  | .msg m => if m.cls = 11 ∧ m.kind = 2 then { s with align := s.align.map (fun a => (a.1, some (s.stampNow fine), a.2.2)) } else s
  | _ => s

/-- The class 8 entry at the head of the fragment ring of a port, when there is one to send (R358). -/
def State.fragHead (s : State) (n : Fin 128) : Option Word :=
  let pf := s.getReg (linkAddr n 0x384)
  let r := fld pf 0 14
  if bitAt pf 31 && s.peerOk n true && s.ringEn r && s.ringLegal r && s.ringClass r == 0 && s.ringEsize r == 2
      && s.ringHead r != s.ringTail r then some (s.ringHead r) else none

/-- The fragment entry that class 8 could send now: its ring count and its bytes, when there is credit for the header word and LENW
words. An entry that cannot be read sends the ring to MEMERR. -/
def txFragHead (n : Fin 128) : MemM (Option (Word × List Byte)) := do
  let s ← get
  let r := fld (s.getReg (linkAddr n 0x384)) 0 14
  match s.fragHead n with
  | none => return none
  | some k =>
    match ← memTry (ringRead r k) with
    | none =>
      modify (fun s => s.ringFail r)
      return none
    | some b => return if frameUnits (natLE ((b.drop 12).take 2) % 4096 + 1) ≤ txCredit s.ports[n] 8 then some (k, b) else none

/-- The order in which a round looks at the classes 8 and 10 to 15, after the class served last. -/
def txOrder (last : Nat) : List Nat := ([8, 10, 11, 12, 13, 14, 15].filter (last < ·)) ++ ([8, 10, 11, 12, 13, 14, 15].filter (· ≤ last))

/-- The first class of a round that has a whole frame and the credit for it: a fragment, a message, or a ring frame (R446). -/
def txFirst (n : Fin 128) : List Nat → MemM (Option Nat)
  | [] => return none
  | c :: rest => do
    let s ← get
    let can : Bool ← if c = 8 then Option.isSome <$> txFragHead n
      else if c < 13 then pure (s.fwdHead n c).isSome
      else Option.isSome <$> txRingHead n c
    if can then return some c else txFirst n rest

/-- Serve the class whose turn it is: a message or a ring frame; class 8 is FRAGMENT_SEND's. Whether some class had its turn. -/
def txServe (n : Fin 128) (fine : BitVec 8) : MemM Bool := do
  let s ← get
  match ← txFirst n (txOrder s.ports[n].rr) with
  | none => return false
  | some c =>
    if c = 8 then return true
    else if c < 13 then
      match s.fwdHead n c with
      | some f =>
        modify (fun s => ({ s with fwdQ := s.fwdQ.erase f }.callSent fine f.frame).transmit n (s.stamped fine f.frame))
        modify (fun s => s.modPort n (fun p => { p with rr := c }))
        return true
      | none => return false
    else
      match ← txRingHead n c with
      | none => return false
      | some (ws, k) =>
        let r := 4096 + 32 * n.val + 16 + c
        modify (fun s => ((s.ringConsume r (s.ringHead r) k).transmit n (.data c ws)).modPort n (fun p => { p with rr := c }))
        return true

/-- A port that is up and sends no frame fills its slots with idle blocks, markers and credit blocks (R42). -/
def State.idleSlots (s : State) (n : Fin 128) : State :=
  if s.portUp n then s.modPort n (fun p => p.sendIdle.encodeLine none) else s

/-- LIENO_FRAME_TRANSMIT: round robin in ascending class order over the sources with a whole frame and credit (R446); its start block is
handed to the port at a fine time of the present beat. Without such a source the command stands for the slots up to the next credit block
(log entry 113). -/
def State.linkTransmit (s : State) (n : Fin 128) (fine : BitVec 8) : State :=
  if s.txReady n then s.access (txServe n fine) (fun sent s => if sent then s else s.idleSlots n) (fun s => s) else s.idleSlots n

/-- RELEASE_FRAME: the release frame at the head of the queue leaves once its class has credit (R145), on a port whose role carries it
(R44); class 9 needs a port that may carry it (R349 to R351). -/
def State.releaseFrame (s : State) (n : Fin 128) : State :=
  match s.ports[n].relQ with
  | [] => s
  | f :: rest =>
    if s.pageEn (.link n) && !s.frozen (.link n) && s.portUp n && roleSends (s.portRole n) f.cls && (decide (f.cls < 8) || s.peerOk n true) &&
        decide (frameUnits f.len ≤ txCredit s.ports[n] f.cls) then
      (s.transmit n f).modPort n (fun p => { p with relQ := rest })
    else s

end Sys2Proof.Machine
end

