-- ==== Sys2Proof/Machine/Frames.lean ====
section
/-!
DEFINITION. The frame ring: geometry (R54, R55), stream regions (R56, R57), opening, closing and READY (R58), frame-ready entries
(R59), wrap waits and shedding (R64, R65).
-/
namespace Sys2Proof.Machine

/-! ### Geometry -/

/-- FR_GEOM.EN. -/
def State.frEn (s : State) : Bool := bitAt (s.getReg 0x100304) 31
/-- SPAN, the frame span in beats. -/
def State.frSpan (s : State) : Nat := fld (s.getReg 0x100304) 16 6 + 1
/-- S, the number of slots. -/
def State.frSlots (s : State) : Nat := fld (s.getReg 0x100304) 0 12 + 1
/-- Slot size in bytes. -/
def State.frSlotSize (s : State) : Nat := 4096 * 2 ^ fld (s.getReg 0x100304) 12 4
/-- The Event Memory offset of slot `i` (R55). -/
def State.frSlotAddr (s : State) (i : Nat) : Nat := fld (s.getReg 0x100300) 12 15 * 4096 + i * s.frSlotSize
/-- Port `n` contributes: its FR_PORTS bit. -/
def State.frContributes (s : State) (n : Fin 128) : Bool := bitAt (s.getReg (0x100308 + 4 * (n.val / 32))) (n.val % 32)
/-- The ports that contribute. -/
def State.frPorts (s : State) : List (Fin 128) := (List.finRange 128).filter s.frContributes
/-- The frame of beat `b` (R53). -/
def State.frameOf (s : State) (b : Word64) : Nat := b.toNat / s.frSpan

/-! ### Streams -/

/-- The page of stream `st`, and the address of its register `off` (R49, R56). -/
def streamPage (st : Nat) : Page := .link (Fin.ofNat 128 (st / 2))
/-- A stream register. -/
def streamAddr (st off : Nat) : Nat := pageBase (streamPage st) + 0x200 + 0x20 * (st % 2) + off
/-- SCFG. -/
def State.scfg (s : State) (st : Nat) : Word := s.getReg (streamAddr st 0x00)
/-- SCFG.EN. -/
def State.streamOn (s : State) (st : Nat) : Bool := bitAt (s.scfg st) 31
/-- SRING. -/
def State.sring (s : State) (st : Nat) : Nat := fld (s.getReg (streamAddr st 0x08)) 0 14
/-- SHED_DEPTH: 0 acts as 1. -/
def State.shedDepth (s : State) (st : Nat) : Nat := max 1 (fld (s.getReg (streamAddr st 0x0C)) 0 12)
/-- READY: entries committed and neither popped nor shed. -/
def State.readyCount (s : State) (st : Nat) : Nat := countIf (fun e : ReadyEntry => e.stream == st) s.frames.entries
/-- Words of a region, or of a subregion in the fixed layout (R57). -/
def State.regionWords (s : State) (st : Nat) : Nat :=
  let size := fld (s.getReg (streamAddr st 0x04)) 16 16
  if bitAt (s.scfg st) 29 then size * 64 / (fld (s.scfg st) 0 7 + 1) / 16 else size * 4
/-- The region runs past the slot (R57). -/
def State.regionBad (s : State) (st : Nat) : Bool :=
  let w := s.getReg (streamAddr st 0x04)
  decide (s.frSlotSize < (fld w 0 16 + fld w 16 16) * 64)
/-- The Event Memory offset of a stream's region in a frame's slot. -/
def State.regionAddr (s : State) (st f : Nat) : Nat := s.frSlotAddr (f % s.frSlots) + fld (s.getReg (streamAddr st 0x04)) 0 16 * 64

/-! ### Slots -/

/-- The slot of frame `f`, if in use. -/
def State.slotOf (s : State) (f : Nat) : Option Slot := (s.frames.slots.find? (fun p => p.1 == f % s.frSlots)).map (·.2)
/-- Put a slot in use, or change it. -/
def Frames.putSlot (fr : Frames) (i : Nat) (sl : Slot) : Frames :=
  { fr with slots := (i, sl) :: fr.slots.filter (fun p => p.1 ≠ i) }

/-! ### Shedding (R65) -/

/-- Shed an entry: mark it SHED in place, advance HEAD past it, count it as released, release the stream's hold, count it. -/
def shedEntry (e : ReadyEntry) : MemM Unit := do
  let s ← get
  let a := s.entryAddr e.ring e.k
  match ← memTry (memRead gateway (a + 12) 4) with
  | some b => let _ ← memTry (memWrite gateway (a + 12) ((bytesLE 4 (putBit (wordLE b) 29 true).toNat).map some))
  | none => pure ()
  modify (fun s =>
    let s := (s.setReg (ringBase e.ring + 0x0C) (e.k + 1)).ringReleased e.ring e.k
    let s := s.modFrames (fun fr => ({ fr with entries := fr.entries.erase e } : Frames).dropHold e.frame e.stream)
    (s.incReg (streamAddr e.stream 0x14)).irq (streamPage e.stream) 3)

/-- Shed the oldest entry of a stream, if one is READY. -/
def shedOldest (st : Nat) : MemM Unit := do
  let s ← get
  match s.frames.entries.find? (fun e => e.stream == st) with
  | some e => shedEntry e
  | none => return ()

/-- A wrap wait on frame `f`: each Shed stream with a READY entry for it sheds that entry and those before it in its ring (R64). -/
def wrapShed (f : Nat) : MemM Unit := do
  let s ← get
  (s.frames.entries.filter (fun e => decide (e.frame ≤ f) && bitAt (s.scfg e.stream) 30
    && s.frames.entries.any (fun x => x.stream == e.stream && x.frame == f))).forM shedEntry

/-- A wrap wait begins: FR_WRAP and LINK 0 IRQ_STAT bit 6 (R58, R64). -/
def State.wrapBegin (s : State) : State := (s.incReg 0x10031C).irq (.link 0) 6

/-! ### Words (R57, R58) -/

/-- What the ingress writer does with a word: placed or overflowed, late, dropped, or it must wait for its slot. -/
inductive Ingress where
  | done | late | dropped | waits
  deriving DecidableEq, Repr

/-- Words that a stream's region already holds from a subregion's port (0 in the append layout). -/
def Slot.count (sl : Slot) (st sub : Nat) : Nat :=
  match sl.written.find? (fun w => w.1 == st && w.2.1 == sub) with
  | some w => w.2.2
  | none => 0

/-- A port closes its contribution to every frame before `f` (R58). -/
def State.closeTo (s : State) (n : Fin 128) (f : Nat) : State := s.modPort n (fun p => { p with closedTo := max p.closedTo f })

/-- Frame `f` may be written: its slot is in use for it, or can be opened for it (R58). -/
def State.slotReady (s : State) (f : Nat) : Bool :=
  match s.slotOf f with
  | some sl => sl.frame == f
  | none => decide (f < s.frames.oldest + s.frSlots)

/-- A frame is past taking words: it, or a later one, has been READY, or its slot is READY while entries of it still wait (R58). -/
def State.framePast (s : State) (f : Nat) : Bool :=
  decide (f < s.frames.oldest) || (match s.slotOf f with | some sl => sl.frame == f && sl.ready | none => false)
/-- A port's word waits no longer for a slot. -/
def State.waitOver (s : State) (n : Fin 128) : State :=
  (s.modReg (linkAddr n 0x044) (fun w => putBit w 8 false)).modPort n (fun p => { p with waiting := none })
/-- Another port is writing a TAKE to the stream and frame: each TAKE's words stay contiguous in the append layout (R57). -/
def State.takenBy (s : State) (n : Fin 128) (st f : Nat) : Bool :=
  (List.finRange 128).any (fun m => m != n && s.ports[m].taking == some (st, f))

/-- The ingress writer of port `n` takes a word for stream `st` of frame `f` (R57, R58, R64). Each port that waits for a slot is a wrap
wait of its own, counted once in FR_WRAP; PAGE_STAT.ERR of a region past the slot sets when a word for the stream comes (both DESIGN
CHOICE, log entry 114: R64 and R57 leave them open). -/
def ingressWord (n : Fin 128) (st f : Nat) (w : Word128) : MemM Ingress := do
  let s ← get
  let cfg := s.scfg st
  let fixed := bitAt cfg 29
  let sub := if fixed then n.val - fld cfg 8 7 else 0
  if !s.streamOn st || !s.frEn then
    set (s.waitOver n)
    return .dropped
  let late := decide (f < s.ports[n].closedTo) || s.framePast f
  set (s.closeTo n f)
  if late then
    modify (fun s => s.waitOver n)
    return .late
  if fixed && (decide (n.val < fld cfg 8 7) || decide (fld cfg 0 7 < sub)) then
    modify (fun s => s.waitOver n)
    return .dropped
  if !s.slotReady f then
    if s.ports[n].waiting ≠ some f then
      modify (fun s => (s.wrapBegin.orReg (linkAddr n 0x044) 0x100).modPort n (fun p => { p with waiting := some f, taking := none }))
    wrapShed (match s.slotOf f with | some sl => sl.frame | none => f - s.frSlots)
    return .waits
  if !fixed && s.takenBy n st f then
    set (s.waitOver n)
    return .waits
  let sl := (s.slotOf f).getD { frame := f, ready := false, holds := [], written := [], overflow := [] }
  modify (fun s => (s.waitOver n).modPort n (fun p => { p with taking := if fixed then none else some (st, f) }))
  let cnt := sl.count st sub
  if s.regionBad st || decide (s.regionWords st ≤ cnt) then
    modify (fun s =>
      let s := if s.regionBad st then s.pageErr (streamPage st) else s
      let s := (s.incReg (streamAddr st 0x18)).irq (streamPage st) 4
      s.modFrames (fun fr => fr.putSlot (f % s.frSlots) { sl with overflow := st :: sl.overflow.filter (· ≠ st) }))
    return .done
  let a := s.regionAddr st f + (sub * s.regionWords st + cnt) * 16
  let _ ← memTry (writeRegion streamWho none .em a a ((bytesLE 16 w.toNat).map some))
  modify (fun s => s.modFrames (fun fr => fr.putSlot (f % s.frSlots)
    { sl with written := (st, sub, cnt + 1) :: sl.written.filter (fun x => !(x.1 == st && x.2.1 == sub)) }))
  return .done

/-! ### Closing by timeout, READY, release (R58) -/

/-- Frame `f` is INCOMPLETE. -/
def Frames.isIncomplete (fr : Frames) (f : Nat) : Bool := fr.incomplete.any (fun r => decide (r.1 ≤ f) && decide (f ≤ r.2))

/-- CLOSE_TIMEOUT: every contributing port that has not closed frame `f` and whose timeout BEATNO has reached closes it, and with it the
earlier frames it had not closed; each of those frames is then INCOMPLETE. -/
def State.closeTimeout (s : State) (f : Nat) : State :=
  let due := s.frPorts.filter (fun n => decide (s.ports[n].closedTo ≤ f) &&
    beatLe (BitVec.ofNat 64 (f * s.frSpan + s.frSpan + s.regN (linkAddr n 0x04C))) s.beatno)
  if !s.frEn || decide (f < s.frames.oldest) || due.isEmpty then s
  else
    let first := due.foldl (fun m n => min m (max s.frames.oldest s.ports[n].closedTo)) f
    (due.foldl (fun s n => s.closeTo n (f + 1)) s).modFrames (fun fr => { fr with incomplete := (first, f) :: fr.incomplete })

/-- Frame `f`'s ports have closed it; with no contributing port, its last beat is over. -/
def State.frameClosed (s : State) (f : Nat) : Bool :=
  if s.frPorts.isEmpty then beatLe (BitVec.ofNat 64 (f * s.frSpan + s.frSpan)) s.beatno else s.frPorts.all (fun n => decide (f < s.ports[n].closedTo))

/-- The 16-byte frame-ready entry (R59). -/
def readyBytes (s : State) (f st : Nat) (sl : Slot) : List Byte :=
  let len := ((sl.written.filter (fun w => w.1 == st)).map (·.2.2)).sum
  bytesLE 8 (f * s.frSpan) ++ bytesLE 4 (s.regionAddr st f % 2 ^ 27) ++
    bytesLE 4 (len % 2 ^ 20 + st * 2 ^ 20 + b2n (s.frames.isIncomplete f) * 2 ^ 28 + b2n (sl.overflow.contains st) * 2 ^ 30)

/-- The entry of stream `st` for frame `f` is dealt with. -/
def State.entryDone (s : State) (st : Nat) : State := s.modFrames (fun fr => { fr with committed := st :: fr.committed })
/-- An entry that is shed before it is written, or lost: it counts in SHED and takes no hold. A lost entry, also of a Hold stream, sets
IRQ_STAT bit 3 as a shed one does (DESIGN CHOICE, log entry 114: R50 names shedding only). -/
def State.entryLost (s : State) (st : Nat) : State := ((s.incReg (streamAddr st 0x14)).irq (streamPage st) 3).entryDone st

/-- The ring is full behind an entry popped and not released: shedding would free no room (R65). -/
def State.ringStuck (s : State) (r : Nat) : Bool := s.ringFull r && s.ringRelCount r != s.ringHead r

/-- Shed the oldest entries of a stream, `k` of them. -/
def shedMany (st : Nat) : Nat → MemM Unit
  | 0 => return ()
  | k + 1 => do
    shedOldest st
    shedMany st k

/-- Commit one stream's entry for frame `f`; false when a Hold stream's full ring delays it (R58, R65). -/
def commitEntry (f st : Nat) : MemM Bool := do
  let s ← get
  let r := s.sring st
  if !s.ringEn r || s.ringMemErr r || !s.ringLegal r then
    modify (fun s => s.entryLost st)
    return true
  if bitAt (s.scfg st) 30 && s.ringStuck r then
    modify (fun s => s.entryLost st)
    return true
  if bitAt (s.scfg st) 30 then
    shedMany st (s.readyCount st + 1 - s.shedDepth st)
    let s ← get
    if s.ringFull r then shedOldest st
  let s ← get
  match s.slotOf f with
  | none => return true
  | some sl =>
    match ← ringPut r (readyBytes s f st sl) with
    | .done k =>
      modify (fun s => (((s.incReg (streamAddr st 0x10)).entryDone st).modFrames (fun fr =>
        ({ fr with entries := fr.entries ++ [{ stream := st, ring := r, k, frame := f }] } : Frames).putSlot (f % s.frSlots)
          { sl with holds := sl.holds ++ [(st, false)] })))
      return true
    | .full =>
      if bitAt (s.scfg st) 30 then
        modify (fun s => s.entryLost st)
        return true
      else return false
    | _ =>
      modify (fun s => s.entryLost st)
      return true

/-- Commit the entries of the streams in order until one must wait. -/
def commitAll (f : Nat) : List Nat → MemM Bool
  | [] => return true
  | st :: rest => do
    if ← commitEntry f st then commitAll f rest else return false

/-- FRAME_READY: the oldest frame not yet READY becomes READY when it is closed and has its slot; its entries are committed in
ascending stream number; when all are dealt with, the next frame is the oldest (R58). -/
def frameReady : MemM Unit := do
  let s ← get
  let f := s.frames.oldest
  if !s.frEn || !s.frameClosed f then return ()
  match s.slotOf f with
  | some sl =>
    if sl.frame ≠ f then
      if !s.frames.emptyWait then modify (fun s => s.wrapBegin.modFrames (fun fr => { fr with emptyWait := true }))
      wrapShed sl.frame
      return ()
    modify (fun s => s.modFrames (fun fr => { fr.putSlot (f % s.frSlots) { sl with ready := true } with emptyWait := false }))
  | none =>
    modify (fun s => s.modFrames (fun fr =>
      { fr.putSlot (f % s.frSlots) { frame := f, ready := true, holds := [], written := [], overflow := [] } with emptyWait := false }))
  let s ← get
  let todo := (List.range 256).filter (fun st => s.streamOn st && !s.frames.committed.contains st)
  if ← commitAll f todo then
    modify (fun s => s.modFrames (fun fr =>
      Frames.freeSlots { fr with oldest := f + 1, committed := [], incomplete := fr.incomplete.filter (fun x => decide (f < x.2)) }))

/-- FR_RELEASE: a TAKEN hold ends; any other release is ignored (R58). -/
def State.frRelease (s : State) (data : Word) : State :=
  let i := fld data 16 12
  let st := fld data 0 8
  match s.frames.slots.find? (fun p => p.1 == i) with
  | none => s
  | some p => if p.2.holds.contains (st, true) then s.modFrames (fun fr => fr.dropHold p.2.frame st) else s

/-! ### FR_GEOM and FR_BASE (R54) -/

/-- Clearing EN discards every slot and every frame not yet ready. -/
def State.frDisable (s : State) : State :=
  let s := s.modFrames (fun fr => ({ entries := fr.entries } : Frames))
  (List.finRange 128).foldl (fun s n => if s.ports[n].waiting.isSome then s.waitOver n else s)
    { s with ports := s.ports.map (fun p => { p with presented := none, taking := none }) }

/-- A write of FR_GEOM: EN = 1 is refused for a reserved SSIZE or a ring past 128 MiB; else it fixes the first frame F0. While EN = 1
only a write that clears EN acts (log entry 32: the other fields are stored). -/
def State.frGeomWrite (s : State) (data : Word) : State :=
  let d := data &&& 0x803FFFFF
  if s.frEn then
    if bitAt d 31 then s else (s.setReg 0x100304 d).frDisable
  else if bitAt d 31 then
    let s1 := s.setReg 0x100304 d
    if 8 < fld d 12 4 ∨ 0x08000000 < s1.frSlotAddr s1.frSlots then (s.setReg 0x100304 (putBit d 31 false)).pageErr (.link 0)
    else
      let f0 := s1.frameOf s1.beatno
      let s1 := s1.modFrames (fun fr => ({ oldest := f0, entries := fr.entries } : Frames))
      { s1 with ports := s1.ports.map (fun p => { p with closedTo := 0, waiting := none }) }
  else s.setReg 0x100304 d

end Sys2Proof.Machine
end

