-- ==== Sys2Proof/Machine/Parse.lean ====
section
/-!
DEFINITION. Parse scripts (R51 to R53), the ingress writer's words (R57), and the meanings of the parse and ingress rows. A parse row
acts when the step the port's script has come to is of its kind; a row for another kind changes nothing (log entry 4).
-/
namespace Sys2Proof.Machine

/-! ### The frame being parsed -/

/-- A frame of classes 0 to 7 in the receive buffer. -/
def isParse (f : RxFrame) : Bool := decide (f.cls < 8)
/-- The frame the script runs on: the oldest of classes 0 to 7. -/
def State.parseFrame (s : State) (n : Fin 128) : Option RxFrame := s.ports[n].rx.find? isParse
/-- Step `i` of the script: STEPi_HI:STEPi_LO. -/
def State.parseStepWord (s : State) (n : Fin 128) (i : Nat) : Word64 :=
  s.getReg (linkAddr n (0x104 + 8 * i)) ++ s.getReg (linkAddr n (0x100 + 8 * i))
/-- OP of a step. -/
def stepOp (w : Word64) : Nat := fld w 60 4
/-- TGT of a step. -/
def stepTgt (w : Word64) : Nat := fld w 43 5
/-- IMM of a step. -/
def stepImm (w : Word64) : Nat := fld w 0 32
/-- The field a step names in the current word: WID + 1 bits from POS, zeros above bit 127. -/
def stepField (w : Word64) (cur : Word128) : Nat := fld cur (fld w 53 7) (fld w 48 5 + 1)

/-- The script goes back to step 0 for the next frame. The current stream, like the tag (R52), stands until a step changes it (DESIGN
CHOICE, log entry 114: R51 does not say). -/
def resetScript (p : Port) : Port := { p with step := 0, run := 0, takeLeft := 0, takeRest := false, presented := none, taking := none }

/-- Remove `k` words of the frame being parsed; its credits return as its words leave (R47); at its last word the script ends (R52). -/
def State.dropWords (s : State) (n : Fin 128) (k : Nat) : State :=
  match takeFirst isParse s.ports[n].rx with
  | none => s
  | some (f, rest) =>
    let left := f.words.length - k
    let s := s.modPort n (fun p =>
      if left = 0 then resetScript { p with rx := rest }
      else { p with run := 0, rx := { f with words := f.words.drop k } :: rest })
    s.frameCredit n f (unitsLeft f.len left - unitsLeft f.len f.words.length)

/-- END: the rest of the frame is discarded (R51). -/
def State.parseEndFrame (s : State) (n : Fin 128) : State :=
  match s.parseFrame n with
  | none => s
  | some f => s.dropWords n f.words.length

/-- The port's script has begun on the frame at hand: it stands at a step after step 0, or has run one. -/
def Port.scriptBegun (p : Port) : Bool := p.step != 0 || p.run != 0

/-- The step the script has come to, with the current word: a frame is being parsed, no TAKE is under way, fewer than 32
non-consuming steps have run, and the step is within the script. A port whose page is disabled begins no frame (R25). -/
def State.parseAt (s : State) (n : Fin 128) : Option (Word64 × Word128) :=
  let p := s.ports[n]
  match s.parseFrame n with
  | none => none
  | some f =>
    match f.words with
    | [] => none
    | cur :: _ =>
      if p.takeLeft = 0 ∧ !p.takeRest ∧ p.run < 32 ∧ p.step < 32 ∧ (s.pageEn (.link n) || p.scriptBegun) then
        some (s.parseStepWord n p.step, cur)
      else none

/-- A non-consuming step runs: each group of eight beyond the first eight of a run costs a cycle (R52). -/
def State.parseStall (s : State) (n : Fin 128) : State :=
  let run := s.ports[n].run + 1
  if 8 < run ∧ (run - 1) % 8 = 0 then s.incReg (linkAddr n 0x060) else s

/-- A non-consuming step goes to step `next` (R51, R52). A SKIP or TAKE of no words counts as one in the runs of 8 and 32 (DESIGN CHOICE,
log entry 114). -/
def State.parseGo (s : State) (n : Fin 128) (next : Nat) : State :=
  (s.parseStall n).modPort n (fun p => { p with step := next, run := p.run + 1 })

/-- Run a step of operation `op` if the script has come to one. -/
def State.parseOp (s : State) (n : Fin 128) (op : Nat → Bool) (act : Word64 → Word128 → State) : State :=
  match s.parseAt n with
  | none => s
  | some (w, cur) => if op (stepOp w) then act w cur else s

/-- DROP: the frame is discarded and counted (R51). -/
def State.parseDropFrame (s : State) (n : Fin 128) : State := (s.parseEndFrame n).parseDrop n 1

/-- SCRIPT_ERR sets, with its event (R50). -/
def State.scriptErr (s : State) (n : Fin 128) : State := (s.orReg (linkAddr n 0x044) 0x40).irq (.link n) 2

/-- The value nearest to `now` whose low `w` bits are the tag: in [now − 2^(w−1), now + 2^(w−1)) (R53). Where that interval reaches below
beat 0 the value is taken modulo 2^64 (DESIGN CHOICE, log entry 126). -/
def extendTag (now : Word64) (tag w : Nat) : Word64 :=
  let base := now - BitVec.ofNat 64 (2 ^ (w - 1))
  base + BitVec.ofNat 64 ((tag + 2 ^ 64 - base.toNat % 2 ^ w) % 2 ^ w)

/-- The next step after the one the script stands at. -/
def State.nextStep (s : State) (n : Fin 128) : Nat := s.ports[n].step + 1

/-- PARSE_END, also for a step after step 31 (R51). -/
def State.parseEnd (s : State) (n : Fin 128) : State :=
  if s.ports[n].step = 32 ∧ s.ports[n].run < 32 ∧ s.ports[n].takeLeft = 0 ∧ !s.ports[n].takeRest then s.parseEndFrame n
  else s.parseOp n (· == 0) (fun _ _ => (s.parseStall n).parseEndFrame n)

/-- TAG: the beat tag; the frame it names closes earlier ones for the port (R53, R58). -/
def State.parseTag (s : State) (n : Fin 128) : State :=
  s.parseOp n (· == 4) (fun w cur =>
    let tag := stepField w cur
    let width := fld w 48 5 + 1
    let s := (s.parseGo n (s.nextStep n)).modPort n (fun p => { p with tag := some (tag, width) })
    if s.frEn then s.closeTo n (s.frameOf (extendTag s.beatno tag width)) else s)

/-- SKIP: discard IMM[12:0] words; 0 goes to the next step (R51). -/
def State.parseSkip (s : State) (n : Fin 128) : State :=
  s.parseOp n (· == 5) (fun w _ =>
    let k := stepImm w % 2 ^ 13
    if k = 0 then s.parseGo n (s.nextStep n)
    else (s.modPort n (fun p => { p with step := p.step + 1 })).dropWords n k)

/-- TAKE: deliver a count of words to the current stream; 0 goes to the next step (R51). -/
def State.parseTake (s : State) (n : Fin 128) : State :=
  s.parseOp n (· == 6) (fun w cur =>
    let k := if bitAt w 31 then stepField w cur else stepImm w % 2 ^ 13
    if k = 0 then s.parseGo n (s.nextStep n) else s.modPort n (fun p => { p with takeLeft := k }))

/-- A delivered word is done with: the TAKE counts it, and when it has its count the script goes on (R51, R52). -/
def State.wordDone (s : State) (n : Fin 128) : State :=
  (s.modPort n (fun p => if p.takeRest then { p with presented := none }
    else if p.takeLeft = 1 then { p with takeLeft := 0, step := p.step + 1, presented := none, taking := none }
    else { p with takeLeft := p.takeLeft - 1, presented := none })).dropWords n 1

/-- The frame of the word that the port presents: the one it had when it was first presented, else that of the tag as extended now (R53,
R64). -/
def State.wordFrame (s : State) (n : Fin 128) (tag width : Nat) : Nat :=
  s.ports[n].presented.getD (s.frameOf (extendTag s.beatno tag width))

/-- INGRESS_WORD_WRITE: the word a TAKE or TAKE_REST delivers goes to its stream's region, or waits (R52, R57, R58). STALL_CYC counts one
for each such command that must wait (DESIGN CHOICE, log entry 114: the block has no port-clock cycles of its own here). -/
def State.ingressNext (s : State) (n : Fin 128) : State :=
  let p := s.ports[n]
  match s.parseFrame n with
  | none => s
  | some f =>
    match f.words with
    | [] => s
    | w :: _ =>
      if p.takeLeft = 0 ∧ !p.takeRest then s
      else match p.tag with
        | none => (s.parseDrop n 1).wordDone n
        | some (tag, width) =>
          let f := s.wordFrame n tag width
          (s.modPort n (fun p => { p with presented := some f })).access (ingressWord n p.curStream.toNat f w)
            (fun r s => match r with
              | .waits => s.incReg (linkAddr n 0x060)
              | .late => ((s.incReg (linkAddr n 0x05C)).irq (.link n) 5).wordDone n
              | .dropped => (s.parseDrop n 1).wordDone n
              | .done => s.wordDone n)
            (fun s => s.wordDone n)

/-! ### Meanings -/

/-- PARSE_END (R51). -/
def execParseEnd (n : Fin 128) (s : State) : Out := .next (s.parseEnd n)
/-- PARSE_MATCH: go to TGT if the field equals IMM, else to the next step (R51). -/
def execParseMatch (n : Fin 128) (s : State) : Out :=
  .next (s.parseOp n (· == 1) (fun w cur => s.parseGo n (if stepField w cur = stepImm w then stepTgt w else s.nextStep n)))
/-- PARSE_ANY: go to TGT if the field has a bit of IMM set, else to the next step (R51). -/
def execParseAny (n : Fin 128) (s : State) : Out :=
  .next (s.parseOp n (· == 2) (fun w cur => s.parseGo n (if stepField w cur &&& stepImm w ≠ 0 then stepTgt w else s.nextStep n)))
/-- PARSE_STREAM: the current stream is IMM[7:0], or the field's low 8 bits if IMM[31] = 1 (R51). -/
def execParseStream (n : Fin 128) (s : State) : Out :=
  .next (s.parseOp n (· == 3) (fun w cur => (s.parseGo n (s.nextStep n)).modPort n (fun p =>
    { p with curStream := BitVec.ofNat 8 (if bitAt w 31 then stepField w cur else stepImm w) })))
/-- PARSE_TAG (R53). -/
def execParseTag (n : Fin 128) (s : State) : Out := .next (s.parseTag n)
/-- PARSE_SKIP (R51). -/
def execParseSkip (n : Fin 128) (s : State) : Out := .next (s.parseSkip n)
/-- PARSE_TAKE (R51). -/
def execParseTake (n : Fin 128) (s : State) : Out := .next (s.parseTake n)
/-- PARSE_TAKE_REST: deliver every remaining word, then END (R51). -/
def execParseTakeRest (n : Fin 128) (s : State) : Out :=
  .next (s.parseOp n (· == 7) (fun _ _ => s.modPort n (fun p => { p with takeRest := true })))
/-- PARSE_JUMP: go to TGT (R51). -/
def execParseJump (n : Fin 128) (s : State) : Out := .next (s.parseOp n (· == 8) (fun w _ => s.parseGo n (stepTgt w)))
/-- PARSE_DROP_OP (R51). -/
def execParseDropOp (n : Fin 128) (s : State) : Out := .next (s.parseOp n (· == 9) (fun _ _ => (s.parseStall n).parseDropFrame n))
/-- PARSE_RESERVED_OP: acts as DROP and sets SCRIPT_ERR (R51). -/
def execParseReservedOp (n : Fin 128) (s : State) : Out :=
  .next (s.parseOp n (fun o => decide (10 ≤ o)) (fun _ _ => ((s.parseStall n).parseDropFrame n).scriptErr n))
/-- PARSE_STEP_LIMIT: after 32 consecutive non-consuming steps the script acts as DROP and sets SCRIPT_ERR (R52). -/
def execParseStepLimit (n : Fin 128) (s : State) : Out :=
  .next (if s.ports[n].run = 32 ∧ (s.parseFrame n).isSome then (s.parseDropFrame n).scriptErr n else s)
/-- INGRESS_WORD_WRITE (R57). -/
def execIngressWordWrite (n : Fin 128) (s : State) : Out := .next (s.ingressNext n)
/-- CLOSE_TIMEOUT (R58). -/
def execCloseTimeout (frame : Word64) (s : State) : Out := .next (s.closeTimeout frame.toNat)
/-- FRAME_READY (R58). -/
def execFrameReady (s : State) : Out := .next (s.access frameReady (fun _ s => s) (fun s => s))

/-- CODEWORD_DECODE: the codeword that starts at bit `first` of the first of some words received from the PHY is decoded into blocks;
FEC_CORR or FEC_UNCORR counts it (R42, R43, R50, R432). -/
def execCodewordDecode (n : Fin 128) (phy : List (BitVec 256)) (first : Fin 128) (s : State) : Out :=
  let (blocks, left) := decodeBlocks s.ports[n].rxBits (codewordAt phy first)
  let s := s.modPort n (fun p => { p with rxBits := left, rxBlocks := blocks })
  .next (match codewordOutcome phy first with
    | .clean => s
    | .corrected => s.incReg (linkAddr n 0x050)
    | .uncorrectable => s.countIrq (.link n) 0x054 1)
/-- LIENO_FRAME_RECEIVE (R43, R44). -/
def execLienoFrameReceive (n : Fin 128) (cls : Fin 16) (words : List Word128) (check : FrameCheck) (s : State) : Out :=
  .next (s.frameReceive n cls.val words check)
/-- RECEIVE_RING_WRITE (R446). -/
def execReceiveRingWrite (n : Fin 128) (cls : Fin 16) (s : State) : Out := .next (s.receiveRing n cls.val)
/-- CREDIT_BLOCK: the cumulative counts of the group's classes, while the port is up (R46, R48). -/
def execCreditBlock (n : Fin 128) (g : Fin 4) (c0 c1 c2 c3 : BitVec 12) (s : State) : Out :=
  .next (if s.portUp n then s.modPort n (fun p => creditBlock p g c0 c1 c2 c3) else s)
/-- ALIGNMENT_MARKER (R48). -/
def execAlignmentMarker (n : Fin 128) (good : Bool) (s : State) : Out := .next (s.marker n good)
/-- LIENO_FRAME_TRANSMIT (R446). -/
def execLienoFrameTransmit (n : Fin 128) (fine : BitVec 8) (s : State) : Out := .next (s.linkTransmit n fine)
/-- TRAINING_STEP_DONE (R49). -/
def execTrainingStepDone (n : Fin 128) (s : State) : Out := .next (s.trainStep n)
/-- TRAINING_STEP_TIMEOUT (R49). -/
def execTrainingStepTimeout (n : Fin 128) (s : State) : Out := .next (s.trainTimeout n)
/-- PHY_READY: `lnk_phy_rdy` rises; block lock can begin (R433). -/
def execPhyReady (n : Fin 128) (s : State) : Out := .next (s.modPort n (fun p => { p with phyRdy := true }))
/-- PHY_READY_FALL: a fall while UP is a loss of lock; a training between attempts may enable the lane again (R433, R48). -/
def execPhyReadyFall (n : Fin 128) (s : State) : Out :=
  let s := s.modPort n (fun p => { p with phyRdy := false })
  .next (if s.portUp n then s.loseLock n else s.phyTry n)
/-- PHY_GROUP_ACK: the host acknowledges the group's power; lanes that wait for it are enabled (R433). -/
def execPhyGroupAck (g : Fin 8) (s : State) : Out :=
  .next (if s.phyReq[g] then
    ((List.finRange 128).filter (fun n => phyGroup n == g)).foldl State.phyTry { s with phyAck := s.phyAck.set g true }
  else s)
/-- RELEASE_FRAME (R145). -/
def execReleaseFrame (n : Fin 128) (s : State) : Out := .next (s.releaseFrame n)

end Sys2Proof.Machine
end

