-- ==== Sys2Proof/Machine/Peer.lean ====
section
/-!
DEFINITION. Systems of many devices: device numbers and shape (R348, R349), neighbours and trunks (R350 to R352), routed messages
(R353 to R357), frame fragments and decisions (R358, R359), timebase alignment and the probe (R360 to R364).
-/
namespace Sys2Proof.Machine

/-! ### Shape (R348) -/

/-- SYSSHAPE.TOPO. -/
def State.topo (s : State) : Nat := fld (s.getReg 0x000084) 28 2
/-- The sizes of the shape's dimensions X, Y, Z. -/
def State.shape (s : State) : List Nat :=
  let w := s.getReg 0x000084
  match s.topo with
  | 0 => [1]
  | 1 => [fld w 16 10]
  | _ => [fld w 0 3 + 1, fld w 4 3 + 1, fld w 8 3 + 1]
/-- Coordinate `k` of a device number. -/
def State.coord (s : State) (d k : Nat) : Nat := if s.topo < 2 then (if k = 0 then d else 0) else d / 8 ^ k % 8
/-- The device number names a device of the shape. -/
def State.validDev (s : State) (d : Nat) : Bool :=
  decide (d < 512) && (List.range s.shape.length).all (fun k => decide (s.coord d k < s.shape.getD k 1))
/-- The shape wraps: a ring or a torus. -/
def State.wraps (s : State) : Bool := s.topo == 1 || s.topo == 3
/-- Device `d` with coordinate `k` set to `c`. -/
def State.withCoord (s : State) (d k c : Nat) : Nat := if s.topo < 2 then c else d - s.coord d k * 8 ^ k + c * 8 ^ k
/-- The opposite direction. -/
def opposite (dir : Nat) : Nat := if dir % 2 = 0 then dir + 1 else dir - 1
/-- The device one hop from `d` in direction `dir`, if there is one (R351). -/
def State.neighbor (s : State) (d dir : Nat) : Option Nat :=
  let k := dir / 2
  let size := s.shape.getD k 1
  let c := s.coord d k
  if size < 2 then none
  else if dir % 2 = 0 then (if c + 1 < size then some (s.withCoord d k (c + 1)) else if s.wraps then some (s.withCoord d k 0) else none)
  else (if 0 < c then some (s.withCoord d k (c - 1)) else if s.wraps then some (s.withCoord d k (size - 1)) else none)
/-- The largest route of the shape, in hops (R354). -/
def State.maxHops (s : State) : Nat := (s.shape.map (fun n => if s.wraps then n / 2 else n - 1)).sum
/-- The direction of the first hop from `d` to `dest`; none when they are equal (R355). -/
def State.firstHop (s : State) (d dest : Nat) : Option Nat :=
  match (List.range s.shape.length).find? (fun k => s.coord d k ≠ s.coord dest k) with
  | none => none
  | some k =>
    let size := s.shape.getD k 1
    let c := s.coord d k
    let t := s.coord dest k
    let plus : Bool := if s.wraps then decide (2 * ((t + size - c) % size) ≤ size) else decide (c < t)
    some (2 * k + (if plus then 0 else 1))

/-- SYSCFG: while EN = 1 DEVNO is kept; a write that sets EN is refused for a bad shape (R349; log entry 32: DEVNO is stored). Every
Peer port then sends a HELLO (R351). -/
def State.sysCfgWrite (s : State) (data : Word) : State :=
  let d := data &&& 0x800001FF
  if s.sysEn then s.modReg 0x000080 (fun w => putBit w 31 (bitAt d 31))
  else if bitAt d 31 then
    let n := fld (s.getReg 0x000084) 16 10
    if (s.topo = 1 ∧ (n < 2 ∨ 512 < n)) ∨ (s.topo = 0 ∧ fld d 0 9 ≠ 0) ∨ !s.validDev (fld d 0 9) then
      (s.setReg 0x000080 (putBit d 31 false)).pageErr .block
    else (List.finRange 128).foldl State.sendHello (s.setReg 0x000080 d)
  else s.setReg 0x000080 d
/-- SYSSHAPE: ignored while EN = 1 (R349). -/
def State.sysShapeWrite (s : State) (data : Word) : State := if s.sysEn then s else s.setReg 0x000084 (data &&& 0x33FF0777)

/-! ### Peer ports (R350 to R352) -/

/-- HELLO: the neighbour's DEVNO and DIR decide NBVALID and MISWIRE (R351). -/
def State.helloReceive (s : State) (n : Fin 128) (devno dir : Nat) : State :=
  if !s.peerOk n false then s
  else
    let ok := s.neighbor s.devno (s.peerDir n) == some devno && dir == opposite (s.peerDir n)
    s.modReg (linkAddr n 0x38C) (fun w =>
      (w &&& 0x20000000) ||| BitVec.ofNat 32 ((if ok then 2 ^ 31 else 2 ^ 30) + devno * 2 ^ 16 + dir))

/-- The members of a direction's trunk, ascending (R352). -/
def State.trunk (s : State) (dir : Nat) : List (Fin 128) :=
  (List.finRange 128).filter (fun n => s.nbValid n && s.peerDir n == dir)

/-! ### Routed messages (R354 to R357) -/

/-- A routed message is dropped under R354: BADMSG and its event (R349). -/
def State.badMsg (s : State) : State := (s.incReg 0x00008C).irq .block 1

/-- A frame that passes a forwarding queue of R357: a message passing through, or one of this device of a routed kind. -/
def TxFrame.isRouted : TxFrame → Bool
  | .data .. => true
  | .msg m => !m.oneHop
  | .fragment .. => false

/-- A message enters the queue of its direction and class: on trunk member (key + class) mod m; a full queue drops it, and a trunk
without a member loses it (R352, R357; log entry 19). -/
def State.enqueue (s : State) (dir cls key : Nat) (f : TxFrame) : State :=
  let t := s.trunk dir
  if h : 0 < t.length then
    if 64 ≤ countIf (fun q : Fwd => q.dir == dir && q.cls == cls && q.frame.isRouted) s.fwdQ then (s.incReg 0x000088).irq .block 1
    else { s with fwdQ := s.fwdQ ++ [{ dir, cls, port := t[(key + cls) % t.length]'(Nat.mod_lt _ h), frame := f }] }
  else s

/-- The copies of a broadcast that a device at `d` starts in the dimensions from `k` on: stage, direction, BREM (R356). -/
def State.copies (s : State) (d k : Nat) : List (Nat × Nat × Nat) :=
  ((List.range s.shape.length).filter (fun i => decide (k ≤ i) && decide (2 ≤ s.shape.getD i 1))).flatMap (fun i =>
    let n := s.shape.getD i 1
    let c := s.coord d i
    let p := if s.wraps then n / 2 else n - 1 - c
    let m := if s.wraps then n - 1 - n / 2 else c
    ([(i, 2 * i, p), (i, 2 * i + 1, m)] : List (Nat × Nat × Nat)).filter (fun x => x.2.2 != 0))

/-- This device sends a routed message of one of its protocols; one for a device that does not exist is dropped (R354); a message to
itself does not leave (R355; its row is its arrival). -/
def State.sendPeer (s : State) (m : Msg) : State :=
  let m := { m with src := s.devno, hops := 1 }
  if !s.sysEn then s
  else if m.bcast then (s.copies s.devno 0).foldl (fun s x =>
    s.enqueue x.2.1 m.cls s.devno (.msg { m with stage := x.1, brem := x.2.2 })) s
  else if !s.validDev m.dest then s.badMsg
  else match s.firstHop s.devno m.dest with
    | none => s
    | some dir => s.enqueue dir m.cls m.dest (.msg m)

/-- KIND is defined for the class (R354, R380). -/
def kindOk (cls kind : Nat) : Bool :=
  match cls with
  | 10 => decide (1 ≤ kind ∧ kind ≤ 4)
  | 11 => decide (1 ≤ kind ∧ kind ≤ 5)
  | 12 => decide (1 ≤ kind ∧ kind ≤ 3)
  | _ => false

/-- A header with HOPS, STAGE and BREM replaced. -/
def hopHeader (w : Word128) (hops stage brem : Nat) : Word128 := putFld (putFld (putFld w 48 10 hops) 41 2 stage) 58 6 brem

/-- ROUTED_MESSAGE: a message that arrived whole on a port is dropped under R354, or forwarded (R355, R356); what is for this device
is delivered by the row of its kind (log entry 27). -/
def State.routed (s : State) (n : Fin 128) (cls : Nat) (msg : List Word128) : State :=
  match msg with
  | [] => s
  | w :: rest =>
    let dest := fld w 0 9
    let src := fld w 16 9
    let kind := fld w 32 8
    let hops := fld w 48 10
    let stage := fld w 41 2
    let brem := fld w 58 6
    if !s.peerOk n true ∨ cls < 10 ∨ 12 < cls ∨ 32 < msg.length then s
    else if !s.validDev dest ∨ !kindOk cls kind ∨ s.maxHops < hops then s.badMsg
    else if cls = 11 ∧ kind < 4 then s
    else if bitAt w 40 then
      let dir := opposite (s.peerDir n)
      let s := if 1 < brem then s.enqueue dir cls src (.data cls (hopHeader w (hops + 1) stage (brem - 1) :: rest)) else s
      (s.copies s.devno (stage + 1)).foldl (fun s x =>
        s.enqueue x.2.1 cls src (.data cls (hopHeader w (hops + 1) x.1 x.2.2 :: rest))) s
    else match s.firstHop s.devno dest with
      | none => s
      | some dir => s.enqueue dir cls dest (.data cls (hopHeader w (hops + 1) stage brem :: rest))

/-! ### Fragments and decisions (R358, R359) -/

/-- A ring named by PFRAG or PDEC with another CLASS or ESIZE sets RINGERR. -/
def State.peerRingBad (s : State) (r : Nat) : Bool := s.ringClass r != 0 || s.ringEsize r != 2

/-- Read data words until one cannot be read. -/
def fragData (a : Nat) : Nat → MemM (List Word128)
  | 0 => return []
  | k + 1 => do
    match ← memTry (memRead gateway a 16) with
    | none => return []
    | some b =>
      let rest ← fragData (a + 16) k
      return BitVec.ofNat 128 (natLE b) :: rest

/-- Send the fragment of the entry at the head of the ring when it is class 8's turn. -/
def fragSend (n : Fin 128) : MemM Unit := do
  let s ← get
  match ← txFirst n (txOrder s.ports[n].rr) with
  | some 8 =>
    match ← txFragHead n with
    | none => return ()
    | some (k, b) =>
      let lenw := natLE ((b.drop 12).take 2) % 4096
      let data ← fragData (natLE ((b.drop 8).take 4) % 2 ^ 27) lenw
      let f := TxFrame.fragment (BitVec.ofNat 64 (natLE (b.take 8))) (natLE ((b.drop 14).take 1)) lenw s.devno data
      modify (fun s => ((s.ringConsume (fld (s.getReg (linkAddr n 0x384)) 0 14) k 1).transmit n f).modPort n (fun p => { p with rr := 8 }))
  | _ => return ()

/-- FRAGMENT_SEND (R358). -/
def State.fragmentSend (s : State) (n : Fin 128) : State :=
  let pf := s.getReg (linkAddr n 0x384)
  let r := fld pf 0 14
  if !s.txReady n || !s.peerOk n true || !bitAt pf 31 then s
  else if s.ringEn r && s.peerRingBad r then s.orReg (linkAddr n 0x38C) 0x20000000
  else s.access (fragSend n) (fun _ s => s) (fun s => s)

/-- A word of the fragment at the head of the receive buffer is done with; its header goes with the last one. The credits of a word return
as it leaves (R47). -/
def State.fragDone (s : State) (n : Fin 128) : State :=
  match s.rxHead n 8 with
  | none => s
  | some (f, rest) =>
    let left := f.words.length - 1
    let gone := unitsLeft f.len f.words.length
    let s := s.modPort n (fun p => { p with presented := none })
    if left ≤ 1 then
      (s.modPort n (fun p => { p with rx := rest, taking := none })).frameCredit n f (frameUnits f.len - gone)
    else
      (s.modPort n (fun p => { p with rx := { f with words := f.words.take 1 ++ f.words.drop 2 } :: rest })).frameCredit n f
        (unitsLeft f.len left - gone)

/-- Deliver the next word of the fragment at the head of the receive buffer; one that must wait stays (R358). -/
def State.fragWord (n : Fin 128) (st fr : Nat) (s : State) : State :=
  match s.rxHead n 8 with
  | none => s
  | some (f, _) =>
    match f.words.drop 1 with
    | [] => s
    | w :: _ =>
      s.access (ingressWord n st fr w) (fun r s => match r with
        | .waits => s.incReg (linkAddr n 0x060)
        | .late => ((s.incReg (linkAddr n 0x05C)).irq (.link n) 5).fragDone n
        | .dropped => (s.parseDrop n 1).fragDone n
        | .done => s.fragDone n) (fun s => s.fragDone n)

/-- FRAME_FRAGMENT_RECEIVE: the fragment at the head of the receive buffer, whose header carries `beat` and `st`, goes to its frame word by
word as far as it can; the port is an ingress contributor; a fragment without data closes its frame (R358). A port whose page is disabled
begins no fragment (R25). -/
def State.fragmentReceive (s : State) (n : Fin 128) (beat : Word64) (st : Nat) : State :=
  match s.rxHead n 8 with
  | none => s
  | some (f, _) =>
    if f.len ≤ f.words.length ∧ !s.pageEn (.link n) then s else
    let fr := s.frameOf beat
    if f.words.length ≤ 1 then (if s.frEn then s.closeTo n (fr + 1) else s).fragDone n
    else untilStuck n 8 (State.fragWord n st fr) (f.words.length - 1) s

/-- DECISION_RECEIVE: the decision at the head of the receive buffer goes to the PDEC ring with the beat of its arrival, or is discarded
and counted (R359); its credits return (R47). It waits while the port's page is disabled (R25). -/
def State.decisionReceive (s : State) (n : Fin 128) : State :=
  match s.rxHead n 9 with
  | none => s
  | some (f, rest) =>
    if !s.pageEn (.link n) then s else
    let pd := s.getReg (linkAddr n 0x388)
    let r := fld pd 0 14
    let leave := fun (s : State) => (s.modPort n (fun p => { p with rx := rest })).frameCredit n f (frameUnits f.len)
    let drop := fun (s : State) => (leave s).incReg (linkAddr n 0x394)
    if !bitAt pd 31 then drop s
    else if s.peerRingBad r then drop (s.orReg (linkAddr n 0x38C) 0x20000000)
    else
      let b := (bytesOfPortWords f.words ++ List.replicate 40 0).take 40
      let entry := b ++ bytesLE 8 f.beat.toNat ++ [BitVec.ofNat 8 n.val] ++ List.replicate 15 0
      s.access (ringPut r entry) (fun p s => match p with | .done _ => leave s | _ => drop s) drop

/-! ### Timebase alignment (R360 to R363) -/

/-- The measuring period of an ALCTRL word in beats: ALPER, below 64 taken as 64 (R360). -/
def alperOf (w : Word) : Nat := max 64 (fld w 0 16)

/-- ALSTAT.ALARM. -/
def State.alarm (s : State) : Bool := bitAt (s.getReg 0x005084) 31
/-- ALARM sets; two good measurements after it are needed to clear it (R363). -/
def State.alarmSet (s : State) : State :=
  if s.alarm then s else ({ s with alignGood := 0 }.modReg 0x005084 (fun w => putBit w 31 true)).irq .timebase 4
/-- ALARM clears (R363). -/
def State.alarmClear (s : State) : State :=
  if s.alarm then (s.modReg 0x005084 (fun w => putBit w 31 false)).irq .timebase 5 else s
/-- The device number of the timing master. -/
def State.tmdev (s : State) : Nat := fld (s.getReg 0x005094) 0 9


/-- ALIGNMENT_MEASUREMENT: a CALL is queued for the lowest member of the upstream trunk; T1 is taken when it leaves; without a member ALARM
sets (R361, R363). -/
def State.alignMeasure (s : State) : State :=
  let ctrl := s.getReg 0x005080
  if !bitAt ctrl 31 || !s.sysEn || s.devno == s.tmdev || s.align.isSome || beatLt s.beatno s.alignDue then s
  else
    let s := { s with alignDue := s.beatno + BitVec.ofNat 64 (alperOf ctrl) }
    match (s.firstHop s.devno s.tmdev).bind (fun dir => (s.trunk dir).head?) with
    | none => (s.modReg 0x005084 (fun w => putBit w 7 false)).alarmSet
    | some n =>
      let s := s.modReg 0x005084 (fun w => putFld w 0 8 (0x80 + n.val))
      { (s.sendOnPort n { cls := 11, kind := 2, dest := 0 }) with align := some (n.val, none, s.beatno) }

/-- ALIGN_CALL: a CALL of the neighbour is answered with a RESP that carries T2, and T3 once it leaves (R361). The operand is the fine time
of the CALL's arrival, FOFS apart. -/
def State.alignAnswer (s : State) (n : Fin 128) (t2 : Word64) : State :=
  if !s.peerOk n true then s
  else s.sendOnPort n { cls := 11, kind := 3, dest := 0, fields := [s.stamp t2] }

/-- The correction of R362. -/
def State.alignCorrect (s : State) (theta : Int) : State :=
  let target := s.fofs.toInt + theta
  if -128 ≤ target ∧ target ≤ 127 then { s with fofs := BitVec.ofInt 8 target }
  else if bitAt (s.getReg 0x005080) 29 && !s.loadBarred then
    let k := (target + 128) / 256
    { s.rebase (BitVec.ofInt 64 k) with fofs := BitVec.ofInt 8 (target - 256 * k) }.irq .timebase 7
  else s.alarmSet

/-- The window of R363: |θ| > ALWIN sets ALARM; two measurements in a row within it clear ALARM. -/
def State.alignJudge (s : State) (theta : Int) : State :=
  let win := max 1 (fld (s.getReg 0x005080) 16 8)
  if win < theta.natAbs then { s with alignGood := 0 }.alarmSet
  else
    let s := { s with alignGood := s.alignGood + 1 }
    if 2 ≤ s.alignGood then s.alarmClear else s

/-- ALIGN_RESP: d and θ, then the correction (R361, R362), for a RESP within 64 beats of the measurement's begin; a later one is a miss
(log entry 115). T2 and T3 are the stamps carried, T4 the arrival's fine time, FOFS apart. -/
def State.alignResult (s : State) (n : Fin 128) (t2 t3 t4 : Word64) : State :=
  match s.align with
  | some (p, some t1, sent) =>
    if p ≠ n.val ∨ !s.peerOk n true ∨ 64 ≤ (s.beatno - sent).toNat then s
    else
      let t4 := s.stamp t4
      let d := ((t4 - t1).toInt - (t3 - t2).toInt).tdiv 2
      let theta := ((t2 - t1).toInt + (t3 - t4).toInt).tdiv 2
      let s := { s with align := none }
      let s := s.setReg (linkAddr n 0x390) (0x80000000 ||| (BitVec.ofInt 32 d &&& 0x00FFFFFF))
      let s := (s.setReg 0x005088 (BitVec.ofInt 32 theta)).modReg 0x005084 (fun w => putFld w 16 8 0)
      (s.alignJudge theta).alignCorrect theta
  | _ => s

/-- MEASUREMENT_MISS: no RESP within 64 beats; three misses in a row set ALARM (R361, R363). -/
def State.alignMissed (s : State) : State :=
  match s.align with
  | none => s
  | some (_, _, sent) =>
    if (s.beatno - sent).toNat < 64 then s
    else
      let misses := min 255 (fld (s.getReg 0x005084) 16 8 + 1)
      let s := ({ s with align := none, alignGood := 0 }.modReg 0x005084 (fun w => putFld w 16 8 misses)).irq .timebase 6
      if 3 ≤ misses then s.alarmSet else s

/-! ### The probe (R364) -/

/-- PRBCTRL: DEST is stored; GO sends an ECHO and clears VALID and TMO. -/
def State.probeWrite (s : State) (data : Word) : State :=
  let s := s.setReg 0x00508C (data &&& 0x1FF)
  if bitAt data 31 then
    let s := { s with probe := some (data.setWidth 9, s.beatno) }.modReg 0x005090 (fun w => w &&& 0x00FFFFFF)
    s.sendPeer { cls := 11, kind := 4, dest := fld data 0 9 }
  else s

/-! ### Meanings -/

/-- HELLO (R351). -/
def execHello (n : Fin 128) (devno : BitVec 9) (dir : BitVec 3) (s : State) : Out := .next (s.helloReceive n devno.toNat dir.toNat)
/-- ROUTED_MESSAGE (R357). -/
def execRoutedMessage (n : Fin 128) (cls : Fin 16) (msg : List Word128) (s : State) : Out := .next (s.routed n cls.val msg)
/-- FRAGMENT_SEND (R358). -/
def execFragmentSend (n : Fin 128) (s : State) : Out := .next (s.fragmentSend n)
/-- FRAME_FRAGMENT_RECEIVE (R358). -/
def execFrameFragmentReceive (n : Fin 128) (beat : Word64) (stream : BitVec 8) (s : State) : Out :=
  .next (s.fragmentReceive n beat stream.toNat)
/-- DECISION_RECEIVE (R359). -/
def execDecisionReceive (n : Fin 128) (s : State) : Out := .next (s.decisionReceive n)
/-- ALIGNMENT_MEASUREMENT (R361). -/
def execAlignmentMeasurement (s : State) : Out := .next s.alignMeasure
/-- ALIGN_CALL (R361). -/
def execAlignCall (n : Fin 128) (t2 : Word64) (s : State) : Out := .next (s.alignAnswer n t2)
/-- ALIGN_RESP (R362). -/
def execAlignResp (n : Fin 128) (t2 t3 t4 : Word64) (s : State) : Out := .next (s.alignResult n t2 t3 t4)
/-- MEASUREMENT_MISS (R361). -/
def execMeasurementMiss (s : State) : Out := .next s.alignMissed
/-- ECHO: answered with an ECHOR (R364). -/
def execEcho (src : BitVec 9) (s : State) : Out := .next (s.sendPeer { cls := 11, kind := 5, dest := src.toNat })
/-- ECHOR: PRBRTT takes the round trip in fine units when it comes within 65,536 beats (R364; log entry 115). The operand is the fine part
of the difference, signed. -/
def execEchor (src : BitVec 9) (fine : BitVec 9) (s : State) : Out :=
  .next (match s.probe with
    | some (dest, sent) =>
      if dest = src ∧ s.sysEn ∧ (s.beatno - sent).toNat < 65536 then
        let rtt := (s.beatno - sent) * 256 + fine.signExtend 64
        { s with probe := none }.setReg 0x005090 (0x80000000 ||| (rtt.setWidth 32 &&& 0x00FFFFFF))
      else s
    | none => s)
/-- PROBE_TIMEOUT: no ECHOR within 65,536 beats (R364). -/
def execProbeTimeout (s : State) : Out :=
  .next (match s.probe with
    | some (_, sent) =>
      if 65536 ≤ (s.beatno - sent).toNat then { s with probe := none }.modReg 0x005090 (fun w => w ||| 0x40000000) else s
    | none => s)

end Sys2Proof.Machine
end

