-- ==== Sys2Proof/Machine/Curtain.lean ====
section
/-!
DEFINITION. The Curtain (R132 to R152, R447). Each kind of its work at an edge acts only when the work that comes before it, of this beat
and of earlier beats, is done; Island.lean puts the kinds in the order of R447.
-/
namespace Sys2Proof.Machine

/-! ### Stream registers -/

/-- A register of stream d. -/
def curAddr (d off : Nat) : Nat := 0x004400 + 0x30 * d + off
/-- SCTRL.EN. -/
def State.curOn (s : State) (d : Nat) : Bool := bitAt (s.getReg (curAddr d 0x00)) 31
/-- PERIOD. -/
def State.curPeriod (s : State) (d : Nat) : Nat := fld (s.getReg (curAddr d 0x00)) 0 6 + 1
/-- DEPTH. -/
def State.curDepth (s : State) (d : Nat) : Nat := fld (s.getReg (curAddr d 0x04)) 16 14 + 1
/-- PBASE. -/
def State.curBase (s : State) (d : Nat) : Nat := fld (s.getReg (curAddr d 0x04)) 0 14
/-- LATENCY of a SLAT word: 0 to 15 act as 16. -/
def latOf (w : Word) : Nat := max 16 (fld w 0 16)
/-- LATENCY of the newest regime. -/
def State.curLat (s : State) (d : Nat) : Nat := latOf (s.getReg (curAddr d 0x08))
/-- PAGE_STAT.ERR of the Curtain, with its event (R152). -/
def State.curErr (s : State) : State := (s.pageErr .curtain).irq .curtain 4

/-! ### The release store (R133, R134) -/

/-- The held record of a store entry. -/
def State.heldAt (s : State) (i : Nat) : Option Held := spGet (fun _ => none) s.store i
/-- Set a store entry. -/
def State.setHeld (s : State) (i : Nat) (h : Option Held) : State := { s with store := spSet (fun _ => none) s.store i h }
/-- The entry of frame beat b of stream d. -/
def State.entryOf (s : State) (d : Nat) (b : Word64) : Nat := s.curBase d + b.toNat / s.curPeriod d % s.curDepth d
/-- A stream's held records are discarded (R148). -/
def State.discardHeld (s : State) (d : Nat) : State :=
  let lo := s.curBase d
  let hi := lo + s.curDepth d
  { s with store := spClear (fun i => decide (lo ≤ i ∧ i < hi)) s.store }
/-- DEPTH is enough for a latency (R134). -/
def State.depthOk (s : State) (d lat : Nat) : Bool := decide (ceilDiv lat (s.curPeriod d) ≤ s.curDepth d)
/-- A write that sets SCTRL.EN is refused (R134). -/
def State.allocBad (s : State) (d : Nat) : Bool :=
  let lo := s.curBase d
  let hi := lo + s.curDepth d
  !s.depthOk d (s.curLat d) || decide (16384 < hi) ||
  (List.range 64).any (fun x => x != d && s.curOn x && decide (s.curBase x < hi ∧ lo < s.curBase x + s.curDepth x))
/-- POOL. -/
def State.pool (s : State) : Nat := (((List.range 64).filter s.curOn).map s.curDepth).sum

/-! ### Latency regimes (R147) -/

/-- The LATENCY of frame beat b: of the newest regime that begins at or before it, else the oldest. -/
def latFor (regimes : List (Word64 × Nat)) (b : Word64) : Nat :=
  match regimes.find? (fun r => beatLe r.1 b) with
  | some r => r.2
  | none => (regimes.getLast?.map (·.2)).getD 16

/-- The last frame beat before beat `r`. -/
def lastFrame (period : Nat) (r : Word64) : Word64 := BitVec.ofNat 64 ((r - 1).toNat / period * period)
/-- Frames of an older regime than the first of these remain to be released: its last frame is one of its own, and its release is still to
come. -/
def switching (period : Nat) (next : Word64) : List (Word64 × Nat) → Bool
  | [] => false
  | (r, _) :: older =>
    (match older with
     | [] => false
     | (r', lat) :: _ => beatLe r' (lastFrame period r) && beatLe next (lastFrame period r + BitVec.ofNat 64 lat)) ||
    switching period next older

/-- SSTAT.SWITCH: frames under an earlier LATENCY remain to be released (R147). -/
def State.curSwitch (s : State) (d : Fin 64) : Bool :=
  s.pageEn .curtain && s.curOn d.val && switching (s.curPeriod d.val) s.relNext s.curtain[d].regimes

/-! ### The log (R150) -/

/-- A log entry for a cause goes to the log; the release never waits for it to be written (R143, R151). -/
def State.curLog (s : State) (cause : Nat) (b : Word64) (stream eng : Nat) (beat : Word64) : State :=
  let cfg := s.getReg 0x004044
  let r := fld cfg 0 14
  if !bitAt cfg 31 || !bitAt (s.getReg 0x004048) (cause - 1) then s
  else if s.ringClass r != 0 || s.ringEsize r != 0 then s.orReg 0x004044 0x40000000
  else { s with logQ := s.logQ ++
    [(r, bytesLE 8 b.toNat ++ bytesLE 4 (cause * 2 ^ 24 + stream * 2 ^ 16 + eng) ++ bytesLE 4 (beat.toNat % 2 ^ 32))] }

/-- Write the oldest log entry, or discard it; one that must wait for its memory stays. -/
def State.logWrite (s : State) : State :=
  match s.logQ with
  | [] => s
  | (r, e) :: rest =>
    let drop := fun (s : State) => { s with logQ := rest }.countIrq .curtain 0x04C 2
    s.access (ringPut r e) (fun p s => match p with | .done _ => { s with logQ := rest } | _ => drop s) drop

/-- Write log entries in order, until one must wait. -/
def logDrain : Nat → State → State
  | 0, s => s
  | k + 1, s =>
    let t := s.logWrite
    if t.logQ.length < s.logQ.length then logDrain k t else t
/-- The log entries that can be written are written, after an edge's work (log entry 117). -/
def State.logged (s : State) : State := logDrain s.logQ.length s

/-! ### Ordering (R447) -/

/-- No Curtain write with an acceptance beat up to `r` waits. -/
def State.curWritesDone (s : State) (r : Word64) : Bool := s.islandQ.all (fun w => !w.curtain || beatLt r w.due)
/-- No posting with an acceptance beat below `r` waits. -/
def State.curJudged (s : State) (r : Word64) : Bool := s.posted.all (fun p => beatLe r p.beat)
/-- No armed Raise of a beat up to `r` waits (R160). -/
def State.raisesDone (s : State) (r : Word64) : Bool :=
  (List.finRange 8).all (fun t => s.slots[t].st != .armed || beatLt r s.slots[t].raiseBeat)

/-! ### Posting (R138, R139) -/

/-- The posting that is judged next: the earliest acceptance edge, then the lowest engine, then the first to arrive. -/
def nextPosted : List Posted → Option Posted
  | [] => none
  | p :: rest =>
    match nextPosted rest with
    | none => some p
    | some q => if beatLt q.beat p.beat || (q.beat == p.beat && decide (q.eng < p.eng)) then some q else some p

/-- A refusal. -/
def State.curRefuse (s : State) (cause : Nat) (b : Word64) (d eng : Nat) (beat : Word64) : State :=
  (s.countIrq .curtain 0x050 4).curLog cause b d eng beat

/-- Judge a record at its acceptance edge (R139). -/
def State.judge (s : State) (p : Posted) : State :=
  let w := fun i => p.words.getD i 0
  let b : Word64 := w 1 ++ w 0
  let ctl := w 2
  let d := fld ctl 24 6
  let c := s.curtain[Fin.ofNat 64 d]
  if !s.pageEn .curtain || !s.curOn d || beatLt b c.enableBeat then s.curRefuse 6 b d p.eng p.beat
  else if 5 ≤ fld ctl 13 3 then s.curRefuse 7 b d p.eng p.beat
  else if b.toNat % s.curPeriod d ≠ 0 then s.curRefuse 4 b d p.eng p.beat
  else if beatLt p.beat b then s.curRefuse 5 b d p.eng p.beat
  else if beatLe (b + BitVec.ofNat 64 (latFor c.regimes b)) p.beat then
    ((s.incReg (curAddr d 0x24)).irq .curtain 1).curLog 2 b d p.eng p.beat
  else
    let i := s.entryOf d b
    if (s.heldAt i).any (fun h => h.b == b) then (s.incReg (curAddr d 0x28)).curLog 3 b d p.eng p.beat
    else s.setHeld i (some { b, words := p.words })

/-- A posting whose acceptance edge has come may be judged: that beat's release is decided (R140, R447). -/
def State.postingDue (s : State) (p : Posted) : Bool :=
  beatLe p.beat s.beatno && s.curWritesDone p.beat && s.raisesDone p.beat && (!s.pageEn .curtain || beatLt p.beat s.relNext)

/-- Judge the next record, if it may be judged. -/
def State.decisionPosting (s : State) : State :=
  match nextPosted s.posted with
  | none => s
  | some p => if s.postingDue p then { s with posted := s.posted.erase p }.judge p else s

/-- A record reaches the posting port (R137, R138). -/
def State.post (s : State) (eng : Nat) (words : List Word) : State :=
  { s with posted := s.posted ++ [{ beat := s.beatno + 2, eng, words }] }

/-! ### Release (R141, R142, R144 to R146) -/

/-- The released record: reserved bits 0, LATE, DEVICE, and zero above NPRIM (R135, R136). -/
def released (devno : Nat) (w : List Word) : List Word :=
  let ctl := w.getD 2 0
  let np := fld ctl 13 3
  [w.getD 0 0, w.getD 1 0, BitVec.ofNat 32 (fld ctl 16 14 * 2 ^ 16 + np * 2 ^ 13 + devno * 2 ^ 4 + fld ctl 0 1), w.getD 3 0] ++
    (List.range 4).map (fun i => if i < np then w.getD (4 + i) 0 else 0)

/-- The understudy of stream d for frame beat b (R136). -/
def State.understudy (s : State) (d : Nat) (b : Word64) : List Word :=
  let u := s.getReg (curAddr d 0x0C)
  [b.setWidth 32, (b >>> 32).setWidth 32,
   BitVec.ofNat 32 (2 ^ 31 + d * 2 ^ 24 + fld u 8 8 * 2 ^ 16 + s.devno * 2 ^ 4 + fld u 0 1), s.getReg (curAddr d 0x10), 0, 0, 0, 0]

/-- Send a record to a target (R144, R145). -/
def State.toTarget (s : State) (d : Nat) (b rbeat : Word64) (out8 : List Word) (en : Bool) (port cls : Nat) : State :=
  let n : Fin 128 := Fin.ofNat 128 port
  let valid := s.portUp n && ((s.portRole n == 1 && decide (cls < 8)) || (s.portRole n == 2 && cls == 9))
  if !en then s
  else if !valid then (s.countIrq .curtain 0x058 3).curErr
  else if 128 ≤ s.ports[n].relQ.length then (s.countIrq .curtain 0x054 3).curLog 8 b d 511 rbeat
  else
    let bytes := bytesOfWords out8 ++ bytesLE 8 rbeat.toNat ++ List.replicate 8 0
    s.modPort n (fun p => { p with relQ := p.relQ ++ [.data cls (portWordsOfBytes 3 bytes)] })

/-- A pulse on a pin to beat `stop`; one that still runs there is extended, never cut short. -/
def CurStream.pulse (c : CurStream) (pin : Nat) (stop : Word64) : CurStream :=
  let stop := c.pulses.foldl (fun x p => if p.1 = pin ∧ beatLt x p.2 then p.2 else x) stop
  { c with pulses := (pin, stop) :: c.pulses.filter (fun p => p.1 != pin) }

/-- What a release does to the stream's pins (R146); a level ends at the next release, and pulses run out on the pins they began on
(R147). -/
def pinsAt (spin : Word) (accept late : Bool) (r : Word64) (c : CurStream) : CurStream :=
  let stop := r + BitVec.ofNat 64 (fld spin 26 4 + 1)
  let pin := fld spin 0 10
  let c := { c with level := none }
  if !bitAt spin 31 then c
  else
    let c := match fld spin 24 2 with
      | 1 => { c with level := some (pin, accept) }
      | 2 => c.pulse pin stop
      | _ => if accept then c.pulse pin stop else c
    if bitAt spin 30 && late && decide (pin < 1023) then c.pulse (pin + 1) stop else c

/-- Release frame beat b of stream d at beat r. -/
def State.releaseFrameBeat (s : State) (d : Fin 64) (b r : Word64) : State :=
  let i := s.entryOf d.val b
  let held := (s.heldAt i).filter (fun h => h.b == b)
  let out8 := match held with
    | some h => released s.devno h.words
    | none => s.understudy d.val b
  let s := s.setHeld i none
  let s := if held.isSome then s.incReg (curAddr d.val 0x1C)
    else ((s.incReg (curAddr d.val 0x20)).irq .curtain 0).curLog 1 b d.val 511 r
  let out := s.getReg (curAddr d.val 0x14)
  let s := s.modStream d (pinsAt (s.getReg (curAddr d.val 0x18)) (bitAt (out8.getD 2 0) 0) held.isNone r)
  (s.toTarget d.val b r out8 (bitAt out 15) (fld out 8 7) (fld out 4 4)).toTarget d.val b r out8 (bitAt out 31) (fld out 24 7) (fld out 20 4)

/-- Put a frame beat into a list in the order in which frames follow one another, the one released longest after its beat first. -/
def frameInsert (r b : Word64) : List Word64 → List Word64
  | [] => [b]
  | x :: rest => if (r - b).toNat < (r - x).toNat then x :: frameInsert r b rest else if x = b then x :: rest else b :: x :: rest

/-- The frame beats of stream d that are due at beat r, in frame-beat order: one for each LATENCY at most (R141, R147). -/
def State.dueFrames (s : State) (d : Fin 64) (r : Word64) : List Word64 :=
  if !s.curOn d.val then []
  else
    let c := s.curtain[d]
    let bs := (c.regimes.map (fun g => r - BitVec.ofNat 64 g.2)).filter (fun b =>
      beatLe c.enableBeat b && b.toNat % s.curPeriod d.val == 0 && latFor c.regimes b == (r - b).toNat)
    bs.foldl (fun l b => frameInsert r b l) []

/-- The work of the release of beat r: streams 0 to 63 (R141, R142). -/
def State.releaseBeat (s : State) (r : Word64) : State :=
  (List.finRange 64).foldl (fun s d => (s.dueFrames d r).foldl (fun s b => s.releaseFrameBeat d b r) s) s

/-- The release of the next beat can be worked: its beat has started, and the writes and Raises of that beat and the postings of earlier
beats are done (R141, R447). -/
def State.releaseTurn (s : State) : Bool :=
  s.pageEn .curtain && beatLe s.relNext s.beatno && s.curWritesDone s.relNext && s.raisesDone s.relNext && s.curJudged s.relNext

/-- The release of the next beat. -/
def State.curtainRelease (s : State) : State :=
  if s.releaseTurn then { s with relNext := s.relNext + 1 }.releaseBeat s.relNext else s

/-! ### Writes at their acceptance edge (R447, R147, R148) -/

/-- A stream becomes enabled at beat `a`. -/
def State.curEnable (s : State) (d : Fin 64) (a : Word64) : State :=
  s.modStream d (fun _ => { enableBeat := a, regimes := [(a, s.curLat d.val)] })

/-- SCTRL accepted at beat a. -/
def State.sctrlWrite (s : State) (d : Fin 64) (data : Word) (a : Word64) : State :=
  let addr := curAddr d.val 0x00
  if s.curOn d.val then
    if bitAt data 31 then s else (s.discardHeld d.val).modReg addr (fun w => putBit w 31 false)
  else
    let s := s.setReg addr (data &&& 0x3F)
    if !bitAt data 31 then s
    else if s.allocBad d.val then s.curErr
    else
      let s := s.modReg addr (fun w => putBit w 31 true)
      if s.pageEn .curtain then s.curEnable d a else s

/-- A new LATENCY for stream d from beat a (R147). -/
def State.slatSet (s : State) (d : Fin 64) (data : Word) (a : Word64) : State :=
  let s1 := s.setReg (curAddr d.val 0x08) (data &&& 0xFFFF)
  if s.curOn d.val ∧ s.pageEn .curtain ∧ s.curLat d.val ≠ latOf data then
    s1.modStream d (fun c => { c with regimes := (a, latOf data) :: c.regimes.filter (fun g => g.1 ≠ a) })
  else s1

/-- SLAT written directly: a latency that DEPTH cannot hold is refused (R147). -/
def State.slatWrite (s : State) (d : Fin 64) (data : Word) (a : Word64) : State :=
  if s.curOn d.val ∧ !s.depthOk d.val (max (s.curLat d.val) (latOf data)) then s.curErr else s.slatSet d data a

/-- PAGE_CTRL.EN of the Curtain: setting it enables the streams with EN = 1 from beat a, clearing it discards what is held (R148). -/
def State.curPageEn (s : State) (en : Bool) (a : Word64) : State :=
  if en = s.pageEn .curtain then s
  else
    let s := s.modReg 0x004008 (fun w => putBit w 0 en)
    if en then (List.finRange 64).foldl (fun s d => if s.curOn d.val then s.curEnable d a else s) { s with relNext := a }
    else { s with store := [] }

/-- A write of a stream register accepted at beat a; LOGCFG keeps ERR. -/
def State.curtainReg (s : State) (off : Nat) (data : Word) (a : Word64) : State :=
  if off = 0x044 then s.modReg 0x004044 (fun w => (w &&& 0x40000000) ||| (data &&& 0x80003FFF))
  else if h : 0x400 ≤ off ∧ off < 0x1000 then
    let d : Fin 64 := ⟨(off - 0x400) / 0x30 % 64, Nat.mod_lt _ (by decide)⟩
    match (off - 0x400) % 0x30 with
    | 0x00 => s.sctrlWrite d data a
    | 0x04 => if s.curOn d.val then s else s.setReg (curAddr d.val 0x04) (data &&& 0x3FFF3FFF)
    | 0x08 => s.slatWrite d data a
    | 0x0C => s.setReg (curAddr d.val 0x0C) (data &&& 0xFF01)
    | 0x10 => s.setReg (curAddr d.val 0x10) data
    | 0x14 => s.setReg (curAddr d.val 0x14) (data &&& 0xFFF0FFF0)
    | 0x18 => s.setReg (curAddr d.val 0x18) (data &&& 0xFF0003FF)
    | _ => s
  else if off = 0x048 then s.setReg 0x004048 (data &&& 0xFF)
  else s

/-- SSTAT and POOL as they read. -/
def State.curtainRead (s : State) (off : Nat) : Option Word :=
  if off = 0x040 then some (BitVec.ofNat 32 s.pool)
  else if 0x400 ≤ off ∧ (off - 0x400) % 0x30 = 0x2C then
    let d : Fin 64 := Fin.ofNat 64 ((off - 0x400) / 0x30)
    let lo := s.curBase d.val
    let hi := lo + s.curDepth d.val
    some (BitVec.ofNat 32 (b2n (s.curSwitch d) * 2 ^ 31 +
      (if s.curOn d.val then countIf (fun e : Nat × Option Held => decide (lo ≤ e.1 ∧ e.1 < hi)) s.store else 0)))
  else none

/-- A soft reset of the page: every stream stops, nothing is held (R148). -/
def State.curtainReset (s : State) : State :=
  { s with store := [], curtain := Vector.replicate 64 {}, relNext := s.beatno + 1, logQ := [] }

/-! ### Decision pins (R146) -/

/-- The level the Curtain drives on a pin signal, the OR of the streams that claim it or whose pulse or level from before a change of
SPIN still stands on it; none: no stream drives it. -/
def State.curtainPin (s : State) (pin : Nat) : Option Bool :=
  let outs := (List.finRange 64).filterMap (fun d =>
    let w := s.getReg (curAddr d.val 0x18)
    let c := s.curtain[d]
    let claims := bitAt w 31 && (fld w 0 10 == pin || (bitAt w 30 && fld w 0 10 + 1 == pin))
    let pulse := c.pulses.any (fun p => p.1 == pin)
    let level := c.level.any (fun l => l.1 == pin)
    if s.pageEn .curtain && s.curOn d.val && (claims || pulse || level) then some (pulse || c.level == some (pin, true)) else none)
  if outs.isEmpty then none else some (outs.any id)

/-- The pulses that have lasted their beats end: those on one pin signal, or all. -/
def State.pulseEnd (s : State) (pin : Option Nat) : State :=
  { s with curtain := s.curtain.map (fun c =>
      { c with pulses := c.pulses.filter (fun p => !(pin.all (· == p.1) && beatLe p.2 s.beatno)) }) }

/-! ### Meanings -/

/-- DECISION_PIN_PULSE_END (R146). -/
def execDecisionPinPulseEnd (pin : Fin 1024) (s : State) : Out := .next (s.pulseEnd (some pin.val))

end Sys2Proof.Machine
end

