-- ==== Sys2Proof/Machine/Pipe.lean ====
section
/-!
DEFINITION. Element steps (R82, R83, R86 to R93, R100, R102 to R131), whole-vector operations (R119), final and progress records (R94
to R96, R108), the soft reset of a pipe (R100). The members of a fused chain advance together, element by element (R90, R92).
-/
namespace Sys2Proof.Machine

/-- Why an element does not complete: the cue stops, or a source waits for a fill mark. -/
inductive Halt where
  | stop (c : CueEnd)
  | fill
  deriving DecidableEq, Repr

/-- Work on an element. -/
abbrev ElM (α : Type) := ExceptT Halt MemM α

/-- Stop with a code, a stream and an address. -/
def elStop {α : Type} (code fstream faddr : Nat) : ElM α := throw (.stop { code, fstream, faddr, result := none })
/-- OPFAULT with its detail (R131). -/
def opFault {α : Type} (reason where_ : Nat) : ElM α :=
  throw (.stop { code := 10, fstream := 0, faddr := 0, result := some (BitVec.ofNat 64 (reason + where_ * 2 ^ 32)) })

/-! ### Streams -/

/-- Read `n` bytes inside one bank word (R300, R303); energy is counted per step. -/
def bankRead (pa n : Nat) : MemM (List Byte) := do
  let u := RetUnit.eventBank (Fin.ofNat 1024 (emBank pa))
  gateUnit streamWho u
  readWord (unitPage u) (pa / 16 * 16)
  let s ← get
  return s.bytesAt pa n

/-- Read a number for stream `k`; an error response stops the cue with MEM_ERROR (R93). -/
def elRead (m : Member) (k wi va n : Nat) : ElM Nat := do
  match ← (memTry (bankRead ((m.win wi).at va) n) : MemM _) with
  | some b => return natLE b
  | none => elStop 6 k (va / 16 * 16)

/-- The virtual address of element i of stream `k`, a GATHER's index read (R77, R80). -/
def elAddr (m : Member) (k i : Nat) : ElM Nat := do
  let d := m.desc k
  if d.mode = 4 then
    let idx ← elRead m k (k + 4) (d.ibase + i * d.isize) d.isize
    let va := d.base + idx * etSize d.etype
    let w := m.win k
    if va < w.lo ∨ w.hi < va + etSize d.etype ∨ 0x08000000 < w.at va + etSize d.etype then elStop 5 k (va % 2 ^ 40)
    else return va
  else return (d.addr i).toNat

/-- The number that some bytes spell, with those listed by their address as they stood before (R83). -/
def asBefore (old : List (Nat × Byte)) (pa n v : Nat) : Nat :=
  if old.isEmpty then v
  else natLE (((List.range n).zip (bytesLE n v)).map (fun b => ((old.find? (fun o => o.1 == pa + b.1)).map (·.2)).getD b.2))

/-- Element i of source `k`, as its own bit pattern; NONE yields 0 (R77, R102). `old`: bytes of a source that runs in place, as they stood
before the cue. -/
def elSource (m : Member) (old : List (Nat × Byte)) (k i : Nat) : ElM Word := do
  let d := m.desc k
  if d.mode = 0 then return 0
  if d.mode = 5 then return d.scalar
  let va ← elAddr m k i
  if d.etype = 8 then
    let b ← elRead m k k va 1
    return BitVec.ofNat 32 (asBefore old ((m.win k).at va) 1 b / 2 ^ (i % 8) % 2)
  else
    let v ← elRead m k k va (etSize d.etype)
    return BitVec.ofNat 32 (asBefore old ((m.win k).at va) (etSize d.etype) v)

/-- The bytes that source `k` of a run is to be read with as they stood before the cue. -/
def PipeRun.before (r : PipeRun) (k : Nat) : List (Nat × Byte) := if r.inPlace.contains k then r.orig else []

/-- The source of a member that waits for fill marks: FILL = 1 and not NONE. -/
def Member.fillSource (m : Member) : Option Nat :=
  ((if m.fuse < 2 then [0] else []) ++ [1, 2]).find? (fun k => (m.desc k).fill && (m.desc k).mode != 0)

/-- A source with FILL reads its element only when its slot's COUNT is above `need` (R87, R88). -/
def fillWait (g : Fin 8) (m : Member) (k need : Nat) : ElM Unit := do
  if m.fillSource ≠ some k then return ()
  let s ← (get : MemM _)
  let c := s.getReg (chainAddr g (fld m.cnt 24 4))
  if need < fld c 0 20 then return ()
  if !bitAt c 31 && bitAt c 30 then elStop 8 0 0 else throw .fill

/-- The source that a unit's y names. -/
def ySource (u : Nat) : Nat := if u = 0 then 1 else 2

/-- How far ahead of element i source `k` must be filled: COINC reads its y up to h ahead (R118). -/
def Member.ahead (m : Member) (k i : Nat) : Nat :=
  match m.scanUnit with
  | some u => if m.op u = 0x77 ∧ ySource u = k then min (i + m.param) (m.n - 1) else i
  | none => i

/-! ### Tables (R115, R116, R126, R131) -/

/-- A retention unit of a table at a lookup: under BIST, retained with NOWAKE, or to be waited for. -/
def tableGate (u : RetUnit) (where_ : Nat) : ElM Unit := do
  let s ← (get : MemM _)
  if s.underBist u then opFault 3 where_
  if s.retained.contains u && s.noWake u then
    modify (fun s => s.irq (.memctl (unitPage u)) 2)
    opFault 4 where_
  (gateUnit streamWho u : MemM _)

/-- Read the words of a table line; an uncorrectable one gives the reason. -/
def tableWords (u : RetUnit) (pa reason where_ : Nat) : ElM Unit := do
  match ← (memTry ((List.range 8).forM (fun i => readWord (unitPage u) (pa + 8 * i))) : MemM _) with
  | some _ => return ()
  | none => opFault reason where_

/-- Channel Map entry j; `seen`: the lines that the step has read already, which cost nothing more (R391). -/
def chanEntry (seen : List Nat) (j : Nat) : ElM Word := do
  tableGate .channelMap j
  let pa := 0x54000000 + 4 * j
  if !seen.contains (j / 16) then modify (fun s => s.useData 450 1)
  tableWords .channelMap (pa / 64 * 64) 1 j
  let s ← (get : MemM _)
  return wordLE (s.bytesAt pa 4)

/-- The bucket of a key (R126). -/
def keyBucket (key : Nat) : Nat := key * 0x8DA6B343 % 2 ^ 32 / 2 ^ 13

/-- The DATA of the lowest way that matches a key (R126). -/
def patternLookup (key : Nat) : ElM (Option Nat) := do
  let b := keyBucket key
  let s ← (get : MemM _)
  if (match s.bulk with | some l => l.granted | none => false) then opFault 3 b
  let u := RetUnit.patternBank (Fin.ofNat 256 b)
  tableGate u b
  modify (fun s => s.useData 1875 1)
  tableWords u (0x50000000 + 64 * b) 2 b
  let s ← (get : MemM _)
  return ((List.range 8).map (fun w => natLE (s.bytesAt (0x50000000 + 64 * b + 8 * w) 8))).find?
    (fun e => e / 2 ^ 31 % 2 == 1 && e / 2 ^ 32 == key) |>.map (· % 2 ^ 31)

/-- The table an operation looks up: 1 Channel Map, 2 Pattern Store, 0 none (R128). -/
def opTable (c : Nat) : Nat := if c = 0x60 ∨ c = 0x61 then 1 else if c = 0x62 ∨ c = 0x63 then 2 else 0

/-- The Channel Map entry that element i names (R115); `yu` is y in its own type. -/
def Member.chanIndex (m : Member) (i : Nat) (yu : Word) : Nat := (yu.toNat + (if m.opt / 16 % 2 = 1 then i else 0)) % 2 ^ 20

/-- A lookup operation; `yu` is y in its own type. -/
def lookup (m : Member) (seen : List Nat) (c i : Nat) (x y yu : Word) : ElM (Word × Flags) := do
  let t := m.wt
  if c = 0x60 ∨ c = 0x61 then
    let e ← chanEntry seen (m.chanIndex i yu)
    return if c = 0x60 then vCal t m.rm x e else (e, 0)
  else
    let key := if etWidth t = 16 then y.toNat % 65536 * 65536 + x.toNat % 65536 else x.toNat
    let hit ← patternLookup key
    let ones : Word := maskOf 32 0 (etWidth t)
    return match hit with
      | some d => (if c = 0x62 then BitVec.ofNat 32 (d % 2 ^ etWidth t) else 1, 0)
      | none => (if c = 0x62 then ones else 0, 0)

/-! ### One element through one member (R102) -/

/-- COINC: read y up to h ahead, count the hits in the window (R118). The window holds what has been read, newest first. -/
def coincRead (m : Member) (k i : Nat) : Nat → PipeRun → ElM PipeRun
  | 0, r => return r
  | n + 1, r => do
    if r.taken ≤ min (i + m.param) (m.n - 1) then
      let y ← elSource m (r.before k) k r.taken
      let nz := etNonzero m.wt (convIn (m.desc k).etype m.wt m.rm y).1
      coincRead m k i n { r with taken := r.taken + 1, scan := { r.scan with window := ((b2n nz : Int) :: r.scan.window).take 40 } }
    else return r

/-- The hits at j in [i − h, i + h] among what has been read. -/
def coincCount (m : Member) (i : Nat) (r : PipeRun) : Nat :=
  (r.scan.window.take (r.taken - (i - m.param))).foldl (fun a v => a + v.toNat) 0

/-- One unit's operation on element i; flags and scan state gather in the run. -/
def unitOp (u i : Nat) (x y b c yu : Word) (r : PipeRun) : ElM (Word × PipeRun) := do
  let m := r.m
  let op := m.op u
  if opTable op ≠ 0 then
    let v ← lookup m r.lines op i x y yu
    return (v.1, { r with
      flags := r.flags ||| v.2 ||| fIf r.raised fOpx, looked := true, raised := false
      lines := if opTable op = 1 then m.chanIndex i yu / 16 :: r.lines else r.lines })
  else if op = 0x77 then
    let r ← coincRead m (ySource u) i (m.n + 1) r
    let v : Word := if etNonzero m.wt x then BitVec.ofNat 32 (coincCount m i r) else 0
    return (v, { r with scanRes := scanWord m.wt v })
  else if 0x70 ≤ op then
    let (v, f, sc) := vScan op m.wt m.param r.scan x (etNonzero m.wt y)
    return (v, { r with flags := r.flags ||| f, scan := sc, scanRes := scanWord m.wt v })
  else
    let v := vElem op m.wt m.rm x y b c
    return (v.1, { r with flags := r.flags ||| v.2 })

/-- Element i of a member: its sources are read and converted, its units act, the result is converted (R102 to R104). -/
def elMember (g : Fin 8) (i : Nat) (passed : Word) (r : PipeRun) : ElM (Word × PipeRun) := do
  let m := r.m
  fillWait g m 0 (m.ahead 0 i)
  fillWait g m 1 (m.ahead 1 i)
  fillWait g m 2 (m.ahead 2 i)
  let a ← if m.fuse < 2 then elSource m (r.before 0) 0 i else pure passed
  let b ← elSource m (r.before 1) 1 i
  let c ← elSource m (r.before 2) 2 i
  let cb := if (m.desc 1).mode = 0 then (0, 0) else convIn (m.desc 1).etype m.wt m.rm b
  let cc := if (m.desc 2).mode = 0 then (0, 0) else convIn (m.desc 2).etype m.wt m.rm c
  let r := { r with flags := r.flags ||| cb.2 ||| cc.2, lines := if i % max 1 m.perStep = 0 then [] else r.lines }
  let (x0, r) ← unitOp 0 i a cb.1 cb.1 cc.1 b r
  let (x1, r) ← unitOp 1 i x0 cc.1 cb.1 cc.1 c r
  let (x2, r) ← unitOp 2 i x1 cc.1 cb.1 cc.1 c r
  let o := convOut m.wt m.out m.rm m.nsat x2
  let nz := etNonzero m.out o.1
  return (o.1, { r with
    flags := r.flags ||| o.2
    done := i + 1
    waitSince := none
    nonzero := r.nonzero + b2n nz
    firstNz := if nz && r.firstNz.isNone then some i else r.firstNz })

/-- An element of D to be written: its index, virtual address, physical address, its byte's first bit for BIT, its value. -/
structure DWrite where
  i : Nat
  va : Nat
  pa : Nat
  bit : Option Nat
  v : Word
  size : Nat
  deriving DecidableEq, Repr

/-- The bytes as they stand in `s` where a write goes, kept beside those kept before (R83). -/
def keepOld (s : State) (orig : List (Nat × Byte)) (w : DWrite) : List (Nat × Byte) :=
  (List.range w.size).foldl (fun o j => if o.any (fun b => b.1 == w.pa + j) then o else o ++ [(w.pa + j, s.byteAt (w.pa + j))]) orig

/-- Element i through the members in order; a halt says which member it is of. -/
def elMembers (g : Fin 8) (i : Nat) (passed : Word) : List PipeRun → ExceptT (Nat × Halt) MemM (Word × List PipeRun)
  | [] => return (passed, [])
  | r :: rest => do
    match ← ((elMember g i passed r).run : MemM _) with
    | .error h => throw (r.idx, h)
    | .ok (v, r') =>
      let (w, rs) ← elMembers g i v rest
      return (w, r' :: rs)

/-- Where element i of D goes, if D is a memory stream. -/
def elDest (m : Member) (i : Nat) (v : Word) : ElM (Option DWrite) := do
  let d := m.desc 3
  if d.mode = 0 then return none
  let va ← elAddr m 3 i
  return some { i, va, pa := (m.win 3).at va, bit := if d.etype = 8 then some (i % 8) else none, v, size := etSize d.etype }

/-- The runs after each element of a step, with its write, up to the element that halts. -/
def elLoop (g : Fin 8) (i : Nat) (rs : List PipeRun) : Nat → MemM (List (List PipeRun × Option DWrite) × Option (Nat × Halt))
  | 0 => return ([], none)
  | n + 1 => do
    match ← ((elMembers g i 0 rs).run : MemM _) with
    | .error h => return ([], some h)
    | .ok (v, rs') =>
      match rs'.getLast? with
      | none => return ([], none)
      | some t =>
        match ← ((elDest t.m i v).run : MemM _) with
        | .error h => return ([], some (t.idx, h))
        | .ok w =>
          let (l, h) ← elLoop g (i + 1) rs' n
          return ((rs', w) :: l, h)

/-! ### Writing D (R83, R85, R93) -/

/-- A bank word to be written: physical address, virtual address, first element, value and mask by bit. -/
structure DWord where
  pa : Nat
  va : Nat
  i : Nat
  val : Word128
  mask : Word128
  deriving DecidableEq, Repr

/-- Merge an element's write into the words of a step; the later element wins (R83). -/
def addWrite (ws : List DWord) (w : DWrite) : List DWord :=
  let lo := 8 * (w.pa % 16) + w.bit.getD 0
  let len := if w.bit.isSome then 1 else 8 * w.size
  let put := fun (x : DWord) => { x with val := putFld x.val lo len w.v.toNat, mask := x.mask ||| maskOf 128 lo len }
  let pa := w.pa / 16 * 16
  if ws.any (fun x => x.pa == pa) then ws.map (fun x => if x.pa = pa then put x else x)
  else ws ++ [put { pa, va := w.va - w.pa % 16, i := w.i, val := 0, mask := 0 }]

/-- Write one bank word; a byte written in part keeps its other bits, and is read first. -/
def putWord (w : DWord) : MemM Unit := do
  let u := RetUnit.eventBank (Fin.ofNat 1024 (emBank w.pa))
  gateUnit streamWho u
  let bytes := (List.range 16).map (fun i => (fld w.val (8 * i) 8, fld w.mask (8 * i) 8))
  if bytes.any (fun b => b.2 != 0 && b.2 != 255) then readWord (unitPage u) w.pa
  let s ← get
  let whole := bytes.all (fun b => b.2 != 0)
  if !whole && s.errAt w.pa == some true then throw .fault
  let data := ((List.range 16).zip bytes).map (fun x =>
    if x.2.2 = 0 then none
    else some (BitVec.ofNat 8 ((s.byteAt (w.pa + x.1)).toNat &&& (255 - x.2.2) ||| x.2.1)))
  modify (fun s => ((if whole then s.setErr w.pa none else s).setBytes w.pa data).loseReservations [w.pa / 16] none)

/-- Write words in order; the first that is refused is answered. -/
def putWords : List DWord → MemM (Option DWord)
  | [] => return none
  | w :: rest => do
    match ← memTry (putWord w) with
    | none => return some w
    | some () => putWords rest

/-- Write the elements below `k`; when a word is refused, only those below its first element are written (R93). The words are tried on
the state first, so that nothing from the refused element on is written. -/
def putElems (ws : List DWrite) : Nat → Nat → MemM (Option DWord)
  | 0, _ => return none
  | fuel + 1, k => fun s =>
    match putWords ((ws.filter (fun w => decide (w.i < k))).foldl addWrite []) s with
    | .ok none s' => .ok none s'
    | .ok (some w) _ =>
      match putElems ws fuel w.i s with
      | .ok none s' => .ok (some w) s'
      | r => r
    | .error e s' => .error e s'

/-! ### What a step costs (R82, R391) -/

/-- The bank words that element i of stream `k` touches, as the state stands (R82). -/
def State.wordsTouched (s : State) (m : Member) (k i : Nat) : List Nat :=
  let d := m.desc k
  (if d.mode = 4 then [(m.win (k + 4)).at (d.ibase + i * d.isize) / 16] else []) ++
    (match s.elemAt m k i with | some pa => [pa / 16] | none => [])

/-- The elements of stream `k` that a step of elements [a, b) reads: COINC reads its y up to h ahead (R118). -/
def Member.stepElems (m : Member) (k a b : Nat) : List Nat :=
  let h := match m.scanUnit with | some u => if m.op u = 0x77 ∧ ySource u = k then m.param else 0 | none => 0
  let lo := if a = 0 then 0 else min m.n (a + h)
  (List.range (min m.n (b + h) - lo)).map (· + lo)

/-- The largest number of a step's words in one bank. -/
def bankPeak (ws : List Nat) : Nat := (ws.map (fun w => countIf (fun v => emBank (16 * v) == emBank (16 * w)) ws)).foldl max 0

/-- The energy of the bank words that a step or a part of one touches, each once (R391). -/
def State.useWords (s : State) (ws : List Nat) : State := s.useData 118 ws.eraseDups.length

/-- A step that touches some bank words: their energy, and MSTALL when one bank makes it longer, or the demand of other pipes that run (R82,
R100, R391); whether their demand does is open, a free value (log entry 130). -/
def State.stepWords (s : State) (p : Fin 64) (ws : List Nat) : State :=
  let long := decide (ceilDiv ws.eraseDups.length 32 < bankPeak ws.eraseDups)
  let shared := !ws.isEmpty && (List.finRange 64).any (fun q => q != p && s.pipes[q].any (fun r => r.fin.isNone))
  let (v, s') := s.draw
  let late := shared && bitAt v 0
  let s := (if shared then s' else s).useWords ws
  if long || late then s.incReg (0x340000 + 0x1000 * p.val + 0x058) else s

/-- Element steps completed when `d` of `n` elements are done. -/
def stepsAt (n e d : Nat) : Nat := if d = n then ceilDiv n e else d / e

/-- The steps of `e` elements that are completed as the elements done go from `a` to `b` of `n`: the first and the last element of each. -/
def stepsDone (n e a b : Nat) : List (Nat × Nat) :=
  (List.range (stepsAt n e b - stepsAt n e a)).map (fun q => let i := (stepsAt n e a + q) * e; (i, min n (i + e)))

/-- The bank words of a member's own streams for the elements [a, b) of a step. -/
def State.stepTouch (s : State) (m : Member) (a b : Nat) : List Nat :=
  m.ownStreams.flatMap (fun k => (m.stepElems k a b).flatMap (s.wordsTouched m k))

/-- What a member's elements [from, to) cost: lane operations, and the bank words of each step of its own that they complete (R82, R90,
R391). -/
def State.stepCost (s : State) (p : Fin 64) (m : Member) (from_ upto : Nat) : State :=
  let k := upto - from_
  let units := countIf (fun u => m.op u != 0) [0, 1, 2]
  let lanes := if etWidth m.out = 32 then 2 else 1
  let s := s.useData 13 (units * lanes * k)
  (stepsDone m.n (max 1 m.perStep) from_ upto).foldl (fun s q => s.stepWords p (s.stepTouch m q.1 q.2)) s

/-- The bank words that element i of a cue touches where it ends with `c`: the streams up to the one that fails. -/
def State.haltWords (s : State) (m : Member) (i : Nat) (c : CueEnd) : List Nat :=
  let d := m.desc c.fstream
  let before := (m.ownStreams.filter (fun k => decide (k < c.fstream))).flatMap (fun k => s.wordsTouched m k i)
  let index := (s.wordsTouched m c.fstream i).take 1
  if c.code = 5 then before ++ index
  else if c.code = 6 then
    if d.mode = 4 ∧ (d.ibase + i * d.isize) / 16 * 16 = c.faddr then before ++ index
    else before ++ (if d.mode = 4 then index else []) ++ [(m.win c.fstream).at c.faddr / 16]
  else if c.code = 10 then (m.ownStreams.filter (fun k => k != 3)).flatMap (fun k => s.wordsTouched m k i)
  else []

/-- The step in which a cue stops is not completed, but the bank words that it has touched count (R391): elements [lo, i), and element i
as far as the halting member has come. -/
def State.haltCost (s : State) (m : Member) (idx who lo i : Nat) (c : CueEnd) : State :=
  s.useWords (s.stepTouch m lo i ++ (if idx < who then (m.ownStreams.filter (fun k => k != 3)).flatMap (fun k => s.wordsTouched m k i)
    else if idx = who then s.haltWords m i c else []))

/-! ### Whole-vector results (R107, R108, R119 to R124) -/

/-- TOPK copies a payload of another width than D's: what D receives is not stated, a free value (log entry 48). -/
def Member.freeOut (m : Member) : Bool := m.op 0 == 0x81 && m.payload && etWidth (m.desc 1).etype != etWidth (m.desc 3).etype

/-- What a whole-vector operation delivers from all it has read. -/
def PipeRun.wholeOut (r : PipeRun) : WholeOut :=
  let m := r.m
  let t := m.wt
  let d := (m.desc 3).etype
  let p := m.param5
  let fillIn := convIn (m.desc 2).etype t m.rm (m.desc 2).scalar
  let fillOut := convOut t d m.rm m.nsat fillIn.1
  let fill : Word × Flags := if (m.desc 2).mode = 0 then (0, 0) else (fillOut.1, fillIn.2 ||| fillOut.2)
  match m.op 0 with
  | 0x80 => vRank t d m.rm m.nsat (p % 4) (decide (p / 4 % 2 = 1)) false m.n r.work r.masks
  | 0x81 => vRank t d m.rm m.nsat (p % 4) (decide (p / 4 % 2 = 1)) true m.nD r.work r.masks
  | 0x82 => vHist t (if p % 2 = 1 then r.bins.map (·.toNat) else List.replicate m.nD 0) r.work (r.masks.map (·.toNat))
  | 0x83 =>
    let w := vCompress t d m.rm m.nsat (decide (p % 2 = 1)) (decide (p / 2 % 2 = 1)) fill r.work (r.masks.map (etNonzero t))
    { w with flags := r.mflags.foldl (· ||| ·) w.flags }
  | 0x84 =>
    let outs := vExpand t d m.rm m.nsat fill (r.masks.map (etNonzero t)) r.work
    { outs := (outs.zip r.mflags).map (fun x => (x.1.1, x.1.2 ||| x.2)), result := BitVec.ofNat 64 r.used }
  | _ => vFft t d m.rm m.nsat (decide (p / 16 % 2 = 1)) (p % 16) r.work r.masks r.mflags

/-- FLAGS over the first `d` of D's elements; those that belong to no element come with the last (R107, R119). -/
def WholeOut.flagsAt (w : WholeOut) (d : Nat) : Flags :=
  (w.outs.take d).foldl (fun f o => f ||| o.2) (if w.outs.length ≤ d then w.flags else 0)

/-- RESULT over the first `d` of D's elements (R108; what each operation's value is over a part of its elements is DEDUCED, log entry
118). -/
def PipeRun.resultAt (r : PipeRun) (w : WholeOut) (d : Nat) : Word64 :=
  let m := r.m
  if w.outs.length ≤ d then w.result
  else BitVec.ofNat 64 (match m.op 0 with
    | 0x80 => d
    | 0x81 => min d w.keys.length + (if d = 0 then 0 else (w.keys.getD (min d w.keys.length - 1) 0).toNat * 2 ^ 32)
    | 0x82 =>
      let v := r.work.map (etVal m.wt)
      countIf (fun x : Int => decide (0 ≤ x ∧ x < (d : Int))) v +
        countIf (fun x : Int => decide (x < 0 ∨ (w.outs.length : Int) ≤ x)) v * 2 ^ 32
    | 0x83 => min d (countIf (etNonzero m.wt) r.masks)
    | 0x84 => countIf (etNonzero m.wt) (r.masks.take d)
    | _ => d / 2 ^ (m.param5 % 16 + 1))

/-! ### Records and ends -/

/-- RESULT of a run over the elements done so far, as a progress record has it (R108). -/
def PipeRun.result (r : PipeRun) : Word64 :=
  if r.m.whole then r.resultAt r.wholeOut r.done
  else if r.m.scanUnit.isSome then (if r.done = 0 then 0 else r.scanRes)
  else BitVec.ofNat 64 (r.nonzero + (r.firstNz.getD 0xFFFFFFFF) * 2 ^ 32)

/-- RESULT of a whole-vector cue that stops in its input: N, what has been counted or consumed, no transform; the keys ranked and the
elements that a mask selects are not stated for an input not read, a free value (R120; log entry 118). -/
def PipeRun.resultShort (r : PipeRun) (free : Word64) : Word64 :=
  match r.m.op 0 with
  | 0x80 => BitVec.ofNat 64 r.m.n
  | 0x81 => BitVec.ofNat 64 (min r.m.n r.m.nD) ||| (free &&& maskOf 64 32 32)
  | 0x82 =>
    let v := r.work.map (etVal r.m.wt)
    let n := countIf (fun x : Int => decide (0 ≤ x ∧ x < (r.m.nD : Int))) v
    BitVec.ofNat 64 (n + (v.length - n) * 2 ^ 32)
  | 0x83 => free &&& maskOf 64 0 32
  | 0x84 => BitVec.ofNat 64 r.used
  | _ => 0

/-- RESULT of a final record but with OPFAULT: a whole-vector operation's value is that of its whole input, however far D has come (R108). -/
def State.finalResult (s : State) (r : PipeRun) : Word64 × State :=
  if !r.m.whole then (r.result, s)
  else if r.taken < r.m.n then
    (r.resultShort (Config.freeWord s.freeIndex ++ Config.freeWord (s.freeIndex + 1)), s.drew 2)
  else (r.wholeOut.result, s)

/-- A progress record: written, or discarded with PROGDROP when its ring is full (R94, R96). -/
def progress (g : Fin 8) (p : Nat) (r : PipeRun) : MemM Unit := do
  let ok ← recPut g r.eng r.m.cring (recBytes g r.ring r.m
    { final := false, pipe := p, code := 0, cclass := r.cclass, flags := r.flags, done := r.done, result := r.result })
  if !ok then modify (fun s => (s.incReg (groupAddr g 0x114)).irq (groupPage g) 3)

/-- The progress records due after the elements of a step (R96). -/
def progressDue (m : Member) (n from_ upto : Nat) : List Nat :=
  if m.prog = 0 then []
  else let iv := 2 ^ (m.prog + 9)
    ((List.range (upto / iv + 1)).map (fun q => q * iv)).filter (fun d => decide (from_ < d ∧ d ≤ upto ∧ d < n))

/-- The physical byte ranges of a stream that fixes them at issue. -/
def Member.range (m : Member) (k n : Nat) : Option (Nat × Nat) :=
  let d := m.desc k
  if d.mode = 0 ∨ d.mode = 5 ∨ n = 0 then none
  else
    let x := d.extent n
    let w := m.win (if d.mode = 4 then k + 4 else k)
    some (w.at x.1.toNat, w.at x.1.toNat + (x.2 - x.1).toNat)

/-- D overlaps a source extent, the in-place COMPRESS apart: D's extent ends undefined (R119, R123). -/
def Member.overlaps (m : Member) (nd : Nat) : Bool :=
  let a := m.desc 0
  let d := m.desc 3
  let inPlace := m.op 0 == 0x83 && a.linear1 && a.base == d.base && a.etype == d.etype
  match m.range 3 nd with
  | none => false
  | some (lo, hi) => [0, 1, 2].any (fun k => !(k == 0 && inPlace) && (match m.range k m.n with
      | some (a, b) => decide (lo < b ∧ a < hi) | none => false))

/-- D's extent takes undefined data (R12, R119). -/
def State.scramble (s : State) (m : Member) (nd : Nat) : State :=
  match m.range 3 nd with
  | none => s
  | some (lo, hi) =>
    ((s.setBytes lo ((List.range (hi - lo)).map (fun i => some (freeByte (s.freeIndex + i))))).drew (hi - lo)).loseReservations
      ((List.range (ceilDiv hi 16 - lo / 16)).map (· + lo / 16)) none

/-- Fill marks of the tail's D: after every 64 elements, and at the end (R86). -/
def State.fillMark (s : State) (g : Fin 8) (r : PipeRun) : State :=
  let slot := fld r.m.cnt 28 4
  if (r.m.desc 3).fill && (r.m.fuse == 0 || r.m.fuse == 3) && s.groups[g].claims.contains (slot, r.chain, r.idx) then
    s.modReg (chainAddr g slot) (fun w =>
      match r.fin with
      | some f => BitVec.ofNat 32 ((if f.code = 0 then 0 else 2 ^ 30) + r.done)
      | none => putFld w 0 20 (r.done / 64 * 64))
  else s

/-- The pipes of a chain, with what they run, by member. -/
def State.chainPipes (s : State) (g : Fin 8) (id : Nat) : List (Fin 64 × PipeRun) :=
  let l := (List.finRange 64).filterMap (fun p => if groupOf p = g then (match s.pipes[p] with
    | some r => if r.chain = id then some (p, r) else none | none => none) else none)
  (List.range 8).filterMap (fun i => l.find? (fun x => x.2.idx == i))

/-- A whole-vector cue whose D overlaps a source leaves D's extent undefined, however it ends (R119). -/
def State.overlapEnd (s : State) (r : PipeRun) : State :=
  let nd := if r.m.whole && decide (r.m.n ≤ r.taken) then r.wholeOut.outs.length else r.m.nD
  if r.fin.isSome && r.m.whole && r.m.overlaps nd then s.scramble r.m nd else s

/-- Put the runs of a chain back on its pipes. -/
def State.putRuns (s : State) (l : List (Fin 64 × PipeRun)) : State := l.foldl (fun s x => s.setPipe x.1 (some x.2)) s

/-- A chain's runs after a step or an end: what an overlap leaves, its fill marks, the runs on their pipes. -/
def State.settleRuns (s : State) (g : Fin 8) (l : List (Fin 64 × PipeRun)) : State :=
  (l.foldl (fun s x => (s.overlapEnd x.2).fillMark g x.2) s).putRuns l

/-- End every member of a chain at the elements done: `why` for member `who`, ABORTED for its partners (R92). -/
def endRuns (who : Nat) (why : CueEnd) (l : List (Fin 64 × PipeRun)) : List (Fin 64 × PipeRun) :=
  l.map (fun x => (x.1, { x.2 with waitSince := none, fin := some (if x.2.idx = who then why else { code := 7, fstream := 0, faddr := 0, result := none }) }))

/-- A cue that ended well. -/
def endOk : CueEnd := { code := 0, fstream := 0, faddr := 0, result := none }

/-- A run waits for a fill mark in a step; CSTALL counts a step once (R100). -/
def fillStall (p : Fin 64) (r : PipeRun) (step : Nat) : MemM PipeRun := do
  if r.stallAt ≠ some step then modify (fun s => s.incReg (0x340000 + 0x1000 * p.val + 0x05C))
  let s ← get
  return { r with waitSince := some (r.waitSince.getD s.beatno), stallAt := some step }

/-! ### Element steps of ordinary cues -/

/-- One element step of a chain: the elements up to the end of pipe p's step (R82, R90). -/
def chainStep (p : Fin 64) (l : List (Fin 64 × PipeRun)) (me : PipeRun) : MemM Unit := do
  let g := groupOf p
  let n := me.m.n
  let e := max 1 me.m.perStep
  let i0 := me.done
  let rs := l.map (·.2)
  let (els, halt) ← elLoop g i0 rs (min n ((i0 / e + 1) * e) - i0)
  let old ← get
  let refused ← putElems (els.filterMap (·.2)) (els.length + 1) (i0 + els.length)
  let k := match refused with | some w => w.i - i0 | none => els.length
  let rs := if k = 0 then rs else ((els.getD (k - 1) ([], none)).1)
  let wrote := (els.filterMap (·.2)).filter (fun w => decide (w.i < i0 + k))
  let l := (l.map (·.1)).zip (rs.map (fun r => if r.inPlace.isEmpty then r else { r with orig := wrote.foldl (keepOld old) r.orig }))
  let i1 := i0 + k
  modify (fun s => l.foldl (fun s x =>
    let e := max 1 x.2.m.perStep
    (s.addReg (0x340000 + 0x1000 * x.1.val + 0x054) (stepsAt n e i1 - stepsAt n e i0)).stepCost x.1 x.2.m i0 i1) s)
  let stops := fun (who : Nat) (c : CueEnd) => do
    modify (fun s => l.foldl (fun s x => s.haltCost x.2.m x.2.idx who (i1 / max 1 x.2.m.perStep * max 1 x.2.m.perStep) i1 c) s)
    pure (endRuns who c l)
  let l ← match refused, halt with
    | some w, _ => stops (rs.length - 1) { code := 6, fstream := 3, faddr := w.va, result := none }
    | none, some (who, .stop c) => stops who c
    | none, some (who, .fill) =>
      l.mapM (fun x => do
        if x.2.idx = who then
          let r ← fillStall x.1 x.2 (i1 / max 1 x.2.m.perStep)
          return (x.1, r)
        else return x)
    | none, none => pure (if i1 = n then l.map (fun x => (x.1, { x.2 with fin := some endOk })) else l)
  l.forM (fun x => (progressDue x.2.m n i0 i1).forM (fun d =>
    match (els.getD (d - i0 - 1) ([], none)).1[x.2.idx]? with
    | some r => progress g (x.1.val % 8) r
    | none => pure ()))
  modify (fun s => s.settleRuns g l)

/-! ### Whole-vector cues (R119 to R124) -/

/-- Whether the second stream is read, and converted to T. -/
def Member.readsB (m : Member) : Bool := match m.op 0 with | 0x80 | 0x81 => m.payload | _ => true

/-- Read element i of a whole-vector cue's input. FFT uses OPT.RM for D alone: its B is converted to nearest (R124; DEDUCED, log entry
128). -/
def wholeRead (g : Fin 8) (i : Nat) (r : PipeRun) : ElM PipeRun := do
  let m := r.m
  let expand := m.op 0 == 0x84
  if m.readsB then fillWait g m 1 i
  let b ← if m.readsB then elSource m [] 1 i else pure 0
  let cb : Word × Flags := if (m.desc 1).mode = 0 then (if m.op 0 = 0x82 then 1 else 0, 0)
    else if m.payload || m.op 0 == 0x82 then (b, 0) else convIn (m.desc 1).etype m.wt (if m.op 0 = 0x85 then 0 else m.rm) b
  let want := !expand || etNonzero m.wt cb.1
  let j := if expand then r.used else i
  if want then fillWait g m 0 j
  let a ← if want then elSource m [] 0 j else pure 0
  return { r with
    taken := i + 1
    used := if want then r.used + 1 else r.used
    work := if want then r.work ++ [a] else r.work
    masks := r.masks ++ [cb.1]
    mflags := r.mflags ++ [cb.2]
    waitSince := none }

/-- Read `n` elements, up to one that halts. -/
def wholeReads (g : Fin 8) (r : PipeRun) : Nat → MemM (PipeRun × Option Halt)
  | 0 => return (r, none)
  | n + 1 => do
    match ← ((wholeRead g r.taken r).run : MemM _) with
    | .error h => return (r, some h)
    | .ok r' => wholeReads g r' n

/-- HIST with ACC reads D's bins at its start (R122). -/
def binReads (m : Member) (i : Nat) : Nat → ElM (List Word)
  | 0 => return []
  | n + 1 => do
    let v ← elRead m 3 3 (((m.desc 3).addr i).toNat) 4
    let rest ← binReads m (i + 1) n
    return BitVec.ofNat 32 v :: rest

/-- The element steps of a whole-vector cue (R120). -/
def Member.wholeSteps (m : Member) : Nat :=
  let ea := max 1 (etPerStep m.lanes m.wt)
  let ed := max 1 m.perStep
  let n := ceilDiv m.n ea
  let p := if m.n ≤ 1 then 0 else log2Floor 32 (m.n - 1) + 1
  let q := m.param5 % 16
  match m.op 0 with
  | 0x80 => n * (2 + p * (p + 1) / 2)
  | 0x81 => n + 16 + ceilDiv m.nD ed
  | 0x82 => n + ceilDiv m.nD ed * (1 + m.param5 % 2)
  | 0x83 => n
  | 0x84 => ceilDiv m.n ed
  | _ => m.n / 2 ^ q * (2 * ceilDiv (2 ^ q) ea + q * ceilDiv (2 ^ (q + 1)) m.lanes + ceilDiv (2 ^ (q + 1)) ed)

/-- Write D's elements [done, done + k) of a whole-vector cue; `free`: the number of the first free value, where D receives one. -/
def wholeWrites (r : PipeRun) (w : WholeOut) (free k : Nat) : List DWrite :=
  (List.range k).map (fun j =>
    let i := r.done + j
    let d := r.m.desc 3
    let va := (d.addr i).toNat
    { i, va, pa := (r.m.win 3).at va, bit := if d.etype = 8 then some (i % 8) else none
      v := if r.m.freeOut then Config.freeWord (free + j) else (w.outs.getD i (0, 0)).1, size := etSize d.etype })

/-- HIST that accumulates in D. -/
def Member.accumulates (m : Member) : Bool := m.op 0 == 0x82 && m.param5 % 2 == 1

/-- Another pipe's accumulating HIST is in the middle of writing a D that overlaps this one's: its whole result comes to stand first, so
that no result mixes the two (R122; in which order they come is open). -/
def State.binsBusy (s : State) (p : Fin 64) (r : PipeRun) : Bool :=
  r.m.accumulates && (List.finRange 64).any (fun q => q != p && (match s.pipes[q] with
    | some o => o.m.accumulates && o.fin.isNone && decide (0 < o.done) && (match r.m.range 3 r.m.nD, o.m.range 3 o.m.nD with
        | some a, some b => decide (a.1 < b.2 ∧ b.1 < a.2)
        | _, _ => false)
    | none => false))

/-- The elements of the input that an element step of a whole-vector cue reads (R120). -/
def Member.inStep (m : Member) : Nat := max 1 (if m.op 0 = 0x84 then m.perStep else etPerStep m.lanes m.wt)

/-- The bank words of EXPAND's element steps: the mask, the elements of A read for it and D (R82, R123). -/
def State.expandWords (s : State) (r : PipeRun) (a b : Nat) : List Nat :=
  let used := fun (i : Nat) => countIf (etNonzero r.m.wt) (r.masks.take i)
  (List.range (b - a)).flatMap (fun i => s.wordsTouched r.m 1 (a + i) ++ s.wordsTouched r.m 3 (a + i)) ++
    (List.range (used b - used a)).flatMap (fun i => s.wordsTouched r.m 0 (used a + i))

/-- An element step of a whole-vector cue: STEPS, its lane operations, its bank words (R82, R100, R391). -/
def State.wholeWords (s : State) (p : Fin 64) (m : Member) (ws : List Nat) : State :=
  ((s.incReg (0x340000 + 0x1000 * p.val + 0x054)).useData 13 m.lanes).stepWords p ws

/-- The bank words of input elements [a, b): A, and B where it is read. -/
def State.inWords (s : State) (m : Member) (a b : Nat) : List Nat :=
  (List.range (b - a)).flatMap (fun i => ([0] ++ (if m.readsB then [1] else [])).flatMap (fun k => s.wordsTouched m k (a + i)))

/-- What a whole-vector cue's input elements [a, b) cost: the steps they complete. EXPAND takes its steps as it writes D. -/
def State.inCost (s : State) (p : Fin 64) (m : Member) (a b : Nat) : State :=
  if m.op 0 = 0x84 then s else (stepsDone m.n m.inStep a b).foldl (fun s q => s.wholeWords p m (s.inWords m q.1 q.2)) s

/-- A cue that stops in its input has touched the words of its last, uncompleted step up to the failing one (R391). EXPAND has completed
no step. -/
def State.inHalt (s : State) (r : PipeRun) (c : CueEnd) : State :=
  let m := r.m
  s.useWords (if m.op 0 = 0x84 then
      (List.range r.taken).flatMap (s.wordsTouched m 1) ++ (List.range r.used).flatMap (s.wordsTouched m 0) ++
        (if c.code = 6 then [(m.win c.fstream).at c.faddr / 16] else [])
    else s.inWords m (r.taken / m.inStep * m.inStep) r.taken ++ s.haltWords m r.taken c)

/-- What D's elements [a, b) of `nd` cost: COMPRESS writes them in the steps that read its input. -/
def State.outCost (s : State) (p : Fin 64) (r : PipeRun) (nd a b : Nat) : State :=
  let m := r.m
  (stepsDone nd (max 1 m.perStep) a b).foldl (fun s q =>
    let ws := if m.op 0 = 0x84 then s.expandWords r q.1 q.2 else (List.range (q.2 - q.1)).flatMap (fun i => s.wordsTouched m 3 (q.1 + i))
    if m.op 0 = 0x83 then s.useWords ws else s.wholeWords p m ws) s

/-- A refused word of D, with those written before it in its step. -/
def State.outHalt (s : State) (r : PipeRun) (done va : Nat) : State :=
  let lo := done / max 1 r.m.perStep * max 1 r.m.perStep
  s.useWords ((if r.m.op 0 = 0x84 then s.expandWords r lo done else (List.range (done - lo)).flatMap (fun i => s.wordsTouched r.m 3 (lo + i))) ++
    [(r.m.win 3).at va / 16])

/-- The bins of an accumulating HIST, read at its start (R122). -/
def wholeBins (p : Fin 64) (r : PipeRun) : MemM Unit := do
  let ws := fun (s : State) => ((List.range r.m.nD).flatMap (s.wordsTouched r.m 3)).eraseDups
  match ← ((binReads r.m 0 r.m.nD).run : MemM _) with
  | .error (.stop c) =>
    let bad := (r.m.win 3).at c.faddr / 16
    modify (fun s => (s.useWords (bad :: (ws s).takeWhile (· != bad))).settleRuns (groupOf p) [(p, { r with fin := some c })])
  | .error .fill => return ()
  | .ok b => modify (fun s => (s.useWords (ws s)).setPipe p (some { r with bins := b }))

/-- The next elements of a whole-vector cue's input. -/
def wholeIn (p : Fin 64) (r : PipeRun) : MemM Unit := do
  let m := r.m
  let (r', h) ← wholeReads (groupOf p) r (min m.n ((r.taken / m.inStep + 1) * m.inStep) - r.taken)
  modify (fun s => s.inCost p m r.taken r'.taken)
  match h with
  | some (.stop c) => modify (fun s => (s.inHalt r' c).settleRuns (groupOf p) [(p, { r' with waitSince := none, fin := some c })])
  | some .fill =>
    let r ← fillStall p r' (r'.taken / m.inStep)
    modify (fun s => s.setPipe p (some r))
  | none => modify (fun s => s.setPipe p (some r'))

/-- The steps of a whole-vector cue that neither read its input nor write its output (R120): they come between the two. -/
def State.wholeWork (s : State) (p : Fin 64) (m : Member) (nd : Nat) : State :=
  let ins := if m.op 0 = 0x84 then 0 else ceilDiv m.n m.inStep
  let outs := if m.op 0 = 0x83 then 0 else ceilDiv nd (max 1 m.perStep)
  let k := m.wholeSteps - ins - outs
  (s.addReg (0x340000 + 0x1000 * p.val + 0x054) k).useData 13 (k * m.lanes)

/-- The next elements of a whole-vector cue's output, all of its input read. -/
def wholeDrain (p : Fin 64) (r : PipeRun) : MemM Unit := do
  let g := groupOf p
  let m := r.m
  let w := r.wholeOut
  let nd := w.outs.length
  let e := max 1 m.perStep
  let k := min nd ((r.done / e + 1) * e) - r.done
  let s ← get
  let refused ← putElems (wholeWrites r w s.freeIndex k) (k + 1) (r.done + k)
  let done := match refused with | some x => x.i | none => r.done + k
  let r' := { r with done, flags := w.flagsAt done }
  modify (fun s => (if r.done = 0 then s.wholeWork p m nd else s))
  modify (fun s => (if m.freeOut then s.drew k else s).outCost p r nd r.done done)
  modify (fun s => match refused with | some x => s.outHalt r done x.va | none => s)
  (progressDue m nd r.done done).forM (fun d => progress g (p.val % 8) { r' with done := d, flags := w.flagsAt d })
  let fin := match refused with
    | some x => some { code := 6, fstream := 3, faddr := x.va, result := none }
    | none => if done < nd then none else some endOk
  modify (fun s => s.settleRuns g [(p, { r' with fin })])

/-- One element step of a whole-vector cue: the next elements of its input, then the next of its output. -/
def wholeStep (p : Fin 64) (r : PipeRun) : MemM Unit := do
  let s ← get
  let bins := r.m.accumulates && r.bins.isEmpty
  if (bins || decide (r.m.n ≤ r.taken ∧ r.done = 0)) && s.binsBusy p r then return ()
  else if bins then wholeBins p r
  else if r.taken < r.m.n then wholeIn p r
  else wholeDrain p r

/-- ELEMENT_STEP: the pipe, its cue running and not frozen, does its next step with its chain partners (R82, R100, R410). -/
def State.elementStep (s : State) (p : Fin 64) : State :=
  match s.pipes[p] with
  | none => s
  | some r =>
    let l := s.chainPipes (groupOf p) r.chain
    if r.fin.isSome ∨ l.any (fun x => s.frozen (.pipe x.1)) then s
    else if r.m.whole then s.access (wholeStep p r) (fun _ s => s) (fun s => s)
    else s.access (chainStep p l r) (fun _ s => s) (fun s => s)

/-- CHAIN_TIMEOUT: a fill-mark wait has lasted CHAIN_TMO beats (R88). -/
def State.chainTimeout (s : State) (p : Fin 64) : State :=
  match s.pipes[p] with
  | none => s
  | some r =>
    let g := groupOf p
    let tmo := fld (s.getReg (groupAddr g 0x100)) 0 16
    match r.waitSince with
    | none => s
    | some b =>
      let count := fld (s.getReg (chainAddr g (fld r.m.cnt 24 4))) 0 20
      let need := match r.m.fillSource with
        | some k => if r.m.whole then (if k = 0 ∧ r.m.op 0 = 0x84 then r.used else r.taken) else r.m.ahead k r.done
        | none => 0
      if tmo = 0 ∨ r.fin.isSome ∨ need < count ∨ (s.beatno - b).toNat < tmo then s
      else
        let l := endRuns r.idx { code := 9, fstream := 0, faddr := 0, result := none } (s.chainPipes g r.chain)
        s.settleRuns g l

/-! ### Final records (R94, R95, R99, R101) -/

/-- A member has ended: its pipe is free; with the tail's record the chain's grant goes back, with the last member's the chain has
ended. -/
def State.memberEnded (s : State) (p : Fin 64) (r : PipeRun) (code : Nat) : State :=
  let g := groupOf p
  let a := 0x340000 + 0x1000 * p.val
  let s := (s.setPipe p none).incReg (a + 0x050)
  let s := if code = 0 then s else (s.incReg (a + 0x060)).irq (.pipe p) 0
  let s := if code = 9 then s.irq (.pipe p) 1 else s
  let s := if r.m.fuse = 0 ∨ r.m.fuse = 3 then s.releaseGrant (.cue r.chain) else s
  let s := s.modChain g r.chain (fun c => { c with ended := c.ended + 1 })
  match s.chainOf g r.chain with
  | some c => if c.members.length ≤ c.ended then s.dropChain g r.chain else s
  | none => s

/-- FINAL_RECORD: the ended cue's record is written; QUIET and OK writes none; a full ring keeps the pipe busy. Records of the group's
cues that have no pipe go first. -/
def finalRecord (p : Fin 64) : MemM Unit := do
  let g := groupOf p
  let s ← get
  flushRecs g s.groups[g].recs
  let s ← get
  match s.pipes[p] with
  | none => return ()
  | some r =>
    match r.fin with
    | none => return ()
    | some f =>
      let quiet := f.code == 0 && bitAt r.m.ctrl 28
      let (v, s') := s.finalResult r
      if f.result.isNone then set s'
      let result := f.result.getD v
      let ok ← if quiet then pure true else recPut g r.eng r.m.cring (recBytes g r.ring r.m
        { final := true, pipe := p.val % 8, code := f.code, fstream := f.fstream, faddr := f.faddr, cclass := r.cclass,
          flags := r.flags, done := r.done, result })
      if ok then modify (fun s => s.memberEnded p r f.code)

/-! ### Soft reset and registers (R100) -/

/-- Soft reset of a pipe: its cue stops with ABORTED, a chain as a whole; PIPE 8g also clears the group's chain slots, and a consumer
waiting on one stops with CHAIN_FAULT. A producer of the group that runs on has lost its slot, and its later fill marks are ignored (DESIGN
CHOICE, log entry 129). -/
def State.pipeReset (s : State) (p : Fin 64) : State :=
  let g := groupOf p
  let s := match s.pipes[p] with
    | some r =>
      if r.fin.isSome then s
      else
        let ab : CueEnd := { code := 7, fstream := 0, faddr := 0, result := none }
        let l := (s.chainPipes g r.chain).map (fun x => (x.1, { x.2 with waitSince := none, fin := some ab }))
        s.settleRuns g l
    | none => s
  if p.val % 8 ≠ 0 then s
  else
    let waiting := (List.finRange 64).filter (fun q => decide (groupOf q = g) &&
      (match s.pipes[q] with | some r => r.waitSince.isSome && r.fin.isNone | none => false))
    let s := waiting.foldl (fun s q => match s.pipes[q] with
      | some r =>
        let l := endRuns r.idx { code := 8, fstream := 0, faddr := 0, result := none } (s.chainPipes g r.chain)
        s.settleRuns g l
      | none => s) s
    ((List.range 16).foldl (fun s i => s.setReg (chainAddr g i) 0) s).modGroup g (fun gr => { gr with claims := [] })

/-- PSTATE, PTAG, PDONE, PENG, GSTAT as they read; a pipe reserved for a cue that waits for others or for power reads as idle (DESIGN CHOICE,
log entry 129). -/
def State.pipeRead (s : State) (p : Fin 64) (off : Nat) : Option Word :=
  let r := s.pipes[p]
  match off with
  | 0x040 => some (match r with
    | none => 0
    | some r => BitVec.ofNat 32 (2 ^ 31 + b2n (r.m.fuse != 0) * 2 ^ 30 + b2n r.waitSince.isSome * 2 ^ 29 +
        b2n (r.fin.isSome && s.cringOk r.m.cring r.eng && s.ringFull r.m.cring) * 2 ^ 28))
  | 0x044 => some (match r with | none => 0 | some r => r.m.tag)
  | 0x048 => some (match r with | none => 0 | some r => BitVec.ofNat 32 r.done)
  | 0x04C => some (match r with | none => 511 | some r => BitVec.ofNat 32 r.eng)
  | 0x104 => if p.val % 8 = 0 then some (BitVec.ofNat 32 (((List.finRange 8).map (fun j =>
      b2n (s.pipes[Fin.ofNat 64 (p.val + j.val)].isSome) * 2 ^ j.val)).sum)) else none
  | _ => none

/-- A Raise has written table `space`: a cue that looked it up before and does so again sets OPX (R128). -/
def State.raiseTables (s : State) (space : Nat) : State :=
  { s with pipes := s.pipes.map (fun r => r.map (fun r =>
      if r.looked && r.fin.isNone && [0, 1, 2].any (fun u => opTable (r.m.op u) == space) then { r with raised := true } else r)) }

/-! ### Meanings -/

/-- ELEMENT_STEP (R82). -/
def execElementStep (p : Fin 64) (s : State) : Out := .next (s.elementStep p)
/-- CHAIN_TIMEOUT (R88). -/
def execChainTimeout (p : Fin 64) (s : State) : Out := .next (s.chainTimeout p)
/-- FINAL_RECORD (R94). -/
def execFinalRecord (p : Fin 64) (s : State) : Out :=
  .next (s.access (finalRecord p) (fun _ s => s) (fun s => s))

end Sys2Proof.Machine
end

