-- ==== Sys2Proof/Machine/Wings.lean ====
section
/-!
DEFINITION. The Wings (R153 to R170): slots and staging, PREPARE, RAISE, the Raise, global transactions.
-/
namespace Sys2Proof.Machine

/-! ### Slots -/

/-- A register of slot t. -/
def wslotAddr (t : Fin 8) (off : Nat) : Nat := 0x003200 + 0x40 * t.val + off
/-- TBEAT. -/
def State.tbeat (s : State) (t : Fin 8) : Word64 := s.getReg (wslotAddr t 0x14) ++ s.getReg (wslotAddr t 0x10)
/-- TGLOB. -/
def State.tglob (s : State) (t : Fin 8) : Word := s.getReg (wslotAddr t 0x18)
/-- TGLOB.GLOBAL. -/
def State.tglobal (s : State) (t : Fin 8) : Bool := bitAt (s.tglob t) 31
/-- TGLOB.COORD. -/
def State.tcoord (s : State) (t : Fin 8) : Bool := bitAt (s.tglob t) 30
/-- GTAG. -/
def State.gtag (s : State) (t : Fin 8) : Word := s.getReg (wslotAddr t 0x1C)
/-- RAISE_MIN: 0 to 3 act as 4. -/
def State.raiseMin (s : State) : Nat := max 4 (fld (s.getReg 0x003044) 0 8)
/-- TSTATE (R169). -/
def TState.code : TState → Nat
  | .free => 0 | .opened => 1 | .preparing => 2 | .voting => 3 | .prepared => 4 | .armed => 5
/-- TSTAT. -/
def WSlot.tstat (w : WSlot) : Word :=
  BitVec.ofNat 32 (w.seq.toNat * 2 ^ 24 + w.owner.toNat * 2 ^ 16 + w.cb.toNat * 2 ^ 8 + b2n w.overflow * 16 + w.st.code)
/-- The transaction ID. -/
def WSlot.txId (w : WSlot) (t : Fin 8) : Nat := w.seq.toNat * 8 + t.val
/-- The Callboard record of a slot. -/
def WSlot.rec? (w : WSlot) : Option (Fin 64) := if h : w.cb.toNat < 64 then some ⟨w.cb.toNat, h⟩ else none
/-- The slot holds its tracking units: PREPARED, VOTING or ARMED (R158). -/
def WSlot.holding (w : WSlot) : Bool := w.st == .prepared || w.st == .voting || w.st == .armed

/-- Entries in use and data words in use, over all slots (R155). -/
def State.stagedEntries (s : State) : Nat := ((List.finRange 8).map (fun t => s.slots[t].entries.length)).sum
/-- Data words in use. -/
def State.stagedWords (s : State) : Nat := ((List.finRange 8).map (fun t => (s.slots[t].entries.map (·.data.length)).sum)).sum

/-! ### Entries (R153, R155, R156) -/

/-- SPACE of an entry. -/
def StageEntry.space (e : StageEntry) : Nat := fld (e.start.getD 0) 30 2
/-- Words per element. -/
def elemWords (space : Nat) : Nat := match space with | 2 => 2 | 3 => 4 | _ => 1
/-- The number of whole elements. -/
def StageEntry.count (e : StageEntry) : Nat := e.data.length / elemWords e.space
/-- The index of element j: a register address, an entry, or a word of the shared stores (cluster × 16,384 + word). -/
def StageEntry.index (e : StageEntry) (j : Nat) : Nat :=
  let w := e.start.getD 0
  if e.space = 0 then fld w 0 24 + 4 * j else fld w 0 30 + j
/-- Element j's value. -/
def StageEntry.value (e : StageEntry) (j : Nat) : Nat :=
  let k := elemWords e.space
  ((e.data.drop (k * j)).take k).foldr (fun w a => w.toNat + 2 ^ 32 * a) 0
/-- A staged-capable register (R153). -/
def stagedReg (addr : Nat) : Bool :=
  match pageAt addr with
  | none => false
  | some p => addr % 4 == 0 && decide (0x20 ≤ addr % 0x1000) && (match regDesc p (addr % 0x1000) with | some d => d.staged | none => false)
/-- The entry is malformed (R156). -/
def StageEntry.malformed (e : StageEntry) : Bool :=
  match e.start with
  | none => true
  | some w =>
    let i := fld w 0 30
    e.data.isEmpty || e.data.length % elemWords e.space != 0 ||
    (match e.space with
      | 0 => decide (2 ^ 24 ≤ i) || (List.range e.count).any (fun j => !stagedReg (e.index j))
      | 1 => decide (2 ^ 20 < i + e.count) || decide (2 ^ 20 ≤ i)
      | 2 => decide (2 ^ 22 < i + e.count) || decide (2 ^ 22 ≤ i)
      | _ => decide (2 ^ 18 ≤ i) || decide (16384 < i % 16384 + e.count))
/-- The tracking unit of an element (R153). -/
def unitNo (space i : Nat) : Nat := match space with | 0 => i | 1 => i / 16 | 2 => i / 8 | _ => i / 256
/-- The tracking units of an entry. -/
def StageEntry.units (e : StageEntry) : List (Nat × Nat) :=
  ((List.range e.count).map (fun j => (e.space, unitNo e.space (e.index j)))).eraseDups
/-- The tracking units of a slot. -/
def WSlot.units (w : WSlot) : List (Nat × Nat) := (w.entries.flatMap StageEntry.units).eraseDups

/-- A tracking unit is held by a transaction (R158). -/
def State.unitHeld (s : State) (space u : Nat) : Bool :=
  (List.finRange 8).any (fun t => s.slots[t].holding && s.slots[t].units.contains (space, u))
/-- A register is held by a transaction (R158). -/
def State.regHeld (s : State) (addr : Nat) : Bool := s.unitHeld 0 addr
/-- Some held unit lies in a space (R158). -/
def State.spaceHeld (s : State) (p : Nat × Nat → Bool) : Bool :=
  (List.finRange 8).any (fun t => s.slots[t].holding && s.slots[t].units.any p)

/-- Units written by something other than the transaction of slot `except_` (R157). -/
def State.touch (s : State) (space lo hi : Nat) (except_ : Option (Fin 8)) : State :=
  { s with slots := Vector.ofFn (fun t =>
      let w := s.slots[t]
      let x : Touch := { space, lo, hi }
      if w.st == .free || except_ == some t || w.touched.contains x then w else { w with touched := x :: w.touched }) }

/-! ### BIST and bulk load wait for held units (R158, R301, R314) -/

/-- A BIST of page j has to wait: a held tracking unit lies in its memories (R158). -/
def State.bistBlocked (s : State) (j : Fin 16) : Bool :=
  s.spaceHeld (fun u => (u.1 == 2 && u.2 % 256 / 16 == j.val) || (u.1 == 1 && j.val == 0))

/-- The BIST of page j asks for its power unless it has to wait. -/
def State.bistPoll (s : State) (j : Fin 16) : State :=
  match s.bists[j] with
  | some b =>
    if b.asked || s.bistBlocked j then s
    else match (s.cbEnter b.cb .permitWait).askPermit (.bist j) 600 2 false with
      | (.refused, s) => { s with bists := s.bists.set j none }.cbEnd b.cb .failed opPermitRefused 0
      | (_, s) => { s with bists := s.bists.set j (some { b with asked := true }) }
  | none => s

/-- The bulk load has to wait: a transaction holds a Pattern Store unit, or a BIST runs (R314). -/
def State.bulkBlocked (s : State) : Bool :=
  s.spaceHeld (fun u => u.1 == 2) || s.bists.toList.any (fun b => match b with | some b => b.granted | none => false)

/-- The bulk load asks for its power unless it has to wait. -/
def State.bulkPoll (s : State) : State :=
  match s.bulk with
  | some b =>
    if b.asked || s.bulkBlocked then s
    else match (s.cbEnter b.cb .permitWait).askPermit .bulk 400 2 false with
      | (.refused, s) => { s with bulk := none }.cbEnd b.cb .failed opPermitRefused 0
      | (_, s) => { s with bulk := some { b with asked := true } }
  | none => s

/-- What waits for tracking units or for a BIST's end goes on if it can. -/
def State.memPoll (s : State) : State := ((List.finRange 16).foldl State.bistPoll s).bulkPoll

/-! ### Ends (R163, R164) -/

/-- The transaction reaches a final state: record, grant, buffer space; the slot is FREE. -/
def State.wingsEnd (s : State) (t : Fin 8) (st : OpState) (code reason num : Nat) : State :=
  let w := s.slots[t]
  let s := match w.rec? with
    | some r => s.cbEnd r st code (reason * 2 ^ 16 + num % 4096)
    | none => s
  let s := (s.withdraw (.prepare t)).modSlot t (fun w =>
    { w with st := .free, entries := [], entryOpen := false, touched := [], bulkRan := false, overflow := false, bufErr := none,
             raiseAsked := false, granted := false, prep := none, votes := [], noVotes := [], voted := false })
  (s.irq .wings (if st = .done then 0 else 1)).memPoll

/-- A Wings message about a global transaction (R166). -/
def State.wingsSend (s : State) (kind : Nat) (dest : Option Nat) (fields : List Word64) : State :=
  s.sendPeer { cls := 10, kind, dest := dest.getD s.devno, bcast := dest.isNone, fields, len := if kind = 1 then 3 else 2 }

/-- A participant's vote goes to the coordinator. -/
def State.sendVote (s : State) (t : Fin 8) (coord : BitVec 9) (yes : Bool) : State :=
  s.wingsSend 2 (some coord.toNat) [(s.gtag t).setWidth 64, BitVec.ofNat 64 s.devno, BitVec.ofNat 64 (b2n yes)]

/-- A transaction fails; a participant that holds a PREP and has not voted votes NO (R166). -/
def State.wingsFail (s : State) (t : Fin 8) (code reason num : Nat) : State :=
  let w := s.slots[t]
  let s := match w.prep with
    | some (_, _, c) => if w.voted || s.tcoord t then s else s.sendVote t c false
    | none => s
  s.wingsEnd t .failed code reason num

/-- No entry of its own: 0xFFF. -/
def noEntry : Nat := 0xFFF

/-! ### OPEN and staging (R154, R155) -/

/-- OPEN: the slot is FREE, the page enabled, a record free. A bulk load that runs now has run since (R157). -/
def State.wingsOpen (s : State) (t : Fin 8) (m : Master) : State :=
  if s.slots[t].st ≠ .free ∨ !s.pageEn .wings then s
  else match s.cbStart 6 .wings with
    | (none, s) => s.modSlot t (fun w => { w with cb := 255 })
    | (some r, s) => s.modSlot t (fun w => { ({} : WSlot) with
      st := .opened, seq := w.seq + 1, owner := masterCode m, cb := BitVec.ofNat 8 r.val
      bulkRan := match s.bulk with | some l => l.granted | none => false })

/-- The record's OP_PROGRESS and OP_TOTAL follow the entries closed (R164). -/
def State.wingsProgress (s : State) (t : Fin 8) : State :=
  let w := s.slots[t]
  let n := w.entries.length - b2n w.entryOpen
  match w.rec? with
  | some r => s.cbReport r (fun v => { v with progress := BitVec.ofNat 32 n, total := BitVec.ofNat 32 n })
  | none => s

/-- TADDR: closes the open entry and opens a new one, or overflows. Nothing is staged under a freeze (R163; DESIGN CHOICE, log entry 120). -/
def State.wingsTaddr (s : State) (t : Fin 8) (data : Word) : State :=
  if s.slots[t].st ≠ .opened ∨ s.frozen .wings then s
  else if 4096 ≤ s.stagedEntries then s.modSlot t (fun w => { w with overflow := true })
  else (s.modSlot t (fun w => { w with entries := w.entries ++ [{ start := some data, data := [] }], entryOpen := true })).wingsProgress t

/-- Append a word to the last entry. -/
def appendWord (data : Word) : List StageEntry → List StageEntry
  | [] => []
  | [e] => [{ e with data := e.data ++ [data] }]
  | e :: rest => e :: appendWord data rest

/-- TDATA: appends to the open entry, opening one without a start index if none is open. -/
def State.wingsTdata (s : State) (t : Fin 8) (data : Word) : State :=
  let w := s.slots[t]
  if w.st ≠ .opened ∨ s.frozen .wings then s
  else if 16384 ≤ s.stagedWords ∨ (!w.entryOpen ∧ 4096 ≤ s.stagedEntries) then s.modSlot t (fun w => { w with overflow := true })
  else if w.entryOpen then s.modSlot t (fun w => { w with entries := appendWord data w.entries })
  else s.modSlot t (fun w => { w with entries := w.entries ++ [{ start := none, data := [data] }], entryOpen := true })

/-! ### PREPARE (R157, R158) -/

/-- A slot that is PREPARING asks for its power, once, when the page is not frozen (R158, R163). -/
def State.prepareAsk (s : State) (t : Fin 8) : State :=
  let w := s.slots[t]
  let asked := (s.permit.q0 ++ s.permit.q1 ++ s.permit.q2).any (fun q => q.who == .prepare t)
  if w.st ≠ .preparing ∨ w.granted ∨ asked ∨ s.frozen .wings then s
  else
    let s := match w.rec? with | some r => s.cbEnter r .permitWait | none => s
    match s.askPermit (.prepare t) 100 0 false with
    | (.refused, s) => s.wingsFail t opPermitRefused 0 noEntry
    | (_, s) => s

/-- PREPARE begins: the open entry closes, power is asked for; under a freeze that waits for the freeze's end (R163). -/
def State.wingsPrepare (s : State) (t : Fin 8) : State :=
  if s.slots[t].st ≠ .opened then s
  else ((s.modSlot t (fun w => { w with st := .preparing, entryOpen := false })).wingsProgress t).prepareAsk t

/-- The grant of a PREPARE. -/
def State.wingsGranted (s : State) (t : Fin 8) : State :=
  let s := s.modSlot t (fun w => { w with granted := true })
  match s.slots[t].rec? with | some r => s.cbEnter r .running | none => s

/-- A unit meets CONFLICT condition 1 to 4 of R157. -/
def State.unitConflict (s : State) (t : Fin 8) (u : Nat × Nat) (cond : Nat) : Bool :=
  match cond with
  | 1 => s.slots[t].touched.any (fun x => x.space == u.1 && decide (x.lo ≤ u.2 ∧ u.2 ≤ x.hi))
  | 2 => u.1 == 0 && (match pageAt u.2 with | some p => s.pageLocked p | none => false)
  | 3 => (List.finRange 8).any (fun o => o != t && s.slots[o].holding && s.slots[o].units.contains u)
  | _ => u.1 == 2 && ((match s.bulk with | some l => l.granted | none => false) || s.slots[t].bulkRan)

/-- The lowest-numbered entry that satisfies a test. -/
def firstEntry (w : WSlot) (p : StageEntry → Bool) : Option Nat := w.entries.findIdx? p

/-- An entry changes a LATENCY beyond what its stream's DEPTH holds (R134, R147). -/
def State.latBad (s : State) (e : StageEntry) : Bool :=
  e.space == 0 && (List.range e.count).any (fun j =>
    let a := e.index j
    if 0x004400 ≤ a ∧ a < 0x005000 ∧ (a - 0x004400) % 0x30 = 8 ∧ (a - 0x004400) / 0x30 < 64 then
      let d := (a - 0x004400) / 0x30
      s.curOn d && !s.depthOk d (max (s.curLat d) (latOf (BitVec.ofNat 32 (e.value j))))
    else false)

/-- The outcome of PREPARE's checks: the first row of R157 that holds. -/
def State.prepareCheck (s : State) (t : Fin 8) : Option (Nat × Nat × Nat) :=
  let w := s.slots[t]
  match w.bufErr with
  | some n => some (opMemError, 0x00, n)
  | none =>
    if w.overflow then some (opDeviceError, 0x11, noEntry)
    else match firstEntry w StageEntry.malformed with
      | some n => some (opDeviceError, 0x10, n)
      | none => match firstEntry w s.latBad with
        | some n => some (opDeviceError, 0x12, n)
        | none =>
          [1, 2, 3, 4].findSome? (fun c =>
            (firstEntry w (fun e => e.units.any (fun u => s.unitConflict t u c))).map (fun n => (opConflict, c, n)))

/-- Send the PREP, with V = R − VLEAD, to every device (R166 step 1). -/
def State.sendPrep (s : State) (t : Fin 8) (r v : Word64) : State :=
  s.wingsSend 1 none [(s.gtag t).setWidth 64, r, v, BitVec.ofNat 64 s.devno]

/-- A participant in VOTING that holds a PREP votes (R166 step 2, R168). The spec gives no OP_RESULT for a slot that fails because R > X
or because ALARM is set: it is a free value, of the codes that R40 has. -/
def State.wingsVote (s : State) (t : Fin 8) : State :=
  match s.slots[t].prep with
  | none => s
  | some (r, _, c) =>
    if s.slots[t].voted then s
    else if s.alarm || beatLt (s.tbeat t) r then
      let (x, s) := s.draw
      s.wingsFail t (fld x 0 3) (fld x 24 8) (fld x 8 12)
    else (s.modSlot t (fun w => { w with voted := true })).sendVote t c true

/-- The check of R159 and R165 for a PREPARED slot whose RAISE has been written: its setup first, then its beat (log entry 51). -/
def State.raiseCheck (s : State) (t : Fin 8) : State :=
  let r := s.tbeat t
  let left := (r - s.beatno).toNat
  let npart := fld (s.tglob t) 16 10
  let ok : Bool := decide (s.raiseMin ≤ left ∧ left < 2 ^ 31)
  let arm := fun (s : State) (st : TState) => s.modSlot t (fun w => { w with st, raiseBeat := r })
  if !s.tglobal t then (if ok then arm s .armed else s.wingsFail t opTimeout 0x20 noEntry)
  else
    let vlead := fld (s.tglob t) 0 16
    let dup := (List.finRange 8).any (fun o => o != t && s.slots[o].st != .free && s.tglobal o && s.gtag o == s.gtag t)
    if dup ∨ (s.tcoord t ∧ (npart = 0 ∨ 512 < npart ∨ vlead = 0 ∨ beatLe r (s.beatno + BitVec.ofNat 64 vlead))) then s.wingsFail t opDeviceError 0x13 noEntry
    else if s.tcoord t then
      (if ok then (arm s .voting).sendPrep t r (r - BitVec.ofNat 64 vlead) else s.wingsFail t opTimeout 0x20 noEntry)
    else if 0 < left ∧ left < 2 ^ 31 then (arm s .voting).wingsVote t
    else s.wingsFail t opTimeout 0x22 noEntry

/-- A PREPARED slot whose RAISE waits takes it, unless the page is frozen (R163). -/
def State.raiseAccept (s : State) (t : Fin 8) : State :=
  if s.slots[t].st = .prepared ∧ s.slots[t].raiseAsked ∧ !s.frozen .wings then s.raiseCheck t else s

/-- PREPARE_COMPLETE: the checks of R157; on success the slot is PREPARED and a RAISE that waits is taken (R158, R159). -/
def State.prepareComplete (s : State) (t : Fin 8) : State :=
  let w := s.slots[t]
  if w.st ≠ .preparing ∨ !w.granted ∨ s.frozen .wings then s
  else
    let conflicts := countIf (fun u => [1, 2, 3, 4].any (s.unitConflict t u)) w.units
    let s := match w.rec? with | some r => s.cbReport r (fun v => { v with partials := BitVec.ofNat 32 conflicts }) | none => s
    match s.prepareCheck t with
    | some (code, reason, n) => s.wingsFail t code reason n
    | none => (s.modSlot t (fun w => { w with st := .prepared })).raiseAccept t

/-- RAISE written (R159). -/
def State.wingsRaiseCmd (s : State) (t : Fin 8) : State :=
  match s.slots[t].st with
  | .opened => (s.modSlot t (fun w => { w with raiseAsked := true })).wingsPrepare t
  | .preparing => s.modSlot t (fun w => { w with raiseAsked := true })
  | .prepared => (s.modSlot t (fun w => { w with raiseAsked := true })).raiseAccept t
  | _ => s

/-- A write of TCMD. -/
def State.wingsCmd (s : State) (t : Fin 8) (m : Master) (data : Word) : State :=
  match fld data 0 4 with
  | 1 => s.wingsOpen t m
  | 2 => s.wingsPrepare t
  | 3 => s.wingsRaiseCmd t
  | _ => s

/-- A write of TBEAT, TGLOB or GTAG: ignored from RAISE until the slot is FREE (R169). -/
def State.wingsSetup (s : State) (t : Fin 8) (off : Nat) (data : Word) : State :=
  let w := s.slots[t]
  if w.raiseAsked || w.st == .voting || w.st == .armed then s
  else s.setReg (wslotAddr t off) (if off = 0x18 then data &&& 0xC3FFFFFF else data)

/-! ### The Raise (R160 to R162) -/

/-- Engines in the middle of a microroutine or of a REP instruction keep the old shared-store words until their next instruction boundary (R161). -/
def State.keepOldStore (s : State) (i : Nat) : State :=
  let old := spGet (fun _ => 0) s.sstore i
  { s with engines := Vector.ofFn (fun e =>
      let g := s.engines[e]
      if (g.micro || g.rep) && e.val / 16 == i / 16384 && decide (e.val < 256) && !(g.oldStore.any (fun x => x.1 == i % 16384)) then
        { g with oldStore := (i % 16384, old) :: g.oldStore } else g) }

/-- The engine of a window register in the middle of a microroutine or of an instruction (R210) keeps the old word (R161, R281). -/
def State.keepOldWin (s : State) (addr : Nat) : State :=
  let old := s.getReg addr
  { s with engines := Vector.ofFn (fun e =>
      let g := s.engines[e]
      let base := pageBase (enginePage e) + 0x100
      if (g.micro || g.rep || g.inInstr) && decide (base ≤ addr ∧ addr < base + 0x80) && !(g.oldWin.any (fun x => x.1 == addr)) then
        { g with oldWin := (addr, old) :: g.oldWin } else g) }

/-- One element of a Raise at beat r replaces its target. -/
def State.raiseElem (s : State) (space i v : Nat) (r : Word64) : State :=
  match space with
  | 0 =>
    let w := BitVec.ofNat 32 v
    if h : 0x004400 ≤ i ∧ i < 0x005000 ∧ (i - 0x004400) % 0x30 = 8 ∧ (i - 0x004400) / 0x30 < 64 then
      s.slatSet ⟨(i - 0x004400) / 0x30, h.2.2.2⟩ w r
    else
      match pageAt i with
      | none => s
      | some p => match regDesc p (i % 0x1000) with
        | none => s
        | some d => ((s.keepOldWin i).modReg i (fun old => (old &&& ~~~d.rw) ||| (w &&& d.rw)))
  | 1 => (s.setBytes (0x54000000 + 4 * i) ((bytesLE 4 v).map some)).loseReservations [(0x54000000 + 4 * i) / 16] none
  | 2 => ((s.setBytes (0x50000000 + 8 * i) ((bytesLE 8 v).map some)).setErr (0x50000000 + 8 * i) none).loseReservations
      [(0x50000000 + 8 * i) / 16] none
  | _ => (s.keepOldStore i).setSsWord (Fin.ofNat 16 (i / 16384)) (i % 16384) (BitVec.ofNat 128 v)

/-- One entry of a Raise. -/
def State.raiseEntry (s : State) (e : StageEntry) (r : Word64) : State :=
  (List.range e.count).foldl (fun s j => s.raiseElem e.space (e.index j) (e.value j) r) s

/-- The transaction of slot t raises at beat r. -/
def State.raiseSlot (s : State) (t : Fin 8) (r : Word64) : State :=
  let w := s.slots[t]
  let s := w.entries.foldl (fun s e => s.raiseEntry e r) s
  let s := [1, 2].foldl (fun s sp => if w.entries.any (fun e => e.space == sp) then s.raiseTables sp else s) s
  let s := w.units.foldl (fun s u => s.touch u.1 u.2 u.2 (some t)) s
  let s := ((s.setReg 0x003048 (BitVec.ofNat 32 (w.txId t))).setReg 0x00304C (r.setWidth 32)).setReg 0x003050 ((r >>> 32).setWidth 32)
  let s := (s.incReg 0x003054).wingsEnd t .done opOk 0 0
  match w.rec? with
  | some rec => s.cbReport rec (fun v => { v with beat := r.setWidth 32 })
  | none => s

/-- The earliest beat at which a slot is armed. -/
def State.nextRaise (s : State) : Option Word64 :=
  ((List.finRange 8).filter (fun t => s.slots[t].st == .armed)).foldl (fun a t =>
    match a with
    | none => some s.slots[t].raiseBeat
    | some b => some (if beatLt s.slots[t].raiseBeat b then s.slots[t].raiseBeat else b)) none

/-- The Raise of a beat comes behind the Curtain's writes of that beat, and behind its releases and judgements of earlier beats (R447). -/
def State.raiseDue (s : State) (r : Word64) : Bool :=
  beatLe r s.beatno && s.curWritesDone r && s.curJudged r && (!s.pageEn .curtain || beatLe r s.relNext)

/-- At the edge that starts the earliest armed beat every transaction armed for it replaces its targets together, in slot order; every
engine's EVL[4] sets (R160, R162, R177). -/
def State.wingsRaise (s : State) : State :=
  match s.nextRaise with
  | none => s
  | some r =>
    if s.raiseDue r then
      let ts := (List.finRange 8).filter (fun t => s.slots[t].st == .armed && s.slots[t].raiseBeat == r)
      let s := ts.foldl (fun s t => s.raiseSlot t r) s
      { s with engines := s.engines.map (fun g => { g with evl := putBit g.evl 4 true }) }
    else s

/-! ### Global transactions (R165 to R168) -/

/-- PREP_EXPIRY: a participant's RAISE was taken and no PREP has come by the edge that starts X (R166). -/
def State.prepExpiry (s : State) (t : Fin 8) : State :=
  let w := s.slots[t]
  if w.st = .voting ∧ s.tglobal t ∧ !s.tcoord t ∧ w.prep.isNone ∧ beatLe w.raiseBeat s.beatno then
    s.wingsEnd t .failed opTimeout 0x23 noEntry
  else s

/-- PREP at a device: every slot of its GTAG with COORD = 0 takes it, prepares if it has not, and votes if its RAISE has been taken;
from the edge that starts X on it is too late. A system that is not enabled hears of no message (R349). -/
def State.prepArrives (s : State) (gtag : Word) (r v : Word64) (coord : BitVec 9) : State :=
  if !s.sysEn then s
  else (List.finRange 8).foldl (fun s t =>
    let w := s.slots[t]
    if w.st == .free || w.st == .armed || !s.tglobal t || s.tcoord t || s.gtag t != gtag || w.prep.isSome then s
    else
      let late := w.st == .voting && beatLe w.raiseBeat s.beatno
      let s := if late then s else s.modSlot t (fun w => { w with prep := some (r, v, coord) })
      if late then s.prepExpiry t
      else match w.st with
      | .opened => s.wingsPrepare t
      | .voting => s.wingsVote t
      | _ => s) s

/-- VOTE at the coordinator, before the edge that starts V. -/
def State.voteArrives (s : State) (gtag : Word) (sender : BitVec 9) (yes : Bool) : State :=
  if !s.sysEn then s
  else (List.finRange 8).foldl (fun s t =>
    let w := s.slots[t]
    if w.st != .voting || !s.tglobal t || !s.tcoord t || s.gtag t != gtag ||
        beatLe (w.raiseBeat - BitVec.ofNat 64 (fld (s.tglob t) 0 16)) s.beatno then s
    else s.modSlot t (fun w =>
      if yes then { w with votes := if w.votes.contains sender then w.votes else w.votes ++ [sender] }
      else { w with noVotes := if w.noVotes.contains sender then w.noVotes else w.noVotes ++ [sender] })) s

/-- VOTE_DEADLINE: at the edge that starts V the coordinator commits or aborts (R166 steps 3 and 4, R363). -/
def State.voteDeadline (s : State) (t : Fin 8) : State :=
  let w := s.slots[t]
  let need := fld (s.tglob t) 16 10 - 1
  if w.st ≠ .voting ∨ !s.tcoord t ∨ !s.tglobal t ∨ beatLt s.beatno (w.raiseBeat - BitVec.ofNat 64 (fld (s.tglob t) 0 16)) then s
  else
    let tag := (s.gtag t).setWidth 64
    let abort := fun (s : State) => s.wingsSend 4 none [tag, BitVec.ofNat 64 s.devno]
    let s := if w.votes.length + w.noVotes.length < need then s.irq .wings 2 else s
    if s.alarm then (abort s).wingsEnd t .failed opConflict 0x05 s.devno
    else match w.noVotes with
      | d :: _ => (abort s).wingsEnd t .failed opConflict 0x05 d.toNat
      | [] =>
        if need ≤ w.votes.length then (s.wingsSend 3 none [tag, w.raiseBeat]).modSlot t (fun w => { w with st := .armed })
        else (abort s).wingsEnd t .failed opTimeout 0x21 w.votes.length

/-- The ABORT notice of a participant (R167). -/
def State.splitNotice (s : State) (t : Fin 8) (coord : BitVec 9) : State :=
  s.wingsSend 4 (some coord.toNat) [(s.gtag t).setWidth 64, BitVec.ofNat 64 s.devno]

/-- COMMIT_TIMEOUT: a participant that voted YES has neither COMMIT nor ABORT by the edge that starts R (R167). -/
def State.commitTimeout (s : State) (t : Fin 8) : State :=
  let w := s.slots[t]
  match w.prep with
  | some (r, _, c) =>
    if w.st = .voting ∧ w.voted ∧ beatLe r s.beatno then
      ((s.splitNotice t c).irq .wings 3).wingsEnd t .failed opTimeout 0x24 noEntry
    else s
  | none => s

/-- COMMIT at a participant that has voted: ARMED for the R of its PREP; from the edge that starts R on it is too late (R167). -/
def State.commitArrives (s : State) (gtag : Word) : State :=
  if !s.sysEn then s
  else (List.finRange 8).foldl (fun s t =>
    let w := s.slots[t]
    match w.prep with
    | some (r, _, _) =>
      if w.st == .voting && w.voted && s.gtag t == gtag && !s.tcoord t then
        (if beatLe r s.beatno then s.commitTimeout t else s.modSlot t (fun w => { w with st := .armed, raiseBeat := r }))
      else s
    | none => s) s

/-- ABORT: a participant aborts that is not armed, and one that has a PREP hears its coordinator alone; too late, it finds its deadline passed.
A coordinator of the tag records a participant's notice in SPLIT (R166, R167), also where it comes too late for the Raise. -/
def State.abortArrives (s : State) (gtag : Word) (sender : BitVec 9) : State :=
  if !s.sysEn then s else
  let mine := (List.finRange 8).filter (fun t => s.tglobal t && s.gtag t == gtag)
  let s := mine.foldl (fun s t =>
    let w := s.slots[t]
    if s.tcoord t || w.st == .free || w.st == .armed || w.prep.any (fun p => p.2.2 != sender) then s
    else if w.st == .voting && w.voted && w.prep.any (fun p => beatLe p.1 s.beatno) then s.commitTimeout t
    else if w.st == .voting && w.prep.isNone && beatLe w.raiseBeat s.beatno then s.prepExpiry t
    else s.wingsEnd t .aborted opAbortReq 0x30 noEntry) s
  if sender.toNat ≠ s.devno ∧ mine.any (fun t => s.tcoord t) then (s.orReg 0x003040 0x80000000).irq .wings 3 else s

/-- ABORT in the Callboard, before RAISE (R163). -/
def State.wingsAbortRec (s : State) (r : Fin 64) : State :=
  (List.finRange 8).foldl (fun s t =>
    let w := s.slots[t]
    if w.st != .free && w.rec? == some r && !w.raiseAsked && (w.st == .opened || w.st == .preparing || w.st == .prepared) then
      s.wingsEnd t .aborted opAbortReq 0 noEntry
    else s) s

/-- Soft reset of the page: every transaction aborts; a participant between COMMIT and R gives its notice and sets
IRQ_STAT bit 3 (R163, R167). -/
def State.wingsReset (s : State) : State × Bool :=
  let live := (List.finRange 8).filter (fun t => s.slots[t].st != .free)
  let s := live.foldl (fun s t =>
    let w := s.slots[t]
    let s := match w.prep with
      | some (_, _, c) => if w.st == TState.armed && !s.tcoord t then (s.splitNotice t c).irq .wings 3 else s
      | none => s
    s.wingsEnd t .aborted opSoftReset 0 noEntry) s
  ({ s with slots := Vector.replicate 8 {} }, !live.isEmpty)

/-- WSTAT, TSTAT as they read. -/
def State.wingsRead (s : State) (off : Nat) : Option Word :=
  if off = 0x040 then some ((s.getReg 0x003040 &&& 0x80000000) |||
    BitVec.ofNat 32 ((16384 - s.stagedWords) * 2 ^ 16 + (4096 - s.stagedEntries)))
  else if 0x200 ≤ off ∧ off < 0x400 ∧ (off - 0x200) % 0x40 = 4 then some (s.slots[Fin.ofNat 8 ((off - 0x200) / 0x40)].tstat)
  else none

/-! ### Meanings -/

/-- PREPARE_COMPLETE (R158). -/
def execPrepareComplete (t : Fin 8) (s : State) : Out := .next (s.prepareComplete t)
/-- PREP (R166). -/
def execPrep (gtag : Word) (raiseBeat voteBeat : Word64) (coord : BitVec 9) (s : State) : Out :=
  .next (s.prepArrives gtag raiseBeat voteBeat coord)
/-- VOTE (R166). -/
def execVote (gtag : Word) (sender : BitVec 9) (yes : Bool) (s : State) : Out := .next (s.voteArrives gtag sender yes)
/-- VOTE_DEADLINE (R166). -/
def execVoteDeadline (t : Fin 8) (s : State) : Out := .next (s.voteDeadline t)
/-- WINGS_COMMIT (R166). -/
def execWingsCommit (gtag : Word) (_raiseBeat : Word64) (s : State) : Out := .next (s.commitArrives gtag)
/-- WINGS_ABORT (R166). -/
def execWingsAbort (gtag : Word) (sender : BitVec 9) (s : State) : Out := .next (s.abortArrives gtag sender)
/-- PREP_EXPIRY (R166). -/
def execPrepExpiry (t : Fin 8) (s : State) : Out := .next (s.prepExpiry t)
/-- COMMIT_TIMEOUT (R167). -/
def execCommitTimeout (t : Fin 8) (s : State) : Out := .next (s.commitTimeout t)

end Sys2Proof.Machine
end

