-- ==== Sys2Proof/Machine/MemCtl.lean ====
section
/-!
DEFINITION. The MEMCTL pages (R300 to R303, R312 to R314): retention and wake, scrub, BIST, the Secure Bank wipe, the Pattern Store
bulk load.
-/
namespace Sys2Proof.Machine

/-! ### Units of a page (R312) -/

/-- The units that MEMCTL j covers. -/
def pageUnits (j : Fin 16) : List RetUnit :=
  (List.finRange 64).map (fun i => .eventBank ⟨64 * j.val + i.val, by omega⟩)
    ++ (List.finRange 16).map (fun i => .patternBank ⟨16 * j.val + i.val, by omega⟩)
    ++ [.clusterBank j] ++ (if j.val = 0 then [.houseBank, .secureBank, .channelMap] else [])
/-- The checked words of a unit (R81, R295, R300). -/
def unitWords : RetUnit → Nat
  | .eventBank _ => 8192 | .patternBank _ => 16384 | .clusterBank _ => 131072 | .houseBank => 262144
  | .secureBank => 16384 | .channelMap => 524288
/-- The unit that holds a physical address. -/
def unitAt (pa : Nat) : Option RetUnit := (regionOf pa).bind (fun r => unitOf r.1 r.2)
/-- An address lies in one of some units. -/
def inUnits (us : List RetUnit) (pa : Nat) : Bool := match unitAt pa with | some u => us.contains u | none => false

/-! ### Retention (R303, R439) -/

/-- No unit is retained, about to be, or waking: `pd_ret_req` falls, and the host's acknowledge with it (R439). -/
def State.retIdle (s : State) : State :=
  if s.retained.isEmpty && s.entering.isEmpty && s.waking.isEmpty then { s with retReq := false, retAck := false } else s

/-- RET = 1 is written: the unit is to enter retention. Physical retention asks for `pd_ret_req`; emulated retention raises no request
(R394, R439). -/
def State.retSet (s : State) (u : RetUnit) : State :=
  if s.retained.contains u || s.entering.contains u then s
  else { s with entering := s.entering ++ [u], retReq := s.retReq || !s.attached }

/-- RET = 0 is written: an entry not yet made is called off, a retained unit wakes (R303). -/
def State.retClear (s : State) (u : RetUnit) : State :=
  ({ s with entering := s.entering.filter (· ≠ u) }.wakeStart u).retIdle

/-- A write of RET_LO, RET_HI or LRET of page j: each unit of the register follows its bit (R303, R312). -/
def State.retWrite (s : State) (j : Fin 16) (off : Nat) (data : Word) : State :=
  let us := (pageUnits j).filter (fun u => (unitBit u).1 == off)
  us.foldl (fun s u => if bitAt data (unitBit u).2 then s.retSet u else s.retClear u)
    (s.modReg (pageBase (.memctl j) + off) (fun w =>
      us.foldl (fun w u => putBit w (unitBit u).2 (bitAt data (unitBit u).2)) w))

/-- The scrub of a unit's page has begun the unit and not finished it (R301). -/
def State.inScrub (s : State) (u : RetUnit) : Bool :=
  match s.scrubs[unitPage u] with
  | some b => decide (0 < b.words) && (pageUnits (unitPage u))[b.units]? == some u
  | none => false

/-- A granted sub-burst still has words to bring to the unit. -/
def State.subBurstIn (s : State) (u : RetUnit) : Bool :=
  s.bursts.any (fun b => b.size == 32 && (List.range (2 * b.granted)).any (fun i =>
    decide (b2n b.half ≤ i) && unitAt (b.addr + 16 * i) == some u))

/-- A unit enters retention: the accesses that waited for its wake and those granted to it are over, no wake is under way, no scrub is in its
middle, and the host acknowledges, or the retention is emulated (R301, R303, R439). -/
def State.retEnter (s : State) (u : RetUnit) : State :=
  if s.entering.contains u && !s.waking.contains u && !s.wakeFor.any (fun x => x.1 == u) && !s.inScrub u && !s.subBurstIn u &&
      (s.attached || (s.retReq && s.retAck)) then
    { s with entering := s.entering.filter (· ≠ u), retained := s.retained ++ [u] }
  else s

/-- A unit that wakes has had its grant. -/
def State.wakeGranted (s : State) (u : RetUnit) : Bool := s.permit.grants.any (fun g => g.1 == .wake u)

/-- The wake ends: AWAKE reads 1, the grant goes back (R303, R384). A wake during a reset needs none (R441). -/
def State.wakeEnd (s : State) (u : RetUnit) : State :=
  if s.waking.contains u && (s.wakeGranted u || s.inReset) then
    ({ s with waking := s.waking.filter (· ≠ u) }.releaseGrant (.wake u)).retIdle
  else s

/-- AWAKE of the units of a register of page j, as LSTAT and AWAKE read (R312). -/
def State.awakeBits (s : State) (j : Fin 16) (off : Nat) : Nat :=
  (((pageUnits j).filter (fun u => (unitBit u).1 == off && s.awake u)).map (fun u => 2 ^ (unitBit u).2)).sum

/-- The registers of MEMCTL j that are no stored words (R312). -/
def State.memctlRead (s : State) (j : Fin 16) (off : Nat) : Option Word :=
  match off with
  | 0x050 => some (BitVec.ofNat 32 (s.awakeBits j 0x40))
  | 0x054 => some (BitVec.ofNat 32 (s.awakeBits j 0x44))
  | 0x060 => some (BitVec.ofNat 32 (s.awakeBits j 0x58 + (if j.val = 0 && s.wiping then 2 ^ 31 else 0)))
  | _ => none

/-! ### Scrub (R301) -/

/-- REC of a start register takes a record's number, 0xFF for none. -/
def State.setRec (s : State) (addr : Nat) (r : Option (Fin 64)) : State :=
  s.modReg addr (fun w => putFld w 0 8 (match r with | some r => r.val | none => 0xFF))

/-- SCRUB.GO: ignored while a scrub of the page is not final (R301). -/
def State.scrubGo (s : State) (j : Fin 16) : State :=
  if s.scrubs[j].isSome then s
  else match s.cbStart 4 (.memctl j) with
    | (none, s) => s.setRec (pageBase (.memctl j) + 0x074) none
    | (some r, s) =>
      let s := (s.setRec (pageBase (.memctl j) + 0x074) (some r)).cbReport r (fun v =>
        { v with total := BitVec.ofNat 32 (((pageUnits j).map unitWords).sum) })
      match (s.cbEnter r .permitWait).askPermit (.scrub j) 150 2 false with
      | (.refused, s) => s.cbEnd r .failed opPermitRefused 0
      | (_, s) => { s with scrubs := s.scrubs.set j (some { cb := r, asked := true }) }

/-- A scrub ends. -/
def State.scrubEnd (s : State) (j : Fin 16) (st : OpState) (code : Nat) : State :=
  match s.scrubs[j] with
  | some b => ({ s with scrubs := s.scrubs.set j none }.withdraw (.scrub j)).cbEnd b.cb st code 0
  | none => s

/-- The grant of a scrub. -/
def State.scrubGranted (s : State) (j : Fin 16) : State :=
  match s.scrubs[j] with
  | some b => { s with scrubs := s.scrubs.set j (some { b with granted := true }) }.cbEnter b.cb .running
  | none => s

/-- A scrub reads a word with an error: a single error is corrected and counted, a double one counted and recorded (R300). -/
def scrubWord (j : Fin 16) (w : Nat) (s : State) : State :=
  match readWord j w s with
  | .ok _ s' => s'
  | .error _ s' => s'

/-- The place of a checked word among its unit's words, which a scrub takes in this order (log entry 110). -/
def wordIndex (pa : Nat) : Nat :=
  match regionOf pa with
  | some (.em, o) => o / 16384
  | some (.pattern, o) => o / 16384 * 8 + o % 64 / 8
  | some (.chanmap, o) => o / 8
  | some (_, o) => o / 16
  | none => 0

/-- An Event Memory bank: its accesses have a cost of their own (R391). -/
def unitIsEm : RetUnit → Bool
  | .eventBank _ => true
  | _ => false

/-- The scrub of page j has checked `k` words, corrected `fixed` of them, and stands as `f` says. -/
def State.scrubReport (s : State) (j : Fin 16) (k fixed : Nat) (f : MemOp → MemOp) : State :=
  match s.scrubs[j] with
  | some b => { s with scrubs := s.scrubs.set j (some (f b)) }.cbReport b.cb (fun v =>
      { v with progress := v.progress + BitVec.ofNat 32 k, partials := v.partials + BitVec.ofNat 32 fixed })
  | none => s

/-- The scrub of page j checks words `lo` to `lo + k - 1` of unit `u`. -/
def State.scrubWords (s : State) (j : Fin 16) (u : RetUnit) (lo k : Nat) : State :=
  let bad := (s.memErr.map (·.1)).filter (fun w => unitAt w == some u && decide (lo ≤ wordIndex w ∧ wordIndex w < lo + k))
  let fixed := countIf (fun w => s.errAt w == some false) bad
  let s := bad.foldl (fun s w => scrubWord j w s) s
  let s := if unitIsEm u then s.useData 118 k else s
  s.scrubReport j k fixed (fun b => if lo + k = unitWords u then { b with units := b.units + 1, words := 0 } else { b with words := lo + k })

/-- The scrub of page j goes on for `n` words over the units still to come. A unit retained as the scrub reaches it is skipped and its words
count at once; one that wakes or is under test is waited for (R301). -/
def State.scrubFrom (j : Fin 16) : List RetUnit → Nat → State → State
  | [], _, s => s.scrubEnd j .done opOk
  | u :: us, n, s =>
    match s.scrubs[j] with
    | none => s
    | some b =>
      if b.words = 0 && s.retained.contains u then
        scrubFrom j us n (s.scrubReport j (unitWords u) 0 (fun b => { b with units := b.units + 1 }))
      else if !s.awake u || s.underBist u then s
      else
        let k := min n (unitWords u - b.words)
        let s' := s.scrubWords j u b.words k
        if b.words + k < unitWords u then s' else scrubFrom j us (n - k) s'

/-- The scrub of page j goes on by so many words, or to its end; an ABORT takes effect at the next word (R39, R301, R312). -/
def State.scrubRun (s : State) (j : Fin 16) (words : Option Word) : State :=
  match s.scrubs[j] with
  | some b =>
    if !b.granted || s.frozen (.memctl j) then s
    else if s.callboard[b.cb].abort then s.scrubEnd j .aborted opAbortReq
    else State.scrubFrom j ((pageUnits j).drop b.units) (match words with | some n => n.toNat | none => 2 ^ 32) s
  | none => s

/-! ### BIST (R301) -/

/-- BIST.GO: ignored while a BIST of the page is not final; it stays QUEUED while a transaction holds a unit of it (R158, R301). -/
def State.bistGo (s : State) (j : Fin 16) : State :=
  if s.bists[j].isSome then s
  else match s.cbStart 5 (.memctl j) with
    | (none, s) => s.setRec (pageBase (.memctl j) + 0x078) none
    | (some r, s) =>
      let s := (s.setRec (pageBase (.memctl j) + 0x078) (some r)).cbReport r (fun v =>
        { v with total := BitVec.ofNat 32 (countIf (· ≠ .secureBank) (pageUnits j)) })
      { s with bists := s.bists.set j (some { cb := r }) }.bistPoll j

/-- A BIST ends; what waited for it goes on (R314). -/
def State.bistEnd (s : State) (j : Fin 16) (st : OpState) (code : Nat) : State :=
  match s.bists[j] with
  | some b => (({ s with bists := s.bists.set j none }.withdraw (.bist j)).cbEnd b.cb st code 0).memPoll
  | none => s

/-- The grant of a BIST. -/
def State.bistGranted (s : State) (j : Fin 16) : State :=
  match s.bists[j] with
  | some b => { s with bists := s.bists.set j (some { b with granted := true }) }.cbEnter b.cb .running
  | none => s

/-- Every word of some units is 0 with valid check bits; reservations in them are lost (R245, R301). -/
def State.zeroUnits (s : State) (us : List RetUnit) : State :=
  { s with
    mem := spClear (inUnits us) s.mem
    memErr := spClear (inUnits us) s.memErr
    engines := s.engines.map (fun g => match g.reserved with
      | some a => if inUnits us (16 * a) then { g with reserved := none } else g
      | none => g) }

/-- The writes of a BIST count as writes outside any transaction (R157, R301). -/
def State.touchUnit (s : State) (u : RetUnit) : State :=
  match u with
  | .patternBank b => (List.range 2048).foldl (fun s row => s.touch 2 (row * 256 + b.val) (row * 256 + b.val) none) s
  | .channelMap => s.touch 1 0 65535 none
  | _ => s

/-- The BIST of page j has done with one more bank, which failed or not, or was skipped. -/
def State.bistReport (s : State) (j : Fin 16) (failed : Bool) (skipped : List RetUnit := []) : State :=
  match s.bists[j] with
  | some b => { s with bists := s.bists.set j (some { b with units := b.units + 1, skipped := skipped ++ b.skipped }) }.cbReport b.cb (fun v =>
      { v with progress := v.progress + 1, partials := v.partials + BitVec.ofNat 32 (b2n failed) })
  | none => s

/-- The BIST of page j goes on over the banks still to come, to its end, or for one test that `bank` says failed or not. A bank retained as
BIST reaches it is skipped and counts as tested; one that wakes is waited for (R301). -/
def State.bistFrom (j : Fin 16) (bank : Option Bool) : List RetUnit → State → State
  | [], s => s.bistEnd j .done opOk
  | u :: us, s =>
    if s.retained.contains u then bistFrom j bank us (s.bistReport j false [u])
    else if !s.awake u then s
    else
      let s := (s.zeroUnits [u]).touchUnit u
      let s := (if unitIsEm u then s.useData 118 8192 else s).bistReport j (bank.getD false)
      if bank.isSome && !us.isEmpty then s else bistFrom j none us s

/-- BIST of page j goes on, over every unit of the page but the Secure Bank; an ABORT takes effect at the next bank (R39, R301). Which banks
fail is the command's to say (log entry 110). -/
def State.bistRun (s : State) (j : Fin 16) (bank : Option Bool) : State :=
  match s.bists[j] with
  | some b =>
    if !b.granted || s.frozen (.memctl j) then s
    else if s.callboard[b.cb].abort then s.bistEnd j .aborted opAbortReq
    else State.bistFrom j bank (((pageUnits j).filter (· ≠ .secureBank)).drop b.units) s
  | none => s

/-! ### The Secure Bank (R302) -/

/-- A wipe starts: every access to the Secure Bank gets an error response until it completes; its words are 0 with valid check
bits. -/
def State.wipeStart (s : State) : State := { s.zeroUnits [.secureBank] with wiping := true }

/-! ### Pattern Store bulk load (R314) -/

/-- PLCOUNT. -/
def State.plCount (s : State) : Nat := s.regN 0x3C00E0
/-- PLSRC. -/
def State.plSrc (s : State) : Nat := s.regN 0x3C00D8 + 2 ^ 32 * s.regN 0x3C00DC
/-- The source range lies wholly in one region that a load may read. -/
def bulkSrcOk (src n : Nat) : Bool :=
  if n = 0 then true
  else match regionOf src, regionOf (src + n - 1) with
    | some (a, _), some (b, _) => a == b && (match a with | .em | .cluster _ | .house | .host => true | _ => false)
    | _, _ => false

/-- A write of PLCTRL: ignored while a load is not final; CLEAR is stored, GO starts a load (R314). -/
def State.plctrlWrite (s : State) (data : Word) : State :=
  if s.bulk.isSome then s
  else
    let s := s.modReg 0x3C00E4 (fun w => putBit w 30 (bitAt data 30))
    if !bitAt data 31 then s
    else match s.cbStart 3 (.memctl 0) with
      | (none, s) => s.setRec 0x3C00E4 none
      | (some r, s) =>
        let s := (s.setRec 0x3C00E4 (some r)).cbReport r (fun v => { v with total := BitVec.ofNat 32 s.plCount })
        if 4194304 < s.plCount ∨ !bulkSrcOk s.plSrc (8 * s.plCount) then s.cbEnd r .failed opDeviceError 0
        else if s.plCount = 0 ∧ !bitAt data 30 then s.cbEnd r .done opOk 0
        else { s with bulk := some { cb := r } }.bulkPoll

/-- A load ends. -/
def State.bulkEnd (s : State) (st : OpState) (code detail : Nat) : State :=
  match s.bulk with
  | some b => ({ s with bulk := none }.withdraw .bulk).cbEnd b.cb st code detail
  | none => s

/-- The grant of a load: it runs, and a transaction open now has seen one run (R157). -/
def State.bulkGranted (s : State) : State :=
  match s.bulk with
  | some b =>
    { s with
      bulk := some { b with granted := true }
      slots := s.slots.map (fun w : WSlot => if w.st = TState.free then w else { w with bulkRan := true }) }.cbEnter b.cb .running
  | none => s

/-- Progress of the load. -/
def State.bulkReport (s : State) (f : BulkLoad → BulkLoad) : State :=
  match s.bulk with
  | some b =>
    let b := f b
    { s with bulk := some b }.cbReport b.cb (fun v =>
      { v with progress := BitVec.ofNat 32 b.doneEntries, partials := BitVec.ofNat 32 b.overflow })
  | none => s

/-- The clear of step 2: every bank is reached, then every entry is 0 with valid check bits. -/
def bulkClear : MemM Unit := do
  (List.finRange 256).forM (fun b => gateUnit gateway (.patternBank b))
  modify (fun s => ((s.zeroUnits ((List.finRange 256).map .patternBank)).touch 2 0 524287 none).bulkReport (fun b => { b with cleared := true }))

/-- The lowest free way of a bucket from way `w` on: VALID = 0, read without an uncorrectable error. -/
def freeWay (u : RetUnit) (b : Nat) : Nat → Nat → MemM (Option Nat)
  | 0, _ => return none
  | n + 1, w => do
    let pa := 0x50000000 + 64 * b + 8 * w
    match ← memTry (readWord (unitPage u) pa) with
    | none => freeWay u b n (w + 1)
    | some () =>
      let s ← get
      if natLE (s.bytesAt pa 8) / 2 ^ 31 % 2 = 0 then return some w else freeWay u b n (w + 1)

/-- One source entry: read as master 20, placed in its bucket, skipped or counted as overflow (R126, R127). -/
def bulkEntry (i : Nat) : MemM Unit := do
  let s ← get
  let e := natLE (← memRead gateway (s.plSrc + 8 * i) 8)
  if e / 2 ^ 31 % 2 = 0 then modify (fun s => s.bulkReport (fun b => { b with doneEntries := i + 1 }))
  else
    let k := keyBucket (e / 2 ^ 32)
    let u := RetUnit.patternBank (Fin.ofNat 256 k)
    gateUnit gateway u
    modify (fun s => s.useData 1875 1)
    match ← freeWay u k 8 0 with
    | some w =>
      modify (fun s => ((((s.setErr (0x50000000 + 64 * k + 8 * w) none).setBytes (0x50000000 + 64 * k + 8 * w)
        ((bytesLE 8 e).map some)).loseReservations [(0x50000000 + 64 * k + 8 * w) / 16] none).touch 2 k k none).bulkReport
          (fun b => { b with doneEntries := i + 1 }))
    | none => modify (fun s => s.bulkReport (fun b => { b with doneEntries := i + 1, overflow := b.overflow + 1 }))

/-- `n` entries from `i` on: an error response ends the record, a wait stops here with what is done; the last entry of all ends the load. -/
def bulkFrom : Nat → Nat → State → State
  | 0, i, s => if i < s.plCount then s else s.bulkEnd .done opOk 0
  | n + 1, i, s =>
    match bulkEntry i s with
    | .ok _ s' => bulkFrom n (i + 1) s'
    | .error .fault s' => s'.bulkEnd .failed opMemError i
    | .error (.wait w) _ => s.settle w

/-- A load that stands at source entry `i` takes so many entries, or all that are left; an ABORT takes effect there (R39, R314). -/
def State.bulkOn (s : State) (r : Fin 64) (i : Nat) (entries : Option Word) : State :=
  if s.callboard[r].abort then s.bulkEnd .aborted opAbortReq 0
  else bulkFrom (match entries with | some k => min k.toNat (s.plCount - i) | none => s.plCount - i) i s

/-- The load goes on: the clear, then source entries (R314). -/
def State.bulkRun (s : State) (entries : Option Word) : State :=
  match s.bulk with
  | none => s
  | some b =>
    if !b.granted then s
    else if bitAt (s.getReg 0x3C00E4) 30 && !b.cleared then
      match bulkClear s with
      | .ok _ s' => s'.bulkOn b.cb 0 entries
      | .error .fault s' => s'.bulkEnd .failed opMemError 0xFFFFFF
      | .error (.wait w) _ => s.settle w
    else s.bulkOn b.cb b.doneEntries entries

/-! ### The unit's soft reset (R26, R312) -/

/-- A soft reset of MEMCTL j: every unit of the page wakes, its operations end ABORTED with SOFT_RESET. The header and the registers
are reset by the page's own reset. -/
def State.memctlReset (s : State) (j : Fin 16) : State :=
  let s := (pageUnits j).foldl State.retClear s
  let s := (s.scrubEnd j .aborted opSoftReset).bistEnd j .aborted opSoftReset
  if j.val = 0 then s.bulkEnd .aborted opSoftReset 0 else s

/-- ABORT of a MEMCTL operation that has not begun to run: at once (R39). One that runs honours it at its next boundary. -/
def State.memAbortRec (s : State) (r : Fin 64) : State :=
  let s := (List.finRange 16).foldl (fun s j =>
    let s := match s.scrubs[j] with | some b => if b.cb = r ∧ !b.granted then s.scrubEnd j .aborted opAbortReq else s | none => s
    match s.bists[j] with | some b => if b.cb = r ∧ !b.granted then s.bistEnd j .aborted opAbortReq else s | none => s) s
  match s.bulk with
  | some b => if b.cb = r ∧ !b.granted then s.bulkEnd .aborted opAbortReq 0 else s
  | none => s

/-! ### Commands -/

/-- SCRUB_DONE (R301): to the end, or so many words nearer to it. -/
def execScrubDone (j : Fin 16) (words : Option Word) (s : State) : Out := .next (s.scrubRun j words)
/-- BIST_DONE (R301): to the end, or one bank nearer to it. -/
def execBistDone (j : Fin 16) (bank : Option Bool) (s : State) : Out := .next (s.bistRun j bank)
/-- SECURE_BANK_WIPE (R302). -/
def execSecureBankWipe (s : State) : Out := .next s.wipeStart
/-- RETENTION_ENTRY (R303, R439). -/
def execRetentionEntry (u : RetUnit) (s : State) : Out := .next (s.retEnter u)
/-- WAKE_COMPLETE (R303). -/
def execWakeComplete (u : RetUnit) (s : State) : Out := .next (s.wakeEnd u)
/-- RETENTION_ACK (R439). -/
def execRetentionAck (s : State) : Out := .next (if s.retReq then { s with retAck := true } else s)
/-- BULK_LOAD_COMPLETE (R314): to the end, or so many source entries nearer to it. -/
def execBulkLoadComplete (entries : Option Word) (s : State) : Out := .next (s.bulkRun entries)

end Sys2Proof.Machine
end

