-- ==== Sys2Proof/Machine/Timers.lean ====
section
/-!
DEFINITION. The BEATCLK island (R315 to R334): the beat count, timers, GSTART, capture inputs, watchdogs. At each edge the island
counts, then takes the writes accepted at that edge, then evaluates compares and expiries (R317).
-/
namespace Sys2Proof.Machine

/-- No write of the BEATCLK island waits whose acceptance edge has come (R317). -/
def State.beatWritesDone (s : State) : Bool :=
  s.islandQ.all (fun w => w.pinPage.isSome || w.curtain || beatLt s.beatno w.due)

/-! ### Timers (R320 to R325) -/

/-- A register of timer n. -/
def timerAddr (n : Fin 64) (off : Nat) : Nat := 0x380100 + 0x1000 * (n.val / 8) + 0x20 * (n.val % 8) + off
/-- The page of timer n. -/
def timerPage (n : Fin 64) : Page := .timer ⟨n.val / 8, by omega⟩
/-- The timer that governs timer n: the even one of a linked pair (R324). -/
def State.timerHead (s : State) (n : Fin 64) : Fin 64 :=
  let e : Fin 64 := ⟨n.val / 2 * 2, by omega⟩
  if s.timers[e].link then e else n
/-- The odd timer of the pair of timer n. -/
def oddOf (n : Fin 64) : Fin 64 := ⟨n.val / 2 * 2 + 1, by omega⟩
/-- Timer n is the odd half of a linked pair. -/
def State.timerSlave (s : State) (n : Fin 64) : Bool := s.timerHead n != n
/-- The width of the count that timer n heads. -/
def State.timerWidth (s : State) (n : Fin 64) : Nat := if s.timers[n].link then 64 else 32
/-- A value of timer n, over both halves of a linked pair (R324). -/
def State.timerVal (s : State) (n : Fin 64) (f : Timer → Word) : Nat :=
  (f s.timers[n]).toNat + (if s.timers[n].link then 2 ^ 32 * (f s.timers[oddOf n]).toNat else 0)
/-- Set a value of timer n, over both halves of a linked pair. -/
def State.setTimerVal (s : State) (n : Fin 64) (v : Nat) (f : Timer → Word → Timer) : State :=
  let s' := s.modTimer n (fun t => f t (BitVec.ofNat 32 v))
  if s.timers[n].link then s'.modTimer (oddOf n) (fun t => f t (BitVec.ofNat 32 (v / 2 ^ 32))) else s'

/-- The preload is copied into the active registers (R321, R323). -/
def State.timerPreload (s : State) (n : Fin 64) : State :=
  let s' := s.modTimer n (fun t => { t with rldact := t.reload, cmpact := t.cmp })
  if s.timers[n].link then s'.modTimer (oddOf n) (fun t => { t with rldact := t.reload, cmpact := t.cmp }) else s'

/-- The start edge of timer n (R321). -/
def State.timerStart (s : State) (n : Fin 64) : State :=
  let s := s.modTimer n (fun t => { t with st := .running, phase := 0, moved := false, wrapped := false })
  if s.timers[n].reloadMode then s.timerPreload n else s

/-- Timer n counts at an edge: RUNNING, its page enabled and not frozen, not the odd half of a pair (R320, R324). -/
def State.timerCounts (s : State) (n : Fin 64) : Bool :=
  s.timers[n].st == .running && !s.timerSlave n && s.pageEn (timerPage n) && !s.frozen (timerPage n)

/-- Timer n at an edge: every (PRE + 1)-th edge is an increment; a count that becomes 0 has wrapped (R321 to R323). -/
def State.timerEdge (s : State) (n : Fin 64) : State :=
  if !s.timerCounts n then s.modTimer n (fun t => { t with moved := false, wrapped := false })
  else
    let t := s.timers[n]
    if t.phase < t.pre.toNat then s.modTimer n (fun t => { t with phase := t.phase + 1, moved := false, wrapped := false })
    else
      let c := s.timerVal n (·.count)
      let c' := if t.reloadMode ∧ c = s.timerVal n (·.rldact) then 0 else (c + 1) % 2 ^ s.timerWidth n
      (s.setTimerVal n c' (fun t v => { t with count := v })).modTimer n (fun t =>
        { t with phase := 0, moved := true, wrapped := c' == 0 })

/-- The wrap of the last edge: WRAP, its event, and in Reload mode the preload (R322, R323, R325). -/
def State.timerWrap (s : State) (n : Fin 64) : State :=
  if s.timers[n].wrapped then
    let s := (s.modTimer n (fun t => { t with wrapped := false, wrap := true })).irq (timerPage n) (8 + n.val % 8)
    if s.timers[n].reloadMode then s.timerPreload n else s
  else s

/-- The compare of timer n fires on what stands after the last edge (R322, R323). -/
def State.timerFires (s : State) (n : Fin 64) : Bool :=
  let t := s.timers[n]
  let w := s.timerWidth n
  let c := s.timerVal n (·.count)
  let a := s.timerVal n (·.cmpact)
  t.st == .running && !s.timerSlave n &&
    (if t.reloadMode then t.moved && c == a else t.carmed && decide ((c + 2 ^ w - a) % 2 ^ w < 2 ^ (w - 1)))

/-- TIMER_COMPARE: once the edge's wrap and writes are in, a compare that fires sets HIT, its event and what TROUTE selects (R322,
R323, R325). -/
def State.timerCompare (s : State) (n : Fin 64) : State :=
  if !s.beatWritesDone then s
  else
    let s := s.timerWrap n
    if s.timerFires n then
      (((s.modTimer n (fun t => { t with carmed := t.carmed && t.reloadMode, moved := false, hit := true })).irq (timerPage n)
        (n.val % 8))).routeEvent s.timers[n].route 1
    else s

/-- TCTRL as it reads: the odd half of a pair reads as the even one (R324). -/
def State.tctrl (s : State) (n : Fin 64) : Word :=
  let t := s.timers[s.timerHead n]
  BitVec.ofNat 32 (b2n (t.st != .stopped) * 2 ^ 31 + b2n t.gs * 2 ^ 30 + b2n t.link * 2 ^ 29 + b2n t.reloadMode * 2 ^ 28 + t.pre.toNat * 256)

/-- A timer's STATE (R320). -/
def TimerRun.code : TimerRun → Nat
  | .stopped => 0 | .armed => 1 | .running => 2

/-- The registers of timer n (R320). -/
def State.timerReg (s : State) (n : Fin 64) (i : Nat) : Word :=
  let t := s.timers[n]
  match i with
  | 0 => s.tctrl n
  | 1 => BitVec.ofNat 32 (s.timers[s.timerHead n].st.code * 2 ^ 30 + b2n t.carmed * 4 + b2n t.wrap * 2 + b2n t.hit)
  | 2 => t.count
  | 3 => t.reload
  | 4 => t.cmp
  | 5 => t.cmpact
  | 6 => t.route
  | _ => t.rldact

/-- A write of TCTRL at its acceptance edge (R321, R324): while STOPPED it stores the fields and RUN starts or arms; otherwise RUN = 0
alone has an effect. LINK changes only while both timers of the pair are STOPPED. -/
def State.tctrlWrite (s : State) (n : Fin 64) (data : Word) : State :=
  if s.timerSlave n then s
  else
    let t := s.timers[n]
    if t.st = .stopped then
      let link := if n.val % 2 = 0 then (if s.timers[oddOf n].st = .stopped then bitAt data 29 else t.link) else false
      let s := s.modTimer n (fun t =>
        { t with
          gs := bitAt data 30, link, reloadMode := bitAt data 28, pre := BitVec.ofNat 8 (fld data 8 8)
          heldCmp := if link then t.heldCmp else none, heldReload := if link then t.heldReload else none })
      if !bitAt data 31 then s
      else if bitAt data 30 then s.modTimer n (fun t => { t with st := .armed })
      else s.timerStart n
    else if bitAt data 31 then s
    else s.modTimer n (fun t => { t with st := .stopped })

/-- A write of COUNT, ignored unless the timer is STOPPED (R320). -/
def State.countWrite (s : State) (n : Fin 64) (data : Word) : State :=
  if s.timers[s.timerHead n].st = .stopped then s.modTimer n (fun t => { t with count := data }) else s

/-- A write of CMP at its acceptance edge (R322 to R324): in Free-run mode it is active and armed at once, in Reload mode it is the
preload; a write to the even half of a pair is held until the odd half is written. -/
def State.cmpSet (s : State) (n : Fin 64) (data : Word) : State :=
  let h := s.timerHead n
  if s.timers[h].link ∧ h = n then s.modTimer n (fun t => { t with heldCmp := some data })
  else
    let s := s.modTimer n (fun t => { t with cmp := data })
    let s := if h = n then s
      else s.modTimer h (fun t => match t.heldCmp with | some v => { t with cmp := v, heldCmp := none } | none => t)
    if s.timers[h].reloadMode then s
    else
      let s := (s.modTimer n (fun t => { t with cmpact := t.cmp })).modTimer h (fun t => { t with cmpact := t.cmp })
      s.modTimer h (fun t => { t with carmed := true })

/-- A write of RELOAD at its acceptance edge: the preload; held in the even half of a pair (R323, R324). -/
def State.reloadSet (s : State) (n : Fin 64) (data : Word) : State :=
  let h := s.timerHead n
  if s.timers[h].link ∧ h = n then s.modTimer n (fun t => { t with heldReload := some data })
  else
    let s := s.modTimer n (fun t => { t with reload := data })
    if h = n then s
    else s.modTimer h (fun t => match t.heldReload with | some v => { t with reload := v, heldReload := none } | none => t)

/-- A write to timer n at its acceptance edge (R320). -/
def State.timerWrite (s : State) (n : Fin 64) (i : Nat) (data : Word) : State :=
  match i with
  | 0 => s.tctrlWrite n data
  | 1 => s.modTimer n (fun t => { t with hit := t.hit && !bitAt data 0, wrap := t.wrap && !bitAt data 1 })
  | 2 => s.countWrite n data
  | 3 => s.reloadSet n data
  | 4 => s.cmpSet n data
  | 6 => s.modTimer n (fun t => { t with route := data &&& 0xDF0001FF })
  | _ => s

/-- Soft reset of TIMER page p: its timers are STOPPED with every register at reset (R320). -/
def State.timerReset (s : State) (p : Fin 8) : State :=
  { s with timers := Vector.ofFn (fun n => if n.val / 8 = p.val then {} else s.timers[n]) }

/-! ### GSTART (R327) -/

/-- The start edge: every ARMED timer with its GSMASK bit starts. -/
def State.gstartNow (s : State) : State :=
  (List.finRange 64).foldl (fun s n =>
    if bitAt (s.getReg (0x005060 + 4 * (n.val / 32))) (n.val % 32) && s.timers[n].st == .armed && !s.timerSlave n then s.timerStart n else s) s

/-- GSBEAT. -/
def State.gsbeat (s : State) : Word64 := s.getReg 0x00506C ++ s.getReg 0x005068

/-- A write of GSCMD at its acceptance edge. -/
def State.gscmdWrite (s : State) (data : Word) : State :=
  if !bitAt data 0 then s
  else if !bitAt data 1 then { s with gsWait := none }.gstartNow
  else if s.gsbeat.toNat ≤ s.beatno.toNat then ({ s with gsWait := none }.orReg 0x005048 0x1).irq .timebase 3
  else { s with gsWait := some s.gsbeat }

/-- The wraps of the last edge: they belong to its increments, ahead of the writes accepted at it (R317, R323). -/
def State.timerWraps (s : State) : State := (List.finRange 64).foldl State.timerWrap s

/-- GSTART_BEAT: the beat that a waiting GSTART names has started; the edge's wraps and writes come first (R317, R327). -/
def State.gstartBeat (s : State) : State :=
  if s.beatWritesDone && s.gsWait == some s.beatno then { s.timerWraps with gsWait := none }.gstartNow else s

/-! ### The timebase (R315, R318, R319) -/


/-- BEATNO takes a new value. -/
def State.setBeatno (s : State) (v : Word64) : State := s.rebase (v - s.beatno)

/-- TBCMD.LOAD at its acceptance edge (R318). -/
def State.tbLoad (s : State) : State :=
  if s.loadBarred then ((s.orReg 0x005048 0x2).irq .timebase 2).pageErr .timebase
  else s.setBeatno (s.getReg 0x005050 ++ s.getReg 0x00504C)


/-- A write of ALCTRL: a measurement is due at once where EN comes on, else one new ALPER after the last (R361; log entry 34). -/
def State.alctrlWrite (s : State) (data : Word) : State :=
  let old := s.getReg 0x005080
  let due := if bitAt data 31 && !bitAt old 31 then s.beatno else s.alignDue - BitVec.ofNat 64 (alperOf old) + BitVec.ofNat 64 (alperOf data)
  { s with alignDue := due }.setReg 0x005080 (data &&& 0xA0FFFFFF)

/-- A write to a TIMEBASE register with an effect of its own, at its acceptance edge (R319, R360, R364); none: a stored register. -/
def State.tbWrite (s : State) (off : Nat) (data : Word) : Option State :=
  match off with
  | 0x054 => some (if bitAt data 0 then s.tbLoad else s)
  | 0x058 => some { s with fofs := data.setWidth 8 }
  | 0x070 => some (s.gscmdWrite data)
  | 0x080 => some (s.alctrlWrite data)
  | _ => none

/-- The TIMEBASE registers that are no stored words. -/
def State.tbRead (s : State) (off : Nat) : Option Word :=
  match off with
  | 0x040 => some (s.beatno.setWidth 32)
  | 0x044 => some (BitVec.ofNat 32 (s.beatno.toNat / 2 ^ 32))
  | 0x048 => some (BitVec.ofNat 32 (b2n s.clkOk * 2 ^ 31 + b2n s.gsWait.isSome * 4 + fld (s.getReg 0x005048) 0 2))
  | 0x058 => some (s.fofs.setWidth 32)
  | _ => none

/-- Soft reset of the TIMEBASE page: a waiting GSTART, a measurement and a probe are dropped; BEATNO and FOFS stay (R319). -/
def State.tbReset (s : State) : State := { s with gsWait := none, align := none, alignGood := 0, alignDue := 0, probe := none }

/-! ### Watchdogs (R332 to R334) -/

/-- WDGLOAD in effect. -/
def Watchdog.loadVal (w : Watchdog) : Word := if w.load = 0 then 1 else w.load
/-- WDG as it reads. -/
def Watchdog.reg (w : Watchdog) : Word :=
  BitVec.ofNat 32 (b2n w.en * 2 ^ 31 + b2n w.frz * 2 ^ 30 + b2n w.reloadOnRun * 2 ^ 29 + b2n w.second * 8 + b2n w.pend * 4 + b2n w.exp * 2)
/-- The watchdog counts in the engine state it sees (R333). -/
def Watchdog.counts (w : Watchdog) : Bool :=
  w.en && !w.held && (match w.eff with
    | .running | .intermission => true
    | .halted => !w.frz
    | .stopped | .dark => false)
/-- The count is reloaded by a kick or an enable. -/
def Watchdog.reloaded (w : Watchdog) : Watchdog := { w with cnt := w.loadVal, exp := false, held := false, zero := false }

/-- A watchdog at an edge: the count, then the engine state of two edges ago, with the reload of a release or a start of that beat (R317,
R333, R334). -/
def Watchdog.edge (w : Watchdog) (run : RunState) : Watchdog :=
  let w := if w.counts && w.cnt != 0 then { w with cnt := w.cnt - 1, zero := w.cnt == 1 } else w
  let start := w.start1
  let release := w.rel1
  let w := { w with eff := w.q1, q1 := run, start1 := w.started, started := false, rel1 := w.released, released := false }
  if start then { w.reloaded with pend := false }
  else if release && w.frz && w.reloadOnRun then { w with cnt := w.loadVal }
  else w

/-- A write to a watchdog register at its acceptance edge (R332, R333). -/
def Watchdog.write (w : Watchdog) (off : Nat) (data : Word) : Watchdog :=
  match off with
  | 0x0C0 =>
    let on := bitAt data 31
    let w' := { w with en := on, frz := bitAt data 30, reloadOnRun := bitAt data 29, second := w.second && !bitAt data 3 }
    if on && !w.en then w'.reloaded else w'
  | 0x0C4 => { w with load := data }
  | 0x0CC => w.reloaded
  | _ => w

/-- The watchdog registers of an engine (R332). -/
def Watchdog.read (w : Watchdog) (off : Nat) : Word :=
  match off with
  | 0x0C0 => w.reg
  | 0x0C4 => w.load
  | 0x0C8 => w.cnt
  | _ => 0

/-- WATCHDOG_EXPIRY: the count that the last edge took to 0 still reads 0 once the writes of that edge are in (R333). -/
def State.wdgExpiry (s : State) (e : Fin 257) : State :=
  let w := s.engines[e].wdg
  if !(w.zero && w.cnt == 0 && s.beatWritesDone) then s
  else if w.exp then (s.modEng e (fun g => { g with wdg := { w with second := true, held := true, zero := false } })).irq (enginePage e) 4
  else s.modEng e (fun g => { g with wdg := { w with cnt := w.loadVal, exp := true, pend := true, zero := false } })

/-! ### The edge (R315, R317) -/

/-- An edge of BEATCLK: the first after the release changes nothing; any other increments BEATNO, counts the timers and watchdogs, sets
EVL[5] of every engine, shows CLKOK, and is on its way to the pin engines; the freeze moves on in its synchronizer (R177, R315, R336, R410). -/
def State.beatEdge (s : State) : State :=
  if s.inReset then s
  else if !s.firstEdge then { s with firstEdge := true, clkLost := false }
  else
    let s := { s with clkLost := false }
    let s := if s.clkOk then s else { s with clkOk := true }.irq .timebase 1
    let s := { s with beatno := s.beatno + 1 }
    let s := (List.finRange 64).foldl State.timerEdge s
    { s with
      engines := s.engines.map (fun g => { g with evl := putBit g.evl 5 true, wdg := g.wdg.edge g.run })
      pins := s.pins.map (fun p => { p with beatIn := true }), frzClk := s.frz1, frz1 := s.freezeOn }

/-- What the last edge leaves to carry out after the writes accepted at it: wraps, a GSTART's beat, compares, expiries. -/
def State.beatEvents (s : State) : State :=
  let s := (List.finRange 64).foldl State.timerCompare s.timerWraps.gstartBeat
  (List.finRange 257).foldl State.wdgExpiry s

/-- 2,048 HCLK cycles without an edge: CLKOK falls (R315). -/
def State.clkLoss (s : State) : State :=
  let s := { s with clkLost := true }
  if s.clkOk then { s with clkOk := false }.irq .timebase 0 else s

/-! ### Capture inputs (R316, R328, R329) -/

/-- A fine time with FOFS added: beat and fine part (R316); a write of FOFS accepted at the last edge counts (R318). -/
def State.fineStamp (s : State) (beat : Word64) (fine : BitVec 8) : Word64 × Nat :=
  let t : Int := (256 * beat.toNat + fine.toNat : Nat) + s.timeNow.fofs.toInt
  let t := (t % (2 ^ 72 : Int)).toNat
  (BitVec.ofNat 64 (t / 256), t % 256)

/-- A register of capture input i. -/
def capAddr (i : Fin 256) (off : Nat) : Nat := 0x390100 + 0x1000 * (i.val / 64) + 0x20 * (i.val % 64) + off
/-- The page of capture input i. -/
def capPage (i : Fin 256) : Page := .capture ⟨i.val / 64, by omega⟩
/-- An edge of input i is not latched: LOST. -/
def State.capLost (s : State) (i : Fin 256) : State := (s.orReg (capAddr i 0x04) 0x8).irq (capPage i) 1

/-- A stamp as the LO and HI registers hold it. -/
def stampWords (b : Word64) (f : Nat) : Word × Word :=
  (BitVec.ofNat 32 (b.toNat % 2 ^ 24 * 256 + f), BitVec.ofNat 32 (b.toNat / 2 ^ 24))

/-- An edge of an enabled kind at input i, rising after INV or not (R329). -/
def State.capLatch (s : State) (i : Fin 256) (up : Bool) (b : Word64) (f : Nat) : State :=
  let (lo, hi) := stampWords b f
  let base := if up then 0x08 else 0x10
  let width := (hi ++ lo) - (s.getReg (capAddr i 0x0C) ++ s.getReg (capAddr i 0x08))
  let s := ((s.setReg (capAddr i base) lo).setReg (capAddr i (base + 4)) hi).modReg (capAddr i 0x04) (fun w =>
    putFld (putBit w (if up then 0 else 1) true) 24 8 (fld w 24 8 + 1))
  let s := if !up && s.capRise[i] then
      (s.setReg (capAddr i 0x18) (BitVec.ofNat 32 (min width.toNat (2 ^ 32 - 1)))).orReg (capAddr i 0x04) 0x4
    else s
  let s := { s with capRise := s.capRise.set i up }
  ((s.orReg (pageBase (capPage i) + 0x040 + 4 * (i.val % 64 / 32)) (maskOf 32 (i.val % 32) 1)).irq (capPage i) 0).routeEvent
    (s.getReg (pageBase (capPage i) + 0x048)) 1

/-- An edge may be stamped as fine 0 of the next beat or fine 255 of the previous one, within ±1 fine unit (R316). -/
def State.stampOk (s : State) (beat : Word64) (fine : BitVec 8) : Bool :=
  beat == s.beatno || (beat + 1 == s.beatno && fine == 255) || (beat == s.beatno + 1 && fine == 0)

/-- CAPTURE_EDGE: a rising or falling edge at the pin of input i, at a fine time of the present beat (R328, R329). A fall that is not latched
ends the rise before it too (DEDUCED, log entry 65). -/
def State.captureEdge (s : State) (i : Fin 256) (rise : Bool) (beat : Word64) (fine : BitVec 8) : State :=
  let c := s.getReg (capAddr i 0x00)
  let up := rise != bitAt c 27
  if !(bitAt c 31 && s.stampOk beat fine) then s
  else if !bitAt c (if up then 30 else 29) then (if up then s else { s with capRise := s.capRise.set i false })
  else if !s.pageEn (capPage i) || s.frozen (capPage i) || (bitAt c 28 && bitAt (s.getReg (capAddr i 0x04)) (if up then 0 else 1)) then
    (if up then s else { s with capRise := s.capRise.set i false }).capLost i
  else
    let (b, f) := s.fineStamp beat fine
    s.capLatch i up b f

/-- Soft reset of CAPTURE page p: no rise counts for WIDTH any more. -/
def State.captureReset (s : State) (p : Fin 4) : State :=
  { s with capRise := Vector.ofFn (fun i => if i.val / 64 = p.val then false else s.capRise[i]) }

/-! ### Commands -/

/-- BEATCLK_LOSS (R315). -/
def execBeatclkLoss (s : State) : Out := .next s.clkLoss
/-- GSTART_BEAT (R327). -/
def execGstartBeat (s : State) : Out := .next s.gstartBeat
/-- TIMER_COMPARE (R322, R323). -/
def execTimerCompare (n : Fin 64) (s : State) : Out := .next (s.timerCompare n)
/-- TIMER_WRAP (R323). -/
def execTimerWrap (n : Fin 64) (s : State) : Out := .next (s.timerWrap n)
/-- WATCHDOG_EXPIRY (R333). -/
def execWatchdogExpiry (e : Fin 257) (s : State) : Out := .next (s.wdgExpiry e)

end Sys2Proof.Machine
end

