-- ==== Sys2Proof/Machine/Pins.lean ====
section
/-!
DEFINITION. The pin engines (R335 to R347): one step of each instruction, injection, run control, the holding registers, the pins.
-/
namespace Sys2Proof.Machine

/-- The page of pin engine k. -/
def pinBase (k : Fin 32) : Nat := 0x3A0000 + 0x1000 * k.val
/-- Whether PCTRL.RUN reads 1: an injected instruction leaves the state it met. -/
def PinEng.runs (p : PinEng) : Bool := if p.injected.isSome then !p.injStopped else p.st != .stopped
/-- The instruction whose step the next edge takes: an injected one, else the program's, if the engine runs and is not frozen (R344,
R345). -/
def State.pinCur (s : State) (k : Fin 32) : Option (BitVec 16) :=
  let p := s.pins[k]
  match p.injected with
  | some i => some i
  | none => if p.st != .stopped && !s.frozen (.pin k) then some ((s.getReg (pinBase k + 0x100 + 4 * p.pc)).setWidth 16) else none

/-! ### Decoding (R337, R342) -/

/-- The rows of R337, and the reserved encodings of R342. -/
inductive PinOp where
  | nop | stop | signal | clr | drive | putp | getp | sho | shi | take | give | awaitPin | awaitBeat | br | ldlc | loop | reserved
  deriving DecidableEq, Repr

/-- The row that an instruction word selects. -/
def pinDecode (i : BitVec 16) : PinOp :=
  match fld i 12 4 with
  | 0x0 => match fld i 8 4 with | 0 => .nop | 1 => .stop | 2 => .signal | 3 => .clr | _ => .reserved
  | 0x1 => .drive
  | 0x2 => match fld i 10 2 with | 0 => .putp | 1 => .getp | _ => .reserved
  | 0x3 => .sho
  | 0x4 => .shi
  | 0x5 => .take
  | 0x6 => .give
  | 0x7 => if bitAt i 11 then .awaitBeat else .awaitPin
  | 0x8 => if fld i 8 4 ≤ 8 then .br else .reserved
  | 0x9 => .ldlc
  | 0xA => .loop
  | _ => .reserved

/-! ### Events (R343, R347) -/

/-- An event of pin engine k: its IRQ_STAT bit, and its route where PROUTE bit `sel` selects it. -/
def State.pinEvent (s : State) (k : Fin 32) (bit sel : Nat) : State :=
  let s := s.irq (.pin k) bit
  let r := s.getReg (pinBase k + 0x074)
  if bitAt r sel then s.routeEvent r 2 else s
/-- The TXE event. -/
def State.pinTxe (s : State) (k : Fin 32) : State := s.pinEvent k 0 23
/-- The RXF event. -/
def State.pinRxf (s : State) (k : Fin 32) : State := s.pinEvent k 1 22

/-! ### Ends of an instruction (R337, R345) -/

/-- The current instruction completes; `target`: where a taken branch goes. -/
def PinEng.finish (p : PinEng) (target : Option Nat) : PinEng :=
  let p := { p with busy := false, half := false, spill := false, nrem := 0 }
  if p.injected.isSome then
    { p with injected := none, injStopped := false, pc := target.getD p.pc, st := if p.injStopped then .stopped else .running }
  else { p with pc := target.getD ((p.pc + 1) % 64), st := .running }
/-- The current instruction goes on: it progressed, or it stalls. -/
def PinEng.goOn (p : PinEng) (stalled : Bool) : PinEng :=
  { p with busy := true, st := if stalled then .stalled else if p.injected.isSome && p.injStopped then .stopped else .running }
/-- What is in progress is abandoned: a program instruction advances PC, an injected one does not (R344, R345). -/
def PinEng.abandon (p : PinEng) : PinEng :=
  let pc := if p.injected.isNone && p.busy then (p.pc + 1) % 64 else p.pc
  { p with pc, busy := false, half := false, spill := false, nrem := 0, injected := none, injStopped := false,
           st := if p.runs then .running else .stopped }

/-- The engine becomes STOPPED; its event if it was not (R344). -/
def State.pinStopped (s : State) (k : Fin 32) : State :=
  let was := s.pins[k].runs
  let s := s.modPin k (fun p => { p.abandon with st := .stopped, strobed := false })
  if was then s.pinEvent k 2 21 else s

/-! ### Shifts and transfers (R338, R339) -/

/-- The next-out bit of SR. -/
def PinEng.nextOut (p : PinEng) : Bool := bitAt p.sr (if p.order then 31 else 0)
/-- SR moves one place, `b` entering. -/
def PinEng.shiftIn (p : PinEng) (b : Bool) : PinEng :=
  { p with sr := if p.order then putBit (BitVec.ofNat 32 (p.sr.toNat * 2)) 0 b else putBit (BitVec.ofNat 32 (p.sr.toNat / 2)) 31 b }
/-- POUT[j] becomes `b`. -/
def PinEng.drive (p : PinEng) (j : Nat) (b : Bool) : PinEng := { p with pout := putBit p.pout j b }
/-- The strobe pin takes a level where PCTRL.STRB = 1. -/
def PinEng.strobe (p : PinEng) (b : Bool) : PinEng := if p.strb then { p.drive p.strbpin b with strobed := b } else p
/-- The step after a step b: the strobe is low again before the instruction acts (R338; log entry 121). -/
def PinEng.strobeEnds (p : PinEng) : PinEng := if p.strobed then p.strobe false else p

/-- A waiting TAKE that finds data. -/
def State.pinTake (s : State) (k : Fin 32) : State :=
  (s.modPin k (fun p => { p with sr := p.txd, bc := 32, txfull := false })).pinTxe k
/-- A waiting GIVE that finds room. -/
def State.pinGive (s : State) (k : Fin 32) : State :=
  (s.modPin k (fun p => { p with rxd := p.sr, bc := 0, rxfull := true })).pinRxf k

/-- A shift that has one bit less to go completes with the last. -/
def PinEng.bitDone (p : PinEng) : PinEng :=
  let p := { p with half := false, nrem := p.nrem - 1 }
  if p.nrem = 0 then p.finish none else p.goOn false

/-- A shift begins: NREM takes its length. -/
def PinEng.begin (p : PinEng) (i : BitVec 16) : PinEng :=
  if p.busy then p else { p with busy := true, half := false, spill := false, nrem := fld i 0 5 + 1 }

/-- One step of SHO. -/
def State.stepSho (s : State) (k : Fin 32) (i : BitVec 16) : State :=
  let s := s.modPin k (fun p => p.begin i)
  let p := s.pins[k]
  if p.half then s.modPin k (fun p => (p.strobe true).bitDone)
  else
    let s := s.modPin k (fun p => p.strobe false)
    if p.bc = 0 ∧ bitAt i 11 ∧ !p.txfull then s.modPin k (fun p => p.goOn true)
    else
      let s := if p.bc = 0 ∧ bitAt i 11 then s.pinTake k else s
      s.modPin k (fun p =>
        let p := { (p.drive (fld i 5 5) p.nextOut).shiftIn false with bc := p.bc - 1 }
        if p.strb then { p with half := true }.goOn false else p.bitDone)

/-- SHI after a bit: with SPILL a full SR is given, which may have to wait. -/
def State.shiSpill (s : State) (k : Fin 32) : State :=
  if s.pins[k].rxfull then s.modPin k (fun p => { p with spill := true }.goOn true)
  else (s.pinGive k).modPin k (fun p => { p with spill := false, nrem := p.nrem + 1 }.bitDone)

/-- One step of SHI. -/
def State.stepShi (s : State) (k : Fin 32) (i : BitVec 16) : State :=
  let s := s.modPin k (fun p => p.begin i)
  let p := s.pins[k]
  if p.spill then (s.modPin k (fun p => p.strobe false)).shiSpill k
  else if p.strb && !p.half then s.modPin k (fun p => { p.strobe false with half := true }.goOn false)
  else
    let s := s.modPin k (fun p =>
      let p := (p.strobe true).shiftIn (bitAt p.pinIn (fld i 5 5))
      { p with bc := min 32 (p.bc + 1), half := false, nrem := p.nrem - 1 })
    if s.pins[k].bc = 32 ∧ bitAt i 11 then s.shiSpill k
    else s.modPin k (fun p => { p with nrem := p.nrem + 1 }.bitDone)

/-! ### The other instructions (R337, R340, R341) -/

/-- TAKE. -/
def State.stepTake (s : State) (k : Fin 32) (i : BitVec 16) : State :=
  if s.pins[k].txfull then (s.pinTake k).modPin k (fun p => p.finish none)
  else if bitAt i 11 then
    (s.modPin k (fun p => { p with sr := p.txd, bc := 32 }.finish none)).countIrq (.pin k) 0x078 4
  else s.modPin k (fun p => p.goOn true)

/-- GIVE. -/
def State.stepGive (s : State) (k : Fin 32) (i : BitVec 16) : State :=
  if !s.pins[k].rxfull then (s.pinGive k).modPin k (fun p => p.finish none)
  else if bitAt i 11 then
    (s.modPin k (fun p => { p with rxd := p.sr, bc := 0 }.finish none)).countIrq (.pin k) 0x07C 5
  else s.modPin k (fun p => p.goOn true)

/-- DRIVE. -/
def PinEng.stepDrive (p : PinEng) (i : BitVec 16) : PinEng :=
  let j := fld i 0 5
  let b := match fld i 10 2 with | 0 => false | 1 => true | 2 => !bitAt p.pout j | _ => p.nextOut
  (p.drive j b).finish none

/-- AWAIT, pin form. -/
def PinEng.stepAwaitPin (p : PinEng) (i : BitVec 16) : PinEng :=
  if bitAt p.pinIn (fld i 0 5) == bitAt i 5 then p.finish none else p.goOn true

/-- BTGT. -/
def State.btgt (s : State) (k : Fin 32) : Word64 := s.getReg (pinBase k + 0x070) ++ s.getReg (pinBase k + 0x06C)

/-- A beat meets what AWAIT in its beat form waits for (R340). -/
def State.beatMeets (s : State) (k : Fin 32) (i : BitVec 16) (n : Word64) : Bool :=
  if bitAt i 10 then decide ((n - s.btgt k).toNat < 2 ^ 63)
  else n.toNat % 2 ^ fld i 7 3 == fld i 0 7 % 2 ^ fld i 7 3

/-- AWAIT, beat form. At its first step it looks at the beat most recently seen, for a target alone; at a later step at the beat whose edge is
seen at it. -/
def State.stepAwaitBeat (s : State) (k : Fin 32) (i : BitVec 16) : State :=
  let hit : Option Word64 → Bool := fun n => match n with | some n => s.beatMeets k i n | none => false
  if !s.pins[k].busy then
    if bitAt i 10 && hit s.pins[k].beatSeen then (s.modPin k (fun p => { p with blate := true }.finish none)).irq (.pin k) 7
    else s.modPin k (fun p => p.goOn true)
  else if hit s.pins[k].beatNow then s.modPin k (fun p => p.finish none)
  else s.modPin k (fun p => p.goOn true)

/-- BR's condition (R341). -/
def PinEng.cond (p : PinEng) (c : Nat) : Bool :=
  match c with
  | 0 => true | 1 => p.bc != 0 | 2 => p.bc == 0 | 3 => p.txfull | 4 => !p.rxfull | 5 => p.nextOut
  | 6 => bitAt p.pinIn p.psel | 7 => !bitAt p.pinIn p.psel | 8 => p.lc != 0 | _ => false

/-- BR. -/
def PinEng.stepBr (p : PinEng) (i : BitVec 16) : PinEng := p.finish (if p.cond (fld i 8 4) then some (fld i 0 6) else none)
/-- LOOP. -/
def PinEng.stepLoop (p : PinEng) (i : BitVec 16) : PinEng :=
  if 1 < p.lc then { p with lc := p.lc - 1 }.finish (some (fld i 0 6)) else { p with lc := 0 }.finish none

/-- STOP: the address after it stays in PC. -/
def State.stepStop (s : State) (k : Fin 32) : State :=
  let was := s.pins[k].runs
  let s := s.modPin k (fun p => { p.finish none with st := .stopped })
  if was then s.pinEvent k 2 21 else s

/-- The beat edges and the freeze move on in their synchronizers at an edge, `now` the beat that has begun: a beat edge is seen at the second
edge after the one that samples it (R336, R419, R421). -/
def PinEng.sync (p : PinEng) (now : Word64) (freeze : Bool) : PinEng :=
  { p with
    beatNow := p.beat2, beatSeen := p.beat2.or p.beatSeen, beat2 := p.beat1, beat1 := if p.beatIn then some now else none, beatIn := false
    frz := p.frz1, frz1 := freeze }
/-- The synchronizers of pin engine k at an edge of PINCLK. -/
def State.pinSync (s : State) (k : Fin 32) : State := s.modPin k (fun p => p.sync s.timeNow.beat s.freezeOn)

/-- What every edge of PINCLK does for pin engine k: the inputs and the waiting writes move on in their synchronizers (R336). -/
def State.pinEdge (s : State) (k : Fin 32) (pins : Word) : State :=
  { s.modPin k (fun p => { p with pinIn := p.sync1, sync1 := pins }) with
    pinLost := false
    islandQ := s.islandQ.map (fun w => if w.pinPage == some k then { w with synced := true } else w) }

/-! ### Registers (R343 to R346) -/

/-- A write of PCTRL at its acceptance edge: RUN written 0 abandons what is in progress, an injected instruction of a STOPPED engine too
(R344). -/
def State.pctrlWrite (s : State) (k : Fin 32) (data : Word) : State :=
  if s.pins[k].runs then
    if bitAt data 31 then s else s.pinStopped k
  else
    let s := if bitAt data 31 then s else s.modPin k PinEng.abandon
    let s := s.modPin k (fun p => { p with
      strobed := p.strobed && bitAt data 5 && p.strbpin == fld data 0 5
      startpc := fld data 24 6, psel := fld data 16 5, order := bitAt data 8, strb := bitAt data 5, strbpin := fld data 0 5 })
    if bitAt data 31 && s.pageEn (.pin k) then
      s.modPin k (fun p =>
        if p.injected.isSome then { p with pc := p.startpc, injStopped := false }
        else { p with pc := p.startpc, st := .running, busy := false, half := false, spill := false, nrem := 0 })
    else s

/-- A write of INJ at its acceptance edge: what is in progress is abandoned, and the engine's step at that edge is the injected
instruction's (R345). -/
def State.pinInject (s : State) (k : Fin 32) (i : BitVec 16) : State :=
  s.modPin k (fun p => { p.abandon with injected := some i, injStopped := !p.runs })

/-- A write to a PIN register with an effect of its own, at its acceptance edge; none: a stored register. -/
def State.pinWrite (s : State) (k : Fin 32) (off : Nat) (data : Word) : Option State :=
  let p := s.pins[k]
  if 0x100 ≤ off then
    if p.runs then some ((s.modPin k (fun p => { p with lderr := true })).irq (.pin k) 6) else none
  else match off with
    | 0x040 => some (s.pctrlWrite k data)
    | 0x044 => some (s.modPin k (fun p =>
        { p with blate := p.blate && !bitAt data 5, err := p.err && !bitAt data 4, lderr := p.lderr && !bitAt data 3 }))
    | 0x054 => some (if p.runs then s else s.modPin k (fun p => { p with sr := data }))
    | 0x058 => some (if p.runs then s else s.modPin k (fun p => { p with lc := fld data 0 12 }))
    | 0x05C => some ((if p.txfull then s.incReg (pinBase k + 0x080) else s).modPin k (fun p => { p with txd := data, txfull := true }))
    | 0x068 => some (s.pinInject k (data.setWidth 16))
    | _ => none

/-- The PIN registers that are no stored words. -/
def State.pinRead (s : State) (k : Fin 32) (off : Nat) : Option Word :=
  let p := s.pins[k]
  match off with
  | 0x040 => some (BitVec.ofNat 32 (b2n p.runs * 2 ^ 31 + p.startpc * 2 ^ 24 + p.psel * 2 ^ 16 + b2n p.order * 2 ^ 8 + b2n p.strb * 32 + p.strbpin))
  | 0x044 => some (BitVec.ofNat 32 ((match p.st with | .stopped => 0 | .running => 1 | .stalled => 2) * 2 ^ 30 + p.pc * 2 ^ 24 + p.bc * 2 ^ 16
      + p.nrem * 2 ^ 8 + b2n p.txfull * 128 + b2n p.rxfull * 64 + b2n p.blate * 32 + b2n p.err * 16 + b2n p.lderr * 8))
  | 0x04C => some p.pout
  | 0x050 => some p.pinIn
  | 0x054 => some p.sr
  | 0x058 => some (BitVec.ofNat 32 p.lc)
  | 0x060 | 0x064 => some p.rxd
  | _ => none

/-- A read of RXD by anyone but a peeking master pops it (R343). -/
def State.pinPop (s : State) (k : Fin 32) : State := s.modPin k (fun p => { p with rxfull := false })

/-- Soft reset of a PIN page; an engine that runs enters STOPPED by it (R26, R344, R347). -/
def State.pinReset (s : State) (k : Fin 32) : State :=
  (s.pinStopped k).modPin k (fun p => { ({} : PinEng) with
    sync1 := p.sync1, pinIn := p.pinIn, beatIn := p.beatIn, beat1 := p.beat1, beat2 := p.beat2, beatNow := p.beatNow,
    beatSeen := p.beatSeen, frz1 := p.frz1, frz := p.frz })

/-- The pin engine of pin signal `i`. -/
def pinOf (i : Fin 1024) : Fin 32 := ⟨i.val / 32, by omega⟩
/-- `pin_oe` of signal `i`: driven by the Curtain or by DIR; 0 in reset (R146, R335, R434, R442). -/
def State.pinOe (s : State) (i : Fin 1024) : Bool :=
  !s.inReset && ((s.curtainPin i.val).isSome || bitAt (s.getReg (pinBase (pinOf i) + 0x048)) (i.val % 32))
/-- `pin_out` of signal `i`: the Curtain's level where it claims the signal, else POUT, whatever `pin_oe` is (R434). -/
def State.pinOut (s : State) (i : Fin 1024) : Bool := (s.curtainPin i.val).getD (bitAt s.pins[pinOf i].pout (i.val % 32))

end Sys2Proof.Machine
end

