-- ==== Sys2Proof/Machine/EngineCtl.lean ====
section
/-!
DEFINITION. The CUE, HOUSE and CLUSTER pages' control of engines (R201 to R207): run state, loading of control stores and dispatch
entries.
-/
namespace Sys2Proof.Machine

/-- The base of an engine's page. -/
def engBase (e : Fin 257) : Nat := pageBase (enginePage e)
/-- ECTRL.RUN. -/
def State.engRun (s : State) (e : Fin 257) : Bool := bitAt (s.getReg (engBase e + 0x040)) 0
/-- The engine is to stop at its next boundary: a Cue engine whose RUN or EN has been cleared, EN set again or not (R203); the House engine
is never STOPPED (R207). -/
def State.stopDue (s : State) (e : Fin 257) : Bool :=
  decide (e.val < 256) && (s.engines[e].stopReq || !(s.engRun e && s.pageEn (enginePage e)))

/-- A start: micro-address 0x0000, micro-stack empty, TOSN = 0, and the reset routine's values, Cue Code at `pc` in House mode with
IE = 0 (R203, R211). -/
def Engine.started (g : Engine) (pc : Word) : Engine :=
  { g with
    run := .running, micro := false, cells := [], mstack := [], rep := false, waitMask := none, waitEv := none, load := none
    pc, stat := 0x8000, statNext := none, dsp := 0x100, dsl := 0, rsp := 0x100, rsl := 0, lnk := 0, ecause := 0, eaddr := 0
    vbase := 0, krights := 0xFFFFFFFE, part := 0, sptr := 0, dptr := 0, scnt := 0, cfg := 0, cfgSync := none, lseaddr := 0
    ag := Vector.replicate 20 0, dreason := 0, oldStore := [], oldWin := [], stopReq := false, stepping := false
    lastUpc := none, inInstr := false, tickWait := 0, paceLate := false, wdg := { g.wdg with started := true } }

/-- The engine enters STOPPED, its state kept (R203). -/
def Engine.stopped (g : Engine) : Engine :=
  { g with
    run := .stopped, micro := false, mstack := [], rep := false, waitMask := none, waitEv := none, oldStore := [], oldWin := []
    stopReq := false, stepping := false, inInstr := false }

/-- RUN or EN has been cleared: at once in intermission and at a boundary, later in a microroutine, between the elements of a
REP instruction (R229) or while HALTED; a Dark engine
enters STOPPED on RUN alone, with its state kept (R203). -/
def State.engStop (s : State) (e : Fin 257) (byRun : Bool) : State :=
  let g := s.engines[e]
  match g.run with
  | .running => if g.micro || g.rep then s.modEng e (fun g => { g with stopReq := true }) else s.modEng e Engine.stopped
  | .intermission => s.modEng e Engine.stopped
  | .dark => if byRun then s.modEng e (fun g => { g with run := .stopped }) else s
  | .halted => s.modEng e (fun g => { g with stopReq := true })
  | .stopped => s

/-- A write of ECTRL; RUN written 1 has no effect while the engine is not STOPPED, even with a stop due (R203). -/
def State.ectrlWrite (s : State) (e : Fin 257) (data : Word) : State :=
  let was := s.engRun e
  if bitAt data 0 && s.engines[e].run != .stopped then s
  else
    let s := s.setReg (engBase e + 0x040) (data &&& 1)
    if bitAt data 0 then
      if !was && s.pageEn (enginePage e) then s.modEng e (fun g => g.started (s.getReg (engBase e + 0x05C))) else s
    else if was then s.engStop e true else s

/-- ESTATE (R201). -/
def State.estate (s : State) (e : Fin 257) : Word :=
  let g := s.engines[e]
  BitVec.ofNat 32 (g.dpc.toNat * 2 ^ 16 + (if g.run = .dark then g.dreason.toNat else 0) * 256 + b2n g.lderr * 128 +
    (match g.run with | .stopped => 0 | .running => 1 | .intermission => 2 | .halted => 3 | .dark => 4))

/-! ### Loading the private store and the dispatch entries (R201, R202, R207) -/

/-- CSADDR. -/
def State.csaddr (s : State) (e : Fin 257) : Word := s.getReg (engBase e + 0x048)
/-- INDEX advances where AUTOINC is set. -/
def State.csAdvance (s : State) (e : Fin 257) : State :=
  if bitAt (s.csaddr e) 31 then s.modReg (engBase e + 0x048) (fun w => putFld w 0 11 (fld w 0 11 + 1)) else s
/-- A load write is ignored: LDERR, CUE IRQ_STAT bit 3. -/
def State.loadErr (s : State) (e : Fin 257) : State :=
  if e.val < 256 then (s.modEng e (fun g => { g with lderr := true })).irq (enginePage e) 3 else s
/-- The state allows a commit: a Cue engine is STOPPED or Dark; the House engine loads its upper half and its entries at any time. -/
def State.commitOk (s : State) (e : Fin 257) : Bool :=
  let a := s.csaddr e
  if e.val < 256 then
    (s.engines[e].run == .stopped || s.engines[e].run == .dark) && !(bitAt a 30 && decide (0xE0 ≤ fld a 0 8 ∧ fld a 0 8 ≤ 0xEF))
  else bitAt a 30 || decide (0x400 ≤ fld a 0 11)

/-- A write of CSDATA3 with DT = 0 commits the word. -/
def State.csCommit (s : State) (e : Fin 257) : State :=
  if bitAt (s.csaddr e) 30 then s
  else if s.commitOk e then
    let d := fun i => s.getReg (engBase e + 0x04C + 4 * i)
    (s.setCsWord e.val (fld (s.csaddr e) 0 11) (d 3 ++ d 2 ++ d 1 ++ d 0)).csAdvance e
  else s.loadErr e

/-- A write of CSDATA0 with DT = 1 commits the dispatch entry. -/
def State.dispCommit (s : State) (e : Fin 257) : State :=
  if !bitAt (s.csaddr e) 30 then s
  else if s.commitOk e then (s.setDispEntry e.val (fld (s.csaddr e) 0 8) (s.getReg (engBase e + 0x04C))).csAdvance e
  else s.loadErr e

/-- A read of CSDATAi: the stored word, or the entry in CSDATA0, with the cluster's own for opcodes 0xE0 to 0xEF (R195, R202). -/
def State.csRead (s : State) (e : Fin 257) (i : Nat) : Word :=
  let a := s.csaddr e
  let x := fld a 0 8
  if bitAt a 30 then
    if i ≠ 0 then 0
    else if e.val < 256 ∧ 0xE0 ≤ x ∧ x ≤ 0xEF then (s.ssWord (e.val / 16) (0x3F00 + x - 0xE0)).setWidth 32
    else s.dispEntry e.val x
  else BitVec.ofNat 32 ((s.csWord e.val (fld a 0 11)).toNat / 2 ^ (32 * i))

/-- A write to offsets 0x040 to 0x05C of an engine's page; none: a stored register. -/
def State.engCtlWrite (s : State) (e : Fin 257) (off : Nat) (data : Word) : Option State :=
  match off with
  | 0x040 => some (s.ectrlWrite e data)
  | 0x044 => some (s.modEng e (fun g => { g with lderr := g.lderr && !bitAt data 7 }))
  | 0x04C => some ((s.setReg (engBase e + off) data).dispCommit e)
  | 0x058 => some ((s.setReg (engBase e + off) data).csCommit e)
  | _ => none

/-! ### Shared stores (R205, R206) -/

/-- The word that SSDATA0 to SSDATA3 hold goes to SSADDR's index. -/
def State.ssCommitNow (s : State) (c : Fin 16) : State :=
  let b := pageBase (.cluster c)
  let a := s.getReg (b + 0x040)
  let i := fld a 0 14
  let d := fun j => s.getReg (b + 0x044 + 4 * j)
  let u := (16384 * c.val + i) / 256
  let s := (s.setSsWord c i (d 3 ++ d 2 ++ d 1 ++ d 0)).touch 3 u u none
  if bitAt a 31 then s.setReg (b + 0x040) (putFld a 0 14 (i + 1)) else s

/-- The page that SSADDR selects is held by a transaction (R158). -/
def State.ssHeld (s : State) (c : Fin 16) : Bool :=
  s.unitHeld 3 ((16384 * c.val + fld (s.getReg (pageBase (.cluster c) + 0x040)) 0 14) / 256)

/-- A write of SSDATA3: it commits, or waits while the page is held (R206). -/
def State.ssCommit (s : State) (c : Fin 16) (data : Word) : State :=
  let s := s.setReg (pageBase (.cluster c) + 0x050) data
  if s.ssHeld c then { s with ssWait := s.ssWait.set c true } else s.ssCommitNow c

/-- A waiting commit goes on once its page is free (R206). -/
def State.ssResume (s : State) (c : Fin 16) : State :=
  if s.ssWait[c] && !s.ssHeld c then { s with ssWait := s.ssWait.set c false }.ssCommitNow c else s

/-- The CLUSTER registers that are no stored words: SSDATA0 to SSDATA3 return the stored word at SSADDR, as CSDATA do (R202, R205, R409;
DEDUCED, log entry 124). -/
def State.clusterRead (s : State) (c : Fin 16) (off : Nat) : Option Word :=
  let i := fld (s.getReg (pageBase (.cluster c) + 0x040)) 0 14
  match off with
  | 0x044 | 0x048 | 0x04C | 0x050 => some (BitVec.ofNat 32 ((s.ssWord c.val i).toNat / 2 ^ (32 * ((off - 0x044) / 4))))
  | 0x064 => some (BitVec.ofNat 32 (b2n s.ssWait[c]))
  | _ => none

/-! ### Stores and TINV (R226, R292) -/

/-- A store of engine x has been acknowledged: one fewer to await. -/
def Tinv.ack (x : Nat) (t : Tinv) : Tinv :=
  { t with waits := t.waits.filterMap (fun w => if w.1 = x then (if w.2 ≤ 1 then none else some (w.1, w.2 - 1)) else some w) }
/-- Every broadcast hears of the acknowledgement of a store of engine x. -/
def State.storeAcked (s : State) (x : Nat) : State :=
  { s with engines := s.engines.map (fun g => if g.tinvs.isEmpty then g else { g with tinvs := g.tinvs.map (Tinv.ack x) }) }
/-- A store's target answers with an error: LSEADDR takes the address, and the event pends, unless one is pending (R226). -/
def State.lateError (s : State) (e : Fin 257) (va : Nat) : State :=
  s.modEng e (fun g => if g.lse then g else { g with lse := true, lseaddr := BitVec.ofNat 32 va })

/-- The oldest store has been acknowledged. -/
def State.storeLeft (s : State) (e : Fin 257) : State := (s.modEng e (fun g => { g with sbuf := g.sbuf.drop 1 })).storeAcked e.val
/-- A walk has ended: each broadcast that awaits it hears of it (R292). -/
def State.walkEnd (s : State) (k : Walk) : State :=
  { s.walkRead k with
    walks := s.walks.filter (fun o => !(o.eng == k.eng && o.part == k.part && o.page == k.page))
    engines := s.engines.map (fun g => if g.tinvs.isEmpty then g else { g with tinvs := g.tinvs.map (fun t =>
      if t.part = k.part then { t with walks := t.walks.filter (fun w => w != (k.eng, k.page)) } else t) }) }

/-! ### Soft resets -/

/-- A store has gone to its target. -/
def StoreEntry.issued (x : StoreEntry) : Bool := x.sent.isSome || x.island

/-- Soft reset of a CUE page: the engine stops where it stands, with the registers of a reset engine; stores already sent to the
crossbar stand, the others are discarded, and so is the answer to a read on its way (R203, R310). Halt requests and breakpoint enables belong
to the DEBUG page. -/
def State.cueReset (s : State) (e : Fin 257) : State :=
  let dropped := countIf (fun x : StoreEntry => !x.issued) s.engines[e].sbuf
  let s := (List.range dropped).foldl (fun s _ => s.storeAcked e.val) s
  let s := (s.walks.filter (fun k => k.eng == e.val)).foldl State.walkEnd s
  let s := { s with wakeFor := s.wakeFor.filter (fun x => x.2.eng ≠ e.val) }.orphanReqs (fun q => q.who.eng == e.val && !q.write)
  s.modEng e (fun g => { ({} : Engine) with
    sbuf := g.sbuf.filter StoreEntry.issued, tinvs := g.tinvs, haltReq := g.haltReq, bkpt := g.bkpt
    wdg := { eff := g.wdg.eff, q1 := g.wdg.q1 } })

/-! ### Commands -/

/-- SHARED_STORE_COMMIT_RESUME (R206). -/
def execSharedStoreCommitResume (c : Fin 16) (s : State) : Out := .next (s.ssResume c)

end Sys2Proof.Machine
end

