-- ==== Sys2Proof/Machine/Halt.lean ====
section
/-!
DEFINITION. What the debugger does to engines and units (R401, R404 to R406, R410, R412, R415): trace packets, halt requests, release,
bells, the freeze, the access level.
-/
namespace Sys2Proof.Machine

/-! ### Trace (R415) -/

/-- TRCFG. -/
def State.trcfg (s : State) : Word := s.getReg 0x0070B0
/-- TRCFG names a valid sink. -/
def State.sinkOk (s : State) : Bool :=
  let c := s.trcfg
  if bitAt c 30 then
    let role := s.portRole (Fin.ofNat 128 (fld c 8 7))
    (role == 1 && decide (fld c 0 4 < 8)) || (role == 2 && decide (13 ≤ fld c 0 4))
  else
    let r := fld (s.getReg 0x0070B4) 0 14
    s.ringClass r == 0 && s.ringEsize r == 0

/-- A packet is dropped: counted, or, an overflow packet, its count kept for the next one. -/
def State.traceDrop (s : State) (lost : Nat) : State :=
  if lost = 0 then (s.countIrq .debug 0x0B8 1).modDebug (fun d => { d with traceLost := d.traceLost + 1 })
  else s.modDebug (fun d => { d with traceLost := d.traceLost + lost })

/-- A packet goes to a port that has room for it, or is dropped. -/
def State.tracePort (s : State) (lost : Nat) (bytes : List Byte) : State :=
  let n : Fin 128 := Fin.ofNat 128 (fld s.trcfg 8 7)
  let cls := fld s.trcfg 0 4
  if s.pageEn (.link n) && !s.frozen (.link n) && s.portUp n && decide (1 ≤ txCredit s.ports[n] cls) then
    s.transmit n (.data cls (portWordsOfBytes 1 bytes))
  else s.traceDrop lost

/-- The first packet on its way to a ring is written, or dropped; one that must wait for its memory stays. -/
def State.traceWrite (s : State) : State :=
  match s.dbg.traceQ with
  | [] => s
  | (r, lost, bytes) :: rest =>
    let pop := fun (s : State) => s.modDebug (fun d => { d with traceQ := rest })
    s.access (ringPut r bytes) (fun p s => match p with | .done _ => pop s | _ => (pop s).traceDrop lost) (fun s => (pop s).traceDrop lost)

/-- Write trace packets in order, until one must wait. -/
def traceDrain : Nat → State → State
  | 0, s => s
  | k + 1, s =>
    let t := s.traceWrite
    if t.dbg.traceQ.length < s.dbg.traceQ.length then traceDrain k t else t
/-- The trace packets that can be written are written; no writer waits for that (R415; DESIGN CHOICE, log entry 125). -/
def State.traced (s : State) : State := traceDrain s.dbg.traceQ.length s

/-- One packet goes to the sink. -/
def State.tracePacket (s : State) (lost : Nat) (bytes : List Byte) : State :=
  if bitAt s.trcfg 30 then s.tracePort lost bytes
  else (s.modDebug (fun d => { d with traceQ := d.traceQ ++ [(fld (s.getReg 0x0070B4) 0 14, lost, bytes)] })).traced

/-- The bytes of a packet: BEATNO and a fine time, port, kind, engine or master, data. The fine time is a free value (R316). -/
def State.packet (s : State) (fine : Byte) (port kind who : Nat) (data : Word) : List Byte :=
  let (b, f) := s.fineStamp s.timeNow.beat fine
  bytesLE 8 (b.toNat % 2 ^ 56 * 256 + f) ++ [BitVec.ofNat 8 port, BitVec.ofNat 8 kind] ++ bytesLE 2 (who % 512) ++ bytesLE 4 data.toNat

/-- A packet, behind an overflow packet that tells how many were dropped before it. What a release has in place of data is not given: a free
value. -/
def State.traceSend (s : State) (port kind who : Nat) (data : Word) : State :=
  let i := s.freeIndex
  let lost := s.dbg.traceLost
  let s := s.drew 4
  let s := if lost = 0 then s
    else (s.modDebug (fun d => { d with traceLost := 0 })).tracePacket lost
      (s.packet (freeByte i) 0 4 (Config.freeWord (i + 1)).toNat (BitVec.ofNat 32 lost))
  s.tracePacket 0 (s.packet (freeByte (i + 2)) port kind who (if kind = 3 then Config.freeWord (i + 3) else data))

/-- A packet of a stimulus, a halt or a release, while trace is on; an invalid sink sets TRCFG.ERR (R415). -/
def State.trace (s : State) (port kind who : Nat) (data : Word) : State :=
  if !bitAt s.trcfg 31 then s
  else if !s.sinkOk then
    let s := s.modDebug (fun d => { d with traceErr := true })
    if bitAt s.trcfg 30 then s.traceDrop 0 else s
  else s.traceSend port kind who data

/-- A halt or a release is traced while HEV = 1. -/
def State.traceRun (s : State) (kind : Nat) (e : Fin 257) (data : Word) : State :=
  if bitAt s.trcfg 29 then s.trace 0 kind e.val data else s

/-! ### Halt requests and release (R404, R406) -/

/-- The causes for which a halt of engine e is requested, the freeze among them (R404, R410). -/
def State.haltCauses (s : State) (e : Fin 257) : List Nat :=
  s.engines[e].haltReq ++ (if s.frozen (enginePage e) then [6] else [])
/-- A halt request. -/
def State.haltRequest (s : State) (e : Fin 257) (cause : Nat) : State :=
  s.modEng e (fun g => if g.haltReq.contains cause then g else { g with haltReq := g.haltReq ++ [cause] })

/-- A halted engine goes on at DPC, or enters STOPPED where RUN or EN has been cleared (R203, R406). -/
def State.engRelease (s : State) (e : Fin 257) (step : Bool) : State :=
  if s.engines[e].run = .halted then
    let stop := s.stopDue e
    let s := s.modEng e (fun g =>
      let g := { g with haltCause := 0, stepping := step, wdg := { g.wdg with released := true } }
      if stop then g.stopped else { g with run := .running })
    let s := s.traceRun 3 e 0
    if step && !stop then s.haltRequest e 4 else s
  else s

/-- The Prompter is feeding engine e. -/
def State.prompting (s : State) (e : Fin 257) : Bool := match s.dbg.prompt with | some (x, _) => x == e | none => false

/-- RESUME: releases a halted engine, but for cause 6 under the freeze; withdraws the pending request of another. It waits for a Prompter
instruction in progress (R406). -/
def State.engResume (s : State) (e : Fin 257) : State :=
  if s.engines[e].run = .halted then
    if s.prompting e then s.modDebug (fun d => { d with resumeHeld := some false })
    else if s.engines[e].haltCause = 6 ∧ s.frozen (enginePage e) then s else s.engRelease e false
  else s.modEng e (fun g => { g with haltReq := [] })

/-- Engines of a selection field: an engine, the House engine, or all Cue engines (R416). -/
def selEngines (sel : BitVec 9) : List (Fin 257) :=
  if sel.toNat = 511 then (List.finRange 257).filter (fun e => e.val < 256)
  else match engineNo sel.toNat with | some e => [e] | none => []

/-! ### Bells (R412) -/

/-- Engine e is a ringer (`hear` false) or a listener of bell b. -/
def State.bellMember (s : State) (hear : Bool) (b : Nat) (e : Fin 257) : Bool :=
  if e.val = 256 then bitAt (s.getReg 0x0070BC) (b + 8 * b2n hear)
  else bitAt (s.getReg (0x007200 + 0x20 * b2n hear + 0x40 * b + 4 * (e.val / 32))) (e.val % 32)

/-- The bells of a mask ring: BELLSEEN, the freeze, and a request of cause 5 in each listener that is not HALTED. -/
def State.ringBells (s : State) (mask : Nat) : State :=
  if !bitAt (s.getReg 0x00715C) 0 then s
  else
    let s := (s.orReg 0x00705C (BitVec.ofNat 32 (mask % 256))).modDebug (fun d => { d with rung := d.rung ||| BitVec.ofNat 8 mask })
    (List.finRange 257).foldl (fun s e =>
      if s.engines[e].run != .halted && (List.range 8).any (fun b => (mask >>> b) % 2 == 1 && s.bellMember true b e) then s.haltRequest e 5
      else s) s

/-- An engine enters HALTED: HALTED, the reservation lost, the packet, the interrupt, its bells but for cause 5 (R405, R412). -/
def State.haltEntered (s : State) (e : Fin 257) (cause : Nat) : State :=
  let s := s.modEng e (fun g =>
    { g with
      run := .halted, haltCause := cause, haltReq := [], mstack := [], reserved := none, micro := false, stepping := false, inInstr := false
      oldStore := [], oldWin := [] })
  let s := (s.traceRun 2 e (BitVec.ofNat 32 cause)).irq .debug 0
  if cause = 5 then s
  else s.ringBells (((List.range 8).filter (fun b => s.bellMember false b e)).map (fun b => 2 ^ b)).sum

/-! ### The freeze (R410) -/

/-- The freeze has ended, or a page has left it: halts of cause 6 end, PREPAREs and RAISEs that waited go on (R163,
R406). -/
def State.freezeEnds (s : State) : State :=
  let s := (List.finRange 257).foldl (fun s e =>
    if s.engines[e].haltCause = 6 ∧ !s.frozen (enginePage e) then s.engRelease e false else s) s
  if s.frozen .wings then s else (List.finRange 8).foldl (fun s t => (s.prepareAsk t).raiseAccept t) s

/-- A write of FREEZE. -/
def State.freezeWrite (s : State) (data : Word) : State :=
  let s := s.setReg 0x007050 (data &&& 0xFF01)
  let s := if bitAt data 0 then s else s.modDebug (fun d => { d with rung := 0 })
  if s.freezeOn then s else s.freezeEnds

/-- PAGE_STAT.FROZEN: the unit has stopped under the freeze (R26, R410). -/
def State.frozenStat (s : State) (p : Page) : Bool :=
  s.frozen p && (match p with
    | .cue e => s.engines[(⟨e.val, by omega⟩ : Fin 257)].run != .running && s.engines[(⟨e.val, by omega⟩ : Fin 257)].run != .intermission
    | .house => s.engines[houseNo].run != .running && s.engines[houseNo].run != .intermission
    | _ => true)

/-! ### Level (R401) -/

/-- The default debug level of an effective life-cycle code (R369). -/
def defaultLevel (lc : Option (BitVec 8)) : Nat :=
  match lc with
  | some 0x00 | some 0x03 => 2
  | some 0x3F => 1
  | _ => 0

/-- A master reset of the Stagehand (R310). -/
def State.stagehandReset (s : State) : State :=
  (s.masterReset 17).modDebug (fun d =>
    { d with shBusy := false, daccStatus := if d.shBusy && d.daccStatus == 1 then 0 else d.daccStatus })

/-- ATTACH has cleared, as the state before it says: units in emulated retention, or about to enter it, need `pd_ret_req` from now on (R394,
R439). -/
def State.detach (s before : State) : State :=
  if before.attached && !s.attached && !(s.retained.isEmpty && s.entering.isEmpty) then { s with retReq := true } else s

/-- LEVEL takes a value. Below Full the debugger's halts are released, the freeze ends and the Stagehand is reset; at 0 ATTACH clears
(R401). -/
def State.setLevel (s : State) (lvl : Nat) : State :=
  let was := s.dbg.level
  let old := s
  let s := s.modDebug (fun d => { d with level := lvl })
  let s := if 2 ≤ was ∧ lvl < 2 then
      let s := (List.finRange 257).foldl State.engResume ((s.setReg 0x007050 0).modDebug (fun d => { d with rung := 0 }))
      s.freezeEnds.stagehandReset
    else s
  if lvl = 0 then (s.modReg 0x007044 (fun w => putBit w 0 false)).detach old else s

end Sys2Proof.Machine
end

