-- ==== Sys2Proof/Machine/Trust.lean ====
section
/-!
DEFINITION. The Trust unit (R367 to R382): life cycle, root secret and keys, tamper, boot, measurements, quotes.
-/
namespace Sys2Proof.Machine

/-! ### Life cycle (R367 to R369) -/

/-- The index of a state's code; none for a value that names no state. -/
def lcIndex (c : BitVec 8) : Option Nat :=
  match c.toNat with | 0x00 => some 0 | 0x03 => some 1 | 0x0F => some 2 | 0x3F => some 3 | 0xFF => some 4 | _ => none
/-- The index of the effective state; BLANK's until a value has been taken. -/
def Trust.index (t : Trust) : Nat := (t.lc.bind lcIndex).getD 0
/-- States in which the root secret is requested, and quotes are served. -/
def Trust.keyed (t : Trust) : Bool := t.index == 1 || t.index == 2 || t.index == 3
/-- LCERR sets. -/
def State.lcError (s : State) : State := (s.modTrust (fun t => { t with lcerr := true })).irq .trust 3

/-! ### Measurements (R372, R377) -/

/-- The hash unit hashes `n` blocks (R391). -/
def State.shaUse (s : State) (n : Nat) : State := s.useMgmt 9000 n
/-- The address of MEASi. -/
def measAddr (i : Nat) : Nat := 0x006100 + 0x30 * i
/-- The bytes of `n` registers from an address. -/
def State.regBytes (s : State) (addr n : Nat) : List Byte := (List.range n).flatMap (fun w => bytesLE 4 (s.regN (addr + 4 * w)))
/-- Bytes into registers from an address, four to each. -/
def State.setRegBytes (s : State) (addr : Nat) (b : List Byte) : State :=
  ((wordsOfBytes (b.length / 4) b).zipIdx).foldl (fun s w => s.setReg (addr + 4 * w.2) w.1) s
/-- MEAS0 to MEAS7. -/
def State.measBytes (s : State) : List Byte := s.regBytes (measAddr 0) 96
/-- LOGCNT. -/
def State.logcnt (s : State) : Nat := s.regN 0x006054

/-- Bytes written in place with valid check bits, by the block itself. -/
def State.putBytes (s : State) (pa : Nat) (b : List Byte) : State :=
  ((wordsOf 16 pa b.length).foldl (fun s w => s.setErr w none) (s.setBytes pa (b.map some))).loseReservations
    ((wordsOf 16 pa b.length).map (· / 16)) none

/-- An extend: MEASi = SHA-384(MEASi ‖ digest), a log entry while there is room, LOGCNT (R372, R377). -/
def State.extend (s : State) (i : Nat) (digest : List Byte) (src idx len : Nat) : State :=
  let m := sha384 (s.regBytes (measAddr i) 12 ++ digest)
  let s := (s.setRegBytes (measAddr i) m).shaUse 1
  let n := s.logcnt
  let s := if n < 4096 then
      s.putBytes (0x403C0000 + 64 * n)
        (digest ++ [BitVec.ofNat 8 i, BitVec.ofNat 8 src] ++ bytesLE 2 idx ++ bytesLE 4 len ++ bytesLE 8 s.beatno.toNat)
    else s
  let s := s.setReg 0x006054 (BitVec.ofNat 32 (n + 1))
  if n + 1 = 4096 then (s.modTrust (fun t => { t with logfull := true })).irq .trust 4 else s

/-- Measure bytes: their digest extends MEASi. -/
def State.measure (s : State) (i : Nat) (b : List Byte) (src idx : Nat) : State :=
  (s.shaUse (shaBlockCount b.length)).extend i (sha384 b) src idx b.length

/-! ### Boot (R372 to R376) -/

/-- Boot reaches its final state: record 0, its grant. -/
def State.bootEnd (s : State) (stage : BootStage) (st : OpState) (code detail : Nat) : State :=
  ((s.modTrust (fun t => { t with boot := stage })).withdraw .boot).cbEnd 0 st code detail
/-- Boot fails with a reason and the image concerned, 0xFFF for the descriptor (R375). -/
def State.bootFail (s : State) (reason idx : Nat) : State :=
  s.bootEnd .failed .failed opDeviceError (reason * 2 ^ 16 + idx % 4096)

/-- BOOTCMD.GO takes effect: record 0 asks for its power. -/
def State.bootGo (s : State) : State :=
  match (s.cbEnter 0 .permitWait).askPermit .boot 300 2 false with
  | (.refused, s) => s.bootEnd .failed .failed opPermitRefused 0
  | (_, s) => s.modTrust (fun t => { t with boot := .waitPermit })

/-- Steps 3 and 4: END fails boot, with no image concerned; otherwise the boot ROM is measured, and boot waits for GO. -/
def State.bootRom (s : State) : State :=
  if s.trust.index = 4 then
    (s.drew 1).bootFail 0x06 (Config.freeWord s.freeIndex).toNat
  else
    let s := (s.measure 0 ((List.range 262144).map Config.bootRom) 0x00 0).loadBase
    let s := s.modTrust (fun t => { t with boot := .waitGo })
    if s.trust.goHeld then s.bootGo else s

/-- Steps 1 and 2, once the wipe is over and the life-cycle state is known: the root secret is requested in the states that have
keys. -/
def State.bootAdvance (s : State) : State :=
  if s.trust.boot = .wipe ∧ !s.wiping ∧ s.trust.lc.isSome then
    let s := (s.setRegBytes (measAddr 0) (List.replicate 384 0)).setReg 0x006054 0
    if s.trust.keyed ∧ !s.trust.noKeys then s.modTrust (fun t => { t with boot := .secret, secretReq := true, rs := [] })
    else s.bootRom
  else s

/-- The secret has come, or will not: the request falls, boot goes on with step 3 (R370). -/
def State.secretEnd (s : State) : State :=
  (s.modTrust (fun t => { t with secretReq := false, rs := [] })).bootRom

/-- SECRET_WORD: the twelfth word lets the keys be derived and written to the Secure Bank (R370). -/
def State.secretWord (s : State) (w : Word) : State :=
  if !s.trust.secretReq then s
  else
    let rs := s.trust.rs ++ [w]
    if rs.length < 12 then s.modTrust (fun t => { t with rs })
    else if s.trust.noKeys then s.secretEnd
    else
      let key := bytesOfWords rs
      let l := [s.trust.lc.getD 0]
      let s := (s.putBytes 0x48000000 (hmac384 key (ascii "G9-ATTEST" ++ l))).putBytes 0x48000040 (hmac384 key (ascii "G9-DEBUG" ++ l))
      ((s.shaUse (hmacBlocks 10 + hmacBlocks 9)).modTrust (fun t => { t with keys := true })).secretEnd

/-- SECRET_TIMEOUT: no word has come (R370). -/
def State.secretTimeout (s : State) : State :=
  if s.trust.secretReq ∧ s.trust.rs = [] then (s.modTrust (fun t => { t with sectmo := true })).secretEnd else s

/-- A field of the descriptor, little-endian. -/
def descField (d : List Byte) (off n : Nat) : Nat := natLE ((d.drop off).take n)
/-- A field of entry i. -/
def entryField (d : List Byte) (i off n : Nat) : Nat := descField d (64 + 32 * i + off) n
/-- The header is right (R373). -/
def headerOk (d : List Byte) : Bool :=
  descField d 0 4 == 0x44423947 && descField d 4 2 == 1 && decide (1 ≤ descField d 6 2 ∧ descField d 6 2 ≤ 64)
    && (((d.drop 12).take 52).all (· == 0))
/-- An image fits its target (R373 to R375). -/
def imageFits (d : List Byte) (i : Nat) : Bool :=
  let len := entryField d i 4 4
  let h := entryField d i 8 8
  let t := entryField d i 16 8
  let n := len / 16
  decide (16 ≤ len ∧ len ≤ 2 ^ 27) && len % 16 == 0 && h % 16 == 0 && decide (h + len ≤ 2 ^ 39) &&
  (match entryField d i 0 1 with
    | 1 => decide (0x400 ≤ t % 2048 ∧ t % 2048 + n ≤ 2048)
    | 2 => decide (t % 256 ≤ t / 256 % 256) && decide (0x400 ≤ t / 2 ^ 16 % 2048 ∧ t / 2 ^ 16 % 2048 + n ≤ 2048)
    | 3 => decide (t % 16 ≤ t / 16 % 16) && decide (t / 256 % 2 ^ 14 + n ≤ 16384)
    | 4 =>
      let pa := t % 2 ^ 40
      pa % 16 == 0 && (match regionOf pa, regionOf (pa + len - 1) with
        | some (a, _), some (b, _) => a == b && (match a with | .em | .cluster _ | .house => true | _ => false)
        | _, _ => false)
    | _ => true)
/-- The fault of entry i, if it has one: its reason (R375). -/
def entryFault (d : List Byte) (i : Nat) : Option Nat :=
  let k := entryField d i 0 1
  let m := entryField d i 1 1
  if k = 0 ∨ 5 < k ∨ m = 0 ∨ 7 < m then some 0x02 else if imageFits d i then none else some 0x03

/-- Step 6: the descriptor is checked, measured and kept. -/
def State.bootDescriptor (s : State) (d : List Byte) : State :=
  if d.length < 64 then s
  else if !headerOk d then s.bootFail 0x01 0xFFF
  else
    let n := descField d 6 2
    if d.length ≠ 64 + 32 * n then s
    else match (List.range n).findSome? (fun i => (entryFault d i).map (fun r => (i, r))) with
      | some (i, r) => s.bootFail r i
      | none =>
        let s := s.measure 0 d 0x0F 0
        (s.cbReport 0 (fun v => { v with total := BitVec.ofNat 32 n })).modTrust (fun t => { t with boot := .images, desc := d, image := 0 })

/-- An image goes to its target (R374). -/
def State.loadImage (s : State) (d : List Byte) (i : Nat) (b : List Byte) : State :=
  let t := entryField d i 16 8
  let ws := (portWordsOfBytes (b.length / 16) b).zipIdx
  match entryField d i 0 1 with
  | 1 => ws.foldl (fun s w => s.setCsWord 256 (t % 2048 + w.2) w.1) s
  | 2 => (List.range 256).foldl (fun s e =>
      if t % 256 ≤ e ∧ e ≤ t / 256 % 256 then ws.foldl (fun s w => s.setCsWord e (t / 2 ^ 16 % 2048 + w.2) w.1) s else s) s
  | 3 => (List.finRange 16).foldl (fun s c =>
      if t % 16 ≤ c.val ∧ c.val ≤ t / 16 % 16 then
        ws.foldl (fun s w =>
          let j := t / 256 % 2 ^ 14 + w.2
          (s.setSsWord c j w.1).touch 3 ((16384 * c.val + j) / 256) ((16384 * c.val + j) / 256) none) s
      else s) s
  | 4 => s.putBytes (t % 2 ^ 40) b
  | _ => s

/-- Step 8: record 0 is DONE; WIN6 and WIN7 are disabled; Cue Code starts at HSTART in House mode with IE = 0. -/
def State.bootDone (s : State) : State :=
  let start := BitVec.ofNat 32 (descField s.trust.desc 8 4)
  let s := (s.modReg 0x30016C (fun w => putBit w 31 false)).modReg 0x30017C (fun w => putBit w 31 false)
  (s.bootEnd .done .done opOk 0).modEng houseNo (fun g => g.started start)

/-- Step 7: the next image, read, loaded, measured and counted. -/
def State.bootImage (s : State) (b : List Byte) : State :=
  let i := s.trust.image
  let d := s.trust.desc
  if b.length ≠ entryField d i 4 4 then s
  else
    let k := entryField d i 0 1
    let s := (s.loadImage d i b).measure (entryField d i 1 1) b k i
    let more := decide (i + 1 < descField d 6 2)
    let s := (s.cbReport 0 (fun v => { v with
      progress := BitVec.ofNat 32 (i + 1), partials := BitVec.ofNat 32 (if more then i + 1 else i) })).modTrust (fun t => { t with image := i + 1 })
    if more then s else s.bootDone

/-- The host address from which the House engine reads next: BOOTADDR for the descriptor, HADDR for an image (R372, R373). -/
def State.bootFrom (s : State) : Option Nat :=
  match s.trust.boot with
  | .descriptor => some (s.regN 0x006048 + s.regN 0x00604C * 2 ^ 32)
  | .images => some (entryField s.trust.desc s.trust.image 8 8)
  | _ => none

/-- BOOT_IMAGE_LOAD: the host's data from that address on, for the descriptor or for the next image; none: an error response, which every read
beyond the outbound window's 512 GiB receives too (R295, R372, R375; log entry 131). -/
def State.bootData (s : State) (b : Option (List Byte)) : State :=
  match s.bootFrom, b.filter (fun d => s.bootFrom.all (fun a => decide (a + d.length ≤ 2 ^ 39))) with
  | none, _ => s
  | some _, none => s.bootFail 0x04 (if s.trust.boot = .descriptor then 0xFFF else s.trust.image)
  | some _, some d => if s.trust.boot = .descriptor then s.bootDescriptor d else s.bootImage d

/-- A write of BOOTCMD (R372). -/
def State.bootcmdWrite (s : State) (data : Word) : State :=
  if !bitAt data 0 then s
  else match s.trust.boot with
    | .wipe | .secret => s.modTrust (fun t => { t with goHeld := true })
    | .waitGo => s.bootGo
    | _ => s

/-- The grant of boot. -/
def State.bootGranted (s : State) : State := (s.modTrust (fun t => { t with boot := .descriptor })).cbEnter 0 .running

/-- The Secure Bank wipe completes (R302); at boot's first step, boot goes on. -/
def State.wipeDone (s : State) : State := { s with wiping := false }.bootAdvance

/-! ### Later measurements (R378) -/

/-- The House engine is Dark (R270). -/
def State.houseDark (s : State) : Bool := s.engines[houseNo].run == .dark

/-- EXTCMD: MEAS[MIDX] is extended with EXTDIG; MIDX = 0 is ignored. How many bytes it measured is not given. -/
def State.houseExtend (s : State) (data : Word) : State :=
  let i := fld data 16 3
  if i = 0 then s
  else (s.drew 1).extend i (s.regBytes 0x0060C0 12) 0x20 (fld data 0 16) (Config.freeWord s.freeIndex).toNat

/-- PAGE_MEASUREMENT: the first changed shared-store page, in cluster and page order, goes into MEAS7 once boot is done. -/
def State.pageMeasure (s : State) : State :=
  if s.trust.boot ≠ .done ∨ s.houseDark then s
  else match s.trust.pages.min? with
    | none => s
    | some p =>
      let b := (List.range 256).flatMap (fun i => bytesLE 16 (s.ssWord (p / 64) (256 * (p % 64) + i)).toNat)
      (s.modTrust (fun t => { t with pages := t.pages.filter (· ≠ p) })).measure 7 b 0x10 p

/-! ### Quotes (R379, R380) -/

/-- Bytes 0x000 to 0x1BF of a quote. -/
def State.quoteBody (s : State) (who : QuoteFor) (nonce : List Byte) : List Byte :=
  bytesLE 4 0x51543947 ++ bytesLE 4 0x47390902 ++ bytesLE 2 s.devno ++ [s.trust.lc.getD 0] ++
    [(match who with | .host => 0 | .debugger => 1 | .peer _ => 2 : Byte)] ++ bytesLE 4 s.logcnt ++ bytesLE 8 s.beatno.toNat ++ bytesLE 8 0 ++
    nonce ++ s.measBytes

/-- A quote ends. -/
def State.quoteEnd (s : State) (q : Quote) (st : OpState) (code detail : Nat) : State :=
  let s := (s.modTrust (fun t => { t with
    quotes := t.quotes.filter (fun x => x.cb ≠ q.cb), hostRec := if t.hostRec = some q.cb then none else t.hostRec })).withdraw (.quote q.cb)
  let s := s.cbEnd q.cb st code detail
  if q.who = .host then s.irq .trust 1 else s

/-- A quote starts: its record, QUEUED while the House engine is Dark (R270); refused without keys or in a state without quotes, else it asks for its power. -/
def State.quoteStart (s : State) (who : QuoteFor) (nonce : List Byte) : Option (Fin 64) × State :=
  match s.cbStart 2 (match who with | .debugger => .debug | _ => .trust) with
  | (none, s) => (none, s)
  | (some r, s) =>
    let s := s.cbReport r (fun v => { v with total := 8 })
    let q : Quote := { cb := r, who, nonce, snap := none }
    if s.houseDark then (some r, s.modTrust (fun t => { t with quotes := t.quotes ++ [q], hostRec := if who = .host then some r else t.hostRec }))
    else if !s.trust.keys || !s.trust.keyed then (some r, s.quoteEnd q .failed opDeviceError (0x07 * 2 ^ 16))
    else
      let s := s.modTrust (fun t => { t with quotes := t.quotes ++ [q], hostRec := if who = .host then some r else t.hostRec })
      match (s.cbEnter r .permitWait).askPermit (.quote r) 50 0 false with
      | (.refused, s) => (some r, s.quoteEnd q .failed opPermitRefused 0)
      | (_, s) => (some r, s)

/-- The grant of a quote: LOGCNT, BEATNO and MEAS are those of now. -/
def State.quoteGranted (s : State) (r : Fin 64) : State :=
  (s.modTrust (fun t => { t with quotes := t.quotes.map (fun q =>
    if q.cb = r then { q with snap := some (s.quoteBody q.who q.nonce) } else q) })).cbEnter r .running

/-- The nonce that NONCE0 to NONCE7 hold. -/
def State.hostNonce (s : State) : List Byte := s.regBytes 0x006080 8

/-- 64-bit fields of bytes. -/
def fields64 (b : List Byte) : Nat → List Word64
  | 0 => []
  | n + 1 => BitVec.ofNat 64 (natLE (b.take 8)) :: fields64 (b.drop 8) n

/-- A write of QCTRL (R380): ignored while the host's previous quote is not final; a quote of a peer is refused as any other without keys or in
a state without quotes. -/
def State.qctrlWrite (s : State) (data : Word) : State :=
  if bitAt data 31 && s.trust.hostRec.isSome then s
  else
    let s := s.setReg 0x006058 (data &&& 0x400001FF)
    if !bitAt data 31 then s
    else if !bitAt data 30 then
      let (r, s) := s.quoteStart .host s.hostNonce
      s.setRec 0x00605C r
    else match s.cbStart 2 .trust with
      | (none, s) => s.setRec 0x00605C none
      | (some r, s) =>
        let s := (s.setRec 0x00605C (some r)).cbReport r (fun v => { v with total := 8 })
        if !s.trust.keys || !s.trust.keyed then (s.cbEnd r .failed opDeviceError (0x07 * 2 ^ 16)).irq .trust 1 else
        let s := s.cbEnter r .running
        let s := s.modTrust (fun t => { t with hostRec := some r, peerRec := some r, peerBeat := s.beatno, peerHalves := 0 })
        s.sendPeer { cls := 12, kind := 1, dest := fld data 0 9, fields := fields64 s.hostNonce 4, len := 3 }

/-- The host's request to a peer ends. -/
def State.peerQuoteEnd (s : State) (r : Fin 64) (st : OpState) (code : Nat) : State :=
  (((s.modTrust (fun t => { t with hostRec := none, peerRec := none })).cbEnd r st code 0)).irq .trust 1

/-- QREQ: a peer's request, dropped and counted beyond 8 waiting or without a record (R380). -/
def State.qreqArrives (s : State) (src : BitVec 9) (nonce : List Word128) : State :=
  let waits := countIf (fun q : Quote => match q.who with | .peer _ => true | _ => false) s.trust.quotes
  if !s.sysEn then s
  else if 8 ≤ waits then s.incReg 0x006060
  else match s.quoteStart (.peer src) ((bytesOfPortWords nonce).take 32) with
    | (none, s) => s.incReg 0x006060
    | (some _, s) => s

/-- QRESP0 or QRESP1 within 65,536 beats of the request: half of the peer's record; both halves end the request (R380). -/
def State.qrespArrives (s : State) (half : Bool) (words : List Word128) : State :=
  match s.trust.peerRec with
  | none => s
  | some r =>
    if words.length ≠ 16 ∨ !s.sysEn ∨ 65536 ≤ (s.beatno - s.trust.peerBeat).toNat then s
    else
      let s := s.setRegBytes (0x006800 + 256 * b2n half) (bytesOfPortWords words)
      let h := s.trust.peerHalves ||| (1 <<< b2n half)
      let s := s.modTrust (fun t => { t with peerHalves := h })
      if h = 3 then (s.cbReport r (fun v => { v with progress := 8 })).peerQuoteEnd r .done opOk else s

/-- QUOTE_TIMEOUT: no answer within 65,536 beats. -/
def State.quoteTimeout (s : State) : State :=
  match s.trust.peerRec with
  | some r => if 65536 ≤ (s.beatno - s.trust.peerBeat).toNat then s.peerQuoteEnd r .failed opTimeout else s
  | none => s

/-- Where a finished quote goes. -/
def State.quoteDeliver (s : State) (q : Quote) (b : List Byte) : State :=
  match q.who with
  | .host => s.setRegBytes 0x006800 b
  | .debugger => s.setRegBytes 0x007800 b
  | .peer src =>
    (s.sendPeer { cls := 12, kind := 2, dest := src.toNat, fields := fields64 b 32, len := 17 }).sendPeer
      { cls := 12, kind := 3, dest := src.toNat, fields := fields64 (b.drop 256) 32, len := 17 }

/-- QUOTE_COMPLETE: the oldest running quote is signed with AK (R379). -/
def State.quoteComplete (s : State) : State :=
  match s.trust.quotes.find? (fun q => q.snap.isSome) with
  | none => s
  | some q =>
    if s.callboard[q.cb].abort then s.quoteEnd q .aborted opAbortReq 0
    else
      let body := q.snap.getD []
      let rec_ := body ++ hmac384 (s.bytesAt 0x48000000 48) body ++ List.replicate 16 0
      let s := (s.shaUse (hmacBlocks 448)).quoteDeliver q rec_
      (s.cbReport q.cb (fun v => { v with progress := 8 })).quoteEnd q .done opOk 0

/-- ABORT of a quote that does not run yet: at once (R39). -/
def State.quoteAbortRec (s : State) (r : Fin 64) : State :=
  let s := match s.trust.quotes.find? (fun q => q.cb == r && q.snap.isNone) with
    | some q => s.quoteEnd q .aborted opAbortReq 0
    | none => s
  if s.trust.peerRec = some r then s.peerQuoteEnd r .aborted opAbortReq else s

/-- Every quote in progress fails: its key is gone (R371). -/
def State.quotesFail (s : State) : State :=
  s.trust.quotes.foldl (fun s q => s.quoteEnd q .failed opDeviceError (0x07 * 2 ^ 16)) s

/-- The House engine goes Dark: boot and every quote in progress fail (R270). -/
def State.houseWorkFails (s : State) : State :=
  let s := s.trust.quotes.foldl (fun s q => s.quoteEnd q .failed opDeviceError 0) s
  match s.trust.boot with
  | .done | .failed => s
  | _ => (s.modTrust (fun t => { t with secretReq := false, rs := [] })).bootEnd .failed .failed opDeviceError 0

/-! ### Life-cycle changes and tamper (R368, R371) -/

/-- KEYS clears, the Secure Bank is wiped, no key can be derived any more, what uses the keys fails. -/
def State.loseKeys (s : State) : State :=
  let s := (s.wipeStart.modTrust (fun t => { t with keys := false, noKeys := true, rs := [] })).quotesFail
  if s.trust.boot = .secret then s.secretEnd else s

/-- A stable value of `lc_state` (R367, R368, R401). -/
def State.lifeCycle (s : State) (code : BitVec 8) : State :=
  let s' := if (lcIndex code).isNone then s.lcError else s
  let c : BitVec 8 := if (lcIndex code).isNone then 0xFF else code
  match s.trust.lc with
  | none => ((s'.modTrust (fun t => { t with lc := some c })).setLevel (defaultLevel (some c))).bootAdvance
  | some old =>
    if (lcIndex old).getD 0 < (lcIndex c).getD 0 then
      ((s'.modTrust (fun t => { t with lc := some c })).irq .trust 3).loseKeys.setLevel (defaultLevel (some c))
    else if (lcIndex c).getD 0 < (lcIndex old).getD 0 then s'.lcError
    else s'

/-- A fall of `tamper_n` (R371, R401). -/
def State.tamperFalls (s : State) : State :=
  let s := if s.trust.tamper then s else (s.modTrust (fun t => { t with tamper := true })).irq .trust 2
  s.loseKeys.setLevel (defaultLevel s.trust.lc)

/-! ### Registers (R381) -/

/-- A write to a TRUST register with an effect of its own; none: a stored register. -/
def State.trustWrite (s : State) (off : Nat) (data : Word) : Option State :=
  match off with
  | 0x044 => some (s.modTrust (fun t => { t with tamper := t.tamper && !bitAt data 30, lcerr := t.lcerr && !bitAt data 28 }))
  | 0x050 => some (s.bootcmdWrite data)
  | 0x058 => some (s.qctrlWrite data)
  | 0x0F0 => some (s.houseExtend data)
  | _ => none

/-- The TRUST registers that are no stored words. -/
def State.trustRead (s : State) (off : Nat) : Option Word :=
  let t := s.trust
  match off with
  | 0x040 => some (BitVec.ofNat 32 (t.index * 256 + (t.lc.getD 0).toNat))
  | 0x044 => some (BitVec.ofNat 32 (b2n t.keys * 2 ^ 31 + b2n t.tamper * 2 ^ 30 + b2n t.sectmo * 2 ^ 29 + b2n t.lcerr * 2 ^ 28 + b2n t.logfull * 2 ^ 27))
  | _ => none

/-! ### Commands -/

/-- WIPE_COMPLETE (R302, R372). -/
def execWipeComplete (s : State) : Out := .next s.wipeDone
/-- LIFE_CYCLE_CHANGE (R368). -/
def execLifeCycleChange (code : BitVec 8) (s : State) : Out := .next (s.lifeCycle code)
/-- SECRET_WORD (R370). -/
def execSecretWord (w : Word) (s : State) : Out := .next (s.secretWord w)
/-- SECRET_TIMEOUT (R370). -/
def execSecretTimeout (s : State) : Out := .next s.secretTimeout
/-- TAMPER (R371). -/
def execTamper (s : State) : Out := .next s.tamperFalls
/-- BOOT_IMAGE_LOAD (R372). -/
def execBootImageLoad (bytes : Option (List Byte)) (s : State) : Out := .next (s.bootData bytes)
/-- PAGE_MEASUREMENT (R378). -/
def execPageMeasurement (s : State) : Out := .next s.pageMeasure
/-- QREQ (R380). -/
def execQreq (src : BitVec 9) (nonce : List Word128) (s : State) : Out := .next (s.qreqArrives src nonce)
/-- QRESP (R380). -/
def execQresp (half : Bool) (words : List Word128) (s : State) : Out := .next (s.qrespArrives half words)
/-- QUOTE_TIMEOUT (R380). -/
def execQuoteTimeout (s : State) : Out := .next s.quoteTimeout
/-- QUOTE_COMPLETE (R379). -/
def execQuoteComplete (s : State) : Out := .next s.quoteComplete

end Sys2Proof.Machine
end

