-- ==== Sys2Proof/Machine/Fabric.lean ====
section
/-!
DEFINITION. Bursts of the Stagehand and of the Host Fabric inbound channel on the crossbar: which are refused whole, and how the others
come to wait at their target (R295, R296, R304, R305, R310).
-/
namespace Sys2Proof.Machine

/-- The target of register-space address `a`: the ring table or the register pages (R295). -/
def regTarget (a : Nat) : Nat := if 0x400000 ≤ a ∧ a < 0x500000 then 23 else 24
/-- The register address of a physical address in a register target. -/
def regOfPhys (pa : Nat) : Nat := pa - 0x7F000000
/-- A burst of 32-byte transfers starts on a 32-byte boundary and stays in 4 KiB (R304). -/
def burstShape (pa n : Nat) : Bool := pa % 32 == 0 && pa / 4096 == (pa + 32 * n - 1) / 4096
/-- A target takes an access of this direction from master `m` (17 or 19), the number of transfers apart (R296). -/
def targetTakes (r : Region) (write : Bool) : Bool :=
  match r with
  | .secure | .rom => false
  | .pattern | .chanmap | .staging _ => !write
  | _ => true

/-- What becomes of a burst of `n` transfers at its start: refused (and counted under R311 where R295 or R296 refuses it), or waiting
at target `t` with transfers of `size` bytes. A register target takes one transfer of 4 bytes, which a host's single beat is and a transfer of
the Stagehand in physical space is not (R296, R408, R429). -/
def State.burstCheck (s : State) (m : Nat) (write : Bool) (pa n : Nat) : Option (Nat × Nat) × State :=
  match regionOf pa with
  | none => (none, s.decErr m 31 pa)
  | some (r, _) =>
    if !hasPath m r.target || !targetTakes r write then (none, s.decErr m r.target pa)
    else if r = .rings ∨ r = .pages then
      (if n = 1 ∧ m = 19 then (some (r.target, 4), s) else (none, s.decErr m r.target pa))
    else if burstShape pa n then (some (r.target, 32), s)
    else (none, s)

/-- A burst joins those that wait; the bursts of a master to a target stay in issue order (R308). -/
def State.burstWaits (s : State) (b : Burst) : State := { s with bursts := s.bursts ++ [b] }

/-- A transfer of the Stagehand has ended: ERR, or DONE counts it. -/
def State.shTransfer (s : State) (err : Bool) : State :=
  s.modDebug (fun d => if err then { d with shErr := true } else { d with shDone := d.shDone + 1 })

/-- The Stagehand's transfers of a GO are over: STAGEHAND_DONE. -/
def State.shEnd (s : State) : State :=
  if s.dbg.shBusy && s.bursts.all (fun b => b.m != 17) then
    s.modDebug (fun d => { d with shBusy := false, daccStatus := if d.daccStatus = 1 then 0 else d.daccStatus })
  else s

/-- SHCTRL.GO: a burst in physical space, or single accesses in register space; ignored while BUSY (R408). A burst refused whole sets
ERR at once. -/
def State.shGo (s : State) (data : Word) : State :=
  if s.dbg.shBusy then s
  else
    let n := fld data 0 6 + 1
    let write := bitAt data 30
    let reg := bitAt data 28
    let lo := s.getReg 0x007160
    let pa := lo.toNat + 2 ^ 32 * fld (s.getReg 0x007164) 0 8
    let s := s.modDebug (fun d => { d with shBusy := true, shErr := false, shDone := 0, shWrite := write, shReg := reg })
    let bytes := fun size : Nat => if write then (s.regBytes 0x007800 (n * size / 4)).map some else []
    if reg then
      let a := fld lo 0 24 / 4 * 4
      s.burstWaits { m := 17, t := regTarget a, addr := a, left := n, size := 4, write, data := bytes 4, got := [], err := [], busy := [], tag := 0 }
    else match s.burstCheck 17 write pa n with
      | (none, s) => (s.shTransfer true).shEnd
      | (some (t, size), s) =>
        s.burstWaits { m := 17, t, addr := pa, left := n, size, write, data := bytes size, got := [], err := [], busy := [], tag := 0 }

/-! ### Ends of bursts (R310, R408, R427) -/

/-- SHBUF takes the bytes that a Stagehand read has brought (R408). -/
def State.shStore (s : State) (b : Burst) (from_ : Nat) : State :=
  if b.write then s
  else s.setRegBytes (0x007800 + from_) ((b.got.take (b.ended * b.size)).drop from_)

/-- The bytes of one 32-byte beat that carry a 4-byte register value at its place. -/
def regBeat (addr : Nat) (d : List Byte) : List Byte :=
  List.replicate (addr % 32) 0 ++ d ++ List.replicate (28 - addr % 32) 0

/-- A response of the inbound pair: one beat per read transfer; one for a write, its errors and BUSY together (R427, R429). -/
def State.inboundAnswer (s : State) (b : Burst) : State :=
  let r : InboundRsp := if b.write then { tag := b.tag, data := [], err := [b.err.any id], busy := [b.busy.any id] }
    else { tag := b.tag, data := if b.size = 4 then regBeat (b.addr - 4) b.got else b.got, err := b.err, busy := b.busy }
  if s.hfiRst then s else { s with inbound := s.inbound ++ [r] }

/-- Put a burst back, or end it; `k` transfers had ended before. What is left of a Stagehand burst whose own write reset the Stagehand is
withdrawn (R310). -/
def State.burstNext (s : State) (b : Burst) (k : Nat) : State :=
  if b.m = 17 && !s.dbg.shBusy then s
  else
    let s := if b.m = 17 then (((b.err.take b.ended).drop k).foldl State.shTransfer s).shStore b (k * b.size) else s
    if 0 < b.left then { s with bursts := { b with t := if b.size = 4 then regTarget b.addr else b.t } :: s.bursts }
    else if b.m = 19 then s.inboundAnswer b else s

/-! ### Answers (R422, R424) -/

/-- A request of the Host Register Port has its answer; the responses of the requests that then stand answered at the front go out, in request
order, with their identifiers as presented (R424). -/
def State.hrpAnswer (s : State) (seq : Nat) (r : Rsp) : State :=
  let q := s.hrpQ.map (fun x => if x.seq = seq then { x with answer := some r } else x)
  let out := (q.takeWhile (fun x => x.answer.isSome)).map (fun x =>
    let r := x.answer.getD {}
    ({ id := x.id, data := r.data, err := r.err } : HrpRsp))
  { s with hrpQ := q.dropWhile (fun x => x.answer.isSome), hrpOut := if out.isEmpty then s.hrpOut else out }.respond r

/-- An engine's oldest store, which waits for its acceptance edge, is acknowledged (R226, R422). -/
def State.storeAnswer (s : State) (e : Fin 257) (err : Bool) : State :=
  match s.engines[e].sbuf with
  | x :: _ => if x.island then (if err then s.lateError e x.va else s).storeLeft e else s
  | [] => s

/-- A burst's register write has its answer: the burst goes on. -/
def State.burstAnswer (s : State) (m : Nat) (err : Bool) : State :=
  match takeFirst (fun b : Burst => b.m == m && b.island) s.bursts with
  | some (b, rest) => { s with bursts := rest }.burstNext (b.after [] err) b.ended
  | none => s

/-- A register access is answered to where it came from. -/
def State.answer (s : State) (o : WriteFrom) (r : Rsp) : State :=
  match o with
  | .port seq => s.hrpAnswer seq r
  | .store e => s.storeAnswer e r.err
  | .burst m => s.burstAnswer m r.err
  | .none => s.respond r

end Sys2Proof.Machine
end

