-- ==== Sys2Proof/Machine/DebugRegs.lean ====
section
/-!
DEFINITION. The DEBUG page (R401, R402, R404, R406 to R408, R412 to R416): what writes do, what reads return, the level a scan-port access
needs.
-/
namespace Sys2Proof.Machine

/-! ### Aliases and levels (R401, R413, R414) -/

/-- The register that an offset of the DEBUG page names, the G7 aliases resolved (R413). -/
def g7Alias (off : Nat) : Nat :=
  if off = 0x1A0 then 0x15C
  else if off = 0x1A4 then 0x058
  else if 0x1C0 ≤ off ∧ off < 0x1E0 then 0x200 + 0x10 * (off - 0x1C0)
  else if 0x1E0 ≤ off ∧ off < 0x200 then 0x220 + 0x10 * (off - 0x1E0)
  else off

/-- The least level of a register, aliases resolved (R416). The header has none: 0. -/
def regLevel (off : Nat) : Nat :=
  if off ≤ 0x040 ∨ off = 0x048 ∨ off = 0x04C ∨ (0x060 ≤ off ∧ off < 0x0B0) then 0
  else if off = 0x050 ∨ off = 0x054 ∨ off = 0x058 ∨ off = 0x0BC ∨ (0x140 ≤ off ∧ off < 0x154) ∨ off = 0x15C ∨ (0x200 ≤ off ∧ off < 0x400) then 2
  else 1

/-- The level a scan-port access needs: SHCTRL with WRITE or RESET needs 2 (R408, R416). -/
def accessLevel (off : Nat) (write : Option Word) : Nat :=
  match write with
  | some d => if off = 0x168 ∧ (bitAt d 30 ∨ bitAt d 29) then 2 else regLevel off
  | none => regLevel off

/-! ### Challenge and response (R402) -/

/-- The debug key DK. -/
def State.debugKey (s : State) : List Byte := s.bytesAt 0x48000040 48
/-- CHALCMD acts. -/
def State.chalOk (s : State) : Bool := s.trust.keys && s.trust.index != 4 && !s.dbg.backoff && !s.dbg.lockout

/-- CHALCMD NEW. -/
def State.chalNew (s : State) : State :=
  if !s.chalOk then s
  else
    let c := (hmac384 s.debugKey (ascii "G9-CHAL" ++ bytesLE 8 s.dbg.ccount.toNat ++ bytesLE 8 s.beatno.toNat)).take 32
    ((s.setRegBytes 0x007060 c).shaUse (hmacBlocks 23)).modDebug (fun d => { d with ccount := d.ccount + 1, chalValid := true })

/-- A failed check: DFAIL and its event, the wait, the lockout at 16. -/
def State.chalFail (s : State) : State :=
  let n := fld (s.getReg 0x00704C) 0 5 + 1
  ((s.setReg 0x00704C (BitVec.ofNat 32 n)).irq .debug 2).modDebug (fun d => { d with backoff := true, lockout := d.lockout || decide (16 ≤ n) })

/-- CHALCMD CHECK. -/
def State.chalCheck (s : State) (lvl : Nat) : State :=
  if !s.chalOk then s
  else
    let s' := s.modDebug (fun d => { d with chalValid := false })
    if !s.dbg.chalValid || lvl = 0 || 3 ≤ lvl then s'.chalFail
    else
      let want := hmac384 s.debugKey (ascii "G9-RESP" ++ s.regBytes 0x007060 8 ++ [BitVec.ofNat 8 lvl])
      let s' := s'.shaUse (hmacBlocks 40)
      if s.regBytes 0x007080 12 = want then s'.setLevel (max s.dbg.level lvl) else s'.chalFail

/-- A write of CHALCMD. -/
def State.chalcmdWrite (s : State) (data : Word) : State :=
  match fld data 30 2 with
  | 1 => s.chalNew
  | 2 => s.chalCheck (fld data 0 2)
  | _ => s

/-! ### DCMD (R404, R406) -/

/-- STEP: a halted engine runs one instruction; it waits for a Prompter instruction in progress. -/
def State.engStep (s : State) (e : Fin 257) : State :=
  if s.engines[e].run = .halted then
    if s.prompting e then s.modDebug (fun d => { d with resumeHeld := some true })
    else if s.engines[e].haltCause = 6 ∧ s.frozen (enginePage e) then s else s.engRelease e true
  else s

/-- An operation of DCMD on the engines it selects. -/
def State.dcmd (s : State) (op : Nat) (sel : BitVec 9) : State :=
  (selEngines sel).foldl (fun s e =>
    match op with
    | 1 => if s.engines[e].run = .halted then s else s.haltRequest e 1
    | 2 => s.engResume e
    | 3 => s.engStep e
    | 4 => s.modEng e (fun g => { g with bkpt := true })
    | 5 => s.modEng e (fun g => { g with bkpt := false })
    | _ => s) s

/-! ### The Prompter, the Stagehand, the debugger's quote -/

/-- A write of PRMPT0 (R407): one instruction for the engine of PSEL, ignored while that engine is not HALTED or one is in progress. -/
def State.promptWrite (s : State) (data : Word) : State :=
  if s.dbg.prompt.isSome then s
  else match engineNo (fld (s.getReg 0x007140) 0 9) with
    | none => s.modDebug (fun d => { d with pNotHalted := true })
    | some e =>
      if s.engines[e].run ≠ .halted then s.modDebug (fun d => { d with pNotHalted := true })
      else
        let s := s.setReg 0x007144 data
        s.modDebug (fun d => { d with
          prompt := some (e, bytesLE 4 data.toNat ++ [(s.getReg 0x007148).setWidth 8]), pExc := false, pNotHalted := false,
          pEmpty := false, pCause := 0 })

/-- A write of SHCTRL: RESET, then GO (R408). -/
def State.shctrlWrite (s : State) (data : Word) : State :=
  let s := if bitAt data 29 then s.stagehandReset else s
  if bitAt data 31 then s.shGo data else s

/-- A write of DQCTRL: GO starts a quote with requester 1; DQSTAT takes its record (R416). -/
def State.dqctrlWrite (s : State) (data : Word) : State :=
  if !bitAt data 31 then s
  else
    let (r, s) := s.quoteStart .debugger (s.regBytes 0x007180 8)
    s.setRec 0x007174 r

/-- A write of TRCFG: ERR sets with an invalid sink and clears with a valid one (R415). -/
def State.trcfgWrite (s : State) (data : Word) : State :=
  let s := s.setReg 0x0070B0 (data &&& 0xE0007F0F)
  s.modDebug (fun d => { d with traceErr := !s.sinkOk })

/-! ### Registers (R416) -/

/-- A write to a DEBUG register with an effect of its own, aliases resolved; none: a stored register. -/
def State.debugWrite (s : State) (off : Nat) (data : Word) : Option State :=
  match off with
  | 0x044 => some ((s.setReg 0x007044 (data &&& 0x3)).detach s)
  | 0x048 => some (s.chalcmdWrite data)
  | 0x050 => some (s.freezeWrite data)
  | 0x054 => some (s.dcmd (fld data 29 3) (data.setWidth 9))
  | 0x058 => some (s.ringBells (fld data 0 8))
  | 0x0B0 => some (s.trcfgWrite data)
  | 0x144 => some (s.promptWrite data)
  | 0x168 => some (s.shctrlWrite data)
  | 0x170 => some (s.dqctrlWrite data)
  | _ => none

/-- A bit per engine in the words of HALTED or BKPTEN. -/
def State.engineBits (s : State) (f : Engine → Bool) (w : Nat) : Word :=
  BitVec.ofNat 32 (((List.finRange 257).filter (fun e => e.val / 32 == w && f s.engines[e])).map (fun e => 2 ^ (e.val % 32))).sum

/-- Every unit whose page has FRZ = 1 is frozen (DSTAT.FROZEN). -/
def State.allFrozen (s : State) : Bool :=
  s.freezeOn && allPages.all (fun p => !bitAt (s.getReg (pageBase p + 0x08)) 1 || s.frozenStat p)

/-- The engine of PSEL while it is HALTED. -/
def State.promptEngine (s : State) : Option Engine :=
  match engineNo (fld (s.getReg 0x007140) 0 9) with
  | some e => if s.engines[e].run = .halted then some s.engines[e] else none
  | none => none

/-- The DEBUG registers that are no stored words, aliases resolved. -/
def State.debugRead (s : State) (off : Nat) : Option Word :=
  let d := s.dbg
  match off with
  | 0x040 => some (BitVec.ofNat 32 (b2n s.attached * 2 ^ 31 + b2n s.allFrozen * 2 ^ 30 + b2n d.lockout * 2 ^ 29 +
      b2n d.chalValid * 2 ^ 28 + defaultLevel s.trust.lc * 16 + d.level))
  | 0x0B0 => some (putBit s.trcfg 28 d.traceErr)
  | 0x14C => some d.pResult
  | 0x150 => some (BitVec.ofNat 32 (b2n d.prompt.isSome * 2 ^ 31 + b2n d.pExc * 2 ^ 30 + b2n d.pNotHalted * 2 ^ 29 + b2n d.pEmpty * 2 ^ 28 + d.pCause.toNat))
  | 0x154 => some (match s.promptEngine with | some g => BitVec.ofNat 32 (2 ^ 31 + g.haltCause) | none => 0)
  | 0x158 => some (match s.promptEngine with | some g => g.pc | none => 0)
  | 0x16C => some (BitVec.ofNat 32 (b2n d.shBusy * 2 ^ 31 + b2n d.shErr * 2 ^ 30 + d.shDone))
  | off =>
    if 0x0C0 ≤ off ∧ off ≤ 0x0E0 then some (s.engineBits (fun g => g.run == .halted) ((off - 0x0C0) / 4))
    else if 0x100 ≤ off ∧ off ≤ 0x120 then some (s.engineBits (·.bkpt) ((off - 0x100) / 4))
    else none

end Sys2Proof.Machine
end

