-- ==== Sys2Proof/Machine/Bus.lean ====
section
/-!
DEFINITION. Accesses to the register space (R20 to R35, R61): refusals and their record, the effect of an accepted write on every page,
reads, soft resets, the writes that wait for their island's acceptance edge (R317, R336, R422, R447).
-/
namespace Sys2Proof.Machine

/-! ### Owner, errors (R30, R34) -/

/-- The Host Register Port refuses a master other than the owner (R34). -/
def State.nonOwner (s : State) (m : Master) : Bool :=
  match m with
  | .hrp id => bitAt (s.getReg 0x000044) 31 && foldId id != (s.getReg 0x000044).setWidth 8
  | .xbar _ => false

/-- A refused write, or an access to a reserved address, is recorded: the first in ERR_ADDR and ERR_INFO, later ones in MORE (R30). -/
def State.record (s : State) (addr cause : Nat) (m : Master) : State :=
  if bitAt (s.getReg 0x00004C) 31 then s.orReg 0x00004C 0x40000000
  else ((s.setReg 0x000048 (BitVec.ofNat 32 (addr % 2 ^ 24))).setReg 0x00004C
    (BitVec.ofNat 32 (2 ^ 31 + (masterCode m).toNat * 256 + cause))).irq .block 0

/-- The offset in its page of a register address, the G7 aliases resolved. -/
def regOff (p : Page) (addr : Nat) : Nat := if p = .debug then g7Alias (addr % 0x1000) else addr % 0x1000
/-- The word-aligned register address (R20). -/
def regAlign (addr : Nat) : Nat := addr % 2 ^ 24 / 4 * 4
/-- An address in the ring table. -/
def inRings (addr : Nat) : Bool := decide (0x400000 ≤ addr ∧ addr < 0x500000)
/-- A reserved address (R22). -/
def reservedAddr (addr : Nat) : Bool :=
  let a := regAlign addr
  !inRings a && (match pageAt a with | none => true | some p => (regDesc p (regOff p a)).isNone)

/-- The Wings slot whose registers hold an offset of the WINGS page. -/
def slotOff (off : Nat) : Option (Fin 8) := if 0x200 ≤ off ∧ off < 0x400 then some (Fin.ofNat 8 ((off - 0x200) / 0x40)) else none
/-- A Wings slot refuses masters other than its owner from OPEN on (R154). -/
def State.slotForeign (s : State) (m : Master) (off : Nat) : Bool :=
  match slotOff off with
  | some t => s.slots[t].st != .free && s.slots[t].owner != masterCode m
  | none => false

/-- The cause for which a write is refused, in the order of R30 (R29, R30, R34, R154, R158, R201, R206, R416). -/
def State.refuseCause (s : State) (m : Master) (addr : Nat) (strb : BitVec 4) : Option Nat :=
  let part : Option Nat := if strb = 0xF then none else some 6
  if s.nonOwner m then some 3
  else if inRings addr then part
  else match pageAt addr with
    | none => part
    | some p =>
      let off := regOff p addr
      if s.pageLocked p && !isHouse m && off != 0x018 then some 4
      else if p == .debug && !isHouse m && !(decide (0x400 ≤ off ∧ off < 0x800)) then some 4
      else match regDesc p off with
        | none => part
        | some d =>
          if d.house && !isHouse m then some 3
          else if p == .wings && s.slotForeign m off then some 3
          else if d.staged && (s.pageStaged p || s.regHeld addr) then some 5
          else match p with
            | .cluster c => if s.ssWait[c] && decide (0x040 ≤ off ∧ off ≤ 0x050) then some 5 else part
            | _ => part

/-! ### Rings (R61, R62) -/

/-- A write of CTRL: while EN = 1 only one that clears EN acts. -/
def State.ringCtrlWrite (s : State) (r : Nat) (data : Word) : State :=
  let d := ringDesc r 0x08
  let keep := fun (s : State) => s.modReg (ringBase r + 0x08) (fun w => (w &&& ~~~(d.rw &&& 0x7FFFFFFF)) ||| (data &&& d.rw &&& 0x7FFFFFFF))
  if s.ringEn r then (if bitAt data 31 then s else (keep s).ringClearEn r)
  else if bitAt data 31 then (keep s).ringSetEn r
  else keep s

/-- A write to a ring's descriptor. -/
def State.ringWrite (s : State) (r off : Nat) (data : Word) : State :=
  match off with
  | 0x00 => if s.ringEn r then s else s.setReg (ringBase r) data
  | 0x04 => if s.ringEn r then s else s.setReg (ringBase r + 0x04) (data &&& 0xFF)
  | 0x08 => s.ringCtrlWrite r data
  | 0x20 => s.ringCommit r data
  | 0x24 => s.modReg (ringBase r + 0x24) (fun w => w &&& ~~~(data &&& 0xF))
  | 0x2C => s.ringRelease r data
  | _ => s

/-- A count as POP and RESERVE return it (R61). -/
def countWord (k : Option Word) : Word := k.getD 0xFFFFFFFF

/-- A read of a ring's descriptor; a peek has no effect (R409). -/
def State.ringRegRead (s : State) (peek : Bool) (r off : Nat) : Word × State :=
  match off with
  | 0x18 => if peek then (countWord (s.popPeek r), s) else let (k, s) := s.ringPop r; (countWord k, s)
  | 0x1C => if peek then (countWord (s.reservePeek r), s) else let (k, s) := s.ringReserve r; (countWord k, s)
  | 0x28 => (s.getReg (ringBase r + 0x28), if peek then s else s.setReg (ringBase r + 0x28) 0)
  | _ => (s.getReg (ringBase r + off), s)

/-! ### Soft reset (R26) -/

/-- Soft reset of LINK n: a training aborts, the port is down with what it held gone; LINK 0 drops the frame ring (R49, R54). The frames
that a port has closed stay closed. -/
def State.linkReset (s : State) (n : Fin 128) : State :=
  let s := match s.ports[n].training with | some t => s.trainEnd n t .aborted opSoftReset 0 | none => s
  let s := (s.portDown n).modPort n (fun p => { ({} : Port) with phyRdy := p.phyRdy, closedTo := p.closedTo })
  let s := { s with fwdQ := s.fwdQ.filter (fun q => q.port ≠ n) }.phyIdle (phyGroup n)
  if n.val = 0 then s.frDisable else s

/-- What a soft reset does to a page's unit, registers apart. -/
def State.unitReset (s : State) (p : Page) : State :=
  match p with
  | .permit => s.modPermit (fun q => { q with eData := 0, eCtrl := 0, eMgmt := 0 })
  | .wings => let (s, any) := s.wingsReset; if any then s.irq .wings 1 else s
  | .curtain => s.curtainReset
  | .timebase => s.tbReset
  | .link n => s.linkReset n
  | .cue e => s.cueReset ⟨e.val, by omega⟩
  | .cluster c => { s with ssWait := s.ssWait.set c false }.masterReset c.val
  | .pipe q => s.pipeReset q
  | .timer t => s.timerReset t
  | .capture i => s.captureReset i
  | .pin k => s.pinReset k
  | .memctl j => s.memctlReset j
  | _ => s

/-- The registers of a page return to their reset values, but IRQ_LINE, EN, PAGE_LOCK, IRQ_EN, and IRQ_STAT, which holds the events of
the reset (R26); SRST_BUSY reads 1. -/
def State.pageRegsReset (s : State) (p : Page) : State :=
  let b := pageBase p
  let ctrl := s.getReg (b + 0x08) &&& 0x301
  let en := s.getReg (b + 0x14)
  let st := s.getReg (b + 0x18)
  let lock := s.getReg (b + 0x1C)
  let s := { s with regs := spClear (fun a => decide (b ≤ a ∧ a < b + 0x1000)) s.regs }
  ((((s.setReg (b + 0x08) ctrl).setReg (b + 0x14) en).setReg (b + 0x18) st).setReg (b + 0x1C) lock).setReg (b + 0x0C) 0x2

/-- SRST of a page: IRQ_STAT clears first, then the unit and the registers are reset (R26). -/
def State.pageReset (s : State) (p : Page) : State :=
  if srstOk p then ((s.setReg (pageBase p + 0x18) 0).unitReset p).pageRegsReset p else s

/-! ### Writes to pages -/

/-- PAGE_CTRL.EN changes (R25, R52, R148, R203, R344, R433). -/
def State.enChange (s : State) (p : Page) (en : Bool) (a : Word64) : State :=
  let set := fun (s : State) => s.modReg (pageBase p + 0x08) (fun w => putBit w 0 en)
  match p with
  | .curtain => s.curPageEn en a
  | .cue e => if en then set s else (set s).engStop ⟨e.val, by omega⟩ false
  | .pin k => if en then set s else (set s).pinStopped k
  | .link n => if en then (set s).modPort n (fun x => { x with tag := none }) else (set s).phyIdle (phyGroup n)
  | _ => set s

/-- A write of PAGE_CTRL (R23 to R26, R410). -/
def State.pageCtrlWrite (s : State) (p : Page) (data : Word) (a : Word64) : State :=
  let mask : Word := BitVec.ofNat 32 (0x300 + 8 * b2n (stagedOk p) + 2 * b2n (frzOk p))
  let leaves := s.frozen p && !bitAt data 1
  let s := s.modReg (pageBase p + 0x08) (fun w => (w &&& ~~~mask) ||| (data &&& mask))
  let s := if leaves then s.freezeEnds else s
  let s := if enFixed p || bitAt data 0 == s.pageEn p then s else s.enChange p (bitAt data 0) a
  if bitAt data 2 then s.pageReset p else s

/-- A plain write: the stored bits take the data, written 1s clear the W1C bits. An engine in a microroutine keeps the window words it
began with (R281). -/
def State.storeReg (s : State) (p : Page) (off : Nat) (data : Word) : State :=
  let s := match p with
    | .cue _ | .house => if 0x100 ≤ off ∧ off < 0x180 then s.keepOldWin (pageBase p + off) else s
    | _ => s
  match regDesc p off with
  | none => s
  | some d => s.modReg (pageBase p + off) (fun w => (w &&& ~~~(d.rw ||| d.w1c)) ||| (data &&& d.rw) ||| (w &&& d.w1c &&& ~~~data))

/-- OWNER: RELEASE by the owner through the port, or by the House engine; CLAIM through the port while there is no owner (R34). -/
def State.ownerWrite (s : State) (m : Master) (data : Word) : State :=
  let rel : Bool := match m with | .hrp _ => true | .xbar _ => isHouse m
  let s := if bitAt data 9 && rel then s.setReg 0x000044 0 else s
  match m with
  | .hrp id => if bitAt data 8 && !bitAt (s.getReg 0x000044) 31 then s.setReg 0x000044 (BitVec.ofNat 32 (2 ^ 31 + (foldId id).toNat)) else s
  | .xbar _ => s

/-- ERR_INFO: clearing VALID clears the rest (R30). -/
def State.errInfoWrite (s : State) (data : Word) : State := if bitAt data 31 then s.setReg 0x00004C 0 else s

/-- OP_CTRL.ABORT: an operation that honours it ends at its next boundary, at once where it has not begun to run; boot, a Wings
transaction after RAISE and a final record ignore it (R39). -/
def State.cbAbort (s : State) (r : Fin 64) : State :=
  let c := s.callboard[r]
  if c.cur.st.final || c.cur.st == .idle then s
  else match c.cur.kind with
    | 2 => (s.quoteAbortRec r).modCb r (fun c => { c with abort := !c.cur.st.final })
    | 3 | 4 | 5 => (s.memAbortRec r).modCb r (fun c => { c with abort := !c.cur.st.final })
    | 6 => s.wingsAbortRec r
    | 7 =>
      let s := (List.finRange 128).foldl (fun s n => match s.ports[n].training with
        | some t => if t.cb = r ∧ !t.granted then s.trainEnd n t .aborted opAbortReq 0 else s
        | none => s) s
      s.modCb r (fun c => { c with abort := !c.cur.st.final })
    | _ => s

/-- A write of OP_CTRL. -/
def State.opCtrlWrite (s : State) (r : Fin 64) (data : Word) : State :=
  let s := if bitAt data 1 then s.cbRelease r else s
  if bitAt data 0 then s.cbAbort r else s

/-- A write to a page below TIMEBASE: BLOCK, CALLBOARD, PERMIT, WINGS; none: a stored register. -/
def State.singleWrite (s : State) (m : Master) (p : Page) (off : Nat) (data : Word) : Option State :=
  match p with
  | .block => (match off with
    | 0x044 => some (s.ownerWrite m data)
    | 0x04C => some (s.errInfoWrite data)
    | 0x080 => some (s.sysCfgWrite data)
    | 0x084 => some (s.sysShapeWrite data)
    | _ => none)
  | .callboard =>
    if 0x100 ≤ off ∧ (off - 0x100) % 0x20 = 0x18 then some (s.opCtrlWrite (Fin.ofNat 64 ((off - 0x100) / 0x20)) data) else none
  | .permit => (match off with
    | 0x040 | 0x044 | 0x058 => some ((s.storeReg p off data).budgetCheck s)
    | 0x088 => some (if bitAt data 0 then s.modPermit (fun q => { q with eData := 0, eCtrl := 0, eMgmt := 0 }) else s)
    | _ => none)
  | .wings => (match slotOff off with
    | none => none
    | some t => match (off - 0x200) % 0x40 with
      | 0x00 => some (s.wingsCmd t m data)
      | 0x08 => some (s.wingsTaddr t data)
      | 0x0C => some (s.wingsTdata t data)
      | 0x10 | 0x14 | 0x18 | 0x1C => some (s.wingsSetup t ((off - 0x200) % 0x40) data)
      | _ => none)
  | _ => none

/-- A write to a LINK page; none: a stored register. -/
def State.linkWrite (s : State) (n : Fin 128) (off : Nat) (data : Word) : Option State :=
  match off with
  | 0x048 => some (if bitAt data 31 then s.trainGo n else s)
  | 0x300 => if s.frEn then some s else none
  | 0x304 => some (s.frGeomWrite data)
  | 0x318 => some (s.frRelease data)
  | off => if 0x080 ≤ off ∧ off < 0x0C0 then some ((s.storeReg (.link n) off data).grantOwed n) else none

/-- A write to an engine's page (R201, R207, R272, R332); none: a stored register. -/
def State.engineWrite (s : State) (e : Fin 257) (off : Nat) (data : Word) : Option State :=
  match off with
  | 0x088 => some (s.orReg (engBase e + 0x080) data)
  | 0x0C0 | 0x0C4 | 0x0C8 | 0x0CC => some (s.modEng e (fun g => { g with wdg := g.wdg.write off data }))
  | off => s.engCtlWrite e off data

/-- A write to a MEMCTL page; none: a stored register. -/
def State.memctlWrite (s : State) (j : Fin 16) (off : Nat) (data : Word) : Option State :=
  match off with
  | 0x040 | 0x044 | 0x058 => some (s.retWrite j off data)
  | 0x074 => some (if bitAt data 31 then s.scrubGo j else s)
  | 0x078 => some (if bitAt data 31 then s.bistGo j else s)
  | 0x0D8 | 0x0DC | 0x0E0 => if s.bulk.isSome then some s else none
  | 0x0E4 => some (s.plctrlWrite data)
  | _ => none

/-- The number that a trace packet carries for a master: a crossbar master, 256 for the House engine (R415). -/
def masterNo : Master → Nat
  | .hrp _ => 18
  | .xbar m => if m.val = 16 then 256 else m.val

/-- A write to a page, header apart, with an effect of its own; none: a stored register. `who`: what a stimulus packet names, `a`: the
beat of the acceptance edge. -/
def State.unitWrite (s : State) (m : Master) (who : Nat) (p : Page) (off : Nat) (data : Word) (a : Word64) : Option State :=
  match p with
  | .curtain => some (s.curtainReg off data a)
  | .timebase => if off = 0x08C then some (s.probeWrite data) else s.tbWrite off data
  | .trust => s.trustWrite off data
  | .debug => if 0x400 ≤ off ∧ off < 0x800 then some (s.trace ((off - 0x400) / 4) 1 who data) else s.debugWrite off data
  | .link n => s.linkWrite n off data
  | .cue e => s.engineWrite ⟨e.val, by omega⟩ off data
  | .house => s.engineWrite houseNo off data
  | .cluster c => if off = 0x050 then some (s.ssCommit c data) else none
  | .timer t =>
    if 0x100 ≤ off then some (s.timerWrite ⟨8 * t.val + (off - 0x100) / 0x20 % 8, by omega⟩ ((off - 0x100) % 0x20 / 4) data) else none
  | .pin k => s.pinWrite k off data
  | .memctl j => s.memctlWrite j off data
  | _ => s.singleWrite m p off data

/-- The effect of an accepted write on its page. Writes but to PAGE_LOCK are ignored while SRST_BUSY = 1 (R26); a direct write of a
staged-capable register counts for R157. -/
def State.pageWrite (s : State) (m : Master) (who : Nat) (p : Page) (off : Nat) (data : Word) (a : Word64) : State :=
  if s.srstBusy p && off != 0x01C then s
  else match off with
    | 0x008 => s.pageCtrlWrite p data a
    | 0x01C => if bitAt data 0 then s.setReg (pageBase p + 0x1C) 1 else s
    | off =>
      let s := match regDesc p off with | some d => if d.staged then s.touch 0 (pageBase p + off) (pageBase p + off) none else s | none => s
      if off < 0x040 then s.storeReg p off data
      else match s.unitWrite m who p off data a with
        | some s => s
        | none => s.storeReg p off data

/-! ### Islands (R317, R336, R422, R447) -/

/-- The island of a register: a pin engine's, or BEATCLK's with the Curtain apart. -/
def islandOf (p : Page) (off : Nat) : Option (Option (Fin 32) × Bool) :=
  match p with
  | .timebase | .timer _ | .capture _ => some (none, false)
  | .curtain => some (none, true)
  | .pin k => some (some k, false)
  | .cue _ | .house => if 0x0C0 ≤ off ∧ off ≤ 0x0CC then some (none, false) else none
  | _ => none

/-- A write, or a pop of RXD, waits for its acceptance edge. -/
def State.islandWait (s : State) (i : Option (Fin 32) × Bool) (m : Master) (addr : Nat) (data : Word) (o : WriteFrom) : State :=
  { s with islandQ := s.islandQ ++ [{ beat := s.beatno, pinPage := i.1, curtain := i.2, m, addr, data, origin := o }] }

/-- A waiting write takes effect at its acceptance edge, in beat `a`, and its response follows (R422, R447); a register that a transaction
has come to hold meanwhile refuses it (R158). -/
def State.islandWrite (s : State) (p : Page) (w : IslandWrite) (a : Word64) : State :=
  if (match regDesc p (w.addr % 0x1000) with | some d => d.staged | none => false) && s.regHeld w.addr then
    (s.record w.addr 5 w.m).answer w.origin { err := true }
  else (s.pageWrite w.m 0 p (w.addr % 0x1000) w.data a).answer w.origin {}

/-- A waiting write is accepted; on RXD, which no write changes, it is a pop (R343). -/
def State.islandAccept (s : State) (w : IslandWrite) : State :=
  match pageAt w.addr with
  | none => s
  | some p =>
    match p with
    | .pin k => if w.addr % 0x1000 = 0x060 then s.pinPop k else s.islandWrite p w s.beatno
    | p => s.islandWrite p w s.beatno

/-- The island's clock is absent for good: its writes get an error response (R422). -/
def State.islandLost (s : State) (i : Option (Fin 32) × Bool) : Bool := if i.1.isSome then s.pinLost else s.clkLost

/-! ### Accesses -/

/-- A write to the register space: whether it gets an error response, and its effect. `now`: the command stands at the acceptance edge,
where the register lies in an island; otherwise the write waits for that edge, and its response goes to `o`. -/
def State.wrSpace (s : State) (m : Master) (who : Nat) (addr0 : Nat) (data : Word) (strb : BitVec 4) (now : Bool) (o : WriteFrom) :
    Bool × State :=
  let addr := regAlign addr0
  match s.refuseCause m addr strb with
  | some c => (true, s.record addr c m)
  | none =>
    if inRings addr then (false, s.ringWrite ((addr - 0x400000) / 0x40) (addr % 0x40) data)
    else match pageAt addr with
      | none => (false, s.record addr 2 m)
      | some p =>
        let off := regOff p addr
        match regDesc p off with
        | none => (false, s.record addr 2 m)
        | some _ =>
          match (if now then none else islandOf p off) with
          | none => (false, s.pageWrite m who p off data s.beatno)
          | some i =>
            if s.islandLost i then (true, s)
            else if i.1.isSome && off == 0x060 then (false, s)
            else (false, s.islandWait i m addr data o)

/-- The interrupt source that R272 chooses above a priority: its priority and number. -/
def State.intChoice (s : State) (e : Fin 257) (ipl : Nat) : Option (Nat × Nat) :=
  let ok := s.getReg (engBase e + 0x080) &&& s.getReg (engBase e + 0x084)
  let prio := fun i : Nat => fld (s.getReg (engBase e + 0x090 + 4 * (i / 8))) (4 * (i % 8)) 3
  (List.range 32).foldl (fun best i =>
    if bitAt ok i && decide (ipl < prio i) && (match best with | none => true | some b => decide (b.1 < prio i)) then some (prio i, i)
    else best) none

/-- IRQ_FAMILY (R28). -/
def State.irqFamily (s : State) : Word :=
  allPages.foldl (fun w p =>
    if s.getReg (pageBase p + 0x18) &&& s.getReg (pageBase p + 0x14) = 0 then w else putBit w (familyBit p) true) 0

/-- `irq_host[x]`; 0 in reset (R27, R442). -/
def State.irqHost (s : State) (x : Nat) : Bool :=
  !s.inReset && allPages.any (fun p => s.getReg (pageBase p + 0x18) &&& s.getReg (pageBase p + 0x14) != 0 && fld (s.getReg (pageBase p + 0x08)) 8 2 == x)

/-- XBAR_SLICE of a path, 3 where there is none (R35). -/
def xslice (m t : Nat) : Nat := if hasPath m t && decide (t ≤ 25) then Config.xbarSlice m t % 3 else 3
/-- GENCAP.XSL_MAX. -/
def xslMax : Nat := ((List.range 21).flatMap (fun m => ((List.range 26).filter (hasPath m)).map (xslice m))).foldl max 0

/-- An engine's registers that are no stored words. -/
def State.engineRead (s : State) (e : Fin 257) (off : Nat) : Option Word :=
  match off with
  | 0x044 => if e.val < 256 then some (s.estate e) else none
  | 0x04C | 0x050 | 0x054 | 0x058 => some (s.csRead e ((off - 0x04C) / 4))
  | 0x08C => some (match s.intChoice e 0 with | some (q, i) => BitVec.ofNat 32 (2 ^ 31 + q * 256 + i) | none => 0)
  | 0x0C0 | 0x0C4 | 0x0C8 | 0x0CC => some (s.engines[e].wdg.read off)
  | _ => none

/-- The registers of a page that are no stored words, header apart. -/
def State.unitRead (s : State) (p : Page) (off : Nat) : Option Word :=
  match p with
  | .block => (match off with
    | 0x050 => some (BitVec.ofNat 32 (b2n Config.phyWord256 * 256 + xslMax))
    | 0x058 => some (BitVec.ofNat 32 (xslice (fld (s.getReg 0x000054) 8 5) (fld (s.getReg 0x000054) 0 5)))
    | 0x05C => some s.irqFamily
    | _ => none)
  | .callboard =>
    if off = 0x040 then some (s.cbFinalMask 0)
    else if off = 0x044 then some (s.cbFinalMask 32)
    else if 0x100 ≤ off then some (s.callboard[Fin.ofNat 64 ((off - 0x100) / 0x20)].regAt ((off - 0x100) % 0x20 / 4))
    else none
  | .permit => (match off with
    | 0x048 => some (BitVec.ofNat 32 s.granted)
    | 0x04C => some (BitVec.ofNat 32 s.avail)
    | 0x050 => some s.waitingReg
    | 0x070 | 0x074 => some (energyReg s.permit.eData ((off - 0x070) / 4))
    | 0x078 | 0x07C => some (energyReg s.permit.eCtrl ((off - 0x078) / 4))
    | 0x080 | 0x084 => some (energyReg s.permit.eMgmt ((off - 0x080) / 4))
    | _ => none)
  | .wings => s.wingsRead off
  | .curtain => s.curtainRead off
  | .timebase => s.tbRead off
  | .trust => s.trustRead off
  | .debug => s.debugRead off
  | .link n =>
    if off = 0x044 then some (s.pstat n)
    else if 0x0C0 ≤ off ∧ off < 0x100 then some (BitVec.ofNat 32 (txCredit s.ports[n] ((off - 0x0C0) / 4) % 2048))
    else if off = 0x21C ∨ off = 0x23C then some (BitVec.ofNat 32 (s.readyCount (2 * n.val + (off - 0x21C) / 0x20) % 8192))
    else if off = 0x320 then some (BitVec.ofNat 32 s.frames.oldest)
    else none
  | .cue e => s.engineRead ⟨e.val, by omega⟩ off
  | .house => s.engineRead houseNo off
  | .cluster c => s.clusterRead c off
  | .pipe q => s.pipeRead q off
  | .timer t => if 0x100 ≤ off then some (s.timerReg ⟨8 * t.val + (off - 0x100) / 0x20 % 8, by omega⟩ ((off - 0x100) % 0x20 / 4)) else none
  | .pin k => s.pinRead k off
  | .memctl j => s.memctlRead j off
  | _ => none

/-- The IRQ_STAT bits whose event is that a status bit sets: the bit, and the register and bits of that status. -/
def rawStatus (p : Page) : List (Nat × Nat × Nat) :=
  match p with
  | .block | .xbar => [(0, 0x04C, 2 ^ 31)]
  | .callboard => [(0, 0x040, 0xFFFFFFFF), (0, 0x044, 0xFFFFFFFF)]
  | .permit => [(0, 0x050, 2 ^ 31)]
  | .wings => [(3, 0x040, 2 ^ 31)]
  | .timebase => [(1, 0x048, 2 ^ 31), (2, 0x048, 2), (3, 0x048, 1), (4, 0x084, 2 ^ 31)]
  | .trust => [(2, 0x044, 2 ^ 30), (3, 0x044, 2 ^ 28), (4, 0x044, 2 ^ 27)]
  | .debug => (List.range 9).map (fun w => (0, 0x0C0 + 4 * w, 0xFFFFFFFF))
  | .link n => (2, 0x044, 0x40) :: if n.val = 0 then [(6, 0x044, 0x100)] else []
  | .pipe q => if q.val % 8 = 0 then [(2, 0x108, 3)] else []
  | .cue _ => [(3, 0x044, 0x80), (4, 0x0C0, 8)]
  | .house => [(4, 0x0C0, 8)]
  | .timer _ => (List.range 8).flatMap (fun j => [(j, 0x104 + 0x20 * j, 1), (8 + j, 0x104 + 0x20 * j, 2)])
  | .capture _ => (0, 0x040, 0xFFFFFFFF) :: (0, 0x044, 0xFFFFFFFF) :: (List.range 64).map (fun i => (1, 0x104 + 0x20 * i, 8))
  | .pin _ => [(1, 0x044, 0x40), (6, 0x044, 0x18), (7, 0x044, 0x20)]
  | _ => []

/-- IRQ_RAW: a bit reads 1 while the status whose setting is its event stands; the bit of an event that no status stands for reads 0 (R23;
DEDUCED, log entry 23). -/
def State.irqRaw (s : State) (p : Page) : Word :=
  let w := (rawStatus p).foldl (fun (w : Word) x =>
    if ((s.unitRead p x.2.1).getD (s.getReg (pageBase p + x.2.1))).toNat &&& x.2.2 = 0 then w else putBit w x.1 true) 0
  match p with
  | .permit => putBit w 2 (decide (s.avail < s.granted))
  | .curtain => putBit w 4 (bitAt (s.getReg (pageBase p + 0x0C)) 3)
  | .cue e => putBit w 0 (s.engines[e.val].run == .dark)
  | .house => putBit w 0 s.houseDark
  | _ => w

/-- PAGE_STAT (R26). -/
def State.pageStat (s : State) (p : Page) : Word := putBit (s.getReg (pageBase p + 0x0C)) 2 (s.frozenStat p)

/-- The value that a read of a page's register returns; while SRST_BUSY = 1 reset values, but for PAGE_STAT, PAGE_LOCK, and BEATNO and
FOFS (R26, R319). -/
def State.pageRead (s : State) (p : Page) (off : Nat) : Word :=
  let live := p == .timebase && (off == 0x040 || off == 0x044 || off == 0x058)
  if off = 0x00C then s.pageStat p
  else if s.srstBusy p && off != 0x01C && !live then regReset (pageBase p + off)
  else if off = 0x010 then s.irqRaw p
  else if off < 0x040 then s.getReg (pageBase p + off)
  else (s.unitRead p off).getD (s.getReg (pageBase p + off))

/-- What a read that is no peek does to a register: RC fields clear, HIGHWATER restarts, RXD is popped at the acceptance edge (R31,
R343, R390). A read of RXD at RXFULL = 0, or while an earlier read's pop waits, pops nothing (log entry 121). -/
def State.readEffect (s : State) (m : Master) (p : Page) (off : Nat) (now : Bool) : State :=
  match p with
  | .pin k =>
    if off = 0x060 then
      (if !s.pins[k].rxfull || s.islandQ.any (fun w => w.addr == pageBase p + off) then s
       else if now then s.pinPop k else if s.pinLost then s else s.islandWait (some k, false) m (pageBase p + off) 0 .none)
    else match regDesc p off with | some d => if d.rc then s.setReg (pageBase p + off) 0 else s | none => s
  | p =>
    match regDesc p off with
    | some d =>
      if !d.rc then s
      else if p = .permit ∧ off = 0x068 then s.setReg 0x002068 (BitVec.ofNat 32 s.granted)
      else s.setReg (pageBase p + off) 0
    | none => s

/-- What a master sees of a register: its own writes that wait for their acceptance edge come before its read, and show in what it reads
(R33; DESIGN CHOICE, log entry 111: the read is answered at once, with the value those writes give). A register of the BEATCLK island shows
its value after the last edge, with all that the edge accepts and evaluates (R317). -/
def State.seen (s : State) (m : Master) (p : Page) (off : Nat) : State :=
  match islandOf p off with
  | none => s
  | some i =>
    let due := fun w : IslandWrite => w.pinPage.isNone && !w.curtain && beatLe w.due s.beatno
    let s := if i.1.isNone && !i.2 then
        { (s.islandQ.filter due).foldl State.islandAccept s.timerWraps with islandQ := s.islandQ.filter (fun w => !due w) }.beatEvents
      else s
    (s.islandQ.filter (fun w => w.m == m)).foldl State.islandAccept s

/-- A read of the register space. `now` as for writes. -/
def State.rdSpace (s : State) (m : Master) (addr0 : Nat) (now : Bool) : Word × State :=
  let addr := regAlign addr0
  let peek := isStagehand m
  if inRings addr then s.ringRegRead peek ((addr - 0x400000) / 0x40) (addr % 0x40)
  else match pageAt addr with
    | none => (0, if peek then s else s.record addr 1 m)
    | some p =>
      let off := regOff p addr
      match regDesc p off with
      | none => (0, if peek then s else s.record addr 1 m)
      | some _ => ((s.seen m p off).pageRead p off, if peek then s else s.readEffect m p off now)

/-! ### Register accesses of a master (R306, R422 to R424) -/

/-- The number on the crossbar of a register access's master (R305). -/
def crossNo : Master → Nat
  | .hrp _ => 18
  | .xbar m => m.val
/-- A register access is taken: the block is not in reset, the Host Register Port has fewer than 16 requests unanswered, and the target's
arbiter grants it (R306, R424, R442). -/
def State.takes (s : State) (m : Master) (addr : Nat) : Bool :=
  !s.inReset && (match m with | .hrp _ => decide (s.hrpQ.length < 16) | .xbar _ => true) && s.grants (crossNo m) (regTarget (regAlign addr))
/-- An access that is not taken waits: where only the arbiter holds it back, at the arbiter. -/
def State.barred (s : State) (m : Master) (addr : Nat) : State :=
  if s.inReset || (match m with | .hrp _ => decide (16 ≤ s.hrpQ.length) | .xbar _ => false) then s
  else s.arbWaits (crossNo m) (regTarget (regAlign addr))
/-- An access is taken: the arbiter remembers its master, and the Host Register Port's request waits for its response. -/
def State.taken (s : State) (m : Master) (addr : Nat) : State :=
  { s.grantSingle (crossNo m) (regTarget (regAlign addr)) with
    hrpQ := match m with | .hrp id => s.hrpQ ++ [{ seq := s.hrpSeq, id }] | .xbar _ => s.hrpQ
    hrpSeq := match m with | .hrp _ => s.hrpSeq + 1 | .xbar _ => s.hrpSeq }
/-- What the response of the next access by a master goes to. -/
def State.originOf (s : State) (m : Master) : WriteFrom := match m with | .hrp _ => .port s.hrpSeq | .xbar _ => .none

/-- The state after an access that is taken, answered, and has no other effect. -/
def State.replied (s : State) (m : Master) (addr : Nat) (r : Rsp) : State := (s.taken m addr).answer (s.originOf m) r

/-- A write command: its effect and its response; the response of a write that waits for its acceptance edge follows that edge (R422,
R447). -/
def State.busWrite (s : State) (m : Master) (addr : Nat) (data : Word) (strb : BitVec 4) (now : Bool) : State :=
  if !s.takes m addr then s.barred m addr
  else
    let o := s.originOf m
    let (err, t) := (s.taken m addr).wrSpace m (masterNo m) addr data strb now o
    if !now && decide (s.islandQ.length < t.islandQ.length) then t else t.answer o { err }

/-- A read command: its effect and its response. -/
def State.busRead (s : State) (m : Master) (addr : Nat) (now : Bool) : State :=
  if !s.takes m addr then s.barred m addr
  else
    let (data, t) := (s.taken m addr).rdSpace m addr now
    t.answer (s.originOf m) { data }

end Sys2Proof.Machine
end

