-- ==== Sys2Proof/Machine/Translate.lean ====
section
/-!
DEFINITION. Translation of an engine's addresses (R277 to R294): windows, TLBs, walk cache, page walk, rights and keys, TINV.
-/
namespace Sys2Proof.Machine

/-- How an instruction or a microword of an engine ends without its effects: a synchronous exception with its cause, detail (ECAUSE[15:8])
and EADDR, returning to the instruction or, where `next`, to the one after it (R261); a wait (log entry 26); a refusal; a microcode fault with its
reason (R192); the debug halt of BKPT, before any effect (R249). -/
inductive Stop where
  | fault (cause detail : Nat) (eaddr : Word) (next : Bool := false)
  | wait (w : Wait)
  | refuse (r : Refusal)
  | dark (reason : Nat)
  | bkpt
  deriving DecidableEq, Repr

/-- What an engine does within one instruction, microword or entry. -/
abbrev EngM := EStateM Stop State

/-- An access to memory by an engine: an error response becomes `bad`. -/
def liftMem {α : Type} (bad : Stop) (m : MemM α) : EngM α := fun s =>
  match m s with
  | .ok a s' => .ok a s'
  | .error .fault s' => .error bad s'
  | .error (.wait w) s' => .error (.wait w) s'

/-- A pure change of state. -/
def act (f : State → State) : EngM Unit := modify f

/-- STAT.MODE = House; the House engine's reads 1 at all times (R260). -/
def State.inHouse (s : State) (e : Fin 257) : Bool := decide (e.val = 256) || bitAt s.engines[e].stat 15
/-- The crossbar master through which an engine reaches the crossbar (R305). -/
def engMaster (e : Fin 257) : Fin 21 := if e.val = 256 then 16 else ⟨e.val / 16, by omega⟩
/-- An engine as the maker of an access. -/
def State.engWho (s : State) (e : Fin 257) : Who := { m := (engMaster e).val, eng := e.val, hm := s.inHouse e }

/-! ### Windows of the engine's own accesses (R280, R281) -/

/-- A word of the engine's window as its own accesses see it: an engine in a microroutine keeps the word it began with (R161). -/
def State.ownWinWord (s : State) (e : Fin 257) (w f : Nat) : Word :=
  let addr := pageBase (enginePage e) + 0x100 + 0x10 * w + 4 * f
  match s.engines[e].oldWin.find? (fun x => x.1 == addr) with
  | some x => x.2
  | none => s.getReg addr
/-- The windows in effect for the engine's own accesses, lowest-numbered first. -/
def State.ownWindows (s : State) (e : Fin 257) : List Win := (List.range 8).filterMap (fun w => windowOf (s.ownWinWord e w))
/-- The lowest-numbered window that matches. -/
def State.ownWindowFor (s : State) (e : Fin 257) (va : Nat) : Option Win :=
  (s.ownWindows e).find? (fun w => decide (w.lo ≤ va ∧ va < w.lo + w.size))

/-! ### Translations and TLBs (R278, R285, R286) -/

/-- The result of a translation: physical address, key, memory type, rights. -/
structure Phys where
  pa : Nat
  key : Nat
  typ : Nat
  x : Bool
  w : Bool
  r : Bool
  deriving DecidableEq, Repr

/-- Through a window. -/
def Win.phys (w : Win) (va : Nat) : Phys := { pa := va - w.lo + w.pa, key := w.key, typ := w.typ, x := w.x, w := w.w, r := w.r }
/-- Through a TLB entry. -/
def TlbEntry.phys (t : TlbEntry) (va : Nat) : Phys := { pa := va - t.va + t.pa, key := t.key, typ := t.typ, x := t.x, w := t.w, r := t.r }
/-- The entry of a TLB that covers an address of a partition. -/
def tlbFind (l : List TlbEntry) (part va : Nat) : Option TlbEntry :=
  l.find? (fun t => t.part == part && decide (t.va ≤ va ∧ va < t.va + t.size))
/-- PART of an engine. -/
def Engine.partNo (g : Engine) : Nat := fld g.part 0 6

/-- A leaf goes into the ITLB (8 entries) or the DTLB (16); the oldest is dropped. -/
def State.fillTlb (s : State) (e : Fin 257) (fetch : Bool) (t : TlbEntry) : State :=
  s.modEng e (fun g => if fetch then { g with itlb := (t :: g.itlb).take 8 } else { g with dtlb := (t :: g.dtlb).take 16 })
/-- A leaf goes into the unified TLB (512 entries), pointers into the walk cache (64); the oldest are dropped. -/
def State.fillShared (s : State) (c : Fin 17) (t : TlbEntry) (ws : List WalkEntry) : State :=
  s.modShared c (fun h => { h with utlb := (t :: h.utlb).take 512, walk := (ws ++ h.walk).take 64 })

/-! ### The walk (R284, R285, R287) -/

/-- A fault found by the walk or by stage 5 of R278: its DETAIL; the access gives it its cause and address. -/
def walkFault {α : Type} (detail : Nat) : EngM α := throw (.fault 0 detail 0)

/-- The read of a walk's next entry: within the physical range of a TABLE window of the engine, outside the register space. A walk whose
memory lets it wait stays in progress there. -/
def walkEntry (e : Fin 257) (k : Walk) : EngM Nat := do
  let s ← get
  let inTable := (s.ownWindows e).any (fun w => w.typ == 2 && decide (w.pa ≤ k.addr ∧ k.addr + 8 ≤ w.pa + w.size))
  let regs := match regionOf k.addr with | some (.rings, _) | some (.pages, _) => true | _ => false
  if !inTable || regs then walkFault (0x30 + k.level)
  else
    let b ← fun s => match liftMem (.fault 0 (0x40 + k.level) 0) (memRead (s.engWho e) k.addr 8) s with
      | .error (.wait w) s' => .error (.wait (.walk k w)) s'
      | r => r
    return natLE b

/-- NEXT of a pointer entry read at level n. -/
def walkPointer (n v : Nat) : EngM Nat :=
  if v % 2 = 0 then walkFault (0x10 + n)
  else if v / 2 ^ 40 ≠ 0 ∨ v / 2 % 2 ^ 11 ≠ 0 then walkFault (0x20 + n)
  else pure (v / 4096 % 2 ^ 28 * 4096)

/-- The translation of a leaf entry (R284, R285). -/
def walkLeaf (part va v : Nat) : EngM TlbEntry :=
  if v % 2 = 0 then walkFault 0x13
  else if v / 2 ^ 40 ≠ 0 ∨ v / 2 ^ 11 % 2 = 1 then walkFault 0x23
  else
    let size := if v / 2 ^ 10 % 2 = 1 then 65536 else 4096
    let base := v / 4096 % 2 ^ 28 * 4096
    pure { part, va := va / size * size, size, pa := base / size * size, key := v / 64 % 16, typ := v / 16 % 4,
           x := v / 8 % 2 == 1, w := v / 4 % 2 == 1, r := v / 2 % 2 == 1 }

/-- Where a walk begins: behind the pointers of the walk cache, or at the root table (R287, R294). -/
def walkBegin (e : Fin 257) (part va : Nat) : EngM Walk := do
  let s ← get
  let cache := s.shared[clusterOf e].walk
  let held := fun lvl idx => (cache.find? (fun w => w.part == part && w.level == lvl && w.idx == idx)).map (fun w => w.next)
  let k := fun level addr => ({ eng := e.val, part, page := va / 4096, level, addr } : Walk)
  match held 2 (va / 2 ^ 21), held 1 (va / 2 ^ 30) with
  | some t3, _ => return k 3 (t3 + 8 * (va / 4096 % 512))
  | none, some t2 => return k 2 (t2 + 8 * (va / 2 ^ 21 % 512))
  | none, none =>
    let lo := s.regN (0x300200 + 8 * part)
    if lo % 2 = 0 then walkFault 0x01
    else return k 1 (s.regN (0x300204 + 8 * part) % 256 * 2 ^ 32 + lo / 2 ^ 13 * 2 ^ 13 + 8 * (va / 2 ^ 30))

/-- A walk goes on, level by level, to its leaf; `n` bounds the levels left (R284, R287). -/
def walkOn (e : Fin 257) : Nat → Walk → EngM (TlbEntry × Walk)
  | 0, _ => walkFault 0
  | n + 1, k => do
    let v ← walkEntry e k
    let va := 4096 * k.page
    if 3 ≤ k.level then return (← walkLeaf k.part va v, k)
    else
      let t ← walkPointer k.level v
      let idx := if k.level = 1 then va / 2 ^ 30 else va / 2 ^ 21
      walkOn e n { k with
        level := k.level + 1, addr := t + 8 * (if k.level = 1 then va / 2 ^ 21 % 512 else va / 4096 % 512)
        ptrs := { part := k.part, level := k.level, idx, next := t } :: k.ptrs }

/-- The walkers of an engine's cluster (R287). -/
def walkers (e : Fin 257) : Nat := if e.val = 256 then 1 else 4

/-- A walk of a miss, from its beginning or from where it waited: it fills the unified TLB, the engine's TLB and the walk cache. One that a
TINV has met serves its own access alone; one that ends in a fault of its own caches nothing and counts in WALKFLT. A miss waits for another
walk of the page, and for a free walker (R281, R287, R292). -/
def walkFill (e : Fin 257) (fetch : Bool) (part va : Nat) : EngM TlbEntry := fun s =>
  let mine := s.walkOf e.val part (va / 4096)
  let near := s.walks.filter (fun k => k.eng / 16 == e.val / 16)
  if mine.isNone && (near.any (fun k => k.part == part && k.page == va / 4096) || decide (walkers e ≤ near.length)) then .error (.wait .busy) s
  else
    match (do walkOn e 3 (← match mine with | some k => pure k | none => walkBegin e part va)) s with
    | .ok (t, k) s' =>
      let s' := s'.walkEnd k
      .ok t (if k.stale then s' else (s'.fillShared (clusterOf e) t k.ptrs).fillTlb e fetch t)
    | .error (.fault c d a n) s' =>
      let s' := match mine with | some k => s'.walkEnd k | none => s'
      .error (.fault c d a n) (if d = 0x01 then s' else s'.incReg (pageBase (enginePage e) + 0x188))
    | .error x s' => .error x s'

/-- The stages of R278, in order. -/
def translateRaw (e : Fin 257) (fetch : Bool) (va : Nat) : EngM Phys := do
  let s ← get
  match s.ownWindowFor e va with
  | some w => return w.phys va
  | none =>
    let part := s.engines[e].partNo
    match tlbFind (if fetch then s.engines[e].itlb else s.engines[e].dtlb) part va with
    | some t => return t.phys va
    | none =>
      act (fun s => s.incReg (pageBase (enginePage e) + (if fetch then 0x180 else 0x184)))
      match tlbFind s.shared[clusterOf e].utlb part va with
      | some t =>
        act (fun s => s.fillTlb e fetch t)
        return t.phys va
      | none => return (← walkFill e fetch part va).phys va

/-- The number of an access in DETAIL. -/
def Right.code : Right → Nat
  | .read => 0 | .write => 1 | .execute => 2

/-- The translation of an access with its checks in R289's order; a fault has cause 0x06 (fetch), 0x07 (data) or 0x08 (key), and EADDR
`eaddr` (R291). -/
def translate (e : Fin 257) (va : Nat) (k : Right) (eaddr : Word) : EngM Phys := do
  let cause := if k = .execute then 0x06 else 0x07
  let p ← fun s => match translateRaw e (k == .execute) va s with
    | .error (.fault _ d _ n) s' => .error (.fault cause d eaddr n) s'
    | r => r
  let s ← get
  if k = .execute ∧ 2 ≤ p.typ then throw (.fault cause 0x60 eaddr)
  if !hasRight p.x p.w p.r k then throw (.fault cause (0x51 + k.code) eaddr)
  if !keyGrants s.engines[e].krights p.key k then throw (.fault 0x08 (k.code * 16 + p.key) eaddr)
  return p

/-! ### Invalidation (R292) -/

/-- TINV p: a broadcast goes out. -/
def State.tinvStart (s : State) (e : Fin 257) (p : Nat) : State :=
  s.modEng e (fun g => { g with tinvs := g.tinvs ++ [{ part := p, arrived := false, waits := [] }] })

/-- A broadcast arrives: every TLB, walk cache and predictor drops the partition's entries; each engine's acknowledgement awaits the
stores in its buffer. A walk of the partition in progress serves its own access and caches nothing. -/
def State.tinvArrive (s : State) (p : Nat) : State :=
  { s with
    walks := s.walks.map (fun k => if k.part = p then { k with stale := true } else k)
    engines := s.engines.map (fun g => { g with
      itlb := g.itlb.filter (fun t => t.part != p), dtlb := g.dtlb.filter (fun t => t.part != p), pred := g.pred.filter (fun t => t.1 != p) })
    shared := s.shared.map (fun h => { h with
      utlb := h.utlb.filter (fun t => t.part != p), walk := h.walk.filter (fun t => t.part != p) }) }

/-- The stores that engines hold now: engine, how many. -/
def State.heldStores (s : State) : List (Nat × Nat) :=
  (List.finRange 257).filterMap (fun e => if s.engines[e].sbuf.isEmpty then none else some (e.val, s.engines[e].sbuf.length))

/-- The oldest broadcast of engine e that is still on its way arrives everywhere. -/
def State.tinvBroadcast (s : State) (e : Fin 257) : State :=
  match s.engines[e].tinvs.findIdx? (fun t => !t.arrived) with
  | none => s
  | some i =>
    let p := (s.engines[e].tinvs[i]?.map Tinv.part).getD 0
    let w := s.heldStores
    let k := (s.walks.filter (fun k => k.part == p)).map (fun k => (k.eng, k.page))
    (s.tinvArrive p).modEng e (fun g => { g with tinvs := g.tinvs.modify i (fun t => { t with arrived := true, waits := w, walks := k }) })

/-- Every acknowledgement of the engine's TINVs has come (R292). -/
def Engine.tinvDone (g : Engine) : Bool := g.tinvs.all (fun t => t.arrived && t.waits.isEmpty && t.walks.isEmpty)

/-! ### Commands -/

/-- PAGE_WALK (R287): a walk for an address that no window and no TLB translates, or a walk in progress that goes on. A walk that ends in a
fault leaves nothing: the access that needs it raises the fault when it is made (R279). -/
def execPageWalk (e : Fin 257) (va : BitVec 40) (access : Access) (s : State) : Out :=
  let v := va.toNat
  let g := s.engines[e]
  let fetch := access == .fetch
  let mine := s.walks.find? (fun k => k.eng == e.val && k.page == v / 4096)
  let part := match mine with | some k => k.part | none => g.partNo
  if mine.isNone && ((s.ownWindowFor e v).isSome || (tlbFind (if fetch then g.itlb else g.dtlb) g.partNo v).isSome
    || (tlbFind s.shared[clusterOf e].utlb g.partNo v).isSome) then .next s
  else match walkFill e fetch part v s with
    | .ok _ s' => .next (s'.incReg (pageBase (enginePage e) + (if fetch then 0x180 else 0x184)))
    | .error (.wait w) _ => .next (s.settle w)
    | .error _ _ => .next (match mine with | some k => s.walkEnd k | none => s)

/-- TINV_BROADCAST (R292). -/
def execTinvBroadcast (e : Fin 257) (s : State) : Out := .next (s.tinvBroadcast e)

end Sys2Proof.Machine
end

