-- ==== Sys2Proof/Machine/EngMem.lean ====
section
/-!
DEFINITION. The memory accesses of an engine: store buffer (R223 to R226), data and instruction caches (R198), aligned, split and
atomic accesses (R230 to R232, R243 to R246), fetch (R209).
-/
namespace Sys2Proof.Machine

/-! ### Register space (R282) -/

/-- A physical address in the register space, as a register address. -/
def regSpaceOf (pa : Nat) : Option Nat := match regionOf pa with | some (.rings, off) | some (.pages, off) => some off | _ => none

/-- A register page is reached through DEVICE memory alone: the spec leaves any other access to one undefined (R282). -/
def pageGuard (p : Phys) : EngM Unit :=
  match regionOf p.pa with
  | some (.pages, _) => if p.typ = 3 then pure () else throw (.refuse .registerPageNotDevice)
  | _ => pure ()

/-- The byte lanes of a 32-bit register that bytes from `lane` fill: data and strobes. -/
def regLanes (lane : Nat) (bytes : List Byte) : Word × BitVec 4 :=
  (BitVec.ofNat 32 (natLE bytes * 2 ^ (8 * lane)), BitVec.ofNat 4 ((2 ^ bytes.length - 1) * 2 ^ lane))

/-- Bytes that engine `e` writes to register space, register by register; whether any write was refused. A store over two registers is a
partial write of each, which none takes (R30): a store of which a write waits for its acceptance edge is that one write. -/
def State.regStore (s : State) (e : Fin 257) (off : Nat) (bytes : List Byte) : Bool × State :=
  let m : Master := .xbar (engMaster e)
  let k := 4 - off % 4
  let (d, st) := regLanes (off % 4) (bytes.take k)
  let (err, s) := s.wrSpace m e.val (off / 4 * 4) d st false (.store e)
  if bytes.length ≤ k then (err, s)
  else
    let (d2, st2) := regLanes 0 (bytes.drop k)
    let (err2, s) := s.wrSpace m e.val (off / 4 * 4 + 4) d2 st2 false (.store e)
    (err || err2, s)

/-- Bytes read from register space. -/
def State.regLoad (s : State) (m : Master) (off n : Nat) : List Byte × State :=
  let (d, s) := s.rdSpace m (off / 4 * 4) false
  let b := (bytesLE 4 d.toNat).drop (off % 4)
  if n ≤ b.length then (b.take n, s)
  else
    let (d2, s) := s.rdSpace m (off / 4 * 4 + 4) false
    (b ++ (bytesLE 4 d2.toNat).take (n - b.length), s)

/-! ### The store buffer (R223 to R226) -/

/-- A store of an engine reaches its register, in the crossbar's turn: whether it was refused. One whose register lies in a clocked island
waits there for its acceptance edge (R306, R422). -/
def regDrain (e : Fin 257) (x : StoreEntry) (off : Nat) : MemM Bool := do
  arbGate (engMaster e).val (regTarget off)
  let s ← get
  let (err, t) := s.regStore e off x.bytes
  match t.islandQ.getLast? with
  | some w =>
    if s.islandQ.length < t.islandQ.length then throw (.wait (.island e w))
    set t
    return err
  | none =>
    set t
    return err

/-- The oldest store goes to its target, which acknowledges it; the answer says whether with an error. -/
def drainOne (e : Fin 257) : EngM Bool := fun s =>
  match s.engines[e].sbuf with
  | [] => .ok false s
  | x :: _ =>
    match regSpaceOf x.pa with
    | some off =>
      if x.island then .error (.wait .busy) s
      else match regDrain e x off s with
        | .ok err s => .ok err ((if err then s.lateError e x.va else s).storeLeft e)
        | .error .fault s => .ok true ((s.lateError e x.va).storeLeft e)
        | .error (.wait w) s => .error (.wait w) s
    | none =>
      match memWrite (s.engWho e) x.pa (x.bytes.map some) s with
      | .ok _ s => .ok false (s.storeLeft e)
      | .error .fault s => .ok true ((s.lateError e x.va).storeLeft e)
      | .error (.wait w) s => .error (.wait w) s

/-- The store buffer drains: an instruction waits until it is empty (R225). -/
def drainAll (e : Fin 257) : EngM Unit := do
  let s ← get
  s.engines[e].sbuf.forM (fun _ => do let _ ← drainOne e; pure ())

/-- The oldest store leaves. A drain that waits for the host marks its store as sent; any other wait is started (R224, R428). -/
def State.drainStep (s : State) (e : Fin 257) : State :=
  match drainOne e s with
  | .ok _ s' => s'
  | .error (.wait w) _ =>
    let s' := s.settle w
    if s.hostReqs.length < s'.hostReqs.length then
      let tag := (s'.hostReqs.getLast?.map HostReq.tag)
      s'.modEng e (fun g => { g with sbuf := match g.sbuf with | x :: r => { x with sent := tag } :: r | [] => [] })
    else s'
  | .error _ s' => s'

/-- A checked store enters the buffer; a full buffer lets its oldest store leave first. The data cache's line takes it (R223). -/
def enterStore (e : Fin 257) (va pa : Nat) (bytes : List Byte) : EngM Unit := do
  let s ← get
  if 8 ≤ s.engines[e].sbuf.length then let _ ← drainOne e
  act (fun s => s.modEng e (fun g => { g with
    sbuf := g.sbuf ++ [{ va, pa, bytes, sent := none }]
    dcache := g.dcache.map (fun l => (l.1, (List.range 32).zipWith (fun i b =>
      if pa ≤ 32 * l.1 + i ∧ 32 * l.1 + i < pa + bytes.length then bytes.getD (32 * l.1 + i - pa) b else b) l.2)) }))

/-- What a command of engine e does that meets a wait, having come to `s'`: it starts what it waits for. Stores that left before the
access that waits leave first, so that it goes out behind their acknowledgements (R225, R282). -/
def State.waits (s : State) (e : Fin 257) (s' : State) (w : Wait) : State :=
  if s'.engines[e].sbuf.take s.engines[e].sbuf.length == s.engines[e].sbuf then s.settle w else s.drainStep e

/-! ### Caches (R198) -/

/-- The line numbers of a 128-set, 2-way cache, the most recent first, after line `n` is used. -/
def useLine {α : Type} (num : α → Nat) (x : α) (l : List α) : List α :=
  let others := l.filter (fun y => num y != num x)
  let same := others.filter (fun y => num y % 128 == num x % 128)
  x :: others.filter (fun y => num y % 128 != num x % 128 || (same.take 1).any (fun z => num z == num y))

/-- The stores that wait, laid over bytes from `pa`, oldest first (R223). -/
def overlay (sbuf : List StoreEntry) (pa : Nat) (b : List Byte) : List Byte :=
  sbuf.foldl (fun b x => b.zipIdx.map (fun c =>
    let a := pa + c.2
    if x.pa ≤ a ∧ a < x.pa + x.bytes.length then x.bytes.getD (a - x.pa) c.1 else c.1)) b

/-- Caches are in use: STAT.DET = 0 (R200). -/
def Engine.cached (g : Engine) : Bool := !bitAt g.stat 10

/-- Bytes that one access reads: from a store still in the buffer, from the data cache, or from the target (R223, R282). `nc`: past the
data cache, whose line is invalidated. -/
def readBytes (e : Fin 257) (p : Phys) (n : Nat) (nc : Bool) (bad : Stop) : EngM (List Byte) := do
  if nc then act (fun s => s.modEng e (fun g => { g with dcache := g.dcache.filter (fun l => l.1 != p.pa / 32) }))
  match regSpaceOf p.pa with
  | some off =>
    pageGuard p
    drainAll e
    liftMem bad (arbGate (engMaster e).val (regTarget off))
    let s ← get
    let (b, s) := s.regLoad (.xbar (engMaster e)) off n
    set s
    return b
  | none =>
    if p.typ = 3 then drainAll e
    let s ← get
    let hits := s.engines[e].sbuf.filter (fun x => decide (x.pa < p.pa + n ∧ p.pa < x.pa + x.bytes.length))
    match hits.getLast? with
    | some x =>
      if x.pa ≤ p.pa ∧ p.pa + n ≤ x.pa + x.bytes.length then return (x.bytes.drop (p.pa - x.pa)).take n
      else drainAll e
    | none => pure ()
    let s ← get
    let g := s.engines[e]
    if p.typ = 0 ∧ g.cached ∧ !nc then
      let line := p.pa / 32
      let b ← match (if g.badLines.contains (false, line) then none else g.dcache.find? (fun l => l.1 == line)) with
        | some l => pure l.2
        | none => do
          let b ← liftMem bad (memRead (s.engWho e) (32 * line) 32)
          pure (overlay g.sbuf (32 * line) b)
      act (fun s => s.modEng e (fun g => { g with
        dcache := useLine (·.1) (line, b) g.dcache, badLines := g.badLines.filter (fun b => b != (false, line)) }))
      return (b.drop (p.pa % 32)).take n
    else liftMem bad (memRead (s.engWho e) p.pa n)

/-! ### Loads and stores (R230 to R232) -/

/-- The bytes of a load of `n` bytes at `va`: one access, or two halves. -/
def loadBytes (e : Fin 257) (va : Word) (n : Nat) (nc : Bool) : EngM (List Byte) := do
  let s ← get
  let a := va.toNat
  if a % n ≠ 0 ∧ !bitAt s.engines[e].stat 9 then throw (.fault 0x03 0 va)
  if a % 16 + n ≤ 16 then
    let p ← translate e a .read va
    readBytes e p n nc (.fault 0x05 0 va)
  else
    let k := 16 - a % 16
    let vb := va + BitVec.ofNat 32 k
    let p ← translate e a .read va
    let b1 ← readBytes e p k nc (.fault 0x05 0 va)
    let q ← translate e vb.toNat .read vb
    let b2 ← readBytes e q (n - k) nc (.fault 0x05 0 vb)
    return b1 ++ b2

/-- A load of an unsigned value. -/
def loadN (e : Fin 257) (va : Word) (n : Nat) (nc : Bool := false) : EngM Nat := return natLE (← loadBytes e va n nc)

/-- A part of a store: translated, checked, into the buffer (R224). -/
def storePart (e : Fin 257) (va : Word) (bytes : List Byte) : EngM Unit := do
  let p ← translate e va.toNat .write va
  pageGuard p
  enterStore e va.toNat p.pa bytes

/-- A store of `n` bytes at `va`: one access, or two halves (R230 to R232). -/
def storeN (e : Fin 257) (va : Word) (n v : Nat) : EngM Unit := do
  let s ← get
  let a := va.toNat
  let b := bytesLE n v
  if a % n ≠ 0 ∧ !bitAt s.engines[e].stat 9 then throw (.fault 0x03 1 va)
  if a % 16 + n ≤ 16 then storePart e va b
  else
    let k := 16 - a % 16
    storePart e va (b.take k)
    storePart e (va + BitVec.ofNat 32 k) (b.drop k)

/-- `n` sixteen-byte words read from an aligned address, each whole (R137, R256). -/
def loadWords16 (e : Fin 257) (va : Word) : Nat → EngM (List Byte)
  | 0 => pure []
  | n + 1 => do
    let p ← translate e va.toNat .read va
    let b ← readBytes e p 16 false (.fault 0x05 0 va)
    return b ++ (← loadWords16 e (va + 16) n)

/-! ### LDR, STC, TAS (R243 to R246) -/

/-- The target of an atomic access, past the data cache, after the store buffer is empty: Event Memory, a local bank, the Secure Bank; any
other raises a bus error. -/
def atomicTarget (e : Fin 257) (va : Word) (n : Nat) (k : Right) : EngM Phys := do
  let wr := if k = .write then 1 else 0
  if va.toNat % n ≠ 0 then throw (.fault 0x03 wr va)
  let p ← translate e va.toNat k va
  drainAll e
  act (fun s => s.modEng e (fun g => { g with dcache := g.dcache.filter (fun l => l.1 != p.pa / 32) }))
  match regionOf p.pa with
  | some (.em, _) | some (.cluster _, _) | some (.house, _) | some (.secure, _) => return p
  | _ => throw (.fault 0x05 wr va)

/-- LDR: the word, and the reservation of its granule. -/
def loadReserve (e : Fin 257) (va : Word) : EngM Word := do
  let p ← atomicTarget e va 4 .read
  let s ← get
  let b ← liftMem (.fault 0x05 0 va) (memRead (s.engWho e) p.pa 4)
  act (fun s => s.modEng e (fun g => { g with reserved := some (p.pa / 16) }))
  return wordLE b

/-- STC: stores if the reservation is held on its granule; no reservation is left. -/
def storeConditional (e : Fin 257) (va : Word) (v : Word) : EngM Bool := do
  let p ← atomicTarget e va 4 .write
  let s ← get
  let held := s.engines[e].reserved == some (p.pa / 16)
  if held then liftMem (.fault 0x05 1 va) (memWrite (s.engWho e) p.pa ((bytesLE 4 v.toNat).map some))
  else let _ ← liftMem (.fault 0x05 1 va) (checkAccess (s.engWho e) p.pa true)
  act (fun s => s.modEng e (fun g => { g with reserved := none, lastStc := held }))
  return held

/-- TAS: the byte, which becomes 0xFF. -/
def testAndSet (e : Fin 257) (va : Word) : EngM Byte := do
  let p ← atomicTarget e va 1 .write
  let s ← get
  let b ← liftMem (.fault 0x05 1 va) (memRead (s.engWho e) p.pa 1)
  liftMem (.fault 0x05 1 va) (memWrite (s.engWho e) p.pa [some 0xFF])
  return b.getD 0 0

/-! ### Fetch (R209, R258) -/

/-- The bytes of an instruction are fetched at `va`: each is translated; bytes that no held line of the instruction cache covers are
read. -/
def fetchBytes (e : Fin 257) (va : Word) : Nat → Bool → EngM Unit
  | 0, _ => pure ()
  | n + 1, first => do
    let p ← translate e va.toNat .execute va
    let bad := Stop.fault 0x04 0 va
    pageGuard p
    let s ← get
    let line := p.pa / 32
    if (regSpaceOf p.pa).isSome then
      liftMem bad (arbGate (engMaster e).val (regTarget (p.pa - 0x7F000000)))
      act (fun s => (s.regLoad (.xbar (engMaster e)) (p.pa - 0x7F000000) 1).2)
    else if p.typ = 0 ∧ s.engines[e].cached then
      if !s.engines[e].icache.contains line || s.engines[e].badLines.contains (true, line) then let _ ← liftMem bad (memRead (s.engWho e) (32 * line) 32)
      act (fun s => s.modEng e (fun g => { g with
        icache := useLine id line g.icache, badLines := g.badLines.filter (fun b => b != (true, line)) }))
    else if first ∨ va.toNat % 8 = 0 then let _ ← liftMem bad (memRead (s.engWho e) p.pa 1)
    fetchBytes e (va + 1) n false

end Sys2Proof.Machine
end

