-- ==== Sys2Proof/Machine/Operands.lean ====
section
/-!
DEFINITION. Where Cue Code instructions take their operands: the operand stack with its spills and fills (R214 to R217), the visible
load delay (R221, R222), the return stack (R218), address generators (R227).
-/
namespace Sys2Proof.Machine

/-! ### The operand stack (R214 to R217) -/

/-- LIMIT x 256. -/
def Engine.stackLimit (g : Engine) : Nat := fld g.dsl 8 24 * 256
/-- DSB, in 33 bits. -/
def Engine.stackBase (g : Engine) : Nat := g.stackLimit + (fld g.dsl 0 8 + 1) * 256
/-- The cells in memory, when DSP ≤ DSB. -/
def Engine.memCells (g : Engine) : Nat := (g.stackBase - g.dsp.toNat) / 4
/-- The depth of the stack. -/
def Engine.depth (g : Engine) : Nat := g.cells.length + g.memCells

/-- A spill of the bottom cached cell (R215). -/
def spill (e : Fin 257) : EngM Unit := do
  let s ← get
  let g := s.engines[e]
  let a := g.dsp - 4
  if g.dsp.toNat < g.stackLimit + 4 then throw (.fault 0x0A 0 a)
  storeN e a 4 ((g.cells.getLast?.getD 0).toNat)
  act (fun s => s.modEng e (fun g => { g with cells := g.cells.dropLast, dsp := a }))

/-- A fill of the cell at DSP (R215). -/
def fill (e : Fin 257) : EngM Unit := do
  let s ← get
  let g := s.engines[e]
  if g.stackBase ≤ g.dsp.toNat then throw (.fault 0x0B 0 g.dsp)
  let v ← loadN e g.dsp 4
  act (fun s => s.modEng e (fun g => { g with cells := g.cells ++ [BitVec.ofNat 32 v], dsp := g.dsp + 4 }))

/-- Fills until at least `n` cells are cached; `fuel` counts the fills (at most 8). -/
def needCells (e : Fin 257) (n : Nat) : Nat → EngM Unit
  | 0 => pure ()
  | k + 1 => do
    let s ← get
    if n ≤ s.engines[e].cells.length then pure () else do fill e; needCells e n k

/-- Spills until at most `n` cells are cached. -/
def spillTo (e : Fin 257) (n : Nat) : Nat → EngM Unit
  | 0 => pure ()
  | k + 1 => do
    let s ← get
    if s.engines[e].cells.length ≤ n then pure () else do spill e; spillTo e n k

/-- What an instruction needs before it takes `pops` cells and pushes `pushes`: its operands are cached, and there is room (R216). -/
def operands (e : Fin 257) (pops pushes : Nat) : EngM (List Word) := do
  needCells e pops 8
  spillTo e (8 + pops - pushes) 8
  let s ← get
  return s.engines[e].cells

/-- The cells after an instruction takes `pops` of them and writes `out`, top first. -/
def Engine.put (g : Engine) (pops : Nat) (out : List Word) : Engine := { g with cells := out ++ g.cells.drop pops }

/-! ### The visible load delay (R221) -/

/-- The value of a delayed load goes into its cell, wherever that is by now; a cell that no longer exists discards it. -/
def completeLoad (e : Fin 257) : EngM Unit := do
  let s ← get
  let g := s.engines[e]
  match g.load with
  | none => pure ()
  | some (p, v) =>
    act (fun s => s.modEng e (fun g => { g with load := none }))
    if p = 0 ∨ g.depth < p then pure ()
    else if p ≤ g.memCells then storeN e (BitVec.ofNat 32 (g.stackBase - 4 * p)) 4 v.toNat
    else act (fun s => s.modEng e (fun g => { g with cells := g.cells.set (g.depth - p) v }))

/-! ### The return stack (R218, R219) -/

/-- A word is pushed; a push that fails the check raises return-stack overflow. -/
def pushReturn (e : Fin 257) (v : Word) : EngM Unit := do
  let s ← get
  let g := s.engines[e]
  let a := g.rsp - 4
  if g.rsp.toNat < g.rsl.toNat + 4 then throw (.fault 0x0C 0 a)
  storeN e a 4 v.toNat

/-- The word `k` bytes above RSP. -/
def readReturn (e : Fin 257) (k : Nat) : EngM Word := do
  let s ← get
  return BitVec.ofNat 32 (← loadN e (s.engines[e].rsp + BitVec.ofNat 32 k) 4)

/-! ### Address generators (R227) -/

/-- Field f of generator n: 0 BASE, 1 INDEX, 2 STEP, 3 MODLEN, 4 MODE. -/
def Engine.agField (g : Engine) (n f : Nat) : Word := g.ag.toArray.getD (5 * n + f) 0
/-- The address of generator n. -/
def Engine.agAddr (g : Engine) (n : Nat) : Word := g.agField n 0 + g.agField n 1
/-- INDEX after an access. -/
def agNext (index step modlen mode : Word) : Word :=
  let m := modlen.toNat
  if fld mode 0 2 = 1 ∧ m ≠ 0 then BitVec.ofNat 32 (((index.toNat : Int) + step.toInt) % (m : Int)).toNat
  else if fld mode 0 2 = 2 ∧ 2 ≤ m then
    let k := log2Floor 32 m
    let i := index.toNat
    let r := revBits k i + revBits k step.toNat
    BitVec.ofNat 32 (i / 2 ^ k * 2 ^ k + revBits k r)
  else index + step
/-- Generator n moves on. -/
def Engine.agStep (g : Engine) (n : Nat) : Engine :=
  { g with ag := g.ag.setIfInBounds (5 * n + 1) (agNext (g.agField n 1) (g.agField n 2) (g.agField n 3) (g.agField n 4)) }

end Sys2Proof.Machine
end

