-- ==== Sys2Proof/Machine/Except.lean ====
section
/-!
DEFINITION. Instruction boundaries (R193, R273, R274), exception and interrupt entry (R264 to R269), Dark (R192, R270), asynchronous
events (R271, R272), the debug halt (R405), and the commands that make them.
-/
namespace Sys2Proof.Machine

/-! ### Dark (R192, R270) -/

/-- An engine goes Dark: state frozen, ECAUSE with cause 0x0F, its reason and micro-address, IRQ_STAT bit 0 of its page; source 31 of the
House engine for a Cue engine; the House engine's own work fails. -/
def State.goDark (s : State) (e : Fin 257) (reason : Nat) (upc : BitVec 16) (orig : Nat) : State :=
  let s := s.modEng e (fun g => { g with
    run := .dark, dreason := BitVec.ofNat 8 reason, dpc := upc, waitMask := none, waitEv := none, stepping := false, stopReq := false
    ecause := BitVec.ofNat 32 (orig * 2 ^ 16 + reason * 2 ^ 8 + 0x0F) })
  let s := s.irq (enginePage e) 0
  if e.val = 256 then s.houseWorkFails else s.raiseSource houseNo 31

/-! ### Boundaries (R193) -/

/-- A change of STAT.DET invalidates both caches and the predictor (R199, R200). -/
def Engine.setStat (g : Engine) (v : Word) : Engine :=
  let g := if bitAt v 10 != bitAt g.stat 10 then { g with dcache := [], icache := [], pred := [] } else g
  { g with stat := v }

/-- MODE, IE, IPL, DET that are due, the House engine's MODE held at 1; then CFG as the last SYNC.P found it (R212, R260, R273,
R274). -/
def Engine.due (g : Engine) (house : Bool) : Engine :=
  let g := match g.statNext with
    | some n => { g.setStat (putFld g.stat 10 6 (fld n 10 5 + 32 * b2n (house || bitAt n 15))) with statNext := none }
    | none => g
  match g.cfgSync with
  | some c => { g with stat := putBit (putBit g.stat 9 (bitAt c 0)) 8 (bitAt c 1), cfgSync := none }
  | none => g

/-- An instruction boundary, or the point between two elements of a REP instruction: what is due takes effect; the engine that is to stop
stops (R161, R203, R229). -/
def State.boundary (s : State) (e : Fin 257) : State :=
  let s := s.modEng e (fun g => { g.due (decide (e.val = 256)) with
    micro := false, mstack := [], stepping := false, inInstr := false, oldStore := if g.rep then g.oldStore else [], oldWin := if g.rep then g.oldWin else [] })
  if s.engines[e].run = .running ∧ !s.engines[e].rep ∧ s.stopDue e then s.modEng e Engine.stopped else s

/-! ### Events that pend (R268, R271, R272) -/

/-- The asynchronous event that is taken next: its cause and EADDR. While RSP < RSL late store errors and watchdog expiries are held. -/
def State.pendingEvent (s : State) (e : Fin 257) : Option (Nat × Word) :=
  let g := s.engines[e]
  let held := decide (g.rsp.toNat < g.rsl.toNat)
  if g.lse && !held then some (0x0D, g.lseaddr)
  else if g.wdg.pend && !held then some (0x0E, 0)
  else if bitAt g.stat 14 then (s.intChoice e (fld g.stat 11 3)).map (fun c => (0x20 + c.2, 0))
  else none

/-- A step goes on without asynchronous events: DCTRL.STEPINT = 0 (R406). -/
def State.quietStep (s : State) (e : Fin 257) : Bool := s.engines[e].stepping && !bitAt (s.getReg 0x007044) 1
/-- In deterministic mode the next microword, base microcode among them, waits for its pacing tick (R200). -/
def State.paced (s : State) (e : Fin 257) : Bool := !bitAt s.engines[e].stat 10 || s.engines[e].tickWait == 0
/-- The engine is at a boundary, running, and its next microword is due. -/
def State.atBoundary (s : State) (e : Fin 257) : Bool := s.engines[e].run == .running && !s.engines[e].micro && s.paced e
/-- At a boundary, no halt is requested but one that a step waits for (R193, order 1). -/
def State.noHalt (s : State) (e : Fin 257) : Bool := s.engines[e].stepping || (s.haltCauses e).isEmpty
/-- The engine is at a boundary and neither order 1 nor order 2 of R193 applies. -/
def State.canRun (s : State) (e : Fin 257) : Bool :=
  s.atBoundary e && s.noHalt e && (s.quietStep e || (s.pendingEvent e).isNone)

/-! ### Entry (R264 to R269) -/

/-- A delayed load completes before an entry or a halt (R222). A value whose memory word refuses it is lost. -/
def settleLoad (e : Fin 257) : EngM Unit := fun s =>
  match completeLoad e s with
  | .error (.fault ..) s' => .ok () s'
  | r => r

/-- A frame word's translation. -/
def frameWord (e : Fin 257) (a : Word) : EngM Phys := do
  let p ← translate e a.toNat .write a
  pageGuard p
  return p

/-- The failure of an entry: Dark, reason 0x07, EADDR as R269 gives. The micro-address in the entry routine is not given. -/
def State.entryDark (s : State) (e : Fin 257) (cause : Nat) (eaddr : Word) : State :=
  let (u, s) := s.draw
  (s.modEng e (fun g => { g with eaddr })).goDark e 0x07 (u.setWidth 16) cause

/-- Both frame words, stored through the store buffer (step 4). -/
def pushFrame (e : Fin 257) (ret : Word) : EngM Unit := do
  let s ← get
  let g := s.engines[e]
  let p ← frameWord e (g.rsp - 4)
  let q ← frameWord e (g.rsp - 8)
  enterStore e (g.rsp - 4).toNat p.pa (bytesLE 4 ret.toNat)
  enterStore e (g.rsp - 8).toNat q.pa (bytesLE 4 g.stat.toNat)

/-- Steps 5 and 6: ECAUSE, EADDR, the pending state that is cleared, MODE = House, IE = 0, PC at the vector. -/
def Engine.entered (g : Engine) (cause orig detail : Nat) (eaddr : Word) : Engine :=
  let g := { g with
    rsp := g.rsp - 8, ecause := BitVec.ofNat 32 (orig * 2 ^ 16 + detail * 2 ^ 8 + cause), eaddr
    lse := g.lse && cause != 0x0D, rep := false
    stat := putFld g.stat 14 2 2, pc := g.vbase + BitVec.ofNat 32 (16 * cause) }
  if cause = 0x0E then { g with wdg := { g.wdg with pend := false } } else g

/-- Exception and interrupt entry (R264): cause, DETAIL, EADDR and the return address. XCAUSE has latched the cause before the entry routine
looks at the return stack (R186, R191). -/
def enterException (e : Fin 257) (cause detail : Nat) (eaddr ret : Word) : EngM Unit := do
  settleLoad e
  act (fun s => s.modEng e (fun g => { g.due (decide (e.val = 256)) with
    mstack := [], reserved := none, micro := false, inInstr := false, oldStore := [], oldWin := [], xcause := BitVec.ofNat 8 cause }))
  let s ← get
  let g := s.engines[e]
  let r := g.rsp.toNat
  let l := g.rsl.toNat
  if r < l ∨ r < 8 then act (fun s => s.entryDark e cause g.rsp)
  else
    let displaced := decide (r < l + 8) && cause != 0x0C
    match pushFrame e ret s with
    | .error (.fault _ _ a _) s' => set (s'.entryDark e (if displaced then 0x0C else cause) a)
    | .error x _ => throw x
    | .ok _ s' =>
      set (s'.modEng e (fun g => if displaced then g.entered 0x0C cause 0 (g.rsp - 8) else g.entered cause 0 detail eaddr))

/-- PBASE, 0 acting as 1 (R200). -/
def State.paceBase (s : State) (e : Fin 257) : Nat :=
  let b := fld (s.getReg (engBase e + 0x060)) 0 8
  if e.val = 256 ∨ b = 0 then 1 else b

/-- Base microwords have run: how many, what their PX add to the pace of the next word, and how many of them a deterministic engine was not
ready for at their ticks, the spec does not give (R200, R201, R391): free values. -/
def State.countBase (s : State) (e : Fin 257) : State :=
  let n := Config.baseMicrowords s.freeIndex
  let late := Config.baseOverruns s.freeIndex
  let ticks := n * s.paceBase e + Config.basePx s.freeIndex
  let s := ((s.drew 1).useMicro e n).modEng e (fun g => { g with tickWait := ticks, paceLate := false })
  if e.val < 256 then
    let s := s.addReg (engBase e + 0x070) n
    if bitAt s.engines[e].stat 10 && late != 0 then (s.addReg (engBase e + 0x064) late).irq (enginePage e) 2 else s
  else s

/-- The base microcode of an instruction or an entry has run, with what it leaves in the microcode's own registers (R178): free values. -/
def State.ranBase (s : State) (e : Fin 257) : State :=
  let s := s.countBase e
  let i := s.freeIndex
  let f := fun k => Config.freeWord (i + k)
  (s.drew 8).modEng e (fun g => { g with
    x := #v[f 0, f 1, f 2, f 3], mdr := f 4, mdrOld := f 5, prevRes := f 6, lc := (f 7).setWidth 16, lastUpc := none })

/-- A whole entry as a command makes it that began in `base`. -/
def State.takeException (s base : State) (e : Fin 257) (cause detail : Nat) (eaddr ret : Word) : Out :=
  match enterException e cause detail eaddr ret s with
  | .ok _ s' => .next ((s'.ranBase e).boundary e)
  | .error (.wait w) s' => .next (base.waits e s' w)
  | .error (.refuse r) _ => .refused r
  | .error _ _ => .next base

/-! ### Halt (R405) -/

/-- The engine halts at a boundary: its delayed load has completed, and the base microcode of the debug entry has run. The command began in
`base`. -/
def State.takeHalt (s base : State) (e : Fin 257) (cause : Nat) : Out :=
  match settleLoad e s with
  | .ok _ s' => .next (((s'.modEng e (fun g => { g with rep := false })).ranBase e).haltEntered e cause)
  | .error (.wait w) s' => .next (base.waits e s' w)
  | .error (.refuse r) _ => .refused r
  | .error _ _ => .next base

/-! ### Commands -/

/-- DEBUG_HALT (R405): order 1 of R193. -/
def execDebugHalt (e : Fin 257) (s : State) : Out :=
  if s.atBoundary e && !s.engines[e].stepping then
    match (s.haltCauses e).head? with
    | some cause => s.takeHalt s e cause
    | none => .next s
  else .next s

/-- STORE_BUFFER_DRAIN (R224, R226), with what the store meets at its bank (R297, R299). -/
def execStoreBufferDrain (e : Fin 257) (col : Collision) (s : State) : Out :=
  let t := s.drainStep e
  .next (match s.engines[e].sbuf.head? with
    | some x => if t.engines[e].sbuf.length < s.engines[e].sbuf.length then t.meets (engMaster e).val x.pa true col else t
    | none => t)

/-- LATE_STORE_ERROR (R226): the target of the oldest store answers it with an error. -/
def execLateStoreError (e : Fin 257) (s : State) : Out :=
  match drainOne e s with
  | .ok true s' => .next s'
  | _ => .next s

end Sys2Proof.Machine
end

