-- ==== Sys2Proof/Machine/Flags.lean ====
section
/-!
DEFINITION. The arithmetic and logic of Cue Code and of microwords with their flags (R180, R181, R213, R239 to R242): a result with
the flags that the operation defines.
-/
namespace Sys2Proof.Machine

/-- A result: the word, C and V where the operation defines them, and whether a division by zero occurred. -/
structure Alu where
  r : Word
  c : Option Bool := none
  v : Option Bool := none
  dz : Bool := false
  deriving DecidableEq, Repr

/-! ### STAT's flags (R211, R213) -/

/-- Flag N, Z, C, V, DZ of a STAT word. -/
def flagN (st : Word) : Bool := bitAt st 31
def flagZ (st : Word) : Bool := bitAt st 30
def flagC (st : Word) : Bool := bitAt st 29
def flagV (st : Word) : Bool := bitAt st 28
def flagDz (st : Word) : Bool := bitAt st 27
/-- A flag takes a value where there is one. -/
def putFlag (st : Word) (i : Nat) : Option Bool → Word
  | some b => putBit st i b
  | none => st
/-- N and Z of a result. -/
def putNZ (st r : Word) : Word := putBit (putBit st 31 (bitAt r 31)) 30 (r == 0)
/-- STAT after an operation that sets N, Z and the flags it defines (R240, R241). -/
def Alu.flags (st : Word) (a : Alu) : Word :=
  let st := putFlag (putFlag (putNZ st a.r) 29 a.c) 28 a.v
  if a.dz then putBit st 27 true else st

/-- Condition c of R213. -/
def condHolds (st : Word) (c : Nat) : Bool :=
  let n := flagN st
  let z := flagZ st
  let cc := flagC st
  let v := flagV st
  let even := match c / 2 with
    | 0 => true
    | 1 => z
    | 2 => n != v
    | 3 => z || n != v
    | 4 => cc
    | 5 => cc && !z
    | 6 => n
    | _ => v
  if c % 2 = 0 then even else !even

/-! ### Addition and subtraction (R240) -/

/-- a + b + carry: C the carry out of bit 31, V the signed overflow. -/
def aluAdd (a b : Word) (cin : Bool) : Alu :=
  let r := a + b + BitVec.ofNat 32 (b2n cin)
  { r, c := some (decide (2 ^ 32 ≤ a.toNat + b.toNat + b2n cin)), v := some (bitAt a 31 == bitAt b 31 && bitAt r 31 != bitAt a 31) }
/-- a - b - borrow: C is 1 when no borrow occurs, V the signed overflow. -/
def aluSub (a b : Word) (bin : Bool) : Alu :=
  let r := a - b - BitVec.ofNat 32 (b2n bin)
  { r, c := some (decide (b.toNat + b2n bin ≤ a.toNat)), v := some (bitAt a 31 != bitAt b 31 && bitAt r 31 != bitAt a 31) }
/-- The negation of a: V for 0x8000_0000 alone. -/
def aluNeg (a : Word) : Alu := { r := -a, v := some (a == 0x80000000) }
/-- An integer clamped to the range of a signed word; V when it was clamped. -/
def clampSigned (x : Int) : Alu :=
  if x < -2147483648 then { r := 0x80000000, v := some true }
  else if 2147483647 < x then { r := 0x7FFFFFFF, v := some true }
  else { r := BitVec.ofInt 32 x, v := some false }
/-- a + b, signed saturating. -/
def aluAdds (a b : Word) : Alu := clampSigned (a.toInt + b.toInt)
/-- a - b, signed saturating. -/
def aluSubs (a b : Word) : Alu := clampSigned (a.toInt - b.toInt)
/-- a + b, unsigned saturating. -/
def aluAddus (a b : Word) : Alu :=
  if 2 ^ 32 ≤ a.toNat + b.toNat then { r := 0xFFFFFFFF, v := some true } else { r := a + b, v := some false }

/-! ### Multiplication and division (R239, R241) -/

/-- The low, the signed high and the unsigned high 32 bits of a product. -/
def mulLow (a b : Word) : Word := a * b
def mulHighS (a b : Word) : Word := BitVec.ofInt 32 (a.toInt * b.toInt / 2 ^ 32)
def mulHighU (a b : Word) : Word := BitVec.ofNat 32 (a.toNat * b.toNat / 2 ^ 32)
/-- Signed quotient, truncated toward zero. -/
def aluDivs (a b : Word) : Alu :=
  if b = 0 then { r := 0xFFFFFFFF, v := some true, dz := true }
  else { r := BitVec.ofInt 32 (a.toInt.tdiv b.toInt), v := some (a == 0x80000000 && b == 0xFFFFFFFF) }
/-- Unsigned quotient. -/
def aluDivu (a b : Word) : Alu :=
  if b = 0 then { r := 0xFFFFFFFF, v := some true, dz := true } else { r := BitVec.ofNat 32 (a.toNat / b.toNat), v := some false }
/-- Signed remainder, with the sign of a. -/
def aluRems (a b : Word) : Alu :=
  if b = 0 then { r := a, v := some true, dz := true }
  else { r := BitVec.ofInt 32 (a.toInt.tmod b.toInt), v := some (a == 0x80000000 && b == 0xFFFFFFFF) }
/-- Unsigned remainder. -/
def aluRemu (a b : Word) : Alu :=
  if b = 0 then { r := a, v := some true, dz := true } else { r := BitVec.ofNat 32 (a.toNat % b.toNat), v := some false }

/-! ### Shifts and rotates (R242) -/

/-- x shifted left by n. -/
def aluShl (x : Word) (n : Nat) : Alu :=
  if n = 0 then { r := x, c := some false }
  else if n ≤ 32 then { r := BitVec.ofNat 32 (x.toNat * 2 ^ n), c := some (bitAt x (32 - n)) }
  else { r := 0, c := some false }
/-- x shifted right by n. -/
def aluShr (x : Word) (n : Nat) : Alu :=
  if n = 0 then { r := x, c := some false }
  else if n ≤ 32 then { r := BitVec.ofNat 32 (x.toNat / 2 ^ n), c := some (bitAt x (n - 1)) }
  else { r := 0, c := some false }
/-- x shifted right by n with sign fill. -/
def aluSar (x : Word) (n : Nat) : Alu :=
  if n = 0 then { r := x, c := some false }
  else if n ≤ 32 then { r := BitVec.ofInt 32 (x.toInt / 2 ^ n), c := some (bitAt x (n - 1)) }
  else { r := if bitAt x 31 then 0xFFFFFFFF else 0, c := some false }
/-- x rotated left by n mod 32. -/
def aluRol (x : Word) (n : Nat) : Alu :=
  let k := n % 32
  if k = 0 then { r := x, c := some false }
  else
    let r := BitVec.ofNat 32 (x.toNat * 2 ^ k + x.toNat / 2 ^ (32 - k))
    { r, c := some (bitAt r 0) }
/-- x rotated right by n mod 32. -/
def aluRor (x : Word) (n : Nat) : Alu :=
  let k := n % 32
  if k = 0 then { r := x, c := some false }
  else
    let r := BitVec.ofNat 32 (x.toNat / 2 ^ k + x.toNat * 2 ^ (32 - k))
    { r, c := some (bitAt r 31) }

/-! ### Logic, minimum, maximum, counts -/

/-- The smaller and the larger, signed and unsigned. -/
def minS (a b : Word) : Word := if a.toInt ≤ b.toInt then a else b
def maxS (a b : Word) : Word := if a.toInt ≤ b.toInt then b else a
def minU (a b : Word) : Word := if a.toNat ≤ b.toNat then a else b
def maxU (a b : Word) : Word := if a.toNat ≤ b.toNat then b else a
/-- Leading zero bits, 0 to 32. -/
def clz32 (a : Word) : Word := if a = 0 then 32 else BitVec.ofNat 32 (31 - log2Floor 32 a.toNat)
/-- A word with its byte order reversed. -/
def swapBytes (a : Word) : Word := BitVec.ofNat 32 (natLE (bytesLE 4 a.toNat).reverse)
/-- A value extended by its sign from `n` bits. -/
def sextW (n : Nat) (v : Nat) : Word := BitVec.ofInt 32 (sextInt (BitVec.ofNat 32 v) n)

end Sys2Proof.Machine
end

