-- ==== Sys2Proof/Machine/CueRun.lean ====
section
/-!
DEFINITION. How one Cue Code instruction runs (R193, R209, R215 to R222, R233 to R236): fetch, dispatch, its own effect, the boundary, or
the exception it raises. The bytes of an instruction come with its command (log entry 6).
-/
namespace Sys2Proof.Machine

/-- What an instruction does once every access that can fault is behind it: the change of its engine (R216, R236). -/
abbrev Commit := Engine → Engine
/-- The effect of an instruction: its fills, spills and accesses, then its commit. -/
abbrev Body := EngM Commit

/-- House mode's privilege, or the Prompter's (R259, R407). -/
def State.privileged (s : State) (e : Fin 257) : Bool := s.inHouse e || s.prompting e

/-- The immediate length of a dispatch entry's code (R194). -/
def ilenOf (flags : Nat) : Nat := match flags % 4 with | 0 => 0 | 1 => 1 | 2 => 2 | _ => 4

/-- A check error of a dispatch entry as it is used: a single one is corrected, counted and written back; a double one is a microcode
fault (R196, R197). -/
def useEntry (e : Fin 257) (x : Nat) : EngM Unit := do
  let s ← get
  match spGet (fun _ => none) s.dispErr (256 * e.val + x) with
  | none => pure ()
  | some true => throw (.dark 0x03)
  | some false =>
    act (fun s => { s with dispErr := spSet (fun _ => none) s.dispErr (256 * e.val + x) none })
    if e.val < 256 then
      act (fun s => (s.countIrq (enginePage e) 0x068 1).setReg (engBase e + 0x06C) (BitVec.ofNat 32 (2 ^ 31 + 0xF000 + x)))

/-- Fetch and dispatch of a base opcode whose instruction has `len` bytes from PC (R193, R209, R235): PC moves past it. -/
def dispatchBase (e : Fin 257) (opc len : Nat) (imm : Word) : EngM Unit := do
  let s ← get
  let pc := s.engines[e].pc
  if !s.entryIsBase e.val opc then throw (.refuse .baseDispatchDiffers)
  if !s.prompting e then fetchBytes e pc len true
  useEntry e opc
  act (fun s => s.modEng e (fun g => { g with
    rep := false, inInstr := true, ipc := pc, opc := BitVec.ofNat 8 opc, immv := imm
    pc := if s.prompting e then pc else pc + BitVec.ofNat 32 len }))
  let s ← get
  if baseFlags opc / 4 % 2 = 1 ∧ !s.privileged e then throw (.fault 0x09 0 pc)

/-- A commit of an engine, after the delayed load of the instruction before (R221). -/
def finish (e : Fin 257) (f : Commit) : EngM Unit := do
  completeLoad e
  act (fun s => s.modEng e f)

/-- An instruction that faults leaves cells, DSP and PC as they stood (R216, R236). -/
def State.undo (s : State) (e : Fin 257) (g0 : Engine) : State :=
  s.modEng e (fun g => { g with cells := g0.cells, dsp := g0.dsp, pc := g0.pc, load := g0.load, rep := g0.rep })

/-- The micro-address of a microcode fault at a dispatch: the DISPATCH word of the user routine that came before; after base microcode it is
not given, a free value (R192; log entry 98). -/
def State.dispatchUpc (s : State) (e : Fin 257) (base : State) : BitVec 16 × State :=
  match base.engines[e].lastUpc with
  | some u => (u, s)
  | none => (s.draw.1.setWidth 16, s.draw.2)

/-- What a running engine makes of an instruction's outcome: its boundary, its exception, the debug halt of BKPT, Dark, a wait (log
entry 26). -/
def State.conclude (s : State) (e : Fin 257) (r : EStateM.Result Stop State Unit) : Out :=
  let g0 := s.engines[e]
  match r with
  | .ok _ s' => .next ((s'.ranBase e).boundary e)
  | .error (.wait w) s' => .next (s.waits e s' w)
  | .error (.refuse x) _ => .refused x
  | .error (.dark reason) s' =>
    let (u, s') := s'.dispatchUpc e s
    .next ((s'.undo e g0).goDark e reason u 0)
  | .error .bkpt s' => (s'.undo e g0).takeHalt s e 2
  | .error (.fault cause detail eaddr next) s' =>
    (s'.undo e g0).takeException s e cause detail eaddr (if next then s'.engines[e].pc else g0.pc)

/-- A dispatch ends in a routine that runs by its microwords: at TARGET, with OPC, IMMV, IPC and PC (R193, R195). -/
def beginRoutine (e : Fin 257) (opc target immLen : Nat) (imm : Word) : EngM Unit := do
  let s ← get
  if !upcOk (decide (e.val = 256)) target then throw (.dark 0x01)
  let pc := s.engines[e].pc
  act (fun s => s.modEng e (fun g => { g with
    rep := false, micro := true, upc := BitVec.ofNat 16 target, mstack := [], ipc := pc, opc := BitVec.ofNat 8 opc
    immv := BitVec.ofNat 32 (imm.toNat % 2 ^ (8 * immLen)), pc := if s.prompting e then pc else pc + 1 + BitVec.ofNat 32 immLen }))

/-- A base opcode whose loaded entry names another routine than the base image's (R193, order 6; R194). -/
def dispatchMoved (e : Fin 257) (opc len : Nat) (imm : Word) : EngM Unit := do
  let s ← get
  if !s.prompting e then fetchBytes e s.engines[e].pc len true
  useEntry e opc
  let s ← get
  if baseFlags opc / 4 % 2 = 1 ∧ !s.privileged e then throw (.fault 0x09 0 s.engines[e].pc)
  beginRoutine e opc (fld (s.dispEntry e.val opc) 0 16) (ilenOf (baseFlags opc)) imm

/-- What a running engine makes of a dispatch that begins a routine. -/
def State.dispatched (s : State) (e : Fin 257) (r : EStateM.Result Stop State Unit) : Out :=
  match r with
  | .ok _ s' => .next s'
  | r => s.conclude e r

/-- One instruction of an engine: opcode, bytes, immediate, effect. It runs only at a boundary at which nothing else comes first. -/
def State.instr (s : State) (e : Fin 257) (opc len : Nat) (imm : Word) (body : Body) : Out :=
  if !s.canRun e then .next s
  else if s.entryIsBase e.val opc && s.entryMoved e.val opc then s.dispatched e (dispatchMoved e opc len imm s)
  else s.conclude e ((do dispatchBase e opc len imm; finish e (← body)) s)

/-! ### Operand forms and results -/

/-- STAT takes the flags of a result. -/
def Engine.flags (g : Engine) (a : Alu) : Engine := { g with stat := a.flags g.stat }
/-- STAT.Z alone. -/
def Engine.flagZ (g : Engine) (z : Bool) : Engine := { g with stat := putBit g.stat 30 z }
/-- The engine record. -/
def engOf (e : Fin 257) : EngM Engine := return (← get).engines[e]

/-- An instruction that takes `pops` cells (top first) and pushes what `f` gives. -/
def stackOp (e : Fin 257) (pops pushes : Nat) (f : List Word → List Word) : Body := do
  let c ← operands e pops pushes
  return fun g => g.put pops (f (c.take pops))
/-- ( a b -- r ) with flags. -/
def binary (e : Fin 257) (f : Word → Word → Word → Alu) : Body := do
  let c ← operands e 2 1
  let g ← engOf e
  let a := f g.stat (c.getD 1 0) (c.getD 0 0)
  return fun g => (g.put 2 [a.r]).flags a
/-- ( a -- r ) with flags. -/
def unary (e : Fin 257) (f : Word → Alu) : Body := do
  let c ← operands e 1 1
  let a := f (c.getD 0 0)
  return fun g => (g.put 1 [a.r]).flags a
/-- ( a b -- ) or ( a -- ): flags alone. -/
def compare (e : Fin 257) (n : Nat) (f : List Word → Alu) : Body := do
  let c ← operands e n 0
  let a := f (c.take n)
  return fun g => (g.put n []).flags a

/-! ### Commands -/

/-- An opcode at PC whose entry has VALID = 0: the illegal-opcode fault, for 0xC0 to 0xFF the emulation trap, with nothing changed before
(R193, order 4; R234). -/
def dispatchReserved (e : Fin 257) (opc : Nat) : EngM Unit := do
  let s ← get
  let pc := s.engines[e].pc
  if !s.entryIsBase e.val opc then throw (.refuse .baseDispatchDiffers)
  if !s.prompting e then fetchBytes e pc 1 true
  useEntry e opc
  throw (.fault (if 0xC0 ≤ opc then 0x02 else 0x01) 0 pc)

/-- An opcode of the base map that is reserved: its entry has VALID = 0, and it is no user opcode (R233, R234). -/
def baseReserved (x : Nat) : Bool := baseFlags x == 0 && x / 16 != 0xE

/-- EXCEPTION_ENTRY (R264): the asynchronous event that order 2 of R193 selects; with a reserved base opcode at PC, its exception (R234). -/
def execExceptionEntry (e : Fin 257) (opc : Option (BitVec 8)) (s : State) : Out :=
  match opc with
  | some x => if s.canRun e && baseReserved x.toNat then s.conclude e (dispatchReserved e x.toNat s) else .next s
  | none =>
    if s.atBoundary e && s.noHalt e && !s.quietStep e then
      match s.pendingEvent e with
      | some (cause, eaddr) => s.takeException s e cause 0 eaddr s.engines[e].pc
      | none => .next s
    else .next s

end Sys2Proof.Machine
end

