-- ==== Sys2Proof/Machine/CueArith.lean ====
section
/-!
DEFINITION. Cue Code: arithmetic and logic (R239 to R242).
-/
namespace Sys2Proof.Machine

/-- A result with no flags but N and Z. -/
def plain (r : Word) : Alu := { r }

def bodyAdd (e : Fin 257) : Body := binary e (fun _ a b => aluAdd a b false)
def bodyAdc (e : Fin 257) : Body := binary e (fun st a b => aluAdd a b (flagC st))
def bodySub (e : Fin 257) : Body := binary e (fun _ a b => aluSub a b false)
def bodySbc (e : Fin 257) : Body := binary e (fun st a b => aluSub a b (!flagC st))
def bodyNeg (e : Fin 257) : Body := unary e aluNeg
def bodyAdds (e : Fin 257) : Body := binary e (fun _ => aluAdds)
def bodySubs (e : Fin 257) : Body := binary e (fun _ => aluSubs)
def bodyAddus (e : Fin 257) : Body := binary e (fun _ => aluAddus)
def bodyMul (e : Fin 257) : Body := binary e (fun _ a b => plain (mulLow a b))
def bodyMulhs (e : Fin 257) : Body := binary e (fun _ a b => plain (mulHighS a b))
def bodyMulhu (e : Fin 257) : Body := binary e (fun _ a b => plain (mulHighU a b))
def bodyDivs (e : Fin 257) : Body := binary e (fun _ => aluDivs)
def bodyDivu (e : Fin 257) : Body := binary e (fun _ => aluDivu)
def bodyRems (e : Fin 257) : Body := binary e (fun _ => aluRems)
def bodyRemu (e : Fin 257) : Body := binary e (fun _ => aluRemu)
def bodyCmp (e : Fin 257) : Body := compare e 2 (fun c => aluSub (c.getD 1 0) (c.getD 0 0) false)
def bodyAnd (e : Fin 257) : Body := binary e (fun _ a b => plain (a &&& b))
def bodyOr (e : Fin 257) : Body := binary e (fun _ a b => plain (a ||| b))
def bodyXor (e : Fin 257) : Body := binary e (fun _ a b => plain (a ^^^ b))
def bodyAndn (e : Fin 257) : Body := binary e (fun _ a b => plain (a &&& ~~~b))
def bodyNot (e : Fin 257) : Body := unary e (fun a => plain (~~~a))
def bodyShl (e : Fin 257) : Body := binary e (fun _ x n => aluShl x n.toNat)
def bodyShr (e : Fin 257) : Body := binary e (fun _ x n => aluShr x n.toNat)
def bodySar (e : Fin 257) : Body := binary e (fun _ x n => aluSar x n.toNat)
def bodyRol (e : Fin 257) : Body := binary e (fun _ x n => aluRol x n.toNat)
def bodyRor (e : Fin 257) : Body := binary e (fun _ x n => aluRor x n.toNat)
def bodyAddi (e : Fin 257) (imm : BitVec 8) : Body := unary e (fun a => aluAdd a (imm.signExtend 32) false)
def bodyCmpi (e : Fin 257) (imm : BitVec 8) : Body := compare e 1 (fun c => aluSub (c.getD 0 0) (imm.signExtend 32) false)
def bodyTst (e : Fin 257) : Body := compare e 2 (fun c => plain (c.getD 1 0 &&& c.getD 0 0))
def bodyMins (e : Fin 257) : Body := binary e (fun _ a b => plain (minS a b))
def bodyMaxs (e : Fin 257) : Body := binary e (fun _ a b => plain (maxS a b))
def bodyClz (e : Fin 257) : Body := unary e (fun a => plain (clz32 a))

/-! ### Commands -/

/-- ADD (R239). -/
def execAdd (e : Fin 257) (s : State) : Out := s.instr e 0x20 1 0 (bodyAdd e)
/-- ADC (R239). -/
def execAdc (e : Fin 257) (s : State) : Out := s.instr e 0x21 1 0 (bodyAdc e)
/-- SUB (R239). -/
def execSub (e : Fin 257) (s : State) : Out := s.instr e 0x22 1 0 (bodySub e)
/-- SBC (R239). -/
def execSbc (e : Fin 257) (s : State) : Out := s.instr e 0x23 1 0 (bodySbc e)
/-- NEG (R239). -/
def execNeg (e : Fin 257) (s : State) : Out := s.instr e 0x24 1 0 (bodyNeg e)
/-- ADDS (R239). -/
def execAdds (e : Fin 257) (s : State) : Out := s.instr e 0x25 1 0 (bodyAdds e)
/-- SUBS (R239). -/
def execSubs (e : Fin 257) (s : State) : Out := s.instr e 0x26 1 0 (bodySubs e)
/-- ADDUS (R239). -/
def execAddus (e : Fin 257) (s : State) : Out := s.instr e 0x27 1 0 (bodyAddus e)
/-- MUL (R239). -/
def execMul (e : Fin 257) (s : State) : Out := s.instr e 0x28 1 0 (bodyMul e)
/-- MULHS (R239). -/
def execMulhs (e : Fin 257) (s : State) : Out := s.instr e 0x29 1 0 (bodyMulhs e)
/-- MULHU (R239). -/
def execMulhu (e : Fin 257) (s : State) : Out := s.instr e 0x2A 1 0 (bodyMulhu e)
/-- DIVS (R239). -/
def execDivs (e : Fin 257) (s : State) : Out := s.instr e 0x2B 1 0 (bodyDivs e)
/-- DIVU (R239). -/
def execDivu (e : Fin 257) (s : State) : Out := s.instr e 0x2C 1 0 (bodyDivu e)
/-- REMS (R239). -/
def execRems (e : Fin 257) (s : State) : Out := s.instr e 0x2D 1 0 (bodyRems e)
/-- REMU (R239). -/
def execRemu (e : Fin 257) (s : State) : Out := s.instr e 0x2E 1 0 (bodyRemu e)
/-- CMP (R239). -/
def execCmp (e : Fin 257) (s : State) : Out := s.instr e 0x2F 1 0 (bodyCmp e)
/-- AND (R239). -/
def execAndOp (e : Fin 257) (s : State) : Out := s.instr e 0x30 1 0 (bodyAnd e)
/-- OR (R239). -/
def execOrOp (e : Fin 257) (s : State) : Out := s.instr e 0x31 1 0 (bodyOr e)
/-- XOR (R239). -/
def execXorOp (e : Fin 257) (s : State) : Out := s.instr e 0x32 1 0 (bodyXor e)
/-- ANDN (R239). -/
def execAndn (e : Fin 257) (s : State) : Out := s.instr e 0x33 1 0 (bodyAndn e)
/-- NOT (R239). -/
def execNotOp (e : Fin 257) (s : State) : Out := s.instr e 0x34 1 0 (bodyNot e)
/-- SHL (R239). -/
def execShl (e : Fin 257) (s : State) : Out := s.instr e 0x35 1 0 (bodyShl e)
/-- SHR (R239). -/
def execShr (e : Fin 257) (s : State) : Out := s.instr e 0x36 1 0 (bodyShr e)
/-- SAR (R239). -/
def execSar (e : Fin 257) (s : State) : Out := s.instr e 0x37 1 0 (bodySar e)
/-- ROL (R239). -/
def execRol (e : Fin 257) (s : State) : Out := s.instr e 0x38 1 0 (bodyRol e)
/-- ROR (R239). -/
def execRor (e : Fin 257) (s : State) : Out := s.instr e 0x39 1 0 (bodyRor e)
/-- ADDI (R239). -/
def execAddi (e : Fin 257) (imm : BitVec 8) (s : State) : Out := s.instr e 0x3A 2 (imm.setWidth 32) (bodyAddi e imm)
/-- CMPI (R239). -/
def execCmpi (e : Fin 257) (imm : BitVec 8) (s : State) : Out := s.instr e 0x3B 2 (imm.setWidth 32) (bodyCmpi e imm)
/-- TST (R239). -/
def execTst (e : Fin 257) (s : State) : Out := s.instr e 0x3C 1 0 (bodyTst e)
/-- MINS (R239). -/
def execMins (e : Fin 257) (s : State) : Out := s.instr e 0x3D 1 0 (bodyMins e)
/-- MAXS (R239). -/
def execMaxs (e : Fin 257) (s : State) : Out := s.instr e 0x3E 1 0 (bodyMaxs e)
/-- CLZ (R239). -/
def execClz (e : Fin 257) (s : State) : Out := s.instr e 0x3F 1 0 (bodyClz e)

end Sys2Proof.Machine
end

