-- ==== Sys2Proof/Machine/CueFlow.lean ====
section
/-!
DEFINITION. Cue Code: control flow (R247 to R249, R266).
-/
namespace Sys2Proof.Machine

/-- A control-flow instruction has been predicted, rightly or wrongly (R199, R201): a free value. In deterministic mode nothing predicts
(R200). -/
def predicted (e : Fin 257) : EngM Unit :=
  act (fun s =>
    let miss := Config.mispredict s.freeIndex
    let s := s.drew 1
    if miss && decide (e.val < 256) && s.engines[e].cached then s.incReg (engBase e + 0x074) else s)
/-- PC goes to a target; the predictor holds the transfer (R199, R200). -/
def Engine.goTo (g : Engine) (target : Word) : Engine :=
  { g with pc := target, pred := if !g.cached then [] else ((g.partNo, g.ipc.toNat) :: g.pred.erase (g.partNo, g.ipc.toNat)).take 64 }

/-- JMP. -/
def bodyJmp (e : Fin 257) : Body := do
  let c ← operands e 1 0
  predicted e
  return fun g => (g.put 1 []).goTo (c.getD 0 0)
/-- A call of `target` after `pops` cells are taken: LINK or PUSH (R219, R248). -/
def callTo (e : Fin 257) (pops : Nat) (target : Word) : Body := do
  let g ← engOf e
  let link := bitAt g.stat 8
  if !link then pushReturn e g.pc
  predicted e
  return fun g =>
    let g := g.put pops []
    if link then { g with lnk := g.pc }.goTo target else { g with rsp := g.rsp - 4 }.goTo target
/-- CALL and CALLL: a call relative to PC. -/
def bodyCall (e : Fin 257) (off : Word) : Body := do
  let g ← engOf e
  callTo e 0 (g.pc + off)
/-- CALLI. -/
def bodyCalli (e : Fin 257) : Body := do
  let c ← operands e 1 0
  callTo e 1 (c.getD 0 0)
/-- RET (R219). -/
def bodyRet (e : Fin 257) : Body := do
  let g ← engOf e
  if bitAt g.stat 8 then
    predicted e
    return fun g => g.goTo g.lnk
  else
    let a ← readReturn e 0
    predicted e
    return fun g => { g with rsp := g.rsp + 4 }.goTo a
/-- A write of every RW field of STAT: the flags at once, MODE, IE, IPL and DET at the boundary (R255, R266, R273). -/
def Engine.writeStat (g : Engine) (v : Word) : Engine :=
  { g with stat := (g.stat &&& 0x07FFFFFF) ||| (v &&& 0xF8000000), statNext := some v }
/-- RETE (R266). -/
def bodyRete (e : Fin 257) : Body := do
  let st ← readReturn e 0
  let a ← readReturn e 4
  predicted e
  return fun g => ({ g with rsp := g.rsp + 8 }.writeStat st).goTo a
/-- BZ and BNZ: ( x -- ). -/
def bodyBz (e : Fin 257) (off : BitVec 16) (zero : Bool) : Body := do
  let c ← operands e 1 0
  predicted e
  return fun g =>
    let g := g.put 1 []
    if (c.getD 0 0 == 0) == zero then g.goTo (g.pc + off.signExtend 32) else g
/-- DBNZ: ( n -- n-1 ). -/
def bodyDbnz (e : Fin 257) (off : BitVec 16) : Body := do
  let c ← operands e 1 1
  predicted e
  return fun g =>
    let n := c.getD 0 0 - 1
    let g := g.put 1 [n]
    if n = 0 then g else g.goTo (g.pc + off.signExtend 32)
/-- B<cond>: the flags as the previous instruction left them (R213, R248). -/
def bodyBranch (e : Fin 257) (c : Nat) (off : BitVec 16) : Body := do
  predicted e
  return fun g => if condHolds g.stat c then g.goTo (g.pc + off.signExtend 32) else g
/-- TRAP: 0 to 15 raise the software trap, the others the illegal-opcode fault (R249). -/
def bodyTrap (e : Fin 257) (n : Nat) : Body := do
  let g ← engOf e
  if n ≤ 15 then throw (.fault (0x10 + n) 0 g.ipc true) else throw (.fault 0x01 0 g.ipc)
/-- BKPT: the debug halt where breakpoint halting is enabled, nothing for the Prompter, else the illegal-opcode fault (R249, R407). -/
def bodyBkpt (e : Fin 257) : Body := do
  let s ← get
  let g := s.engines[e]
  if s.prompting e then return id
  else if g.bkpt then throw .bkpt
  else throw (.fault 0x01 0 g.ipc)

/-! ### Commands -/

/-- JMP (R247). -/
def execJmp (e : Fin 257) (s : State) : Out := s.instr e 0x60 1 0 (bodyJmp e)
/-- CALL (R247). -/
def execCall (e : Fin 257) (imm : BitVec 16) (s : State) : Out := s.instr e 0x61 3 (imm.setWidth 32) (bodyCall e (imm.signExtend 32))
/-- CALLL (R247). -/
def execCalll (e : Fin 257) (imm : BitVec 32) (s : State) : Out := s.instr e 0x62 5 imm (bodyCall e imm)
/-- CALLI (R247). -/
def execCalli (e : Fin 257) (s : State) : Out := s.instr e 0x63 1 0 (bodyCalli e)
/-- RET (R247). -/
def execRet (e : Fin 257) (s : State) : Out := s.instr e 0x64 1 0 (bodyRet e)
/-- RETE (R247). -/
def execRete (e : Fin 257) (s : State) : Out := s.instr e 0x65 1 0 (bodyRete e)
/-- BZ (R247). -/
def execBz (e : Fin 257) (imm : BitVec 16) (s : State) : Out := s.instr e 0x66 3 (imm.setWidth 32) (bodyBz e imm true)
/-- BNZ (R247). -/
def execBnz (e : Fin 257) (imm : BitVec 16) (s : State) : Out := s.instr e 0x67 3 (imm.setWidth 32) (bodyBz e imm false)
/-- DBNZ (R247). -/
def execDbnz (e : Fin 257) (imm : BitVec 16) (s : State) : Out := s.instr e 0x68 3 (imm.setWidth 32) (bodyDbnz e imm)
/-- TRAP (R247). -/
def execTrap (e : Fin 257) (imm : BitVec 8) (s : State) : Out := s.instr e 0x69 2 (imm.setWidth 32) (bodyTrap e imm.toNat)
/-- BAL (R247). -/
def execBal (e : Fin 257) (imm : BitVec 16) (s : State) : Out := s.instr e 0x70 3 (imm.setWidth 32) (bodyBranch e 0 imm)
/-- BNV (R247). -/
def execBnv (e : Fin 257) (imm : BitVec 16) (s : State) : Out := s.instr e 0x71 3 (imm.setWidth 32) (bodyBranch e 1 imm)
/-- BEQ (R247). -/
def execBeq (e : Fin 257) (imm : BitVec 16) (s : State) : Out := s.instr e 0x72 3 (imm.setWidth 32) (bodyBranch e 2 imm)
/-- BNE (R247). -/
def execBne (e : Fin 257) (imm : BitVec 16) (s : State) : Out := s.instr e 0x73 3 (imm.setWidth 32) (bodyBranch e 3 imm)
/-- BLT (R247). -/
def execBlt (e : Fin 257) (imm : BitVec 16) (s : State) : Out := s.instr e 0x74 3 (imm.setWidth 32) (bodyBranch e 4 imm)
/-- BGE (R247). -/
def execBge (e : Fin 257) (imm : BitVec 16) (s : State) : Out := s.instr e 0x75 3 (imm.setWidth 32) (bodyBranch e 5 imm)
/-- BLE (R247). -/
def execBle (e : Fin 257) (imm : BitVec 16) (s : State) : Out := s.instr e 0x76 3 (imm.setWidth 32) (bodyBranch e 6 imm)
/-- BGT (R247). -/
def execBgt (e : Fin 257) (imm : BitVec 16) (s : State) : Out := s.instr e 0x77 3 (imm.setWidth 32) (bodyBranch e 7 imm)
/-- BCS (R247). -/
def execBcs (e : Fin 257) (imm : BitVec 16) (s : State) : Out := s.instr e 0x78 3 (imm.setWidth 32) (bodyBranch e 8 imm)
/-- BCC (R247). -/
def execBcc (e : Fin 257) (imm : BitVec 16) (s : State) : Out := s.instr e 0x79 3 (imm.setWidth 32) (bodyBranch e 9 imm)
/-- BHI (R247). -/
def execBhi (e : Fin 257) (imm : BitVec 16) (s : State) : Out := s.instr e 0x7A 3 (imm.setWidth 32) (bodyBranch e 10 imm)
/-- BLS (R247). -/
def execBls (e : Fin 257) (imm : BitVec 16) (s : State) : Out := s.instr e 0x7B 3 (imm.setWidth 32) (bodyBranch e 11 imm)
/-- BMI (R247). -/
def execBmi (e : Fin 257) (imm : BitVec 16) (s : State) : Out := s.instr e 0x7C 3 (imm.setWidth 32) (bodyBranch e 12 imm)
/-- BPL (R247). -/
def execBpl (e : Fin 257) (imm : BitVec 16) (s : State) : Out := s.instr e 0x7D 3 (imm.setWidth 32) (bodyBranch e 13 imm)
/-- BVS (R247). -/
def execBvs (e : Fin 257) (imm : BitVec 16) (s : State) : Out := s.instr e 0x7E 3 (imm.setWidth 32) (bodyBranch e 14 imm)
/-- BVC (R247). -/
def execBvc (e : Fin 257) (imm : BitVec 16) (s : State) : Out := s.instr e 0x7F 3 (imm.setWidth 32) (bodyBranch e 15 imm)
/-- BKPT (R247). -/
def execBkpt (e : Fin 257) (s : State) : Out := s.instr e 0xBF 1 0 (bodyBkpt e)

end Sys2Proof.Machine
end

