-- ==== Sys2Proof/Machine/CueMemory.lean ====
section
/-!
DEFINITION. Cue Code: loads, stores, atomics, address generators (R243 to R246, R252).
-/
namespace Sys2Proof.Machine

/-- A delayed load of `n` bytes at a displacement from the top cell: no cell changes, and the load cell holds the address popped until the
value arrives (R221). -/
def bodyLoad (e : Fin 257) (disp : Word) (n : Nat) (f : Nat → Word) (nc : Bool := false) : Body := do
  let c ← operands e 1 1
  let a := c.getD 0 0
  let v ← loadN e (a + disp) n nc
  return fun g => { g.put 1 [a] with load := some (g.depth, f v) }
/-- A store of the low `n` bytes of v: ( v a -- ). -/
def bodyStore (e : Fin 257) (disp : Word) (n : Nat) : Body := do
  let c ← operands e 2 0
  storeN e (c.getD 0 0 + disp) n (c.getD 1 0).toNat
  return fun g => g.put 2 []
/-- LDR (R244, R245). -/
def bodyLdr (e : Fin 257) : Body := do
  let c ← operands e 1 1
  let v ← loadReserve e (c.getD 0 0)
  return fun g => g.put 1 [v]
/-- STC: f = 1 and Z = 0 when stored (R243, R245). -/
def bodyStc (e : Fin 257) : Body := do
  let c ← operands e 2 1
  let ok ← storeConditional e (c.getD 0 0) (c.getD 1 0)
  return fun g => (g.put 2 [BitVec.ofNat 32 (b2n ok)]).flagZ (!ok)
/-- TAS (R243, R244). -/
def bodyTas (e : Fin 257) : Body := do
  let c ← operands e 1 1
  let v ← testAndSet e (c.getD 0 0)
  return fun g => (g.put 1 [v.setWidth 32]).flagZ (v == 0)

/-- Size and extension of a load by the code of LDA's immediate: LD8U, LD8S, LD16U, LD16S, LD32. -/
def loadForm : Nat → Nat × (Nat → Word)
  | 0 => (1, BitVec.ofNat 32)
  | 1 => (1, sextW 8)
  | 2 => (2, BitVec.ofNat 32)
  | 3 => (2, sextW 16)
  | _ => (4, BitVec.ofNat 32)

/-- LDA n: a delayed load through a generator (R227, R252). -/
def bodyLda (e : Fin 257) (imm : Nat) : Body := do
  let g ← engOf e
  if 5 ≤ imm / 4 % 8 ∨ imm / 32 ≠ 0 then throw (.fault 0x01 0 g.ipc)
  let n := imm % 4
  let (size, f) := loadForm (imm / 4 % 8)
  let a := g.agAddr n
  let _ ← operands e 0 1
  let v ← loadN e a size
  return fun g =>
    let g := (g.put 0 [a]).agStep n
    { g with load := some (g.depth, f v) }
/-- STA n: a store through a generator (R227, R252). -/
def bodySta (e : Fin 257) (imm : Nat) : Body := do
  let g ← engOf e
  if imm / 4 % 4 = 3 ∨ imm / 16 ≠ 0 then throw (.fault 0x01 0 g.ipc)
  let n := imm % 4
  let c ← operands e 1 0
  storeN e (g.agAddr n) (2 ^ (imm / 4 % 4)) (c.getD 0 0).toNat
  return fun g => (g.put 1 []).agStep n

/-! ### Commands -/

/-- LD8U (R243). -/
def execLd8u (e : Fin 257) (s : State) : Out := s.instr e 0x40 1 0 (bodyLoad e 0 1 (BitVec.ofNat 32))
/-- LD8S (R243). -/
def execLd8s (e : Fin 257) (s : State) : Out := s.instr e 0x41 1 0 (bodyLoad e 0 1 (sextW 8))
/-- LD16U (R243). -/
def execLd16u (e : Fin 257) (s : State) : Out := s.instr e 0x42 1 0 (bodyLoad e 0 2 (BitVec.ofNat 32))
/-- LD16S (R243). -/
def execLd16s (e : Fin 257) (s : State) : Out := s.instr e 0x43 1 0 (bodyLoad e 0 2 (sextW 16))
/-- LD32 (R243). -/
def execLd32 (e : Fin 257) (s : State) : Out := s.instr e 0x44 1 0 (bodyLoad e 0 4 (BitVec.ofNat 32))
/-- LD32NC (R243). -/
def execLd32nc (e : Fin 257) (s : State) : Out := s.instr e 0x45 1 0 (bodyLoad e 0 4 (BitVec.ofNat 32) true)
/-- ST8 (R243). -/
def execSt8 (e : Fin 257) (s : State) : Out := s.instr e 0x46 1 0 (bodyStore e 0 1)
/-- ST16 (R243). -/
def execSt16 (e : Fin 257) (s : State) : Out := s.instr e 0x47 1 0 (bodyStore e 0 2)
/-- ST32 (R243). -/
def execSt32 (e : Fin 257) (s : State) : Out := s.instr e 0x48 1 0 (bodyStore e 0 4)
/-- LD32D (R243). -/
def execLd32d (e : Fin 257) (imm : BitVec 16) (s : State) : Out := s.instr e 0x49 3 (imm.setWidth 32) (bodyLoad e (imm.signExtend 32) 4 (BitVec.ofNat 32))
/-- ST32D (R243). -/
def execSt32d (e : Fin 257) (imm : BitVec 16) (s : State) : Out := s.instr e 0x4A 3 (imm.setWidth 32) (bodyStore e (imm.signExtend 32) 4)
/-- LDR (R243). -/
def execLdr (e : Fin 257) (s : State) : Out := s.instr e 0x4B 1 0 (bodyLdr e)
/-- STC (R243). -/
def execStc (e : Fin 257) (s : State) : Out := s.instr e 0x4C 1 0 (bodyStc e)
/-- TAS (R243). -/
def execTas (e : Fin 257) (s : State) : Out := s.instr e 0x4D 1 0 (bodyTas e)
/-- LDA (R252). -/
def execLda (e : Fin 257) (imm : BitVec 8) (s : State) : Out := s.instr e 0x85 2 (imm.setWidth 32) (bodyLda e imm.toNat)
/-- STA (R252). -/
def execSta (e : Fin 257) (imm : BitVec 8) (s : State) : Out := s.instr e 0x86 2 (imm.setWidth 32) (bodySta e imm.toNat)

end Sys2Proof.Machine
end

