-- ==== Sys2Proof/Machine/CueStack.lean ====
section
/-!
DEFINITION. Cue Code: stack and constants (R237, R238).
-/
namespace Sys2Proof.Machine

/-- A literal. -/
def bodyLit (e : Fin 257) (v : Word) : Body := stackOp e 0 1 (fun _ => [v])
/-- DUP: the copy is written, the cell copied stays as it is. -/
def bodyDup (e : Fin 257) : Body := do
  needCells e 1 8
  let c ← operands e 0 1
  return fun g => g.put 0 (c.take 1)
def bodyDrop (e : Fin 257) : Body := stackOp e 1 0 (fun _ => [])
def bodySwap (e : Fin 257) : Body := stackOp e 2 2 (fun c => c.reverse)
/-- OVER: ( a b -- a b a ). -/
def bodyOver (e : Fin 257) : Body := do
  needCells e 2 8
  let c ← operands e 0 1
  return fun g => g.put 0 [c.getD 1 0]
/-- ROT: ( a b c -- b c a ), top first [c, b, a] to [a, c, b]. -/
def bodyRot (e : Fin 257) : Body := stackOp e 3 3 (fun c => c.drop 2 ++ c.take 2)
def bodyNip (e : Fin 257) : Body := stackOp e 2 1 (fun c => c.take 1)
/-- TUCK: ( a b -- b a b ). -/
def bodyTuck (e : Fin 257) : Body := stackOp e 2 3 (fun c => c ++ c.take 1)
/-- DUP2: ( a b -- a b a b ). -/
def bodyDup2 (e : Fin 257) : Body := do
  needCells e 2 8
  let c ← operands e 0 2
  return fun g => g.put 0 (c.take 2)
def bodyDrop2 (e : Fin 257) : Body := stackOp e 2 0 (fun _ => [])
/-- PICK n: cell n, cached or in memory; a cell at or beyond DSB underflows (R238). -/
def bodyPick (e : Fin 257) (n : Nat) : Body := do
  let g ← engOf e
  let v ← if n < g.cells.length then pure (g.cells.getD n 0)
    else
      let a := g.dsp.toNat + 4 * (n - g.cells.length)
      if g.stackBase ≤ a then throw (.fault 0x0B 0 g.dsp)
      else do pure (BitVec.ofNat 32 (← loadN e (BitVec.ofNat 32 a) 4))
  let _ ← operands e 0 1
  return fun g => g.put 0 [v]
/-- DEPTH: TOSN + (DSB - DSP) / 4 modulo 2^32, taken before the push. -/
def bodyDepth (e : Fin 257) : Body := do
  let g ← engOf e
  let d : Int := g.cells.length + ((g.stackBase : Int) - g.dsp.toNat) / 4
  let _ ← operands e 0 1
  return fun g => g.put 0 [BitVec.ofInt 32 d]
/-- RPUSH: a word onto the return stack (R218, R238). -/
def bodyRpush (e : Fin 257) : Body := do
  let c ← operands e 1 0
  pushReturn e (c.getD 0 0)
  return fun g => { g.put 1 [] with rsp := g.rsp - 4 }
/-- RPOP. -/
def bodyRpop (e : Fin 257) : Body := do
  let _ ← operands e 0 1
  let v ← readReturn e 0
  return fun g => { g.put 0 [v] with rsp := g.rsp + 4 }
/-- RPEEK. -/
def bodyRpeek (e : Fin 257) : Body := do
  let _ ← operands e 0 1
  let v ← readReturn e 0
  return fun g => g.put 0 [v]
/-- FLUSH: every cached cell moves to memory (R217). -/
def bodyFlush (e : Fin 257) : Body := do
  spillTo e 0 8
  return id

/-! ### Commands -/

/-- NOP (R237). -/
def execNop (e : Fin 257) (s : State) : Out := s.instr e 0x00 1 0 (pure id)
/-- LIT8 (R237). -/
def execLit8 (e : Fin 257) (imm : BitVec 8) (s : State) : Out := s.instr e 0x01 2 (imm.setWidth 32) (bodyLit e (imm.signExtend 32))
/-- LIT16 (R237). -/
def execLit16 (e : Fin 257) (imm : BitVec 16) (s : State) : Out := s.instr e 0x02 3 (imm.setWidth 32) (bodyLit e (imm.signExtend 32))
/-- LIT32 (R237). -/
def execLit32 (e : Fin 257) (imm : BitVec 32) (s : State) : Out := s.instr e 0x03 5 imm (bodyLit e imm)
/-- LIT16U (R237). -/
def execLit16u (e : Fin 257) (imm : BitVec 16) (s : State) : Out := s.instr e 0x04 3 (imm.setWidth 32) (bodyLit e (imm.setWidth 32))
/-- DUP (R237). -/
def execDup (e : Fin 257) (s : State) : Out := s.instr e 0x05 1 0 (bodyDup e)
/-- DROP (R237). -/
def execDrop (e : Fin 257) (s : State) : Out := s.instr e 0x06 1 0 (bodyDrop e)
/-- SWAP (R237). -/
def execSwap (e : Fin 257) (s : State) : Out := s.instr e 0x07 1 0 (bodySwap e)
/-- OVER (R237). -/
def execOver (e : Fin 257) (s : State) : Out := s.instr e 0x08 1 0 (bodyOver e)
/-- ROT (R237). -/
def execRot (e : Fin 257) (s : State) : Out := s.instr e 0x09 1 0 (bodyRot e)
/-- NIP (R237). -/
def execNip (e : Fin 257) (s : State) : Out := s.instr e 0x0A 1 0 (bodyNip e)
/-- TUCK (R237). -/
def execTuck (e : Fin 257) (s : State) : Out := s.instr e 0x0B 1 0 (bodyTuck e)
/-- DUP2 (R237). -/
def execDup2 (e : Fin 257) (s : State) : Out := s.instr e 0x0C 1 0 (bodyDup2 e)
/-- DROP2 (R237). -/
def execDrop2 (e : Fin 257) (s : State) : Out := s.instr e 0x0D 1 0 (bodyDrop2 e)
/-- PICK (R237). -/
def execPick (e : Fin 257) (imm : BitVec 8) (s : State) : Out := s.instr e 0x0E 2 (imm.setWidth 32) (bodyPick e imm.toNat)
/-- DEPTH (R237). -/
def execDepth (e : Fin 257) (s : State) : Out := s.instr e 0x0F 1 0 (bodyDepth e)
/-- RPUSH (R237). -/
def execRpush (e : Fin 257) (s : State) : Out := s.instr e 0x10 1 0 (bodyRpush e)
/-- RPOP (R237). -/
def execRpop (e : Fin 257) (s : State) : Out := s.instr e 0x11 1 0 (bodyRpop e)
/-- RPEEK (R237). -/
def execRpeek (e : Fin 257) (s : State) : Out := s.instr e 0x12 1 0 (bodyRpeek e)
/-- FLUSH (R237). -/
def execFlush (e : Fin 257) (s : State) : Out := s.instr e 0x13 1 0 (bodyFlush e)

end Sys2Proof.Machine
end

