-- ==== Sys2Proof/Machine/CueString.lean ====
section
/-!
DEFINITION. Cue Code: string instructions and the REP prefix (R210, R228, R229, R250, R251, R275). A command performs one element; a REP
instruction with elements left keeps its prefix as the next address.
-/
namespace Sys2Proof.Machine

/-- The opcode after a REP prefix. -/
def stringOpcode : StringOp → Nat
  | .movs => 0x81 | .fils => 0x82 | .cmps => 0x83 | .scas => 0x84 | .other x => x.toNat

/-- The immediate is legal (R250). -/
def stringImmOk (op : StringOp) (imm : Nat) : Bool :=
  decide (imm / 16 = 0) && decide (imm % 4 ≠ 3) && decide (imm / 4 % 4 ≠ 3) &&
    (match op with | .movs | .fils => decide (imm / 4 % 4 = 0) | .cmps | .scas => true | .other _ => false)

/-- Both pointers, or one, move past an element, and SCNT counts it (R228). -/
def Engine.elementDone (g : Engine) (src dst : Bool) (size : Nat) : Engine :=
  { g with
    sptr := if src then g.sptr + BitVec.ofNat 32 size else g.sptr
    dptr := if dst then g.dptr + BitVec.ofNat 32 size else g.dptr
    scnt := g.scnt - 1 }

/-- One element, and whether the instruction ends with it under its END field (R228, R251); none at SCNT = 0. -/
def stringElement (e : Fin 257) (op : StringOp) (imm : Nat) : EngM (Commit × Bool) := do
  let g ← engOf e
  if !stringImmOk op imm then throw (.fault 0x01 0 g.ipc)
  let size := 2 ^ (imm % 4)
  let last := g.scnt == 1
  let ends := fun a : Alu => last || (imm / 4 % 4 == 1 && a.r == 0) || (imm / 4 % 4 == 2 && a.r != 0)
  if g.scnt = 0 then return (id, true)
  match op with
  | .movs =>
    let v ← loadN e g.sptr size
    storeN e g.dptr size v
    return (fun g => g.elementDone true true size, last)
  | .fils =>
    let c ← operands e 1 1
    storeN e g.dptr size (c.getD 0 0).toNat
    return (fun g => g.elementDone false true size, last)
  | .cmps =>
    let x ← loadN e g.sptr size
    let y ← loadN e g.dptr size
    let a := aluSub (BitVec.ofNat 32 x) (BitVec.ofNat 32 y) false
    return (fun g => (g.elementDone true true size).flags a, ends a)
  | .scas =>
    let c ← operands e 1 1
    let x ← loadN e g.sptr size
    let a := aluSub (BitVec.ofNat 32 x) (BitVec.ofNat 32 ((c.getD 0 0).toNat % 2 ^ (8 * size))) false
    return (fun g => (g.elementDone true false size).flags a, ends a)
  | .other _ => throw (.fault 0x01 0 g.ipc)

/-- A string instruction without REP: one element. -/
def bodyString (e : Fin 257) (op : StringOp) (imm : Nat) : Body := return (← stringElement e op imm).1

/-- Fetch and dispatch of a REP prefix with its string opcode, one instruction at the prefix's address; before another opcode the prefix is
an illegal opcode (R210). -/
def dispatchRep (e : Fin 257) (op : StringOp) (imm : BitVec 8) : EngM Unit := do
  let s ← get
  let pc := s.engines[e].pc
  let string := match op with | .other _ => false | _ => true
  if !s.entryIsBase e.val 0x80 || (string && !s.entryIsBase e.val (stringOpcode op)) then throw (.refuse .baseDispatchDiffers)
  fetchBytes e pc (if string then 3 else 2) true
  useEntry e 0x80
  if !string then throw (.fault 0x01 0 pc)
  useEntry e (stringOpcode op)
  act (fun s => s.modEng e (fun g => { g with
    inInstr := true, ipc := pc, opc := BitVec.ofNat 8 (stringOpcode op), immv := imm.setWidth 32, pc := pc + 3 }))

/-- An element of a REP instruction: the first is fetched and dispatched, the last ends the instruction. -/
def repElement (e : Fin 257) (op : StringOp) (imm : BitVec 8) : EngM Unit := do
  let g ← engOf e
  if g.rep then act (fun s => s.modEng e (fun g => { g with pc := g.ipc + 3 })) else dispatchRep e op imm
  let (f, ended) ← stringElement e op imm.toNat
  if ended then finish e (fun g => { f g with rep := false })
  else act (fun s => s.modEng e (fun g => { f g with pc := g.ipc, rep := true }))

/-! ### Commands -/

/-- REP (R210, R229, R250). -/
def execRep (e : Fin 257) (op : StringOp) (imm : BitVec 8) (s : State) : Out :=
  if !s.canRun e then .next s
  else if s.entryIsBase e.val 0x80 && s.entryMoved e.val 0x80 && !s.engines[e].rep then s.dispatched e (dispatchMoved e 0x80 1 0 s)
  else s.conclude e (repElement e op imm s)
/-- MOVS (R250). -/
def execMovs (e : Fin 257) (imm : BitVec 8) (s : State) : Out := s.instr e 0x81 2 (imm.setWidth 32) (bodyString e .movs imm.toNat)
/-- FILS (R250). -/
def execFils (e : Fin 257) (imm : BitVec 8) (s : State) : Out := s.instr e 0x82 2 (imm.setWidth 32) (bodyString e .fils imm.toNat)
/-- CMPS (R250). -/
def execCmps (e : Fin 257) (imm : BitVec 8) (s : State) : Out := s.instr e 0x83 2 (imm.setWidth 32) (bodyString e .cmps imm.toNat)
/-- SCAS (R250). -/
def execScas (e : Fin 257) (imm : BitVec 8) (s : State) : Out := s.instr e 0x84 2 (imm.setWidth 32) (bodyString e .scas imm.toNat)

end Sys2Proof.Machine
end

