-- ==== Sys2Proof/Machine/CueSystem.lean ====
section
/-!
DEFINITION. Cue Code: special registers (R186, R211, R254, R255), synchronisation, TINV and TSYNC, keys, cues, posts, rings, WAIT (R253 to
R258, R290).
-/
namespace Sys2Proof.Machine

/-! ### Special registers (R186, R211, R254) -/

/-- A special register that Cue Code reaches (R254). -/
def srOk (n : Nat) : Bool := decide (n ≤ 0x10) || decide (0x14 ≤ n ∧ n ≤ 0x47) || decide (0x87 ≤ n ∧ n ≤ 0x8B)
/-- Registers that Cue Code writes in House mode alone (R211, R254). -/
def srHouse (n : Nat) : Bool :=
  decide (0x03 ≤ n ∧ n ≤ 0x05) || decide (0x07 ≤ n ∧ n ≤ 0x0B) || n == 0x0F || n == 0x10 || decide (0x28 ≤ n ∧ n ≤ 0x47)

/-- The value of a special register. -/
def State.srRead (s : State) (e : Fin 257) (n : Nat) : Word :=
  let g := s.engines[e]
  match n with
  | 0x00 => g.pc | 0x01 => g.stat | 0x02 => g.dsp | 0x03 => g.dsl | 0x04 => g.rsp | 0x05 => g.rsl | 0x06 => g.lnk | 0x07 => g.ecause
  | 0x08 => g.eaddr | 0x09 => g.vbase | 0x0A => g.krights | 0x0B => g.part | 0x0C => g.sptr | 0x0D => g.dptr | 0x0E => g.scnt
  | 0x0F => g.cfg | 0x10 => g.lseaddr
  | 0x87 => BitVec.ofNat 32 e.val
  | 0x88 => s.timeNow.beat.setWidth 32
  | 0x89 => (s.timeNow.beat >>> 32).setWidth 32
  | 0x8A => g.evl.setWidth 32
  | 0x8B => g.uf.setWidth 32
  | n =>
    if 0x14 ≤ n ∧ n ≤ 0x27 then g.ag.toArray.getD (n - 0x14) 0
    else if 0x28 ≤ n ∧ n ≤ 0x47 then s.winWord e ((n - 0x28) / 4) ((n - 0x28) % 4)
    else 0

/-- A write of a special register that the engine holds; reserved bits read 0 (R211). STAT and the windows are written apart. -/
def Engine.srWrite (g : Engine) (n : Nat) (v : Word) : Engine :=
  match n with
  | 0x02 => { g with dsp := v &&& 0xFFFFFFFC }
  | 0x03 => { g with dsl := v }
  | 0x04 => { g with rsp := v &&& 0xFFFFFFFC }
  | 0x05 => { g with rsl := v &&& 0xFFFFFFFC }
  | 0x06 => { g with lnk := v }
  | 0x07 => { g with ecause := v &&& 0x00FFFFFF }
  | 0x08 => { g with eaddr := v }
  | 0x09 => { g with vbase := v &&& 0xFFFFFFF0 }
  | 0x0A => { g with krights := v }
  | 0x0B => { g with part := v &&& 0x3F, pred := [] }
  | 0x0C => { g with sptr := v }
  | 0x0D => { g with dptr := v }
  | 0x0E => { g with scnt := v }
  | 0x0F => { g with cfg := v &&& 3 }
  | 0x10 => { g with lseaddr := v }
  | 0x8A => { g with evl := g.evl &&& ~~~(v.setWidth 6) }
  | 0x8B => { g with uf := v.setWidth 8 }
  | n =>
    if 0x14 ≤ n ∧ n ≤ 0x27 then { g with ag := g.ag.setIfInBounds (n - 0x14) (if (n - 0x14) % 5 = 4 then v &&& 3 else v) }
    else g

/-- A window word is written as from outside any transaction (R157, R281). -/
def State.srWindow (s : State) (e : Fin 257) (n : Nat) (v : Word) : State :=
  let off := 0x100 + 4 * (n - 0x28)
  let addr := pageBase (enginePage e) + off
  (s.storeReg (enginePage e) off v).touch 0 addr addr none

/-- A window word that a Stage or a transaction holds is not written: privilege fault (R158, R281). -/
def State.winHeld (s : State) (e : Fin 257) (n : Nat) : Bool :=
  s.pageStaged (enginePage e) || s.regHeld (pageBase (enginePage e) + 0x100 + 4 * (n - 0x28))

/-- A special-register write that Cue Code in the engine's mode may not make: Stage mode and a House register, Stage mode and a STAT value
with another MODE, IE, IPL or DET, a held window (R211, R254, R255, R281). -/
def State.srDenied (s : State) (e : Fin 257) (n : Nat) (v : Word) : Bool :=
  (!s.privileged e && (srHouse n || (n == 0x01 && (v ^^^ s.engines[e].stat) &&& 0xFC00 != 0))) ||
    (decide (0x28 ≤ n ∧ n ≤ 0x47) && s.winHeld e n)

/-- RDSR (R254). -/
def bodyRdsr (e : Fin 257) (n : Nat) : Body := do
  let s ← get
  if !srOk n then throw (.fault 0x01 0 s.engines[e].ipc)
  let v := s.srRead e n
  let _ ← operands e 0 1
  return fun g => g.put 0 [v]
/-- WRSR (R254, R255). The cell is popped under the DSP and DSL before the write; a window word changes
behind the accesses of the instruction itself (R281). -/
def bodyWrsr (e : Fin 257) (n : Nat) : Body := do
  let g ← engOf e
  if !srOk n then throw (.fault 0x01 0 g.ipc)
  let c ← operands e 1 0
  let v := c.getD 0 0
  let s ← get
  if s.srDenied e n v then throw (.fault 0x09 0 g.ipc)
  let house := s.privileged e
  if 0x28 ≤ n ∧ n ≤ 0x47 then
    completeLoad e
    act (fun s => s.srWindow e n v)
  return fun g =>
    let g := g.put 1 []
    if n = 0x01 then (if house then g.writeStat v else { g.writeStat v with statNext := none }) else g.srWrite n v

/-! ### Synchronisation (R212, R225, R253, R258, R292) -/

/-- SYNC.P: the next boundary applies an earlier CFG write (R212). -/
def bodySyncP : Body := return fun g => { g with cfgSync := some g.cfg }
/-- SYNC.I (R258). -/
def bodySyncI (e : Fin 257) : Body := do
  drainAll e
  return fun g => { g with icache := [], pred := [] }
/-- SYNC.M (R225). -/
def bodySyncM (e : Fin 257) : Body := do
  drainAll e
  return id
/-- DINV. -/
def bodyDinv : Body := return fun g => { g with dcache := [] }
/-- TINV (R253, R292). -/
def bodyTinv (e : Fin 257) : Body := do
  let c ← operands e 1 0
  drainAll e
  act (fun s => s.tinvStart e (fld (c.getD 0 0) 0 6))
  return fun g => g.put 1 []
/-- TSYNC: waits for every acknowledgement (R292). -/
def bodyTsync (e : Fin 257) : Body := do
  let g ← engOf e
  if !g.tinvDone then throw (.wait .busy)
  return fun g => { g with tinvs := [] }

/-! ### Keys (R255, R290) -/

/-- Every key's new code is one that Stage mode may write. -/
def keysReduce (old new : Word) : Bool :=
  (List.range 16).all (fun k =>
    match fld old (2 * k) 2, fld new (2 * k) 2 with
    | _, 0 => true
    | 0, _ => false
    | _, 1 => true
    | a, b => a == b)
/-- KSET. -/
def bodyKset (e : Fin 257) : Body := do
  let c ← operands e 1 0
  let v := c.getD 0 0
  let s ← get
  if !s.privileged e && !keysReduce s.engines[e].krights v then throw (.fault 0x09 0 s.engines[e].ipc)
  return fun g => { g.put 1 [] with krights := v }

/-! ### Cues, posts, rings (R256, R62) -/

/-- A count as the ring operations answer it. -/
def countOf : Option Word → Word
  | some k => k
  | none => 0xFFFFFFFF

/-- The record of `n` sixteen-byte words at a, which must be aligned; the store buffer is empty first (R225, R256). -/
def readRecord (e : Fin 257) (a : Word) (n : Nat) : EngM (List Byte) := do
  if a.toNat % 16 ≠ 0 then throw (.fault 0x03 0 a)
  drainAll e
  loadWords16 e a n

/-- The 64 bytes at a go to command ring 16e + j: the ring count, or 0xFFFF_FFFF when nothing is placed, counted
in FULLCNT where it was for want of room (R61, R62, R69, R185, R256). -/
def placeCue (e : Fin 257) (a : Word) (j : Nat) : EngM Word := do
  if a.toNat % 16 ≠ 0 then throw (.fault 0x03 0 a)
  if e.val = 256 then
    drainAll e
    return 0xFFFFFFFF
  let rec_ ← readRecord e a 4
  let s ← get
  match ← liftMem (.fault 0x05 1 a) (ringPutBy (s.engWho e) (16 * e.val + j) rec_) with
  | .done k => return k
  | .full =>
    act (fun s => s.incReg (ringBase (16 * e.val + j) + 0x28))
    return 0xFFFFFFFF
  | _ => return 0xFFFFFFFF
/-- The 32 bytes at a go to the Curtain's posting port (R137). -/
def postRecord (e : Fin 257) (a : Word) : EngM Unit := do
  let b ← readRecord e a 2
  act (fun s => s.post e.val (wordsOfBytes 8 b))
/-- A ring operation that answers a count, once the store buffer is empty. -/
def ringCount (e : Fin 257) (f : State → Option Word × State) : EngM Word := do
  drainAll e
  let s ← get
  let (k, s) := f s
  set s
  return countOf k
/-- A ring operation that answers nothing. -/
def ringAct (e : Fin 257) (f : State → State) : EngM Unit := do
  drainAll e
  act f

/-- CUE j. -/
def bodyCue (e : Fin 257) (imm : Nat) : Body := do
  let g ← engOf e
  if 16 ≤ imm then throw (.fault 0x01 0 g.ipc)
  let c ← operands e 1 1
  let k ← placeCue e (c.getD 0 0) imm
  return fun g => (g.put 1 [k]).flagZ (k == 0xFFFFFFFF)
/-- POST. -/
def bodyPost (e : Fin 257) : Body := do
  let c ← operands e 1 0
  postRecord e (c.getD 0 0)
  return fun g => g.put 1 []
/-- RRES and RPOP: ( r -- k ). -/
def bodyRingCount (e : Fin 257) (f : State → Nat → Option Word × State) : Body := do
  let c ← operands e 1 1
  let k ← ringCount e (fun s => f s (fld (c.getD 0 0) 0 14))
  return fun g => (g.put 1 [k]).flagZ (k == 0xFFFFFFFF)
/-- RCOM and RREL: ( k r -- ). -/
def bodyRingAct (e : Fin 257) (f : State → Nat → Word → State) : Body := do
  let c ← operands e 2 0
  ringAct e (fun s => f s (fld (c.getD 0 0) 0 14) (c.getD 1 0))
  return fun g => g.put 2 []

/-! ### WAIT (R256) -/

/-- An event that ends WAIT and WAITEV pends: a debug halt request, an enabled interrupt above IPL, a late store error, a watchdog expiry
(R175). -/
def State.waitEnds (s : State) (e : Fin 257) : Bool := !(s.haltCauses e).isEmpty || (s.pendingEvent e).isSome
/-- WAIT ends: e and Z. -/
def Engine.waitDone (g : Engine) (m : BitVec 6) : Engine :=
  let v : Word := (g.evl &&& m).setWidth 32
  { (g.put 0 [v]).flagZ (v == 0) with waitMask := none }
/-- WAIT m: it ends at once, or the engine enters intermission. For the Prompter it ends at once (R407). -/
def bodyWait (e : Fin 257) (imm : Nat) : Body := do
  let g ← engOf e
  if 64 ≤ imm then throw (.fault 0x01 0 g.ipc)
  let m := BitVec.ofNat 6 imm
  let _ ← operands e 0 1
  let s ← get
  let now := s.prompting e || s.engines[e].evl &&& m != 0 || s.waitEnds e
  return fun g => if now then g.waitDone m else { g with run := .intermission, waitMask := some m }

/-! ### Commands -/

/-- RDSR (R254). -/
def execRdsr (e : Fin 257) (imm : BitVec 8) (s : State) : Out := s.instr e 0xA0 2 (imm.setWidth 32) (bodyRdsr e imm.toNat)
/-- WRSR (R254, R255). -/
def execWrsr (e : Fin 257) (imm : BitVec 8) (s : State) : Out := s.instr e 0xA1 2 (imm.setWidth 32) (bodyWrsr e imm.toNat)
/-- SYNC.P (R212). -/
def execSyncP (e : Fin 257) (s : State) : Out := s.instr e 0xA2 1 0 bodySyncP
/-- SYNC.I (R258). -/
def execSyncI (e : Fin 257) (s : State) : Out := s.instr e 0xA3 1 0 (bodySyncI e)
/-- SYNC.M (R225). -/
def execSyncM (e : Fin 257) (s : State) : Out := s.instr e 0xA4 1 0 (bodySyncM e)
/-- DINV (R253). -/
def execDinv (e : Fin 257) (s : State) : Out := s.instr e 0xA5 1 0 bodyDinv
/-- TINV (R253). -/
def execTinv (e : Fin 257) (s : State) : Out := s.instr e 0xA6 1 0 (bodyTinv e)
/-- TSYNC (R292). -/
def execTsync (e : Fin 257) (s : State) : Out := s.instr e 0xA7 1 0 (bodyTsync e)
/-- KSET (R255). -/
def execKset (e : Fin 257) (s : State) : Out := s.instr e 0xA8 1 0 (bodyKset e)
/-- CUE (R256). -/
def execCue (e : Fin 257) (imm : BitVec 8) (s : State) : Out := s.instr e 0xA9 2 (imm.setWidth 32) (bodyCue e imm.toNat)
/-- POST (R256). -/
def execPost (e : Fin 257) (s : State) : Out := s.instr e 0xAA 1 0 (bodyPost e)
/-- RRES (R253). -/
def execRres (e : Fin 257) (s : State) : Out := s.instr e 0xAB 1 0 (bodyRingCount e State.ringReserve)
/-- RCOM (R253). -/
def execRcom (e : Fin 257) (s : State) : Out := s.instr e 0xAC 1 0 (bodyRingAct e State.ringCommit)
/-- RPOP of a ring (R253). -/
def execRpopRing (e : Fin 257) (s : State) : Out := s.instr e 0xAD 1 0 (bodyRingCount e State.ringPop)
/-- WAIT (R256). -/
def execWait (e : Fin 257) (imm : BitVec 8) (s : State) : Out := s.instr e 0xAE 2 (imm.setWidth 32) (bodyWait e imm.toNat)
/-- RREL (R253). -/
def execRrel (e : Fin 257) (s : State) : Out := s.instr e 0xAF 1 0 (bodyRingAct e State.ringRelease)

end Sys2Proof.Machine
end

