-- ==== Sys2Proof/Machine/Debug.lean ====
section
/-!
DEFINITION. The scan port (R399 to R401) and the debugger's commands (R402 to R416), each of them a scan-port access to the DEBUG page
with the level it needs.
-/
namespace Sys2Proof.Machine

/-! ### DACC (R400) -/

/-- The outcome of a DACC operation: status, offset, data. -/
def State.daccDone (s : State) (status : Nat) (off : BitVec 12) (data : Word) : State :=
  s.modDebug (fun d => { d with daccStatus := status, daccOff := off, daccData := data })

/-- The data that a write at a level brings: DCTRL.STEPINT needs level 2 (R416). -/
def State.levelData (s : State) (off : Nat) (data : Word) : Word :=
  if off = 0x044 ∧ s.dbg.level < 2 then putBit data 1 (bitAt (s.getReg 0x007044) 1) else data

/-- A write through the scan port: REFUSED below its level or on a locked page; BUSY while the Stagehand or the Prompter works that it
started; a reserved offset takes nothing (R22, R29, R400, R401). The scan port is no master of ERR_INFO.MASTER: its refused writes and its
accesses to reserved offsets leave no record in ERR_ADDR and ERR_INFO (DESIGN CHOICE, log entry 87). -/
def State.scanWrite (s : State) (o : BitVec 12) (data : Word) : State :=
  let off := g7Alias (o.toNat / 4 * 4)
  if s.inReset then s
  else if s.pageLocked .debug ∧ off ≠ 0x018 then s.daccDone 2 o 0
  else match regDesc .debug off with
    | none => s.daccDone 0 o 0
    | some _ =>
      if s.dbg.level < accessLevel off (some data) then s.daccDone 2 o 0 else
      let s' := s.pageWrite (.xbar 17) 17 .debug off (s.levelData off data) s.beatno
      let starts := (!s.dbg.shBusy && s'.dbg.shBusy) || (s.dbg.prompt.isNone && s'.dbg.prompt.isSome)
      s'.daccDone (if starts then 1 else 0) o 0

/-- A read through the scan port, a peek (R400, R409). -/
def State.scanRead (s : State) (o : BitVec 12) : State :=
  let off := g7Alias (o.toNat / 4 * 4)
  if s.inReset then s
  else match regDesc .debug off with
    | none => s.daccDone 0 o 0
    | some _ => if s.dbg.level < accessLevel off none then s.daccDone 2 o 0 else s.daccDone 0 o (s.pageRead .debug off)

/-- An Update-DR of DACC: an operation, unless the previous one is BUSY. -/
def State.daccUpdate (s : State) (op : Nat) (o : BitVec 12) (data : Word) : State :=
  if s.dbg.daccStatus = 1 then s
  else match op with
    | 1 => s.scanRead o
    | 2 => s.scanWrite o data
    | _ => s

/-! ### The TAP (R399; the states of IEEE 1149.1) -/

/-- The next state of the TAP controller under TMS. -/
def Tap.next (t : Tap) (tms : Bool) : Tap :=
  match t with
  | .testLogicReset => if tms then .testLogicReset else .runTestIdle
  | .runTestIdle => if tms then .selectDr else .runTestIdle
  | .selectDr => if tms then .selectIr else .captureDr
  | .captureDr => if tms then .exit1Dr else .shiftDr
  | .shiftDr => if tms then .exit1Dr else .shiftDr
  | .exit1Dr => if tms then .updateDr else .pauseDr
  | .pauseDr => if tms then .exit2Dr else .pauseDr
  | .exit2Dr => if tms then .updateDr else .shiftDr
  | .updateDr => if tms then .selectDr else .runTestIdle
  | .selectIr => if tms then .testLogicReset else .captureIr
  | .captureIr => if tms then .exit1Ir else .shiftIr
  | .shiftIr => if tms then .exit1Ir else .shiftIr
  | .exit1Ir => if tms then .updateIr else .pauseIr
  | .pauseIr => if tms then .exit2Ir else .pauseIr
  | .exit2Ir => if tms then .updateIr else .shiftIr
  | .updateIr => if tms then .selectDr else .runTestIdle

/-- The value of IDCODE. -/
def idcode : Nat := 0x2 * 2 ^ 28 + 0x4739 * 2 ^ 12 + Config.jtagMfr.toNat * 2 + 1
/-- The length of the data register that IR selects. -/
def drLen (ir : BitVec 4) : Nat := if ir = 0x1 then 32 else if ir = 0x8 then 46 else 1
/-- The value that Capture-DR loads. -/
def Debug.capture (d : Debug) : BitVec 46 :=
  if d.ir = 0x1 then BitVec.ofNat 46 idcode
  else if d.ir = 0x8 then BitVec.ofNat 46 (d.daccStatus * 2 ^ 44 + d.daccOff.toNat * 2 ^ 32 + d.daccData.toNat)
  else 0
/-- A shift of the data register that IR selects: TDI enters at its end. -/
def Debug.shiftDr (d : Debug) (tdi : Bool) : BitVec 46 :=
  BitVec.ofNat 46 (d.dr.toNat / 2 + b2n tdi * 2 ^ (drLen d.ir - 1))

/-- The TAP is reset: IDCODE is selected. -/
def Debug.tapReset (d : Debug) : Debug := { d with tap := .testLogicReset, ir := 1, irShift := 1 }

/-- What an edge does in the state it leaves: captures and shifts. -/
def Debug.tapWork (d : Debug) (tdi : Bool) : Debug :=
  match d.tap with
  | .captureDr => { d with dr := d.capture }
  | .shiftDr => { d with dr := d.shiftDr tdi }
  | .captureIr => { d with irShift := 1 }
  | .shiftIr => { d with irShift := BitVec.ofNat 4 (d.irShift.toNat / 2 + b2n tdi * 8) }
  | _ => d

/-- `tdo_oe`: 1 in the Shift-IR and Shift-DR states (R437). -/
def Debug.tdoOe (d : Debug) : Bool := d.tap == .shiftIr || d.tap == .shiftDr

/-- A rising edge of TCK: the work of the present state, then the move under TMS. -/
def Debug.tckRise (d : Debug) (tms tdi : Bool) : Debug :=
  let d := d.tapWork tdi
  let d := { d with tap := d.tap.next tms, tck := true }
  if d.tap = .testLogicReset then d.tapReset else d

/-- A falling edge of TCK: TDO changes (R437), and Update-IR and Update-DR take what has been shifted in. -/
def State.tckFall (s : State) : State :=
  let d := s.dbg
  let tdo := match d.tap with | .shiftDr => bitAt d.dr 0 | .shiftIr => bitAt d.irShift 0 | _ => d.tdo
  let s := { s with dbg := { d with tck := false, tdo } }
  match d.tap with
  | .updateIr => s.modDebug (fun d => { d with ir := d.irShift })
  | .updateDr => if d.ir = 0x8 then s.daccUpdate (fld d.dr 44 2) (BitVec.ofNat 12 (fld d.dr 32 12)) (d.dr.setWidth 32) else s
  | _ => s

/-- TCK_EDGE: rising and falling edges in turn; IEEE 1149.1 moves the TAP at the first, and updates and drives TDO at the second (PRESUMED,
log entry 91). Under `por_n` the TAP stays reset. -/
def State.tckEdge (s : State) (tms tdi : Bool) : State :=
  if s.porLow then s.modDebug (fun d => { d with tck := !d.tck })
  else if s.dbg.tck then s.tckFall else s.modDebug (fun d => d.tckRise tms tdi)

/-! ### Commands -/

/-- DCMD as a word. -/
def dcmdWord (op : Nat) (sel : BitVec 9) : Word := BitVec.ofNat 32 (op * 2 ^ 29 + sel.toNat)

/-- TAP_RESET (R399). -/
def execTapReset (_cause : TapReset) (s : State) : Out := .next (s.modDebug Debug.tapReset)
/-- TCK_EDGE (R399). -/
def execTckEdge (tms tdi : Bool) (s : State) : Out := .next (s.tckEdge tms tdi)
/-- DACC_READ (R400). -/
def execDaccRead (off : BitVec 12) (s : State) : Out := .next (s.daccUpdate 1 off 0)
/-- DACC_WRITE (R400). -/
def execDaccWrite (off : BitVec 12) (data : Word) (s : State) : Out := .next (s.daccUpdate 2 off data)
/-- CHALLENGE_NEW (R402). -/
def execChallengeNew (s : State) : Out := .next (s.daccUpdate 2 0x048 0x40000000)
/-- CHALLENGE_CHECK (R402). -/
def execChallengeCheck (lvl : BitVec 2) (s : State) : Out := .next (s.daccUpdate 2 0x048 (BitVec.ofNat 32 (2 ^ 31 + lvl.toNat)))
/-- CHALLENGE_BACKOFF_END (R402). -/
def execChallengeBackoffEnd (s : State) : Out := .next (s.modDebug (fun d => { d with backoff := false }))
/-- DEBUG_HALT_REQUEST (R404). -/
def execDebugHaltRequest (sel : BitVec 9) (s : State) : Out := .next (s.daccUpdate 2 0x054 (dcmdWord 1 sel))
/-- RESUME (R406). -/
def execResume (sel : BitVec 9) (s : State) : Out := .next (s.daccUpdate 2 0x054 (dcmdWord 2 sel))
/-- STEP (R406). -/
def execStep (sel : BitVec 9) (s : State) : Out := .next (s.daccUpdate 2 0x054 (dcmdWord 3 sel))
/-- BKPTON (R404). -/
def execBkpton (sel : BitVec 9) (s : State) : Out := .next (s.daccUpdate 2 0x054 (dcmdWord 4 sel))
/-- BKPTOFF (R404). -/
def execBkptoff (sel : BitVec 9) (s : State) : Out := .next (s.daccUpdate 2 0x054 (dcmdWord 5 sel))
/-- STAGEHAND_TRANSFER (R408). -/
def execStagehandTransfer (data : Word) (s : State) : Out := .next (s.daccUpdate 2 0x168 (putBit (putBit data 31 true) 29 false))
/-- STAGEHAND_RESET (R310). -/
def execStagehandReset (s : State) : Out := .next (s.daccUpdate 2 0x168 0x20000000)
/-- FREEZE (R410). -/
def execFreeze (data : Word) (s : State) : Out := .next (s.daccUpdate 2 0x050 (putBit data 0 true))
/-- FREEZE_END (R410). -/
def execFreezeEnd (data : Word) (s : State) : Out := .next (s.daccUpdate 2 0x050 (putBit data 0 false))
/-- BELLSTRIKE (R412). -/
def execBellstrike (data : Word) (s : State) : Out := .next (s.daccUpdate 2 0x058 data)
/-- DEBUG_QUOTE (R416). -/
def execDebugQuote (s : State) : Out := .next (s.daccUpdate 2 0x170 0x80000000)

end Sys2Proof.Machine
end

