-- ==== Sys2Proof/Machine/Island.lean ====
section
/-!
DEFINITION. The clocked islands (R315, R317, R336, R422, R447): acceptance of the writes that wait, the edges of BEATCLK, absent clocks.
-/
namespace Sys2Proof.Machine

/-- A waiting write of the BEATCLK island, the Curtain apart, whose acceptance edge has come. -/
def State.beatDue (s : State) (w : IslandWrite) : Bool := w.pinPage.isNone && !w.curtain && beatLe w.due s.beatno

/-- BEATCLK_WRITE_ACCEPT: the first such write takes effect, behind the edge's increments (R317). -/
def State.beatAccept (s : State) : State :=
  match takeFirst s.beatDue s.islandQ with
  | some (w, rest) => { s with islandQ := rest }.timerWraps.islandAccept w
  | none => s

/-- Every write accepted at the edge that has come. -/
def beatAcceptAll : Nat → State → State
  | 0, s => s
  | n + 1, s => beatAcceptAll n s.beatAccept

/-- The state with every write accepted that the last edge accepts (R317). -/
def State.edgeWrites (s : State) : State := beatAcceptAll s.islandQ.length s

/-- A Curtain write may be applied: it comes ahead of the release of its acceptance beat, and after the releases and judgements of
earlier beats (R447). -/
def State.curtainDue (s : State) (w : IslandWrite) : Bool :=
  w.curtain && beatLe w.due s.beatno && (!s.pageEn .curtain || beatLe w.due s.relNext) && s.curJudged w.due && s.raisesDone (w.due - 1)

/-- The first waiting write of the page, at its acceptance beat (R447). -/
def State.curtainAccept (s : State) : State :=
  match takeFirst (fun w : IslandWrite => w.curtain) s.islandQ with
  | some (w, rest) => if s.curtainDue w then { s with islandQ := rest }.islandWrite .curtain w w.due else s
  | none => s

/-! ### The Curtain's work at an edge (R141, R447) -/

/-- The kinds of work, in the order of one edge. -/
inductive CurWork where
  | write | raise | release | posting
  deriving DecidableEq, Repr

/-- A piece of a kind can be worked now: what comes ahead of it is done. -/
def State.curTurn (s : State) : CurWork → Bool
  | .write => (takeFirst (fun w : IslandWrite => w.curtain) s.islandQ).any (fun x => s.curtainDue x.1)
  | .raise => s.nextRaise.any s.raiseDue
  | .release => s.releaseTurn
  | .posting => (nextPosted s.posted).any s.postingDue

/-- One piece of a kind is worked. -/
def State.curDo (s : State) : CurWork → State
  | .write => s.curtainAccept
  | .raise => s.wingsRaise
  | .release => s.curtainRelease
  | .posting => s.decisionPosting

/-- The kind of the next piece of work. -/
def State.curNext (s : State) : Option CurWork := [CurWork.write, .raise, .release, .posting].find? s.curTurn

/-- Work in order, up to a piece of one kind; all of it where no kind is named. -/
def curUntil (k : Option CurWork) : Nat → State → State
  | 0, s => s
  | n + 1, s =>
    match s.curNext with
    | none => s
    | some w => if k = some w then s.curDo w else curUntil k n (s.curDo w)

/-- More pieces of work than can be due: an edge leaves none undone. -/
def State.curFuel (s : State) : Nat := s.islandQ.length + s.posted.length + 10

/-- A piece of a kind has come due at the beat that runs, be it behind other work. -/
def State.curComes (s : State) : CurWork → Bool
  | .write => (takeFirst (fun w : IslandWrite => w.curtain) s.islandQ).any (fun x => beatLe x.1.due s.beatno)
  | .raise => s.nextRaise.any (fun r => beatLe r s.beatno)
  | .release => s.pageEn .curtain && beatLe s.relNext s.beatno
  | .posting => (nextPosted s.posted).any (fun p => beatLe p.beat s.beatno)

/-- A command that stands for one piece of work does it, with the work that comes ahead of it (R447; log entry 9). -/
def State.curWork (s : State) (k : CurWork) : State := if s.curComes k then curUntil (some k) s.curFuel s else s

/-- What the edge that has come still leaves to the Curtain and the Wings: the work of R447, ends of pulses, and what slots await that beat
for (R141, R146, R160, R166, R167). -/
def State.edgeWork (s : State) : State :=
  (List.finRange 8).foldl (fun s t => ((s.prepExpiry t).voteDeadline t).commitTimeout t) ((curUntil none s.curFuel s).pulseEnd none)

/-- PINCLK_WRITE_ACCEPT: the first write, INJ write or pop for pin engine k that an edge has sampled: the coming edge is the second
after it arrived (R336). -/
def State.pinAccept (s : State) (k : Fin 32) : State :=
  match takeFirst (fun w : IslandWrite => w.pinPage == some k && w.synced) s.islandQ with
  | some (w, rest) => { s with islandQ := rest, pinLost := false }.islandAccept w
  | none => s

/-- Every write for pin engine k accepted at the edge that comes. -/
def pinAcceptAll (k : Fin 32) : Nat → State → State
  | 0, s => s
  | n + 1, s => pinAcceptAll k n (s.pinAccept k)

/-- The state with every write accepted that the coming edge accepts (R336). -/
def State.pinWrites (s : State) (k : Fin 32) : State := pinAcceptAll k s.islandQ.length s

/-- A rising edge of BEATCLK: what the previous edge still had to accept, to evaluate and to release comes first (R141, R317). -/
def State.beatclkEdge (s : State) : State := s.edgeWrites.beatEvents.edgeWork.beatEdge

/-- ISLAND_WRITE_DISCARD: a write whose island's clock is absent gets an error response, the one that has waited longest; the command itself
says that a clock is absent where none is known to be (R422). -/
def State.islandDiscard (s : State) : State :=
  match (takeFirst (fun w : IslandWrite => s.islandLost (w.pinPage, w.curtain)) s.islandQ).or (takeFirst (fun _ => true) s.islandQ) with
  | none => s
  | some (w, rest) =>
    let s := { s with islandQ := rest }
    (if w.pinPage.isSome then { s with pinLost := true } else { s with clkLost := true }).answer w.origin { err := true }

/-! ### Commands -/

/-- BEATCLK_WRITE_ACCEPT (R317). -/
def execBeatclkWriteAccept (s : State) : Out := .next s.beatAccept
/-- CURTAIN_WRITE_ACCEPT (R447). -/
def execCurtainWriteAccept (s : State) : Out := .next (s.curWork .write)
/-- RAISE (R160). -/
def execWingsRaise (s : State) : Out := .next (s.curWork .raise)
/-- CURTAIN_RELEASE (R141). -/
def execCurtainRelease (s : State) : Out := .next (s.curWork .release).logged
/-- DECISION_POSTING (R139). -/
def execDecisionPosting (s : State) : Out := .next (s.curWork .posting).logged
/-- PINCLK_WRITE_ACCEPT (R336). -/
def execPinclkWriteAccept (k : Fin 32) (s : State) : Out := .next (s.pinAccept k)
/-- CAPTURE_EDGE (R329): behind the writes that the last edge accepts, so that a stamp has the FOFS in effect and a W1C write at the same
edge leaves the capture's bits (R317, R318). -/
def execCaptureEdge (i : Fin 256) (rise : Bool) (beat : Word64) (fine : BitVec 8) (s : State) : Out :=
  .next (s.edgeWrites.captureEdge i rise beat fine)
/-- BEATCLK_EDGE (R315); log entries and trace packets that wait try again (log entries 117, 125). -/
def execBeatclkEdge (s : State) : Out := .next s.beatclkEdge.logged.traced
/-- BEATCLK_RETURN: an edge after the clock was absent; CLKOK rises (R315). -/
def execBeatclkReturn (s : State) : Out := .next (if s.clkOk then s else s.beatclkEdge.logged.traced)
/-- ISLAND_WRITE_DISCARD (R422). -/
def execIslandWriteDiscard (s : State) : Out := .next s.islandDiscard

end Sys2Proof.Machine
end

