-- ==== Sys2Proof/Machine/Micro.lean ====
section
/-!
DEFINITION. Microwords of user microroutines (R171 to R200), user opcodes (R195, R257), pacing (R200), and the end of a wait (R175, R256).
Base microroutines are run whole by the Cue Code commands: the spec gives what they do and not their words.
-/
namespace Sys2Proof.Machine

/-! ### The microword (R174) -/

/-- The fields of a microword. -/
structure Micro where
  seq : Nat
  csel : Nat
  cpol : Bool
  next : BitVec 16
  alu : Nat
  asrc : Nat
  bsrc : Nat
  dst : Nat
  shf : Nat
  stk : Nat
  mem : Nat
  flg : BitVec 4
  ksel : Nat
  imm : Word
  xcmd : Nat
  sreg : Nat
  haltd : Bool
  px : Nat
  deriving DecidableEq, Repr

/-- The fields of a stored word. -/
def microOf (w : Word128) : Micro :=
  { seq := fld w 124 4, csel := fld w 118 6, cpol := bitAt w 117, next := BitVec.ofNat 16 (fld w 101 16), alu := fld w 96 5
    asrc := fld w 92 4, bsrc := fld w 88 4, dst := fld w 84 4, shf := fld w 80 4, stk := fld w 76 4, mem := fld w 72 4
    flg := BitVec.ofNat 4 (fld w 68 4), ksel := fld w 64 4, imm := BitVec.ofNat 32 (fld w 32 32), xcmd := fld w 24 8
    sreg := fld w 16 8, haltd := bitAt w 15, px := fld w 8 6 }

/-- The special register is no reserved one (R186). -/
def sregOk (n : Nat) : Bool := decide (n ≤ 0x10) || decide (0x14 ≤ n ∧ n ≤ 0x47) || decide (0x80 ≤ n ∧ n ≤ 0x8C)
/-- The word names the special register that SREG selects. -/
def Micro.usesSr (m : Micro) : Bool := m.asrc == 15 || m.bsrc == 15 || m.dst == 13
/-- The word holds a reserved code (R174, R186). -/
def Micro.reserved (m : Micro) : Bool :=
  decide (9 ≤ m.seq) || m.alu == 0x1F || m.shf == 15 || decide (9 ≤ m.stk) || decide (13 ≤ m.mem) || decide (0x0D ≤ m.xcmd) || m.dst == 15 ||
    (m.usesSr && !sregOk m.sreg)

/-! ### Micro-addresses (R189, R190) -/

/-- A micro-address of a user region. -/
def userRegion (u : Nat) : Bool := decide (0x400 ≤ u)

/-- A check error in a microword that is used: corrected and counted, or a microcode fault (R196, R197). -/
def useWord (e : Fin 257) (u : Nat) : EngM Unit := do
  let s ← get
  if u < 0x800 then
    match spGet (fun _ => none) s.csErr (2048 * e.val + u) with
    | none => pure ()
    | some true => throw (.dark 0x03)
    | some false =>
      act (fun s => { s with csErr := spSet (fun _ => none) s.csErr (2048 * e.val + u) none })
      if e.val < 256 then
        act (fun s => (s.countIrq (enginePage e) 0x068 1).setReg (engBase e + 0x06C) (BitVec.ofNat 32 (2 ^ 31 + u)))
  else
    let i := 16384 * (e.val / 16) + (u - 0x8000)
    if s.engines[e].oldStore.any (fun x => x.1 == u - 0x8000) then pure ()
    else match spGet (fun _ => none) s.ssErr i with
      | none => pure ()
      | some true => throw (.dark 0x03)
      | some false =>
        let p : Page := .cluster (Fin.ofNat 16 (e.val / 16))
        act (fun s => { s with ssErr := spSet (fun _ => none) s.ssErr i none })
        act (fun s => (s.countIrq p 0x054 0).setReg (pageBase p + 0x058) (BitVec.ofNat 32 (2 ^ 31 + (u - 0x8000))))

/-- The microword at a micro-address; a word that a Raise has replaced since the microroutine began is the old one (R161). -/
def State.microAt (s : State) (e : Fin 257) (u : Nat) : Word128 :=
  if u < 0x800 then s.csWord e.val u
  else match s.engines[e].oldStore.find? (fun x => x.1 == u - 0x8000) with
    | some x => x.2
    | none => s.ssWord (e.val / 16) (u - 0x8000)

/-- The entry of a user opcode: bits [31:0] of the cluster's word 0xBF00 + u, or the House engine's own (R195, R207). Bits [7:0] of a shared
word hold its CHK (R196) and are no part of TARGET, which R207's worked example needs: they count as 0 (DEDUCED, log entry 33). -/
def userEntry (e : Fin 257) (u : Nat) : EngM Word := do
  if e.val = 256 then
    useEntry e (0xE0 + u)
    return (← get).dispEntry e.val (0xE0 + u)
  else
    useWord e (0xBF00 + u)
    return (((← get).microAt e (0xBF00 + u)).setWidth 32 &&& 0xFFFFFF00)

/-- The micro-address that a chosen next µPC stands for: itself, or the target of a dispatch entry at 0xF000 + x; a reserved one is a
microcode fault, and so is the base region where `restricted` (R175, R189, R190). -/
def chooseNext (e : Fin 257) (u : Nat) (restricted : Bool) : EngM (BitVec 16) := do
  let house := decide (e.val = 256)
  let t ← if 0xF000 ≤ u ∧ u ≤ 0xF0FF then do
      let x := u - 0xF000
      if 0xE0 ≤ x ∧ x ≤ 0xEF then pure (fld (← userEntry e (x - 0xE0)) 0 16)
      else do
        useEntry e x
        pure (fld ((← get).dispEntry e.val x) 0 16)
    else pure u
  if !upcOk house t then throw (.dark 0x01)
  if restricted && !userRegion t then throw (.dark 0x06)
  return BitVec.ofNat 16 t

/-! ### Conditions (R177) -/

/-- Condition input n. Input 33, which hangs on the time of fetches, is a free value. -/
def State.condInput (s : State) (e : Fin 257) (n : Nat) : Bool :=
  let g := s.engines[e]
  let st := g.stat
  match n with
  | 0 => true
  | 1 => flagN st | 2 => flagZ st | 3 => flagC st | 4 => flagV st
  | 5 => flagC st && !flagZ st
  | 6 => flagN st == flagV st
  | 7 => !flagZ st && flagN st == flagV st
  | 8 => flagDz st
  | 9 => s.inHouse e
  | 10 => bitAt st 14 | 11 => bitAt st 10 | 12 => bitAt st 9 | 13 => bitAt st 8
  | 14 => g.prevRes == 0 | 15 => bitAt g.prevRes 31 | 16 => bitAt g.prevRes 0
  | 17 => g.lc == 0
  | 18 => g.mdrOld == 0xFFFFFFFF
  | 19 => g.lastStc
  | 20 => g.reserved.isSome
  | 21 => decide (8 ≤ g.sbuf.length) | 22 => g.sbuf.isEmpty
  | 23 => g.cells.isEmpty | 24 => g.cells.length == 8
  | 25 => decide (g.dsp.toNat < g.stackLimit + 4)
  | 26 => decide (g.stackBase ≤ g.dsp.toNat)
  | 27 => decide (g.rsp.toNat ≤ g.rsl.toNat)
  | 28 => decide (g.rsl.toNat ≤ g.rsp.toNat + 64 ∧ g.rsp.toNat < g.rsl.toNat)
  | 29 => bitAt st 14 && (s.intChoice e (fld st 11 3)).isSome
  | 30 => !(s.haltCauses e).isEmpty
  | 31 => g.wdg.pend
  | 32 => g.lse
  | 33 => bitAt (Config.freeWord s.freeIndex) 0
  | 34 => g.scnt == 0
  | 36 => g.rep
  | 37 => userRegion g.upc.toNat
  | 38 => s.prompting e
  | 39 => g.run == .halted
  | n =>
    if 40 ≤ n ∧ n ≤ 45 then bitAt g.evl (n - 40)
    else if 48 ≤ n ∧ n ≤ 55 then bitAt g.uf (n - 48)
    else false

/-- cond of a microword. -/
def State.microCond (s : State) (e : Fin 257) (m : Micro) : Bool := s.condInput e m.csel != m.cpol

/-! ### Stack needs (R179) -/

/-- Cells that an action removes and adds. -/
def stackMove : Nat → Nat × Nat
  | 1 => (0, 1) | 2 => (1, 0) | 3 => (2, 0) | 4 => (3, 0) | 5 => (0, 2) | _ => (0, 0)
/-- How many cells must be cached: those named as sources, a cell that DST names and that stood before the action, those the action
removes or exchanges. -/
def Micro.cellsNeeded (m : Micro) : Nat :=
  let (out, inn) := stackMove m.stk
  let src := fun k => if k < 8 then k + 1 else 0
  let dst := if m.dst < 8 ∧ inn ≤ m.dst then m.dst - inn + out + 1 else 0
  let move := match m.stk with | 6 => 2 | 7 => 3 | _ => out
  max (max (src m.asrc) (src m.bsrc)) (max dst move)

/-- A word needs a fill, or, with the cells it names cached, a spill (R179). -/
def Micro.trap (m : Micro) (cells : Nat) : Option Bool :=
  let (out, inn) := stackMove m.stk
  if cells < m.cellsNeeded then some true
  else if (if m.stk = 8 then 0 < cells else 8 < cells + inn - out) then some false
  else none

/-- FILL (true) or SPILL, a micro-call of a base routine that moves one cell: a ninth entry of the micro-stack is a microcode fault, and so is
a fill of a ninth cell, through TSB at TOSN = 8, in a word of FILL that is not given (R176, R179, R192; log entry 98). Its microwords count and are paced (R200, R201). -/
def microTrap (e : Fin 257) (fills : Bool) : EngM Unit := do
  let g ← engOf e
  if 8 ≤ g.mstack.length then throw (.dark 0x04)
  if fills then fill e else spill e
  if 8 ≤ g.cells.length ∧ fills then
    act (fun s => s.draw.2.modEng e (fun g => { g with upc := s.draw.1.setWidth 16 }))
    throw (.dark 0x05)
  act (fun s => s.countBase e)

/-! ### Datapath (R178 to R183) -/

/-- KSEL (R182). -/
def kselWord (e : Fin 257) : Nat → Word
  | 0 => 0 | 1 => 1 | 2 => 2 | 3 => 4 | 4 => 8 | 5 => 16 | 6 => 0xFFFFFFFF | 7 => 0x80000000 | 8 => 0x7FFFFFFF
  | 9 => BitVec.ofNat 32 e.val
  | 10 => if e.val = 256 then 0 else BitVec.ofNat 32 (e.val / 16)
  | 11 => 0xFF | 12 => 0xFFFF | 13 => 32 | 14 => 64 | _ => 12

/-- Special registers that microcode alone reads; the others as Cue Code reads them (R186). -/
def State.microSr (s : State) (e : Fin 257) (n : Nat) : Word :=
  let g := s.engines[e]
  match n with
  | 0x80 => g.lc.setWidth 32
  | 0x81 => BitVec.ofNat 32 g.cells.length
  | 0x82 => g.opc.setWidth 32
  | 0x83 => g.immv
  | 0x84 => g.ipc
  | 0x85 => g.xcause.setWidth 32
  | 0x86 => BitVec.ofNat 32 g.mstack.length
  | 0x8C => g.cells.getLast?.getD 0
  | n => s.srRead e n

/-- A source (R178). MDR is read as it stood before the preceding microword (R172). -/
def State.microSrc (s : State) (e : Fin 257) (m : Micro) (n : Nat) : Word :=
  let g := s.engines[e]
  if n < 8 then g.cells.getD n 0
  else match n with
    | 8 => g.x[0] | 9 => g.x[1] | 10 => g.x[2] | 11 => g.x[3]
    | 12 => g.mdrOld
    | 13 => m.imm
    | 14 => kselWord e m.ksel
    | _ => s.microSr e m.sreg

/-- Y with C and V where R183 defines them. -/
def microAlu (code : Nat) (a b : Word) (c : Bool) : Alu :=
  match code with
  | 0x01 => { r := b }
  | 0x02 => aluAdd a b false
  | 0x03 => aluAdd a b c
  | 0x04 => aluSub a b false
  | 0x05 => aluSub a b (!c)
  | 0x06 => aluSub b a false
  | 0x07 => aluNeg a
  | 0x08 => { r := a &&& b }
  | 0x09 => { r := a ||| b }
  | 0x0A => { r := a ^^^ b }
  | 0x0B => { r := a &&& ~~~b }
  | 0x0C => { r := ~~~a }
  | 0x0D => aluAdds a b
  | 0x0E => aluSubs a b
  | 0x0F => aluAddus a b
  | 0x10 => { r := mulLow a b }
  | 0x11 => { r := mulHighS a b }
  | 0x12 => { r := mulHighU a b }
  | 0x13 => aluDivs a b
  | 0x14 => aluDivu a b
  | 0x15 => aluRems a b
  | 0x16 => aluRemu a b
  | 0x17 => { r := minS a b }
  | 0x18 => { r := maxS a b }
  | 0x19 => { r := minU a b }
  | 0x1A => { r := maxU a b }
  | 0x1B => { r := clz32 a }
  | 0x1C => { r := BitVec.ofNat 32 (popCount 32 a.toNat) }
  | 0x1D => { r := BitVec.ofNat 32 (revBits 32 a.toNat) }
  | 0x1E => { r := swapBytes a }
  | _ => { r := a }

/-- The shifter (R181): the result, and the carry where the code is a shift. -/
def microShift (code : Nat) (y : Word) (n : Nat) (c : Bool) : Alu :=
  match code with
  | 1 => aluShl y 1
  | 2 => aluShr y 1
  | 3 => aluSar y 1
  | 4 => { r := BitVec.ofNat 32 (y.toNat / 2 + b2n c * 2 ^ 31), c := some (bitAt y 0) }
  | 5 => aluShl y n
  | 6 => aluShr y n
  | 7 => aluSar y n
  | 8 => aluRol y n
  | 9 => aluRor y n
  | 10 => { r := BitVec.ofNat 32 (y.toNat / 2 ^ 16 + y.toNat * 2 ^ 16) }
  | 11 => { r := sextW 8 y.toNat }
  | 12 => { r := sextW 16 y.toNat }
  | 13 => { r := y &&& 0xFF }
  | 14 => { r := y &&& 0xFFFF }
  | _ => { r := y }

/-- The EX result with the flags of R183. -/
def microEx (m : Micro) (a b : Word) (c : Bool) : Alu :=
  let byB := decide (5 ≤ m.shf ∧ m.shf ≤ 9)
  let y := microAlu m.alu a (if byB then 0 else b) c
  let z := microShift m.shf y.r b.toNat c
  { r := z.r, c := some ((z.c.orElse (fun _ => y.c)).getD false), v := some (y.v.getD false), dz := y.dz }

/-- STAT after a microword: the flags its FLG names (R180, R183). -/
def microFlags (st : Word) (flg : BitVec 4) (a : Alu) : Word :=
  let pick := fun (i : Nat) (st : Word) (b : Bool) => if bitAt flg i then putBit st (28 + i) b else st
  let st := pick 3 st (bitAt a.r 31)
  let st := pick 2 st (a.r == 0)
  let st := pick 1 st (a.c.getD false)
  let st := pick 0 st (a.v.getD false)
  if a.dz && bitAt flg 0 then putBit st 27 true else st

/-! ### Memory and commands (R184, R185) -/

/-- MEM at an address: what MDR receives. -/
def microMem (e : Fin 257) (code : Nat) (a b : Word) : EngM (Option Word) := do
  match code with
  | 1 => return some (BitVec.ofNat 32 (← loadN e a 1))
  | 2 => return some (sextW 8 (← loadN e a 1))
  | 3 => return some (BitVec.ofNat 32 (← loadN e a 2))
  | 4 => return some (sextW 16 (← loadN e a 2))
  | 5 => return some (BitVec.ofNat 32 (← loadN e a 4))
  | 6 => storeN e a 1 b.toNat; return none
  | 7 => storeN e a 2 b.toNat; return none
  | 8 => storeN e a 4 b.toNat; return none
  | 9 => return some (← loadReserve e a)
  | 10 => return some (BitVec.ofNat 32 (b2n (← storeConditional e a b)))
  | 11 => return some ((← testAndSet e a).setWidth 32)
  | 12 => return some (BitVec.ofNat 32 (← loadN e a 4 true))
  | _ => return none

/-- XCMD: what MDR receives. -/
def microCmd (e : Fin 257) (code : Nat) (addr a b : Word) : EngM (Option Word) := do
  let r := fld b 0 14
  match code with
  | 0x01 => return some (← placeCue e addr (fld b 0 4))
  | 0x02 => postRecord e addr; return none
  | 0x03 => return some (← ringCount e (fun s => s.ringReserve r))
  | 0x04 => ringAct e (fun s => s.ringCommit r a); return none
  | 0x05 => return some (← ringCount e (fun s => s.ringPop r))
  | 0x06 => act (fun s => s.modEng e (fun g => { g with icache := [], pred := [] })); return none
  | 0x07 => act (fun s => s.modEng e (fun g => { g with cfgSync := some g.cfg })); return none
  | 0x08 => drainAll e; return none
  | 0x09 => drainAll e; act (fun s => s.tinvStart e (fld b 0 6)); return none
  | 0x0A =>
    let g ← engOf e
    if !g.tinvDone then throw (.wait .busy)
    act (fun s => s.modEng e (fun g => { g with tinvs := [] }))
    return none
  | 0x0B => act (fun s => s.modEng e (fun g => { g with dcache := [] })); return none
  | 0x0C => ringAct e (fun s => s.ringRelease r a); return none
  | _ => return none

/-- MEM, then XCMD. A command that faults leaves the memory operation undone (R185, R191). -/
def microAccess (e : Fin 257) (m : Micro) (a b : Word) : EngM (Option Word) := fun s =>
  let addr := a + m.imm
  match microMem e m.mem addr b s with
  | .error x s1 => .error x s1
  | .ok v s1 =>
    match microCmd e m.xcmd addr a b s1 with
    | .ok w s2 => .ok (w.orElse (fun _ => v)) s2
    | .error (.fault c d x n) s2 =>
      if m.mem = 0 then .error (.fault c d x n) s2
      else match microCmd e m.xcmd addr a b s with
        | .error (.fault ..) s' => .error (.fault c d x n) s'
        | _ => .error (.fault c d x n) s
    | .error x s2 => .error x s2

/-- A microword of a user region that the engine's mode does not allow (R187): a special-register write that Cue Code in that mode could not
make, TINV, TSYNC. -/
def State.microDenied (s : State) (e : Fin 257) (m : Micro) (v : Word) : Bool :=
  let write := m.dst == 13 && (if m.sreg = 0x0A ∧ keysReduce s.engines[e].krights v then false else s.srDenied e m.sreg v)
  let cmd := (m.xcmd == 0x09 || m.xcmd == 0x0A) && !s.privileged e
  userRegion s.engines[e].upc.toNat && (write || cmd)

/-! ### Stack action and destination (R178, R179) -/

/-- The cells after the stack action; new cells hold undefined data. -/
def stackAct (stk : Nat) (free : Nat → Word) (c : List Word) : List Word :=
  match stk with
  | 1 => free 0 :: c
  | 2 => c.drop 1
  | 3 => c.drop 2
  | 4 => c.drop 3
  | 5 => free 0 :: free 1 :: c
  | 6 => (c.take 2).reverse ++ c.drop 2
  | 7 => (c.drop 2).take 1 ++ c.take 2 ++ c.drop 3
  | 8 => []
  | _ => c

/-- DST takes the result. -/
def State.microDst (s : State) (e : Fin 257) (m : Micro) (v : Word) : State :=
  if m.dst < 8 then s.modEng e (fun g => { g with cells := g.cells.set m.dst v })
  else match m.dst with
    | 8 | 9 | 10 | 11 => s.modEng e (fun g => { g with x := g.x.setIfInBounds (m.dst - 8) v })
    | 12 => s.modEng e (fun g => { g with lc := v.setWidth 16 })
    | 13 =>
      if 0x28 ≤ m.sreg ∧ m.sreg ≤ 0x47 then s.srWindow e m.sreg v
      else s.modEng e (fun g =>
        match m.sreg with
        | 0x00 => { g with pc := v }
        | 0x01 => g.writeStat v
        | 0x80 => { g with lc := v.setWidth 16 }
        | 0x8C => { g with cells := g.cells ++ [v] }
        | n => g.srWrite n v)
    | _ => s

/-! ### Sequencing (R175, R176) -/

/-- What a microword leads to: the next µPC (with the micro-stack), the end of the instruction, a wait, the exception entry point, a micro-trap
after which it is evaluated again. -/
inductive Then where
  | go (u : BitVec 16) (stack : List (BitVec 16))
  | dispatch
  | wait
  | trap (cause : Nat)
  | again
  deriving DecidableEq, Repr

/-- SEQ. A transfer of WAITEV is restricted where it goes through a dispatch entry (R190). -/
def microSeq (e : Fin 257) (m : Micro) (cond : Bool) : EngM Then := do
  let s ← get
  let g := s.engines[e]
  let inc := g.upc.toNat + 1
  let user := userRegion g.upc.toNat
  let entry := decide (0xF000 ≤ m.next.toNat ∧ m.next.toNat ≤ 0xF0FF)
  let jump := fun (taken : Bool) (st : List (BitVec 16)) => do
    let u ← if taken then chooseNext e m.next.toNat user else chooseNext e inc false
    return Then.go u (if taken then st else g.mstack)
  match m.seq with
  | 0 => jump false []
  | 1 => jump true g.mstack
  | 2 => jump cond g.mstack
  | 3 =>
    if cond && decide (8 ≤ g.mstack.length) then throw (.dark 0x04)
    jump cond (BitVec.ofNat 16 inc :: g.mstack)
  | 4 =>
    if !cond then jump false []
    else match g.mstack with
      | [] => throw (.dark 0x04)
      | r :: rest => return .go (← chooseNext e r.toNat false) rest
  | 5 => return .dispatch
  | 6 => jump (!(cond || g.lc == 0)) g.mstack
  | 7 =>
    if cond then return .go (← chooseNext e m.next.toNat (user && entry)) g.mstack
    else if g.run == .halted || s.waitEnds e then return .go (← chooseNext e inc false) g.mstack
    else return .wait
  | _ => return .trap m.px

/-! ### One microword -/

/-- LOOP counts when it is taken. -/
def Micro.loops (m : Micro) (cond : Bool) (lc : BitVec 16) : Bool := m.seq == 6 && !(cond || lc == 0)

/-- TSB as a source. -/
def Micro.readsTsb (m : Micro) : Bool := m.sreg == 0x8C && (m.asrc == 15 || m.bsrc == 15)
/-- TSB as a destination. -/
def Micro.writesTsb (m : Micro) : Bool := m.sreg == 0x8C && m.dst == 13
/-- The word stores to memory (R184). -/
def Micro.stores (m : Micro) : Bool := (decide (6 ≤ m.mem ∧ m.mem ≤ 8)) || m.mem == 10 || m.mem == 11
/-- The word writes a result of its Cue Code instruction: cells, a special register but LC, flags, memory (R221). What MDR receives is none. -/
def Micro.results (m : Micro) : Bool :=
  m.stk != 0 || decide (m.dst < 8) || (m.dst == 13 && m.sreg != 0x80) || m.flg != 0 || m.stores

/-- EX and MW of a microword: its sources, its access, then its effects (R171, R191). A delayed load completes before its instruction writes
any result, and at its end (R221). -/
def microWork (e : Fin 257) (m : Micro) (cond : Bool) : EngM Unit := do
  let s ← get
  let a := s.microSrc e m m.asrc
  let b := s.microSrc e m m.bsrc
  let ex := microEx m a b (flagC s.engines[e].stat)
  if s.microDenied e m ex.r then throw (.fault 0x09 0 s.engines[e].ipc)
  if m.results then completeLoad e
  let mdr ← microAccess e m a b
  if m.readsTsb then act (fun s => s.modEng e (fun g => { g with cells := g.cells.dropLast }))
  if m.seq == 5 then completeLoad e
  act (fun s =>
    let i := s.freeIndex
    let s := (s.drew 2).modEng e (fun g => { g with
      cells := stackAct m.stk (fun k => Config.freeWord (i + k)) g.cells
      lc := if m.loops cond g.lc then g.lc - 1 else g.lc })
    let s := s.microDst e m ex.r
    s.modEng e (fun g => { g with
      stat := microFlags g.stat m.flg ex, prevRes := ex.r, mdrOld := g.mdr, mdr := mdr.getD g.mdr }))

/-- A microword of an engine: its microcode faults; a micro-trap that it needs, one cell at a time; then its condition and the next µPC, its
work (R171, R172, R179). A WAITEV that waits does so in CD: its work is done when it ends. A word whose fills and spills undo each other never
completes. A TRAP with a cause that is never vectored is a microcode fault (R261; DESIGN CHOICE, log entry 96). -/
def microStep (e : Fin 257) : EngM (Micro × Then) := do
  let g ← engOf e
  useWord e g.upc.toNat
  let s ← get
  let m := microOf (s.microAt e g.upc.toNat)
  if m.reserved || (m.seq == 8 && (m.px == 0x00 || m.px == 0x0F)) then throw (.dark 0x02)
  if let some fills := m.trap g.cells.length then
    microTrap e fills
    return (m, .again)
  let s ← get
  let g := s.engines[e]
  let (out, inn) := stackMove m.stk
  if m.readsTsb && g.cells.isEmpty then throw (.dark 0x05)
  if m.writesTsb && decide (8 ≤ g.cells.length - b2n m.readsTsb + inn - out) then throw (.dark 0x05)
  let cond := s.microCond e m
  if m.csel = 33 then act (fun s => s.drew 1)
  let next ← microSeq e m cond
  if next ≠ .wait then microWork e m cond
  return (m, next)

/-! ### Pacing (R200) -/

/-- Ticks from a microword to the next: PBASE, 0 acting as 1, and PX. -/
def State.paceOf (s : State) (e : Fin 257) (m : Micro) : Nat := s.paceBase e + (if m.seq = 8 then 0 else m.px)
/-- A microword has entered EX: it is counted, and the next is due in its number of ticks (R200, R201). -/
def State.microCounted (s : State) (e : Fin 257) (m : Micro) : State :=
  let s := (s.useMicro e 1).modEng e (fun g => { g with tickWait := s.paceOf e m, paceLate := false })
  if e.val < 256 then s.incReg (engBase e + 0x070) else s

/-! ### The Prompter's end (R407) -/

/-- Operand-stack cell 0 as PRESULT shows it; it waits for a memory word as a load does, and a word whose read faults gives undefined
data (DESIGN CHOICE, log entry 104). -/
def promptResult (e : Fin 257) : EngM Word := fun s =>
  let g := s.engines[e]
  match g.cells with
  | v :: _ => .ok v s
  | [] =>
    if g.memCells = 0 then .ok 0 s
    else match loadN e g.dsp 4 false s with
      | .ok v s' => .ok (BitVec.ofNat 32 v) s'
      | .error (.wait w) s' => .error (.wait w) s'
      | .error (.refuse x) s' => .error (.refuse x) s'
      | .error _ _ => .ok s.draw.1 s.draw.2

/-- A Prompter instruction ends, with an exception's cause or none; a RESUME or STEP that waited goes on (R406, R407). -/
def State.promptEnds (s : State) (e : Fin 257) (exc : Option Nat) (v : Word) : State :=
  let held := s.dbg.resumeHeld
  let s := s.modDebug (fun d => { d with
    prompt := none, resumeHeld := none, pResult := v, pEmpty := s.engines[e].depth == 0, pExc := exc.isSome
    pCause := BitVec.ofNat 8 (exc.getD 0), daccStatus := if d.daccStatus = 1 then 0 else d.daccStatus })
  match held with
  | some true => s.engStep e
  | some false => s.engResume e
  | none => s

/-- The end of a Prompter instruction that a command made, which began in `base`: PRESULT may have to wait, and then the command has done
nothing. -/
def State.promptEnd (s base : State) (e : Fin 257) (exc : Option Nat) : Out :=
  match promptResult e s with
  | .ok v s' => .next (s'.promptEnds e exc v)
  | .error (.wait w) s' => .next (base.waits e s' w)
  | .error (.refuse x) _ => .refused x
  | .error _ _ => .next base

/-- What a fed engine makes of an outcome: no handler, no boundary but STAT and CFG that are due; its delayed load completes. The command
began in `base`. -/
def State.promptConclude (s base : State) (e : Fin 257) (r : EStateM.Result Stop State Unit) : Out :=
  let g0 := s.engines[e]
  let close := fun (s' : State) (exc : Option Nat) =>
    match settleLoad e s' with
    | .ok _ s'' => (s''.boundary e).promptEnd base e exc
    | .error (.wait w) s'' => .next (base.waits e s'' w)
    | .error (.refuse x) _ => .refused x
    | .error _ _ => .next base
  match r with
  | .ok _ s' => close s' none
  | .error (.wait w) s' => .next (base.waits e s' w)
  | .error (.refuse x) _ => .refused x
  | .error (.dark reason) s' =>
    let (u, s') := s'.dispatchUpc e base
    close ((s'.undo e g0).goDark e reason u 0) (some 0x0F)
  | .error (.fault cause _ _ _) s' => close (s'.undo e g0) (some cause)
  | .error .bkpt _ => .next base

/-! ### Commands -/

/-- EADDR and the return address of a cause that a microword raises with SEQ = TRAP, as far as R261 gives them for that cause. -/
def State.trapFrame (s : State) (e : Fin 257) (cause : Nat) : Word × Word × State :=
  let g := s.engines[e]
  let later := cause = 0x0D ∨ cause = 0x0E ∨ (0x10 ≤ cause)
  let (free, s) := s.draw
  let eaddr := match cause with
    | 0x0A => g.dsp - 4 | 0x0B => g.dsp | 0x0C => g.rsp - 4 | 0x0D => g.lseaddr | 0x0E => 0
    | c => if c = 0x01 ∨ c = 0x02 ∨ c = 0x09 ∨ (0x10 ≤ c ∧ c ≤ 0x1F) then g.ipc else if 0x20 ≤ c then 0 else free
  (eaddr, if later then g.pc else g.ipc, s)

/-- The engine runs a microroutine: RUNNING, or fed by the Prompter. -/
def State.inRoutine (s : State) (e : Fin 257) : Bool :=
  s.engines[e].micro && (s.engines[e].run == .running || (s.engines[e].run == .halted && s.prompting e))

/-- A microword of an engine that runs a microroutine, with what follows it. -/
def State.runMicro (s : State) (e : Fin 257) : Out :=
  let g0 := s.engines[e]
  match microStep e s with
  | .ok (_, .again) s1 => .next s1
  | .ok (m, .wait) s1 => .next (s1.modEng e (fun g => { g with run := .intermission, waitEv := some g.upc.toNat }))
  | .ok (m, next) s1 =>
    let s1 := s1.microCounted e m
    let s1 := if m.haltd && g0.run == .running then s1.haltRequest e 3 else s1
    (match next with
      | .go u st => .next (s1.modEng e (fun g => { g with upc := u, mstack := st }))
      | .wait | .again => .next s1
      | .dispatch =>
        let s1 := s1.modEng e (fun g => { g with lastUpc := some g.upc })
        if s.prompting e then s1.promptConclude s e (.ok () (s1.modEng e (fun g => { g with micro := false }))) else .next (s1.boundary e)
      | .trap cause =>
        if s.prompting e then s1.promptConclude s e (.error (.fault cause 0 0) s1)
        else
          let (eaddr, ret, s1) := s1.trapFrame e cause
          s1.takeException s e cause 0 eaddr ret)
  | .error (.wait w) s1 => .next (s.waits e s1 w)
  | .error (.refuse x) _ => .refused x
  | .error (.dark reason) s1 =>
    let s2 := (s1.undo e g0).goDark e reason s1.engines[e].upc 0
    if s.prompting e then s2.promptEnd s e (some 0x0F) else .next s2
  | .error .bkpt _ => .next s
  | .error (.fault cause detail eaddr next) s1 =>
    if s.prompting e then s.promptConclude s e (.error (.fault cause detail eaddr next) s1)
    else (s1.undo e g0).takeException s e cause detail eaddr g0.ipc

/-- MICROWORD (R171 to R200): in deterministic mode on its tick alone. -/
def execMicroword (e : Fin 257) (s : State) : Out :=
  if !s.inRoutine e || (bitAt s.engines[e].stat 10 && s.engines[e].tickWait != 0) then .next s else s.runMicro e

/-- An intermission ends if it may: WAIT on its latches or an event; WAITEV on its condition or an event, its microword then done (R175,
R256). -/
def State.intermissionOver (s : State) (e : Fin 257) : Out :=
  let g := s.engines[e]
  if g.run ≠ .intermission then .next s
  else match g.waitMask, g.waitEv with
    | some m, _ =>
      if g.evl &&& m != 0 || s.waitEnds e then .next ((s.modEng e (fun g => { g.waitDone m with run := .running })).boundary e) else .next s
    | none, some _ => (s.modEng e (fun g => { g with run := .running, waitEv := none })).runMicro e
    | none, none => .next s

/-- The Prompter or the engine itself has a next microword to come. -/
def State.working (s : State) (e : Fin 257) : Bool :=
  s.engines[e].run == .running || (s.engines[e].run == .halted && s.prompting e)

/-- PACING_TICK (R200): the next microword comes due, or a due one of a routine is not ready and counts as an overrun once; an intermission
ends. -/
def execPacingTick (e : Fin 257) (s : State) : Out :=
  let g := s.engines[e]
  if !bitAt g.stat 10 then .next s
  else if g.run = .intermission then s.intermissionOver e
  else if !s.working e then .next s
  else if g.tickWait ≠ 0 then .next (s.modEng e (fun g => { g with tickWait := g.tickWait - 1 }))
  else if !s.inRoutine e ∨ g.paceLate ∨ e.val = 256 then .next s
  else .next ((s.countIrq (enginePage e) 0x064 2).modEng e (fun g => { g with paceLate := true }))

/-- INTERMISSION_EXIT (R175, R256): in deterministic mode an intermission ends on a pacing tick (R200). -/
def execIntermissionExit (e : Fin 257) (s : State) : Out := if bitAt s.engines[e].stat 10 then .next s else s.intermissionOver e

/-- A user opcode's dispatch (R193, R195, R257): the routine begins at TARGET. -/
def dispatchUser (e : Fin 257) (u : Nat) (imm : Word) : EngM Unit := do
  let s ← get
  let pc := s.engines[e].pc
  if !s.prompting e then fetchBytes e pc 1 true
  let entry ← userEntry e u
  let n := ilenOf (fld entry 28 2)
  if !bitAt entry 31 then throw (.fault 0x02 0 pc)
  if !s.prompting e then fetchBytes e (pc + 1) n false
  if bitAt entry 30 && !s.privileged e then throw (.fault 0x09 0 pc)
  beginRoutine e (0xE0 + u) (fld entry 0 16) n imm

/-- USER_OPCODE (R257). -/
def execUserOpcode (e : Fin 257) (u : Fin 16) (imm : Word) (s : State) : Out :=
  if s.canRun e then s.dispatched e (dispatchUser e u.val imm s) else .next s

end Sys2Proof.Machine
end

