-- ==== Sys2Proof/Machine/PermitRows.lean ====
section
/-!
DEFINITION. A grant of the Permit unit and what starts with it (R384, R385).
-/
namespace Sys2Proof.Machine

/-- The operation that a grant starts. -/
def State.grantStarts (s : State) : Requester → State
  | .cue id => s.chainGranted id
  | .prepare t => s.wingsGranted t
  | .bulk => s.bulkGranted
  | .scrub j => s.scrubGranted j
  | .bist j => s.bistGranted j
  | .boot => s.bootGranted
  | .quote r => s.quoteGranted r
  | .train n => s.trainGranted n
  | .wake _ => s

/-- PERMIT_GRANT: one grant of an evaluation, if a head may be granted (R385, R386). -/
def State.permitGrant (s : State) : State :=
  let s := s.memPoll
  match s.grantOne with
  | some (who, s) => s.grantStarts who
  | none => s

/-- PERMIT_GRANT (R385). -/
def execPermitGrant (s : State) : Out := .next s.permitGrant

end Sys2Proof.Machine
end

