-- ==== Sys2Proof/Machine/PinRun.lean ====
section
/-!
DEFINITION. The steps of the pin engines (R336 to R342, R345): one edge of PINCLK, and the row of each instruction.
-/
namespace Sys2Proof.Machine

/-- An edge of PINCLK at pin engine k: the writes accepted at it come first, then the engine's step if it is a step of row `op`, which
acts on the inputs sampled two edges earlier; without an instruction, at a STOPPED or frozen engine, only the synchronizers move, and a strobe
of a STOPPED engine falls (R336, R338, R344, R391). -/
def State.pinStep (s0 : State) (k : Fin 32) (pins : Word) (op : PinOp) (f : BitVec 16 → State → State) : State :=
  let s := (s0.pinSync k).pinWrites k
  match s.pinCur k with
  | none => (if s.frozen (.pin k) then s else s.modPin k PinEng.strobeEnds).pinEdge k pins
  | some i => if pinDecode i ≠ op then s0 else ((f i (s.modPin k PinEng.strobeEnds)).pinEdge k pins).useCtrl 20 1

/-! ### Commands -/

/-- NOP (R337). -/
def execPinNop (k : Fin 32) (pins : Word) (s : State) : Out :=
  .next (s.pinStep k pins .nop (fun _ s => s.modPin k (fun p => p.finish none)))
/-- STOP (R337, R344). -/
def execStop (k : Fin 32) (pins : Word) (s : State) : Out := .next (s.pinStep k pins .stop (fun _ s => s.stepStop k))
/-- SIGNAL (R337). -/
def execSignal (k : Fin 32) (pins : Word) (s : State) : Out :=
  .next (s.pinStep k pins .signal (fun _ s => (s.modPin k (fun p => p.finish none)).pinEvent k 3 20))
/-- CLR (R337). -/
def execClr (k : Fin 32) (pins : Word) (s : State) : Out :=
  .next (s.pinStep k pins .clr (fun _ s => s.modPin k (fun p => { p with sr := 0, bc := 0 }.finish none)))
/-- DRIVE (R337). -/
def execDrive (k : Fin 32) (pins : Word) (s : State) : Out :=
  .next (s.pinStep k pins .drive (fun i s => s.modPin k (fun p => p.stepDrive i)))
/-- PUTP (R337). -/
def execPutp (k : Fin 32) (pins : Word) (s : State) : Out :=
  .next (s.pinStep k pins .putp (fun _ s => s.modPin k (fun p => { p with pout := p.sr }.finish none)))
/-- GETP (R337). -/
def execGetp (k : Fin 32) (pins : Word) (s : State) : Out :=
  .next (s.pinStep k pins .getp (fun _ s => s.modPin k (fun p => { p with sr := p.pinIn, bc := 32 }.finish none)))
/-- SHO (R338). -/
def execSho (k : Fin 32) (pins : Word) (s : State) : Out := .next (s.pinStep k pins .sho (fun i s => s.stepSho k i))
/-- SHI (R338). -/
def execShi (k : Fin 32) (pins : Word) (s : State) : Out := .next (s.pinStep k pins .shi (fun i s => s.stepShi k i))
/-- TAKE (R339). -/
def execTake (k : Fin 32) (pins : Word) (s : State) : Out := .next (s.pinStep k pins .take (fun i s => s.stepTake k i))
/-- GIVE (R339). -/
def execGive (k : Fin 32) (pins : Word) (s : State) : Out := .next (s.pinStep k pins .give (fun i s => s.stepGive k i))
/-- AWAIT, pin form (R337). -/
def execAwaitPin (k : Fin 32) (pins : Word) (s : State) : Out :=
  .next (s.pinStep k pins .awaitPin (fun i s => s.modPin k (fun p => p.stepAwaitPin i)))
/-- AWAIT, beat form (R340). -/
def execAwaitBeat (k : Fin 32) (pins : Word) (s : State) : Out := .next (s.pinStep k pins .awaitBeat (fun i s => s.stepAwaitBeat k i))
/-- BR (R341). -/
def execBr (k : Fin 32) (pins : Word) (s : State) : Out := .next (s.pinStep k pins .br (fun i s => s.modPin k (fun p => p.stepBr i)))
/-- LDLC (R337). -/
def execLdlc (k : Fin 32) (pins : Word) (s : State) : Out :=
  .next (s.pinStep k pins .ldlc (fun i s => s.modPin k (fun p => { p with lc := fld i 0 12 }.finish none)))
/-- LOOP (R341). -/
def execPinLoop (k : Fin 32) (pins : Word) (s : State) : Out :=
  .next (s.pinStep k pins .loop (fun i s => s.modPin k (fun p => p.stepLoop i)))
/-- A reserved encoding acts as STOP and sets ERR (R342). -/
def execPinReservedOp (k : Fin 32) (pins : Word) (s : State) : Out :=
  .next (s.pinStep k pins .reserved (fun _ s => ((s.modPin k (fun p => { p with err := true })).irq (.pin k) 6).stepStop k))

end Sys2Proof.Machine
end

