-- ==== Sys2Proof/Machine/Prompter.lean ====
section
/-!
DEFINITION. The Prompter (R407): one instruction fed to the halted engine of PSEL.
-/
namespace Sys2Proof.Machine

/-- The effect of a base opcode by its number, with its immediate; none: a reserved value, or REP, whose string opcode the Prompter does not
take (R407). -/
def bodyOf (e : Fin 257) (opc : Nat) (imm : Nat) : Option Body :=
  let i8 := BitVec.ofNat 8 imm
  let i16 := BitVec.ofNat 16 imm
  let w := BitVec.ofNat 32 imm
  match opc with
  | 0x00 => some (pure id) | 0x01 => some (bodyLit e (i8.signExtend 32)) | 0x02 => some (bodyLit e (i16.signExtend 32))
  | 0x03 | 0x04 => some (bodyLit e w)
  | 0x05 => some (bodyDup e) | 0x06 => some (bodyDrop e) | 0x07 => some (bodySwap e) | 0x08 => some (bodyOver e)
  | 0x09 => some (bodyRot e) | 0x0A => some (bodyNip e) | 0x0B => some (bodyTuck e) | 0x0C => some (bodyDup2 e)
  | 0x0D => some (bodyDrop2 e) | 0x0E => some (bodyPick e imm) | 0x0F => some (bodyDepth e) | 0x10 => some (bodyRpush e)
  | 0x11 => some (bodyRpop e) | 0x12 => some (bodyRpeek e) | 0x13 => some (bodyFlush e)
  | 0x20 => some (bodyAdd e) | 0x21 => some (bodyAdc e) | 0x22 => some (bodySub e) | 0x23 => some (bodySbc e)
  | 0x24 => some (bodyNeg e) | 0x25 => some (bodyAdds e) | 0x26 => some (bodySubs e) | 0x27 => some (bodyAddus e)
  | 0x28 => some (bodyMul e) | 0x29 => some (bodyMulhs e) | 0x2A => some (bodyMulhu e) | 0x2B => some (bodyDivs e)
  | 0x2C => some (bodyDivu e) | 0x2D => some (bodyRems e) | 0x2E => some (bodyRemu e) | 0x2F => some (bodyCmp e)
  | 0x30 => some (bodyAnd e) | 0x31 => some (bodyOr e) | 0x32 => some (bodyXor e) | 0x33 => some (bodyAndn e)
  | 0x34 => some (bodyNot e) | 0x35 => some (bodyShl e) | 0x36 => some (bodyShr e) | 0x37 => some (bodySar e)
  | 0x38 => some (bodyRol e) | 0x39 => some (bodyRor e) | 0x3A => some (bodyAddi e i8) | 0x3B => some (bodyCmpi e i8)
  | 0x3C => some (bodyTst e) | 0x3D => some (bodyMins e) | 0x3E => some (bodyMaxs e) | 0x3F => some (bodyClz e)
  | 0x40 => some (bodyLoad e 0 1 (BitVec.ofNat 32)) | 0x41 => some (bodyLoad e 0 1 (sextW 8))
  | 0x42 => some (bodyLoad e 0 2 (BitVec.ofNat 32)) | 0x43 => some (bodyLoad e 0 2 (sextW 16))
  | 0x44 => some (bodyLoad e 0 4 (BitVec.ofNat 32)) | 0x45 => some (bodyLoad e 0 4 (BitVec.ofNat 32) true)
  | 0x46 => some (bodyStore e 0 1) | 0x47 => some (bodyStore e 0 2) | 0x48 => some (bodyStore e 0 4)
  | 0x49 => some (bodyLoad e (i16.signExtend 32) 4 (BitVec.ofNat 32)) | 0x4A => some (bodyStore e (i16.signExtend 32) 4)
  | 0x4B => some (bodyLdr e) | 0x4C => some (bodyStc e) | 0x4D => some (bodyTas e)
  | 0x60 => some (bodyJmp e) | 0x61 => some (bodyCall e (i16.signExtend 32)) | 0x62 => some (bodyCall e w) | 0x63 => some (bodyCalli e)
  | 0x64 => some (bodyRet e) | 0x65 => some (bodyRete e) | 0x66 => some (bodyBz e i16 true) | 0x67 => some (bodyBz e i16 false)
  | 0x68 => some (bodyDbnz e i16) | 0x69 => some (bodyTrap e imm)
  | 0x81 => some (bodyString e .movs imm) | 0x82 => some (bodyString e .fils imm) | 0x83 => some (bodyString e .cmps imm)
  | 0x84 => some (bodyString e .scas imm) | 0x85 => some (bodyLda e imm) | 0x86 => some (bodySta e imm)
  | 0xA0 => some (bodyRdsr e imm) | 0xA1 => some (bodyWrsr e imm) | 0xA2 => some bodySyncP | 0xA3 => some (bodySyncI e)
  | 0xA4 => some (bodySyncM e) | 0xA5 => some bodyDinv | 0xA6 => some (bodyTinv e) | 0xA7 => some (bodyTsync e)
  | 0xA8 => some (bodyKset e) | 0xA9 => some (bodyCue e imm) | 0xAA => some (bodyPost e)
  | 0xAB => some (bodyRingCount e State.ringReserve) | 0xAC => some (bodyRingAct e State.ringCommit)
  | 0xAD => some (bodyRingCount e State.ringPop) | 0xAE => some (bodyWait e imm) | 0xAF => some (bodyRingAct e State.ringRelease)
  | 0xBF => some (bodyBkpt e)
  | n => if 0x70 ≤ n ∧ n ≤ 0x7F then some (bodyBranch e (n - 0x70) i16) else none

/-- A fed instruction: its opcode byte and the immediate bytes of its entry's ILEN; a value without an instruction is illegal, or an emulation
trap (R234, R407). -/
def promptInstr (e : Fin 257) (bytes : List Byte) : EngM Unit := do
  let opc := (bytes.getD 0 0).toNat
  let imm := natLE ((bytes.drop 1).take (ilenOf (baseFlags opc)))
  match bodyOf e opc imm with
  | some body =>
    dispatchBase e opc 0 (BitVec.ofNat 32 imm)
    finish e (← body)
    act (fun s => s.ranBase e)
  | none => dispatchReserved e opc

/-- The Prompter runs its instruction: a base opcode at once, a user opcode by its microwords. An engine that has left HALTED takes
none. -/
def State.promptRun (s : State) : Out :=
  match s.dbg.prompt with
  | none => .next s
  | some (e, bytes) =>
    if s.engines[e].run ≠ .halted then
      .next (s.modDebug (fun d => { d with
        prompt := none, resumeHeld := none, pNotHalted := true, daccStatus := if d.daccStatus = 1 then 0 else d.daccStatus }))
    else if s.engines[e].micro || !s.paced e then .next s
    else
      let opc := (bytes.getD 0 0).toNat
      if 0xE0 ≤ opc ∧ opc ≤ 0xEF then
        match dispatchUser e (opc - 0xE0) (wordLE (bytes.drop 1)) s with
        | .ok _ s' => .next s'
        | r => s.promptConclude s e r
      else if s.entryIsBase e.val opc && s.entryMoved e.val opc then
        match dispatchMoved e opc 0 (wordLE (bytes.drop 1)) s with
        | .ok _ s' => .next s'
        | r => s.promptConclude s e r
      else s.promptConclude s e (promptInstr e bytes s)

/-- PROMPTER (R407): a write of PRMPT0 by the debugger feeds its word and the instruction runs; without a word, the instruction that a
write of PRMPT0 has left. -/
def execPrompter (w : Option Word) (s : State) : Out :=
  match w with
  | none => s.promptRun
  | some w => (s.daccUpdate 2 0x144 w).promptRun

end Sys2Proof.Machine
end

