-- ==== Sys2Proof/Machine/RegRows.lean ====
section
/-!
DEFINITION. The commands that are accesses to the register space, family by family. A row that names a register write is that write, with
the bit that makes it the row's, checked as R30 says; where its register lies in a clocked island the row stands at the acceptance edge
(log entry 9).
-/
namespace Sys2Proof.Machine

/-- A write of the CURTAIN page can take effect now: the releases and judgements of earlier beats are done, that of the present beat is
not, and no write waits that comes before it (R447). -/
def State.curtainTurn (s : State) : Bool :=
  s.curWritesDone s.beatno && s.curJudged s.beatno && (!s.pageEn .curtain || s.relNext == s.beatno)

/-- A write of the CURTAIN page goes to the queue with an acceptance edge of its own: that of the present beat, or of the next once the
release of the present beat is over. It stands ahead of the writes accepted later. -/
def State.curtainQueue (s : State) (m : Master) (addr : Nat) (data : Word) (o : WriteFrom) : State :=
  let due := if s.pageEn .curtain && beatLt s.beatno s.relNext then s.beatno + 1 else s.beatno
  let w : IslandWrite := { beat := due - 2, pinPage := none, curtain := true, m, addr, data, origin := o }
  let first := s.islandQ.takeWhile (fun x => !x.curtain || beatLe x.due due)
  { s with islandQ := first ++ w :: s.islandQ.drop first.length }

/-- What comes ahead of an access at its acceptance edge in the island of its register: the writes that the edge accepts before it, and on the
BEATCLK island the wraps of the edge (R317, R323, R336). -/
def State.rowReady (s : State) (addr : Nat) : State :=
  match (pageAt addr).bind (fun p => islandOf p (regOff p addr)) with
  | some (some k, _) => s.pinWrites k
  | some (none, false) => s.edgeWrites.timerWraps
  | _ => s

/-- A write with all strobes, at its acceptance edge. On the CURTAIN page it keeps its place among the releases: where it cannot take effect
now it waits for CURTAIN_WRITE_ACCEPT (R447; log entry 9). -/
def State.rowWrite (s : State) (m : Master) (addr : Nat) (data : Word) : Out :=
  .next (if !s.takes m addr || (s.refuseCause m addr 0xF).isSome then s.busWrite m addr data 0xF true
    else if pageAt addr = some .curtain ∧ !s.curtainTurn then (s.taken m addr).curtainQueue m addr data (s.originOf m)
    else (s.rowReady addr).busWrite m addr data 0xF true)
/-- A data word with bit `i` set. -/
def withBit (d : Word) (i : Nat) : Word := putBit d i true
/-- A data word with bit `i` clear. -/
def withoutBit (d : Word) (i : Nat) : Word := putBit d i false
/-- PAGE_CTRL of a page as it stands. -/
def State.ctrlNow (s : State) (p : Page) : Word := s.getReg (pageBase p + 0x08)

/-! ### Register space -/

/-- REGISTER_WRITE (R30). -/
def execRegisterWrite (m : Master) (addr : BitVec 24) (data : Word) (strb : BitVec 4) (s : State) : Out :=
  .next (s.busWrite m addr.toNat data strb false)
/-- RESERVED_ADDRESS_ACCESS (R22). -/
def execReservedAddressAccess (m : Master) (addr : BitVec 24) (write : Bool) (s : State) : Out :=
  .next (if !reservedAddr addr.toNat then s
    else if write then s.busWrite m addr.toNat 0 0xF false else s.busRead m addr.toNat false)
/-- RC_FIELD_READ (R31, R32). -/
def execRcFieldRead (m : Master) (addr : BitVec 24) (s : State) : Out := .next (s.busRead m addr.toNat false)
/-- HIGHWATER_READ (R390). -/
def execHighwaterRead (m : Master) (s : State) : Out := .next (s.busRead m 0x002068 true)
/-- SOFT_RESET (R26). -/
def execSoftReset (p : Page) (m : Master) (s : State) : Out := s.rowWrite m (pageBase p + 0x08) (withBit (s.ctrlNow p) 2)
/-- SOFT_RESET_COMPLETE (R26): READY reads 1. It stands for the end of the reset of the page's unit by `rst_n` as well, until which READY
reads its reset value 0 (DESIGN CHOICE, log entry 111). -/
def execSoftResetComplete (p : Page) (s : State) : Out := .next (s.modReg (pageBase p + 0x0C) (fun w => putBit (putBit w 1 false) 0 true))
/-- PAGE_ENABLE (R25). -/
def execPageEnable (p : Page) (m : Master) (s : State) : Out := s.rowWrite m (pageBase p + 0x08) (withBit (s.ctrlNow p) 0)
/-- PAGE_DISABLE (R25). -/
def execPageDisable (p : Page) (m : Master) (s : State) : Out := s.rowWrite m (pageBase p + 0x08) (withoutBit (s.ctrlNow p) 0)
/-- PAGE_LOCK (R29). -/
def execPageLock (p : Page) (m : Master) (s : State) : Out := s.rowWrite m (pageBase p + 0x1C) 1
/-- OWNER_CLAIM (R34). -/
def execOwnerClaim (m : Master) (s : State) : Out := s.rowWrite m 0x000044 0x100
/-- OWNER_RELEASE (R34). -/
def execOwnerRelease (m : Master) (s : State) : Out := s.rowWrite m 0x000044 0x200
/-- ERR_INFO_CLEAR (R30). -/
def execErrInfoClear (m : Master) (s : State) : Out := s.rowWrite m 0x00004C 0x80000000

/-! ### Callboard -/

/-- CALLBOARD_UPDATE (R38). -/
def execCallboardUpdate (r : Fin 64) (s : State) : Out := .next (s.cbUpdate r)
/-- OP_CTRL of record r. -/
def opCtrlAddr (r : Fin 64) : Nat := 0x001118 + 0x20 * r.val
/-- OP_ABORT (R39). -/
def execOpAbort (r : Fin 64) (m : Master) (s : State) : Out := s.rowWrite m (opCtrlAddr r) 1
/-- OP_RELEASE (R36). -/
def execOpRelease (r : Fin 64) (m : Master) (s : State) : Out := s.rowWrite m (opCtrlAddr r) 2

/-! ### Links, frames, rings -/

/-- LINK_TRAINING (R49). -/
def execLinkTraining (n : Fin 128) (m : Master) (s : State) : Out := s.rowWrite m (linkAddr n 0x048) 0x80000000
/-- FRAME_RING_ENABLE (R54). -/
def execFrameRingEnable (m : Master) (data : Word) (s : State) : Out := s.rowWrite m 0x100304 (withBit data 31)
/-- FRAME_RING_DISABLE (R54). -/
def execFrameRingDisable (m : Master) (data : Word) (s : State) : Out := s.rowWrite m 0x100304 (withoutBit data 31)
/-- FR_RELEASE (R58). -/
def execFrRelease (m : Master) (data : Word) (s : State) : Out := s.rowWrite m 0x100318 data
/-- RING_ENABLE (R61). -/
def execRingEnable (r : Fin 16384) (m : Master) (data : Word) (s : State) : Out := s.rowWrite m (ringBase r.val + 0x08) (withBit data 31)
/-- RING_DISABLE (R61). -/
def execRingDisable (r : Fin 16384) (m : Master) (data : Word) (s : State) : Out := s.rowWrite m (ringBase r.val + 0x08) (withoutBit data 31)
/-- RING_RESERVE (R62). -/
def execRingReserve (r : Fin 16384) (m : Master) (s : State) : Out := .next (s.busRead m (ringBase r.val + 0x1C) true)
/-- RING_COMMIT (R62). -/
def execRingCommit (r : Fin 16384) (m : Master) (k : Word) (s : State) : Out := s.rowWrite m (ringBase r.val + 0x20) k
/-- RING_POP (R62). -/
def execRingPop (r : Fin 16384) (m : Master) (s : State) : Out := .next (s.busRead m (ringBase r.val + 0x18) true)
/-- RING_RELEASE (R62). -/
def execRingRelease (r : Fin 16384) (m : Master) (k : Word) (s : State) : Out := s.rowWrite m (ringBase r.val + 0x2C) k

/-! ### Permit -/

/-- The address of a budget register. -/
def budgetAddr : BudgetReg → Nat
  | .peakMw => 0x002040 | .reserveMw => 0x002044 | .vddMv => 0x002058
/-- BUDGET_WRITE (R388). -/
def execBudgetWrite (reg : BudgetReg) (m : Master) (data : Word) (s : State) : Out := s.rowWrite m (budgetAddr reg) data
/-- ENERGY_CLEAR (R390). -/
def execEnergyClear (m : Master) (s : State) : Out := s.rowWrite m 0x002088 1
/-- HEAD_AGED (R386). -/
def execHeadAged (s : State) : Out := .next s.ageHead

/-! ### Curtain -/

/-- STREAM_ENABLE (R148). -/
def execStreamEnable (d : Fin 64) (m : Master) (data : Word) (s : State) : Out := s.rowWrite m (curAddr d.val 0x00) (withBit data 31)
/-- STREAM_DISABLE (R148). -/
def execStreamDisable (d : Fin 64) (m : Master) (data : Word) (s : State) : Out := s.rowWrite m (curAddr d.val 0x00) (withoutBit data 31)
/-- LATENCY_WRITE (R147). -/
def execLatencyWrite (d : Fin 64) (m : Master) (data : Word) (s : State) : Out := s.rowWrite m (curAddr d.val 0x08) data

/-! ### Wings -/

/-- TCMD_OPEN (R154). -/
def execTcmdOpen (t : Fin 8) (m : Master) (s : State) : Out := s.rowWrite m (wslotAddr t 0x00) 1
/-- TADDR (R155). -/
def execTaddr (t : Fin 8) (m : Master) (data : Word) (s : State) : Out := s.rowWrite m (wslotAddr t 0x08) data
/-- TDATA (R155). -/
def execTdata (t : Fin 8) (m : Master) (data : Word) (s : State) : Out := s.rowWrite m (wslotAddr t 0x0C) data
/-- TCMD_PREPARE (R157). -/
def execTcmdPrepare (t : Fin 8) (m : Master) (s : State) : Out := s.rowWrite m (wslotAddr t 0x00) 2
/-- TCMD_RAISE (R159). -/
def execTcmdRaise (t : Fin 8) (m : Master) (s : State) : Out := s.rowWrite m (wslotAddr t 0x00) 3

/-! ### Engines -/

/-- ENGINE_RUN (R203). -/
def execEngineRun (e : Fin 257) (m : Master) (s : State) : Out := s.rowWrite m (engBase e + 0x040) 1
/-- ENGINE_STOP (R203). -/
def execEngineStop (e : Fin 257) (m : Master) (clearEn : Bool) (s : State) : Out :=
  if clearEn then s.rowWrite m (engBase e + 0x08) (withoutBit (s.ctrlNow (enginePage e)) 0) else s.rowWrite m (engBase e + 0x040) 0
/-- CONTROL_STORE_COMMIT (R202). -/
def execControlStoreCommit (e : Fin 257) (m : Master) (data : Word) (s : State) : Out := s.rowWrite m (engBase e + 0x058) data
/-- DISPATCH_ENTRY_COMMIT (R202). -/
def execDispatchEntryCommit (e : Fin 257) (m : Master) (data : Word) (s : State) : Out := s.rowWrite m (engBase e + 0x04C) data
/-- SHARED_STORE_COMMIT (R206). -/
def execSharedStoreCommit (c : Fin 16) (m : Master) (data : Word) (s : State) : Out := s.rowWrite m (pageBase (.cluster c) + 0x050) data
/-- ISET (R272). -/
def execIset (e : Fin 257) (m : Master) (data : Word) (s : State) : Out := s.rowWrite m (engBase e + 0x088) data
/-- DOORBELL_WRITE (R177). The spec gives the doorbell no register. -/
def execDoorbellWrite (e : Fin 257) (_m : Master) (s : State) : Out := .next (s.setEvl e 3)
/-- WATCHDOG_ENABLE (R332). -/
def execWatchdogEnable (e : Fin 257) (m : Master) (data : Word) (s : State) : Out := s.rowWrite m (engBase e + 0x0C0) (withBit data 31)
/-- WATCHDOG_KICK (R333). -/
def execWatchdogKick (e : Fin 257) (m : Master) (data : Word) (s : State) : Out := s.rowWrite m (engBase e + 0x0CC) data

/-! ### MEMCTL -/

/-- SCRUB (R301). -/
def execScrub (j : Fin 16) (m : Master) (s : State) : Out := s.rowWrite m (pageBase (.memctl j) + 0x074) 0x80000000
/-- BIST (R301). -/
def execBist (j : Fin 16) (m : Master) (s : State) : Out := s.rowWrite m (pageBase (.memctl j) + 0x078) 0x80000000
/-- RETENTION_REQUEST (R303): RET = 1 of one unit, the others of the register as they stand. -/
def execRetentionRequest (u : RetUnit) (m : Master) (s : State) : Out :=
  s.rowWrite m (retAddr u) (putBit (s.getReg (retAddr u)) (unitBit u).2 true)
/-- WAKE (R303): a write of RET = 0, or an access that finds the unit retained with NOWAKE = 0. -/
def execWake (u : RetUnit) (byWrite : Option Master) (s : State) : Out :=
  match byWrite with
  | some m => s.rowWrite m (retAddr u) (putBit (s.getReg (retAddr u)) (unitBit u).2 false)
  | none => .next (if s.noWake u then s else s.wakeStart u)
/-- BULK_LOAD (R314). -/
def execBulkLoad (m : Master) (data : Word) (s : State) : Out := s.rowWrite m 0x3C00E4 (withBit data 31)

/-! ### Timebase and timers -/

/-- TIMEBASE_LOAD (R318). -/
def execTimebaseLoad (m : Master) (s : State) : Out := s.rowWrite m 0x005054 1
/-- GSTART (R327). -/
def execGstart (m : Master) (data : Word) (s : State) : Out := s.rowWrite m 0x005070 (withBit data 0)
/-- TIMER_START (R321). -/
def execTimerStart (n : Fin 64) (m : Master) (data : Word) (s : State) : Out := s.rowWrite m (timerAddr n 0x00) (withBit data 31)
/-- TIMER_STOP (R321). -/
def execTimerStop (n : Fin 64) (m : Master) (data : Word) (s : State) : Out := s.rowWrite m (timerAddr n 0x00) (withoutBit data 31)
/-- CMP_WRITE (R322). -/
def execCmpWrite (n : Fin 64) (m : Master) (data : Word) (s : State) : Out := s.rowWrite m (timerAddr n 0x10) data

/-! ### Pin engines -/

/-- PIN_ENGINE_RUN (R344). -/
def execPinEngineRun (k : Fin 32) (m : Master) (data : Word) (s : State) : Out := s.rowWrite m (pinBase k + 0x040) (withBit data 31)
/-- PIN_ENGINE_STOP (R344). -/
def execPinEngineStop (k : Fin 32) (m : Master) (data : Word) (s : State) : Out := s.rowWrite m (pinBase k + 0x040) (withoutBit data 31)
/-- TXD_WRITE (R343). -/
def execTxdWrite (k : Fin 32) (m : Master) (data : Word) (s : State) : Out := s.rowWrite m (pinBase k + 0x05C) data
/-- RXD_POP (R343). -/
def execRxdPop (k : Fin 32) (m : Master) (s : State) : Out :=
  .next ((s.rowReady (pinBase k + 0x060)).busRead m (pinBase k + 0x060) true)
/-- INJECT (R345). -/
def execInject (k : Fin 32) (m : Master) (data : Word) (s : State) : Out := s.rowWrite m (pinBase k + 0x068) data

/-! ### Systems of many devices, trust, debug -/

/-- PEER_ENABLE (R349). -/
def execPeerEnable (m : Master) (data : Word) (s : State) : Out := s.rowWrite m 0x000080 (withBit data 31)
/-- PROBE (R364). -/
def execProbe (m : Master) (data : Word) (s : State) : Out := s.rowWrite m 0x00508C (withBit data 31)
/-- BOOTCMD (R372). -/
def execBootcmd (m : Master) (s : State) : Out := s.rowWrite m 0x006050 1
/-- HOUSE_EXTEND (R378). -/
def execHouseExtend (m : Master) (data : Word) (s : State) : Out := s.rowWrite m 0x0060F0 data
/-- QUOTE (R380). -/
def execQuote (m : Master) (data : Word) (s : State) : Out := s.rowWrite m 0x006058 (withoutBit (withBit data 31) 30)
/-- PEER_QUOTE_REQUEST (R380). -/
def execPeerQuoteRequest (m : Master) (data : Word) (s : State) : Out := s.rowWrite m 0x006058 (withBit (withBit data 31) 30)
/-- STIMULUS (R415). -/
def execStimulus (m : Master) (port : Fin 256) (data : Word) (s : State) : Out := s.rowWrite m (0x007400 + 4 * port.val) data

end Sys2Proof.Machine
end

