-- ==== Sys2Proof/Machine/Resets.lean ====
section
/-!
DEFINITION. The two resets (R441, R442). While either is asserted nothing runs and no access is taken; units that were retained wake.
-/
namespace Sys2Proof.Machine

/-- The debug logic under `rst_n`: the TAP, DACC and CCOUNT are kept (R441). A DACC operation that was BUSY has completed: the reset ends
the wait that it had started (R400). -/
def Debug.underRst (d : Debug) : Debug :=
  { ({} : Debug) with
    tck := d.tck, tap := d.tap, ir := d.ir, irShift := d.irShift, dr := d.dr, tdo := d.tdo, daccOff := d.daccOff
    daccStatus := if d.daccStatus = 1 then 0 else d.daccStatus
    daccData := d.daccData, ccount := d.ccount }

/-- The block under `rst_n` = 0: memories, control stores and their check errors are kept, retained units wake, the Secure Bank is to be
wiped by boot; commands that wait, the levels at the inputs and the count of free values are no state of the reset (R302, R441). -/
def State.underRst (s : State) : State :=
  let r := State.reset
  { r with
    pending := s.pending, porLow := s.porLow, rstLow := s.rstLow, freeIndex := s.freeIndex, hfiRst := s.hfiRst
    ports := s.ports.map (fun p : Port => { ({} : Port) with phyRdy := p.phyRdy })
    cstore := s.cstore, dispatch := s.dispatch, sstore := s.sstore, csErr := s.csErr, ssErr := s.ssErr, dispErr := s.dispErr
    mem := s.mem, memErr := s.memErr, dbg := s.dbg.underRst }.zeroUnits [.secureBank]

/-- The block under `por_n` = 0: contents of memories and control stores are as after power-up (log entry 2), the TAP and CCOUNT are
reset. -/
def State.underPor (s : State) : State :=
  { State.reset with
    pending := s.pending, porLow := s.porLow, rstLow := s.rstLow, freeIndex := s.freeIndex, hfiRst := s.hfiRst
    ports := s.ports.map (fun p : Port => { ({} : Port) with phyRdy := p.phyRdy }), dbg := { State.reset.dbg with tck := s.dbg.tck } }

/-- The state at a release of `rst_n`: with `tamper_n` low no key will be derived; that level is no fall, and TAMPER stays 0 (R371). -/
def State.released (s : State) (tamperLow : Bool) : State := s.modTrust (fun t => { t with noKeys := tamperLow })

/-- The block while a reset is asserted: the House engine and boot stand still until the release; the units that were retained before wake, and
`pd_ret_req` stays 1 until they are awake (R441, R442). -/
def State.heldFrom (s before : State) : State :=
  let wake := before.retained ++ before.waking
  { s with
    engines := s.engines.set 256 {}, trust := { s.trust with boot := .failed }
    waking := wake, retReq := before.retReq && !wake.isEmpty, retAck := before.retAck && !wake.isEmpty }

/-- A release of one of the resets: with the other one still asserted the block stays in reset. -/
def State.leaveReset (s : State) (tamperLow : Bool) (before : State) : State :=
  if s.inReset then s.heldFrom before else s.released tamperLow

/-- POR_ASSERT (R441). -/
def execPorAssert (s : State) : Out := .next ({ s with porLow := true }.underPor.heldFrom s)
/-- POR_RELEASE (R441). -/
def execPorRelease (tamperLow : Bool) (s : State) : Out :=
  .next (if s.porLow then { s with porLow := false }.underPor.leaveReset tamperLow s else s)
/-- RESET_ASSERT (R441). -/
def execResetAssert (s : State) : Out := .next ({ s with rstLow := true }.underRst.heldFrom s)
/-- RESET_RELEASE (R441). -/
def execResetRelease (tamperLow : Bool) (s : State) : Out :=
  .next (if s.rstLow then { s with rstLow := false }.underRst.leaveReset tamperLow s else s)

end Sys2Proof.Machine
end

