-- ==== Sys2Proof/Machine/Xbar.lean ====
section
/-!
DEFINITION. The crossbar's service of bursts (R299, R304 to R310), the Host Fabric Port (R426 to R430), the Stagehand's end (R408).
-/
namespace Sys2Proof.Machine

/-! ### Arbitration (R306) -/

/-- Master `m` has a request waiting at target `t`: its oldest burst there, unless that waits for an acceptance edge, or a single access. -/
def State.requests (s : State) (m : Nat) (t : Fin 26) : Bool :=
  (match s.bursts.find? (fun b => b.t == t.val && b.m == m) with | some b => !b.island | none => false) ||
    s.singles.contains { m, t := t.val, granted := false }
/-- The masters with a request at target `t`, in ascending cyclic order from the one after the last granted. -/
def State.waitingMasters (s : State) (t : Fin 26) : List Nat :=
  ((List.range 21).map (fun i => (s.lastGrant[t] + 1 + i) % 21)).filter (fun m => s.requests m t)
/-- The master that target `t` grants. -/
def State.arbiter (s : State) (t : Fin 26) : Option Nat :=
  let ms := s.waitingMasters t
  let top := (ms.map (fun m => s.pri m t.val)).foldl max 0
  ms.find? (fun m => s.pri m t.val == top)

/-! ### Transfers -/

/-- The bytes of a write burst's next transfer of four. -/
def Burst.out (b : Burst) : List (Option Byte) := b.data.take 4
/-- The byte strobes of a 4-byte transfer. -/
def strobes (d : List (Option Byte)) : BitVec 4 :=
  BitVec.ofNat 4 (((List.range 4).map (fun i => if (d.getD i none).isSome then 2 ^ i else 0)).sum)
/-- One 4-byte transfer at a register target (R30 to R34); a write whose register lies in a clocked island is answered behind its acceptance
edge (R422). -/
def regTransfer (b : Burst) (s : State) : Burst × State :=
  let m : Master := .xbar (Fin.ofNat 21 b.m)
  if b.write then
    let data := wordLE (b.out.map (fun x => x.getD 0))
    let (err, t) := s.wrSpace m b.m b.addr data (strobes b.out) false (.burst b.m)
    if s.islandQ.length < t.islandQ.length then ({ b with island := true, granted := 0 }, t) else (b.after [] err, t)
  else
    let (w, s) := s.rdSpace m b.addr false
    (b.after (bytesLE 4 w.toNat) false, s)

/-- Up to `n` words of the sub-burst granted. -/
def subBurst : Nat → Burst → MemM Burst
  | 0, b => return b
  | n + 1, b => do
    if b.granted = 0 then return b
    if b.size = 4 then
      let (b, s) := regTransfer b (← get)
      set s
      subBurst n b
    else
      subBurst n (← memWord b)

/-- What the first word that a command serves of burst `b0`, now `b`, meets at its bank: where a write is one of two that collide, the later
port's response carries BUSY, and a read's data is undefined (R299). -/
def State.collide (s : State) (col : Collision) (b0 b : Burst) : Burst × State :=
  let pa := b0.addr + (if b0.half then 16 else 0)
  let mark := fun (later : Bool) =>
    { b with busy := b.busy.zipIdx.map (fun x => if x.2 = b0.ended then x.1 || later else x.1) }
  if b.size = 4 ∨ b0.granted = 0 then (b, s)
  else
    let s' := s.meets b.m pa b.write col
    match twoPort pa, col with
    | some _, .otherReads later => (if b.write then mark later else b, s')
    | some _, .otherWrites later =>
      if b.write then (mark later, s')
      else
        let x := b0.got.length
        let free := (List.range 16).map (fun i => freeByte (s.freeIndex + i))
        ({ mark later with got := b.got.take x ++ free ++ b.got.drop (x + 16) }, s'.drew 16)
    | _, _ => (b, s')

/-- The sub-burst that target `t` is serving, and the bursts apart from it. -/
def State.serving (s : State) (t : Fin 26) : Option (Burst × List Burst) :=
  takeFirst (fun b : Burst => b.t == t.val && decide (0 < b.granted)) s.bursts
/-- The oldest burst of master `m` at target `t`, with a new sub-burst of up to 16 transfers, one for the single accesses of R408, and the
bursts apart from it (R304, R306, R308). -/
def State.newSub (s : State) (t : Fin 26) (m : Nat) : Option (Burst × List Burst) :=
  (takeFirst (fun b : Burst => b.t == t.val && b.m == m) s.bursts).map (fun x =>
    ({ x.1 with granted := if x.1.size = 4 then min 1 x.1.left else min 16 x.1.left }, x.2))

/-- The words that a command serves, of the sub-burst of `b`: as many as it names, or all the rest. -/
def wordCount (words : Option (Fin 32)) (b : Burst) : Nat :=
  let all := if b.size = 4 then 1 else 2 * b.granted
  match words with | some n => min (n.val + 1) all | none => all

/-- Target `t` serves the granted sub-burst of `b` for so many words; a wait at a bank holds the target. -/
def State.serveBurst (s : State) (t : Fin 26) (b : Burst) (rest : List Burst) (words : Option (Fin 32)) (col : Collision) : State :=
  let held := { s with lastGrant := s.lastGrant.set t b.m, bursts := b :: rest }
  match subBurst (wordCount words b) b { held with bursts := rest } with
  | .ok b' s' =>
    let (b', s') := s'.collide col b b'
    s'.burstNext b' b.ended
  | .error (.wait w) _ => held.settle w
  | .error .fault s' => s'

/-- CROSSBAR_GRANT: target `t` goes on with the sub-burst granted, or grants a burst or sub-burst and serves it, for so many words, or grants a
single access, which is served when it comes again; the arbiter remembers the master (R304, R306, R308). -/
def State.crossbarGrant (s : State) (t : Fin 26) (words : Option (Fin 32)) (col : Collision) : State :=
  match s.serving t with
  | some (b, rest) => s.serveBurst t b rest words col
  | none =>
    match s.arbiter t with
    | none => s
    | some m =>
      if s.singles.contains { m, t := t.val, granted := false } then
        { s with
          lastGrant := s.lastGrant.set t m
          singles := s.singles.map (fun x => if x.m = m ∧ x.t = t.val then { x with granted := true } else x) }
      else match s.newSub t m with
        | none => s
        | some (b, rest) => s.serveBurst t b rest words col

/-! ### The Host Fabric Port (R426 to R430) -/

/-- The target of a physical address, 31 for none (R34, R311). -/
def targetOf (pa : Nat) : Nat := match regionOf pa with | some (r, _) => r.target | none => 31

/-- HOST_FABRIC_INBOUND: a request of the host becomes a burst of master 19; one that is refused whole gets error responses, behind the
responses to the earlier bursts for its target (R308, R429). None is presented during a reset, or with a tag in use (R427, R430, R442). A
register takes the four byte lanes of its address. -/
def State.hostInbound (s : State) (q : InboundReq) : State :=
  if s.inReset || s.hfiRst || s.bursts.any (fun b => b.m == 19 && b.tag == q.tag.val) then s
  else
    let s := { s with inbound := s.inbound.filter (fun r => r.tag ≠ q.tag.val) }
    let pa := q.addr.toNat
    let n := q.nm1.val + 1
    let b : Burst := {
      m := 19, t := targetOf pa, addr := 4, left := 0, size := 32, write := q.write, data := [], got := List.replicate (32 * n) 0
      err := List.replicate n true, busy := List.replicate n false, tag := q.tag.val }
    match s.burstCheck 19 q.write pa n with
    | (none, s) => if s.bursts.any (fun x => x.m == 19 && x.t == b.t) then s.burstWaits b else s.inboundAnswer b
    | (some (t, size), s) =>
      let pad := q.data ++ List.replicate (32 * n - q.data.length) none
      let addr := if size = 4 then regOfPhys pa else pa
      let data := if size = 4 then (pad.drop (pa % 32)).take 4 else pad.take (32 * n)
      s.burstWaits { b with t, addr, left := n, size, data, got := [], err := [], busy := [] }

/-- HOST_FABRIC_RESPONSE: the host answers an outstanding request, with the error of each beat: one for each transfer of a read, one for a
write (R427, R428). A beat without an error carries its bytes. The answer to a request whose maker has been reset is discarded (R310). -/
def State.hostResponse (s : State) (tag : Fin 32) (bytes : List Byte) (errs : List Bool) : State :=
  { s with hostReqs := s.hostReqs.filterMap (fun q =>
      if q.tag ≠ tag ∨ q.answer.isSome then some q
      else if q.orphan then none
      else
        let n := if q.write then 1 else q.transfers
        some { q with answer := some ((bytes ++ List.replicate q.size 0).take q.size, (errs ++ List.replicate n false).take n) }) }

/-! ### Commands -/

/-- CROSSBAR_GRANT (R306). -/
def execCrossbarGrant (t : Fin 26) (words : Option (Fin 32)) (col : Collision) (s : State) : Out := .next (s.crossbarGrant t words col)
/-- HOST_FABRIC_INBOUND (R429). -/
def execHostFabricInbound (req : InboundReq) (s : State) : Out := .next (s.hostInbound req)
/-- HOST_FABRIC_RESPONSE (R428). -/
def execHostFabricResponse (tag : Fin 32) (bytes : List Byte) (errs : List Bool) (s : State) : Out := .next (s.hostResponse tag bytes errs)
/-- INBOUND_MASTER_RESET: the request, the reset of master 19, whose granted sub-bursts end with it, and the acknowledge (R430). -/
def execInboundMasterReset (s : State) : Out := .next { s.masterReset 19 with hfiRst := true, hfiAck := true, inbound := [] }
/-- HFI_RST_REQ_FALL: the acknowledge falls with the request, and the port opens again (R430). -/
def execHfiRstReqFall (s : State) : Out := .next { s with hfiRst := false, hfiAck := false }
/-- STAGEHAND_DONE (R408). -/
def execStagehandDone (s : State) : Out := .next s.shEnd

end Sys2Proof.Machine
end

