-- ==== Sys2Proof/Machine/Dispatch.lean ====
section
/-!
DEFINITION. The meaning of every command: one arm per constructor of Instr, each a direct call of its meaning.
-/
namespace Sys2Proof.Machine

def exec (i : Instr) (s : State) : Host.Outcome State Fault Refusal :=
  match i with
  | .registerWrite m addr data strb => Sys2Proof.Machine.execRegisterWrite m addr data strb s
  | .reservedAddressAccess m addr write => Sys2Proof.Machine.execReservedAddressAccess m addr write s
  | .rcFieldRead m addr => Sys2Proof.Machine.execRcFieldRead m addr s
  | .highwaterRead m => Sys2Proof.Machine.execHighwaterRead m s
  | .softReset p m => Sys2Proof.Machine.execSoftReset p m s
  | .softResetComplete p => Sys2Proof.Machine.execSoftResetComplete p s
  | .pageEnable p m => Sys2Proof.Machine.execPageEnable p m s
  | .pageDisable p m => Sys2Proof.Machine.execPageDisable p m s
  | .pageLock p m => Sys2Proof.Machine.execPageLock p m s
  | .ownerClaim m => Sys2Proof.Machine.execOwnerClaim m s
  | .ownerRelease m => Sys2Proof.Machine.execOwnerRelease m s
  | .errInfoClear m => Sys2Proof.Machine.execErrInfoClear m s
  | .callboardUpdate r => Sys2Proof.Machine.execCallboardUpdate r s
  | .opAbort r m => Sys2Proof.Machine.execOpAbort r m s
  | .opRelease r m => Sys2Proof.Machine.execOpRelease r m s
  | .codewordDecode n phy first => Sys2Proof.Machine.execCodewordDecode n phy first s
  | .lienoFrameReceive n cls words check => Sys2Proof.Machine.execLienoFrameReceive n cls words check s
  | .receiveRingWrite n cls => Sys2Proof.Machine.execReceiveRingWrite n cls s
  | .creditBlock n g c0 c1 c2 c3 => Sys2Proof.Machine.execCreditBlock n g c0 c1 c2 c3 s
  | .alignmentMarker n good => Sys2Proof.Machine.execAlignmentMarker n good s
  | .lienoFrameTransmit n fine => Sys2Proof.Machine.execLienoFrameTransmit n fine s
  | .linkTraining n m => Sys2Proof.Machine.execLinkTraining n m s
  | .trainingStepDone n => Sys2Proof.Machine.execTrainingStepDone n s
  | .trainingStepTimeout n => Sys2Proof.Machine.execTrainingStepTimeout n s
  | .parseEnd n => Sys2Proof.Machine.execParseEnd n s
  | .parseMatch n => Sys2Proof.Machine.execParseMatch n s
  | .parseAny n => Sys2Proof.Machine.execParseAny n s
  | .parseStream n => Sys2Proof.Machine.execParseStream n s
  | .parseTag n => Sys2Proof.Machine.execParseTag n s
  | .parseSkip n => Sys2Proof.Machine.execParseSkip n s
  | .parseTake n => Sys2Proof.Machine.execParseTake n s
  | .parseTakeRest n => Sys2Proof.Machine.execParseTakeRest n s
  | .parseJump n => Sys2Proof.Machine.execParseJump n s
  | .parseDropOp n => Sys2Proof.Machine.execParseDropOp n s
  | .parseReservedOp n => Sys2Proof.Machine.execParseReservedOp n s
  | .parseStepLimit n => Sys2Proof.Machine.execParseStepLimit n s
  | .ingressWordWrite n => Sys2Proof.Machine.execIngressWordWrite n s
  | .frameRingEnable m data => Sys2Proof.Machine.execFrameRingEnable m data s
  | .frameRingDisable m data => Sys2Proof.Machine.execFrameRingDisable m data s
  | .closeTimeout frame => Sys2Proof.Machine.execCloseTimeout frame s
  | .frameReady => Sys2Proof.Machine.execFrameReady s
  | .frRelease m data => Sys2Proof.Machine.execFrRelease m data s
  | .ringEnable r m data => Sys2Proof.Machine.execRingEnable r m data s
  | .ringDisable r m data => Sys2Proof.Machine.execRingDisable r m data s
  | .ringReserve r m => Sys2Proof.Machine.execRingReserve r m s
  | .ringCommit r m k => Sys2Proof.Machine.execRingCommit r m k s
  | .ringPop r m => Sys2Proof.Machine.execRingPop r m s
  | .ringRelease r m k => Sys2Proof.Machine.execRingRelease r m k s
  | .cueIssue r => Sys2Proof.Machine.execCueIssue r s
  | .fenceWaitEnd r => Sys2Proof.Machine.execFenceWaitEnd r s
  | .pipeAssign p => Sys2Proof.Machine.execPipeAssign p s
  | .permitGrant => Sys2Proof.Machine.execPermitGrant s
  | .headAged => Sys2Proof.Machine.execHeadAged s
  | .budgetWrite reg m data => Sys2Proof.Machine.execBudgetWrite reg m data s
  | .energyClear m => Sys2Proof.Machine.execEnergyClear m s
  | .elementStep p => Sys2Proof.Machine.execElementStep p s
  | .chainTimeout p => Sys2Proof.Machine.execChainTimeout p s
  | .finalRecord p => Sys2Proof.Machine.execFinalRecord p s
  | .decisionPosting => Sys2Proof.Machine.execDecisionPosting s
  | .curtainRelease => Sys2Proof.Machine.execCurtainRelease s
  | .releaseFrame n => Sys2Proof.Machine.execReleaseFrame n s
  | .decisionPinPulseEnd pin => Sys2Proof.Machine.execDecisionPinPulseEnd pin s
  | .curtainWriteAccept => Sys2Proof.Machine.execCurtainWriteAccept s
  | .streamEnable d m data => Sys2Proof.Machine.execStreamEnable d m data s
  | .streamDisable d m data => Sys2Proof.Machine.execStreamDisable d m data s
  | .latencyWrite d m data => Sys2Proof.Machine.execLatencyWrite d m data s
  | .tcmdOpen t m => Sys2Proof.Machine.execTcmdOpen t m s
  | .taddr t m data => Sys2Proof.Machine.execTaddr t m data s
  | .tdata t m data => Sys2Proof.Machine.execTdata t m data s
  | .tcmdPrepare t m => Sys2Proof.Machine.execTcmdPrepare t m s
  | .prepareComplete t => Sys2Proof.Machine.execPrepareComplete t s
  | .tcmdRaise t m => Sys2Proof.Machine.execTcmdRaise t m s
  | .wingsRaise => Sys2Proof.Machine.execWingsRaise s
  | .prep gtag raiseBeat voteBeat coord => Sys2Proof.Machine.execPrep gtag raiseBeat voteBeat coord s
  | .vote gtag sender yes => Sys2Proof.Machine.execVote gtag sender yes s
  | .voteDeadline t => Sys2Proof.Machine.execVoteDeadline t s
  | .wingsCommit gtag raiseBeat => Sys2Proof.Machine.execWingsCommit gtag raiseBeat s
  | .wingsAbort gtag sender => Sys2Proof.Machine.execWingsAbort gtag sender s
  | .prepExpiry t => Sys2Proof.Machine.execPrepExpiry t s
  | .commitTimeout t => Sys2Proof.Machine.execCommitTimeout t s
  | .microword e => Sys2Proof.Machine.execMicroword e s
  | .pacingTick e => Sys2Proof.Machine.execPacingTick e s
  | .engineRun e m => Sys2Proof.Machine.execEngineRun e m s
  | .engineStop e m clearEn => Sys2Proof.Machine.execEngineStop e m clearEn s
  | .controlStoreCommit e m data => Sys2Proof.Machine.execControlStoreCommit e m data s
  | .dispatchEntryCommit e m data => Sys2Proof.Machine.execDispatchEntryCommit e m data s
  | .sharedStoreCommit c m data => Sys2Proof.Machine.execSharedStoreCommit c m data s
  | .sharedStoreCommitResume c => Sys2Proof.Machine.execSharedStoreCommitResume c s
  | .storeBufferDrain e col => Sys2Proof.Machine.execStoreBufferDrain e col s
  | .lateStoreError e => Sys2Proof.Machine.execLateStoreError e s
  | .exceptionEntry e opc => Sys2Proof.Machine.execExceptionEntry e opc s
  | .iset e m data => Sys2Proof.Machine.execIset e m data s
  | .intermissionExit e => Sys2Proof.Machine.execIntermissionExit e s
  | .nop e => Sys2Proof.Machine.execNop e s
  | .lit8 e imm => Sys2Proof.Machine.execLit8 e imm s
  | .lit16 e imm => Sys2Proof.Machine.execLit16 e imm s
  | .lit32 e imm => Sys2Proof.Machine.execLit32 e imm s
  | .lit16u e imm => Sys2Proof.Machine.execLit16u e imm s
  | .dup e => Sys2Proof.Machine.execDup e s
  | .drop e => Sys2Proof.Machine.execDrop e s
  | .swap e => Sys2Proof.Machine.execSwap e s
  | .overOp e => Sys2Proof.Machine.execOver e s
  | .rot e => Sys2Proof.Machine.execRot e s
  | .nip e => Sys2Proof.Machine.execNip e s
  | .tuck e => Sys2Proof.Machine.execTuck e s
  | .dup2 e => Sys2Proof.Machine.execDup2 e s
  | .drop2 e => Sys2Proof.Machine.execDrop2 e s
  | .pick e imm => Sys2Proof.Machine.execPick e imm s
  | .depth e => Sys2Proof.Machine.execDepth e s
  | .rpush e => Sys2Proof.Machine.execRpush e s
  | .rpop e => Sys2Proof.Machine.execRpop e s
  | .rpeek e => Sys2Proof.Machine.execRpeek e s
  | .flush e => Sys2Proof.Machine.execFlush e s
  | .add e => Sys2Proof.Machine.execAdd e s
  | .adc e => Sys2Proof.Machine.execAdc e s
  | .sub e => Sys2Proof.Machine.execSub e s
  | .sbc e => Sys2Proof.Machine.execSbc e s
  | .neg e => Sys2Proof.Machine.execNeg e s
  | .adds e => Sys2Proof.Machine.execAdds e s
  | .subs e => Sys2Proof.Machine.execSubs e s
  | .addus e => Sys2Proof.Machine.execAddus e s
  | .mul e => Sys2Proof.Machine.execMul e s
  | .mulhs e => Sys2Proof.Machine.execMulhs e s
  | .mulhu e => Sys2Proof.Machine.execMulhu e s
  | .divs e => Sys2Proof.Machine.execDivs e s
  | .divu e => Sys2Proof.Machine.execDivu e s
  | .rems e => Sys2Proof.Machine.execRems e s
  | .remu e => Sys2Proof.Machine.execRemu e s
  | .cmp e => Sys2Proof.Machine.execCmp e s
  | .andOp e => Sys2Proof.Machine.execAndOp e s
  | .orOp e => Sys2Proof.Machine.execOrOp e s
  | .xorOp e => Sys2Proof.Machine.execXorOp e s
  | .andn e => Sys2Proof.Machine.execAndn e s
  | .notOp e => Sys2Proof.Machine.execNotOp e s
  | .shl e => Sys2Proof.Machine.execShl e s
  | .shr e => Sys2Proof.Machine.execShr e s
  | .sar e => Sys2Proof.Machine.execSar e s
  | .rol e => Sys2Proof.Machine.execRol e s
  | .ror e => Sys2Proof.Machine.execRor e s
  | .addi e imm => Sys2Proof.Machine.execAddi e imm s
  | .cmpi e imm => Sys2Proof.Machine.execCmpi e imm s
  | .tst e => Sys2Proof.Machine.execTst e s
  | .mins e => Sys2Proof.Machine.execMins e s
  | .maxs e => Sys2Proof.Machine.execMaxs e s
  | .clz e => Sys2Proof.Machine.execClz e s
  | .ld8u e => Sys2Proof.Machine.execLd8u e s
  | .ld8s e => Sys2Proof.Machine.execLd8s e s
  | .ld16u e => Sys2Proof.Machine.execLd16u e s
  | .ld16s e => Sys2Proof.Machine.execLd16s e s
  | .ld32 e => Sys2Proof.Machine.execLd32 e s
  | .ld32nc e => Sys2Proof.Machine.execLd32nc e s
  | .st8 e => Sys2Proof.Machine.execSt8 e s
  | .st16 e => Sys2Proof.Machine.execSt16 e s
  | .st32 e => Sys2Proof.Machine.execSt32 e s
  | .ld32d e imm => Sys2Proof.Machine.execLd32d e imm s
  | .st32d e imm => Sys2Proof.Machine.execSt32d e imm s
  | .ldr e => Sys2Proof.Machine.execLdr e s
  | .stc e => Sys2Proof.Machine.execStc e s
  | .tas e => Sys2Proof.Machine.execTas e s
  | .jmp e => Sys2Proof.Machine.execJmp e s
  | .call e imm => Sys2Proof.Machine.execCall e imm s
  | .calll e imm => Sys2Proof.Machine.execCalll e imm s
  | .calli e => Sys2Proof.Machine.execCalli e s
  | .ret e => Sys2Proof.Machine.execRet e s
  | .rete e => Sys2Proof.Machine.execRete e s
  | .bz e imm => Sys2Proof.Machine.execBz e imm s
  | .bnz e imm => Sys2Proof.Machine.execBnz e imm s
  | .dbnz e imm => Sys2Proof.Machine.execDbnz e imm s
  | .trap e imm => Sys2Proof.Machine.execTrap e imm s
  | .bal e imm => Sys2Proof.Machine.execBal e imm s
  | .bnv e imm => Sys2Proof.Machine.execBnv e imm s
  | .beq e imm => Sys2Proof.Machine.execBeq e imm s
  | .bne e imm => Sys2Proof.Machine.execBne e imm s
  | .blt e imm => Sys2Proof.Machine.execBlt e imm s
  | .bge e imm => Sys2Proof.Machine.execBge e imm s
  | .ble e imm => Sys2Proof.Machine.execBle e imm s
  | .bgt e imm => Sys2Proof.Machine.execBgt e imm s
  | .bcs e imm => Sys2Proof.Machine.execBcs e imm s
  | .bcc e imm => Sys2Proof.Machine.execBcc e imm s
  | .bhi e imm => Sys2Proof.Machine.execBhi e imm s
  | .bls e imm => Sys2Proof.Machine.execBls e imm s
  | .bmi e imm => Sys2Proof.Machine.execBmi e imm s
  | .bpl e imm => Sys2Proof.Machine.execBpl e imm s
  | .bvs e imm => Sys2Proof.Machine.execBvs e imm s
  | .bvc e imm => Sys2Proof.Machine.execBvc e imm s
  | .bkpt e => Sys2Proof.Machine.execBkpt e s
  | .rep e op imm => Sys2Proof.Machine.execRep e op imm s
  | .movs e imm => Sys2Proof.Machine.execMovs e imm s
  | .fils e imm => Sys2Proof.Machine.execFils e imm s
  | .cmps e imm => Sys2Proof.Machine.execCmps e imm s
  | .scas e imm => Sys2Proof.Machine.execScas e imm s
  | .lda e imm => Sys2Proof.Machine.execLda e imm s
  | .sta e imm => Sys2Proof.Machine.execSta e imm s
  | .rdsr e imm => Sys2Proof.Machine.execRdsr e imm s
  | .wrsr e imm => Sys2Proof.Machine.execWrsr e imm s
  | .syncP e => Sys2Proof.Machine.execSyncP e s
  | .syncI e => Sys2Proof.Machine.execSyncI e s
  | .syncM e => Sys2Proof.Machine.execSyncM e s
  | .dinv e => Sys2Proof.Machine.execDinv e s
  | .tinv e => Sys2Proof.Machine.execTinv e s
  | .tsync e => Sys2Proof.Machine.execTsync e s
  | .kset e => Sys2Proof.Machine.execKset e s
  | .cue e imm => Sys2Proof.Machine.execCue e imm s
  | .post e => Sys2Proof.Machine.execPost e s
  | .rres e => Sys2Proof.Machine.execRres e s
  | .rcom e => Sys2Proof.Machine.execRcom e s
  | .rpopRing e => Sys2Proof.Machine.execRpopRing e s
  | .wait e imm => Sys2Proof.Machine.execWait e imm s
  | .rrel e => Sys2Proof.Machine.execRrel e s
  | .userOpcode e u imm => Sys2Proof.Machine.execUserOpcode e u imm s
  | .pageWalk e va access => Sys2Proof.Machine.execPageWalk e va access s
  | .tinvBroadcast e => Sys2Proof.Machine.execTinvBroadcast e s
  | .crossbarGrant t words col => Sys2Proof.Machine.execCrossbarGrant t words col s
  | .scrub j m => Sys2Proof.Machine.execScrub j m s
  | .scrubDone j words => Sys2Proof.Machine.execScrubDone j words s
  | .bist j m => Sys2Proof.Machine.execBist j m s
  | .bistDone j bank => Sys2Proof.Machine.execBistDone j bank s
  | .secureBankWipe => Sys2Proof.Machine.execSecureBankWipe s
  | .wipeComplete => Sys2Proof.Machine.execWipeComplete s
  | .retentionRequest u m => Sys2Proof.Machine.execRetentionRequest u m s
  | .retentionEntry u => Sys2Proof.Machine.execRetentionEntry u s
  | .wake u byWrite => Sys2Proof.Machine.execWake u byWrite s
  | .wakeComplete u => Sys2Proof.Machine.execWakeComplete u s
  | .bulkLoad m data => Sys2Proof.Machine.execBulkLoad m data s
  | .bulkLoadComplete entries => Sys2Proof.Machine.execBulkLoadComplete entries s
  | .beatclkWriteAccept => Sys2Proof.Machine.execBeatclkWriteAccept s
  | .beatclkLoss => Sys2Proof.Machine.execBeatclkLoss s
  | .beatclkReturn => Sys2Proof.Machine.execBeatclkReturn s
  | .islandWriteDiscard => Sys2Proof.Machine.execIslandWriteDiscard s
  | .timebaseLoad m => Sys2Proof.Machine.execTimebaseLoad m s
  | .gstart m data => Sys2Proof.Machine.execGstart m data s
  | .gstartBeat => Sys2Proof.Machine.execGstartBeat s
  | .timerStart n m data => Sys2Proof.Machine.execTimerStart n m data s
  | .timerStop n m data => Sys2Proof.Machine.execTimerStop n m data s
  | .cmpWrite n m data => Sys2Proof.Machine.execCmpWrite n m data s
  | .timerCompare n => Sys2Proof.Machine.execTimerCompare n s
  | .timerWrap n => Sys2Proof.Machine.execTimerWrap n s
  | .captureEdge k rise beat fine => Sys2Proof.Machine.execCaptureEdge k rise beat fine s
  | .watchdogEnable e m data => Sys2Proof.Machine.execWatchdogEnable e m data s
  | .watchdogKick e m data => Sys2Proof.Machine.execWatchdogKick e m data s
  | .watchdogExpiry e => Sys2Proof.Machine.execWatchdogExpiry e s
  | .pinclkWriteAccept k => Sys2Proof.Machine.execPinclkWriteAccept k s
  | .pinNop k pins => Sys2Proof.Machine.execPinNop k pins s
  | .stop k pins => Sys2Proof.Machine.execStop k pins s
  | .signal k pins => Sys2Proof.Machine.execSignal k pins s
  | .clr k pins => Sys2Proof.Machine.execClr k pins s
  | .drive k pins => Sys2Proof.Machine.execDrive k pins s
  | .putp k pins => Sys2Proof.Machine.execPutp k pins s
  | .getp k pins => Sys2Proof.Machine.execGetp k pins s
  | .sho k pins => Sys2Proof.Machine.execSho k pins s
  | .shi k pins => Sys2Proof.Machine.execShi k pins s
  | .take k pins => Sys2Proof.Machine.execTake k pins s
  | .give k pins => Sys2Proof.Machine.execGive k pins s
  | .awaitPin k pins => Sys2Proof.Machine.execAwaitPin k pins s
  | .awaitBeat k pins => Sys2Proof.Machine.execAwaitBeat k pins s
  | .br k pins => Sys2Proof.Machine.execBr k pins s
  | .ldlc k pins => Sys2Proof.Machine.execLdlc k pins s
  | .pinLoop k pins => Sys2Proof.Machine.execPinLoop k pins s
  | .pinReservedOp k pins => Sys2Proof.Machine.execPinReservedOp k pins s
  | .pinEngineRun k m data => Sys2Proof.Machine.execPinEngineRun k m data s
  | .pinEngineStop k m data => Sys2Proof.Machine.execPinEngineStop k m data s
  | .txdWrite k m data => Sys2Proof.Machine.execTxdWrite k m data s
  | .rxdPop k m => Sys2Proof.Machine.execRxdPop k m s
  | .inject k m data => Sys2Proof.Machine.execInject k m data s
  | .peerEnable m data => Sys2Proof.Machine.execPeerEnable m data s
  | .hello n devno dir => Sys2Proof.Machine.execHello n devno dir s
  | .routedMessage n cls msg => Sys2Proof.Machine.execRoutedMessage n cls msg s
  | .fragmentSend n => Sys2Proof.Machine.execFragmentSend n s
  | .frameFragmentReceive n beat stream => Sys2Proof.Machine.execFrameFragmentReceive n beat stream s
  | .decisionReceive n => Sys2Proof.Machine.execDecisionReceive n s
  | .alignmentMeasurement => Sys2Proof.Machine.execAlignmentMeasurement s
  | .alignCall n t2 => Sys2Proof.Machine.execAlignCall n t2 s
  | .alignResp n t2 t3 t4 => Sys2Proof.Machine.execAlignResp n t2 t3 t4 s
  | .measurementMiss => Sys2Proof.Machine.execMeasurementMiss s
  | .probe m data => Sys2Proof.Machine.execProbe m data s
  | .echo src => Sys2Proof.Machine.execEcho src s
  | .echor src fine => Sys2Proof.Machine.execEchor src fine s
  | .probeTimeout => Sys2Proof.Machine.execProbeTimeout s
  | .lifeCycleChange code => Sys2Proof.Machine.execLifeCycleChange code s
  | .secretWord w => Sys2Proof.Machine.execSecretWord w s
  | .secretTimeout => Sys2Proof.Machine.execSecretTimeout s
  | .tamper => Sys2Proof.Machine.execTamper s
  | .bootcmd m => Sys2Proof.Machine.execBootcmd m s
  | .bootImageLoad bytes => Sys2Proof.Machine.execBootImageLoad bytes s
  | .houseExtend m data => Sys2Proof.Machine.execHouseExtend m data s
  | .pageMeasurement => Sys2Proof.Machine.execPageMeasurement s
  | .quote m data => Sys2Proof.Machine.execQuote m data s
  | .peerQuoteRequest m data => Sys2Proof.Machine.execPeerQuoteRequest m data s
  | .qreq src nonce => Sys2Proof.Machine.execQreq src nonce s
  | .qresp half words => Sys2Proof.Machine.execQresp half words s
  | .quoteTimeout => Sys2Proof.Machine.execQuoteTimeout s
  | .quoteComplete => Sys2Proof.Machine.execQuoteComplete s
  | .debugQuote => Sys2Proof.Machine.execDebugQuote s
  | .tapReset cause => Sys2Proof.Machine.execTapReset cause s
  | .daccRead off => Sys2Proof.Machine.execDaccRead off s
  | .daccWrite off data => Sys2Proof.Machine.execDaccWrite off data s
  | .challengeNew => Sys2Proof.Machine.execChallengeNew s
  | .challengeCheck lvl => Sys2Proof.Machine.execChallengeCheck lvl s
  | .challengeBackoffEnd => Sys2Proof.Machine.execChallengeBackoffEnd s
  | .debugHaltRequest sel => Sys2Proof.Machine.execDebugHaltRequest sel s
  | .debugHalt e => Sys2Proof.Machine.execDebugHalt e s
  | .resume sel => Sys2Proof.Machine.execResume sel s
  | .step sel => Sys2Proof.Machine.execStep sel s
  | .bkpton sel => Sys2Proof.Machine.execBkpton sel s
  | .bkptoff sel => Sys2Proof.Machine.execBkptoff sel s
  | .prompter w => Sys2Proof.Machine.execPrompter w s
  | .stagehandTransfer data => Sys2Proof.Machine.execStagehandTransfer data s
  | .stagehandDone => Sys2Proof.Machine.execStagehandDone s
  | .stagehandReset => Sys2Proof.Machine.execStagehandReset s
  | .freeze data => Sys2Proof.Machine.execFreeze data s
  | .freezeEnd data => Sys2Proof.Machine.execFreezeEnd data s
  | .bellstrike data => Sys2Proof.Machine.execBellstrike data s
  | .stimulus m port data => Sys2Proof.Machine.execStimulus m port data s
  | .hostFabricInbound req => Sys2Proof.Machine.execHostFabricInbound req s
  | .hostFabricResponse tag bytes errs => Sys2Proof.Machine.execHostFabricResponse tag bytes errs s
  | .inboundMasterReset => Sys2Proof.Machine.execInboundMasterReset s
  | .phyReady n => Sys2Proof.Machine.execPhyReady n s
  | .phyReadyFall n => Sys2Proof.Machine.execPhyReadyFall n s
  | .phyGroupAck g => Sys2Proof.Machine.execPhyGroupAck g s
  | .retentionAck => Sys2Proof.Machine.execRetentionAck s
  | .porAssert => Sys2Proof.Machine.execPorAssert s
  | .porRelease tamperLow => Sys2Proof.Machine.execPorRelease tamperLow s
  | .resetAssert => Sys2Proof.Machine.execResetAssert s
  | .resetRelease tamperLow => Sys2Proof.Machine.execResetRelease tamperLow s
  | .beatclkEdge => Sys2Proof.Machine.execBeatclkEdge s
  | .tckEdge tms tdi => Sys2Proof.Machine.execTckEdge tms tdi s
  | .hfiRstReqFall => Sys2Proof.Machine.execHfiRstReqFall s
  | .doorbellWrite e m => Sys2Proof.Machine.execDoorbellWrite e m s

end Sys2Proof.Machine
end

