-- ==== Sys2Proof/WellFormed.lean ====
section
/-!
DEFINITION. Which commands the outside can make: the sizes that the spec gives to what arrives with a command. Numbers of units are
bounded by their types; the meanings are total, and on a command that is not well-formed they say nothing about the hardware.
-/
namespace Sys2Proof

/-- The data of an inbound request fits its beats: 32 bytes a transfer for a write, none for a read (R426, R427). -/
def InboundReq.wf (q : InboundReq) : Bool := q.data.length == (if q.write then 32 * (q.nm1.val + 1) else 0)

/-- The reserved values of R233's map: "·" and "emu". -/
def reservedOpcode (x : Nat) : Bool :=
  decide ((0x14 ≤ x ∧ x ≤ 0x1F) ∨ (0x4E ≤ x ∧ x ≤ 0x5F) ∨ (0x6A ≤ x ∧ x ≤ 0x6F) ∨ (0x87 ≤ x ∧ x ≤ 0x9F) ∨ (0xB0 ≤ x ∧ x ≤ 0xBE) ∨
    (0xC0 ≤ x ∧ x ≤ 0xDF) ∨ (0xF0 ≤ x ∧ x ≤ 0xFF))

/-- A command that the outside can make. -/
def Instr.wf : Instr → Bool
  -- 1 to 4,096 payload words (R43)
  | .lienoFrameReceive _ _ words _ => decide (1 ≤ words.length ∧ words.length ≤ 4096)
  -- 1 to 32 payload words on classes 10 to 12 (R354, R357)
  | .routedMessage _ cls msg => decide (1 ≤ msg.length ∧ msg.length ≤ 32) && decide (10 ≤ cls.val ∧ cls.val ≤ 12)
  -- the PHY words that hold a codeword's 5,440 bits from any phase: up to 44 of 128 bits, at least 22 of 256 (R42, R432)
  | .codewordDecode _ phy _ => decide (22 ≤ phy.length) && decide (phy.length ≤ 44)
  -- the nonce in words 1 and 2, sixteen words of a half record (R380)
  | .qreq _ nonce => nonce.length == 2
  | .qresp _ words => words.length == 16
  -- one beat a transfer, at most 64 transfers (R426, R427)
  | .hostFabricInbound req => req.wf
  -- at most 64 transfers of 32 bytes (R426)
  | .hostFabricResponse _ bytes errs => decide (bytes.length ≤ 2048 ∧ errs.length ≤ 64)
  -- DIR 0 to 5: a port with another carries no class 11 (R350)
  | .hello _ _ dir => decide (dir.toNat < 6)
  -- an asynchronous event, or a reserved opcode at PC (R193, R234)
  | .exceptionEntry _ opc => match opc with | none => true | some x => reservedOpcode x.toNat
  -- what stands after the prefix is a string opcode or another one (R210)
  | .rep _ op _ => match op with | .other x => !decide (0x81 ≤ x.toNat ∧ x.toNat ≤ 0x84) | _ => true
  -- operands of the others are bounded by their types
  | .registerWrite .. | .reservedAddressAccess .. | .rcFieldRead .. | .highwaterRead .. | .softReset .. | .softResetComplete ..
  | .pageEnable .. | .pageDisable .. | .pageLock .. | .ownerClaim .. | .ownerRelease .. | .errInfoClear .. | .callboardUpdate ..
  | .opAbort .. | .opRelease .. | .frameFragmentReceive .. | .decisionReceive .. | .receiveRingWrite .. | .creditBlock .. | .alignmentMarker ..
  | .lienoFrameTransmit .. | .linkTraining .. | .trainingStepDone .. | .trainingStepTimeout .. | .parseEnd .. | .parseMatch ..
  | .parseAny .. | .parseStream .. | .parseTag .. | .parseSkip .. | .parseTake .. | .parseTakeRest .. | .parseJump ..
  | .parseDropOp .. | .parseReservedOp .. | .parseStepLimit .. | .ingressWordWrite .. | .frameRingEnable ..
  | .frameRingDisable .. | .closeTimeout .. | .frameReady .. | .frRelease .. | .ringEnable .. | .ringDisable .. | .ringReserve ..
  | .ringCommit .. | .ringPop .. | .ringRelease .. | .cueIssue .. | .fenceWaitEnd .. | .pipeAssign .. | .permitGrant ..
  | .headAged .. | .budgetWrite .. | .energyClear .. | .elementStep .. | .chainTimeout .. | .finalRecord .. | .decisionPosting ..
  | .curtainRelease .. | .releaseFrame .. | .decisionPinPulseEnd .. | .curtainWriteAccept .. | .streamEnable ..
  | .streamDisable .. | .latencyWrite .. | .tcmdOpen .. | .taddr .. | .tdata .. | .tcmdPrepare .. | .prepareComplete ..
  | .tcmdRaise .. | .wingsRaise .. | .prep .. | .vote .. | .voteDeadline .. | .wingsCommit .. | .wingsAbort .. | .prepExpiry ..
  | .commitTimeout .. | .microword .. | .pacingTick .. | .engineRun .. | .engineStop .. | .controlStoreCommit ..
  | .dispatchEntryCommit .. | .sharedStoreCommit .. | .sharedStoreCommitResume .. | .storeBufferDrain .. | .lateStoreError ..
  | .iset .. | .intermissionExit .. | .nop .. | .lit8 .. | .lit16 .. | .lit32 .. | .lit16u .. | .dup ..
  | .drop .. | .swap .. | .overOp .. | .rot .. | .nip .. | .tuck .. | .dup2 .. | .drop2 .. | .pick .. | .depth .. | .rpush ..
  | .rpop .. | .rpeek .. | .flush .. | .add .. | .adc .. | .sub .. | .sbc .. | .neg .. | .adds .. | .subs .. | .addus ..
  | .mul .. | .mulhs .. | .mulhu .. | .divs .. | .divu .. | .rems .. | .remu .. | .cmp .. | .andOp .. | .orOp .. | .xorOp ..
  | .andn .. | .notOp .. | .shl .. | .shr .. | .sar .. | .rol .. | .ror .. | .addi .. | .cmpi .. | .tst .. | .mins .. | .maxs ..
  | .clz .. | .ld8u .. | .ld8s .. | .ld16u .. | .ld16s .. | .ld32 .. | .ld32nc .. | .st8 .. | .st16 .. | .st32 .. | .ld32d ..
  | .st32d .. | .ldr .. | .stc .. | .tas .. | .jmp .. | .call .. | .calll .. | .calli .. | .ret .. | .rete .. | .bz .. | .bnz ..
  | .dbnz .. | .trap .. | .bal .. | .bnv .. | .beq .. | .bne .. | .blt .. | .bge .. | .ble .. | .bgt .. | .bcs .. | .bcc ..
  | .bhi .. | .bls .. | .bmi .. | .bpl .. | .bvs .. | .bvc .. | .bkpt .. | .movs .. | .fils .. | .cmps .. | .scas ..
  | .lda .. | .sta .. | .rdsr .. | .wrsr .. | .syncP .. | .syncI .. | .syncM .. | .dinv .. | .tinv .. | .tsync .. | .kset ..
  | .cue .. | .post .. | .rres .. | .rcom .. | .rpopRing .. | .wait .. | .rrel .. | .userOpcode .. | .pageWalk ..
  | .tinvBroadcast .. | .crossbarGrant .. | .scrub .. | .scrubDone .. | .bist .. | .bistDone .. | .secureBankWipe ..
  | .wipeComplete .. | .retentionRequest .. | .retentionEntry .. | .wake .. | .wakeComplete .. | .bulkLoad ..
  | .bulkLoadComplete .. | .beatclkWriteAccept .. | .beatclkLoss .. | .beatclkReturn .. | .islandWriteDiscard ..
  | .timebaseLoad .. | .gstart .. | .gstartBeat .. | .timerStart .. | .timerStop .. | .cmpWrite .. | .timerCompare ..
  | .timerWrap .. | .captureEdge .. | .watchdogEnable .. | .watchdogKick .. | .watchdogExpiry .. | .pinclkWriteAccept ..
  | .pinNop .. | .stop .. | .signal .. | .clr .. | .drive .. | .putp .. | .getp .. | .sho .. | .shi .. | .take .. | .give ..
  | .awaitPin .. | .awaitBeat .. | .br .. | .ldlc .. | .pinLoop .. | .pinReservedOp .. | .pinEngineRun .. | .pinEngineStop ..
  | .txdWrite .. | .rxdPop .. | .inject .. | .peerEnable .. | .fragmentSend .. | .alignmentMeasurement .. | .alignCall ..
  | .alignResp .. | .measurementMiss .. | .probe .. | .echo .. | .echor .. | .probeTimeout .. | .lifeCycleChange ..
  | .secretWord .. | .secretTimeout .. | .tamper .. | .bootcmd .. | .bootImageLoad .. | .houseExtend .. | .pageMeasurement ..
  | .quote .. | .peerQuoteRequest .. | .quoteTimeout .. | .quoteComplete .. | .debugQuote .. | .tapReset .. | .daccRead ..
  | .daccWrite .. | .challengeNew .. | .challengeCheck .. | .challengeBackoffEnd .. | .debugHaltRequest .. | .debugHalt ..
  | .resume .. | .step .. | .bkpton .. | .bkptoff .. | .prompter .. | .stagehandTransfer .. | .stagehandDone ..
  | .stagehandReset .. | .freeze .. | .freezeEnd .. | .bellstrike .. | .stimulus .. | .inboundMasterReset .. | .phyReady ..
  | .phyReadyFall .. | .phyGroupAck .. | .retentionAck .. | .porAssert .. | .porRelease .. | .resetAssert .. | .resetRelease ..
  | .beatclkEdge .. | .tckEdge .. | .hfiRstReqFall .. | .doorbellWrite .. => true

end Sys2Proof
end

