-- ==== Sys2Proof/Safety.lean ====
section
/-!
DEFINITION. What the claims about whole steps speak of: the form every step keeps, what a run reaches, an outcome that goes on.
-/
namespace Sys2Proof.Machine

/-- The tables of the state are in canonical form: the bytes of the memories of R295 and the registers of R20 each stand at rising
addresses, and no entry repeats what an unlisted address reads as. -/
abbrev State.Canonical (s : State) : Prop := Memory.wf s.mem = true ∧ spWf regReset s.regs = true

/-- The outcome goes on, in a state that satisfies `P`. -/
def Goes (o : Out) (P : State → Prop) : Prop := ∃ t, o = .next t ∧ P t

/-- If the outcome goes on, then in a state that satisfies `P`. -/
def IfGoes (o : Out) (P : State → Prop) : Prop := ∀ t, o = .next t → P t

/-- A write of master `m` to the register at `a`, all strobes set, is taken (R306, R424, R442) and refused for none of the reasons of R30. -/
abbrev State.Accepts (s : State) (m : Master) (a : Nat) : Prop := s.takes m a = true ∧ s.refuseCause m a 0xF = none

/-- `u`, which is what the effect of an access makes of `s`, with the access of master `m` at `a` itself done: the arbiter remembers the
master, and the access is answered with `r` (R306, R424). -/
def State.after (u s : State) (m : Master) (a : Nat) (r : Rsp) : State :=
  let v := s.replied m a r
  { u with lastGrant := v.lastGrant, singles := v.singles, hrpQ := v.hrpQ, hrpSeq := v.hrpSeq, hrpOut := v.hrpOut, rsp := v.rsp }

/-- The registers of `t` and `s` read alike but for those at the addresses of `as`. -/
def RegsBut (as : List Nat) (s t : State) : Prop := ∀ a, a ∉ as → t.getReg a = s.getReg a

/-- The link ports of `t` and `s` are alike but for port `n`. -/
def PortsBut (n : Fin 128) (s t : State) : Prop := ∀ n', n' ≠ n → t.ports[n'] = s.ports[n']

/-- The Callboard records of `t` and `s` are alike but for record `r`. -/
def CbBut (r : Fin 64) (s t : State) : Prop := ∀ r', r' ≠ r → t.callboard[r'] = s.callboard[r']

/-- The engines of `t` and `s` are alike but for engine `e`. -/
def EngBut (e : Fin 257) (s t : State) : Prop := ∀ e', e' ≠ e → t.engines[e'] = s.engines[e']

/-- Units of class `c` have come back to port `n` (R46, R47): granted at once with what was owed, the window among it if the lock is new, or
owed while CR_ERR = 1. -/
def CreditBack (n : Fin 128) (c units : Nat) (s t : State) : Prop :=
  (s.crErr n = false → t.ports[n].winOwed = false ∧ t.ports[n].owed = Vector.replicate 16 0 ∧
    ∀ d : Fin 16, t.ports[n].granted[d] = s.ports[n].granted[d] + BitVec.ofNat 12
      (s.ports[n].owed[d] + (if d = Fin.ofNat 16 c then units else 0) + if s.ports[n].winOwed then s.rxWindow n d.val else 0)) ∧
  (s.crErr n = true → t.ports[n].winOwed = s.ports[n].winOwed ∧ t.ports[n].granted = s.ports[n].granted ∧
    ∀ d : Fin 16, t.ports[n].owed[d] = s.ports[n].owed[d] + if d = Fin.ofNat 16 c then units else 0)

/-- Units of the received frame `f` have come back to port `n`; none come back of a frame from before a loss of lock (log entry 114). -/
def FrameBack (n : Fin 128) (f : RxFrame) (units : Nat) (s t : State) : Prop :=
  (f.owes = true → CreditBack n f.cls units s t) ∧
  (f.owes = false → t.ports[n].granted = s.ports[n].granted ∧ t.ports[n].owed = s.ports[n].owed ∧ t.ports[n].winOwed = s.ports[n].winOwed)

/-- The block stands on the line for a Lieno frame: it is no idle block, no alignment marker and no credit block (R42). -/
def TxBlock.ofFrame : TxBlock → Bool
  | .idle => false
  | .marker => false
  | .credit .. => false
  | _ => true

/-- STALL_CYC of port `n` has counted the non-consuming step that was the ninth, the seventeenth or the twenty-fifth in a row (R52). -/
def Stalled (n : Fin 128) (s t : State) : Prop := t.getReg (linkAddr n 0x60) = s.getReg (linkAddr n 0x60) +
  (if s.ports[n].run = 8 ∨ s.ports[n].run = 16 ∨ s.ports[n].run = 24 then 1 else 0)

/-- A non-consuming step of port `n`'s parse script has run and left the port as `p` (R52). -/
def ParseStepped (n : Fin 128) (p : Port) (s t : State) : Prop :=
  t = { s with regs := t.regs, ports := s.ports.set n { p with run := s.ports[n].run + 1 } } ∧ RegsBut [linkAddr n 0x60] s t ∧ Stalled n s t

/-- The frame under parse has left port `n`: the script is at its start, and the frame's units have come back (R47, R51). -/
def ParseFrameGone (n : Fin 128) (f : RxFrame) (rest : List RxFrame) (s t : State) : Prop :=
  PortsBut n s t ∧ FrameBack n f (frameUnits f.len - unitsLeft f.len f.words.length) s t ∧
  t.ports[n] = { s.ports[n] with rx := rest, step := 0, run := 0, takeLeft := 0, takeRest := false, presented := none, taking := none
                                 granted := t.ports[n].granted, owed := t.ports[n].owed, winOwed := t.ports[n].winOwed }

/-- What a Cue Code instruction finds when nothing comes before it and it is fetched and dispatched to the base image's routine without an
exception: the answer of its
fills, spills and accesses `m`, the state they leave, and that state with the delayed load before it completed (R193, R209, R216, R221). -/
def State.found {α : Type} (s : State) (e : Fin 257) (opc len : Nat) (imm : Word) (m : EngM α) : Option (α × State × State) :=
  if s.canRun e && !s.entryMoved e.val opc then
    match (do dispatchBase e opc len imm; let a ← m; let s1 ← get; completeLoad e; return (a, s1) : EngM (α × State)) s with
    | .ok (a, s1) s2 => some (a, s1, s2)
    | .error _ _ => none
  else none

/-- An instruction or an exception entry of engine `e` has run from `s`, where its own effect is `f`: its boundary has come, what was due
there has taken effect, the engine has stopped if it was to stop, MICROWORDS and the energy count its microwords, in deterministic mode
PACEOVR with its event the overruns, the registers of the microcode hold what the routine left (free values), and nothing else has changed
(R178, R193, R200, R203, R391). -/
def Ran (e : Fin 257) (s : State) (f : Engine → Engine) (t : State) : Prop :=
  let g := (f s.engines[e]).due (decide (e.val = 256))
  let h := t.engines[e]
  let stop := decide (g.run = .running) && !g.rep && s.stopDue e
  EngBut e s t ∧ RegsBut [engBase e + 0x070, engBase e + 0x064, engBase e + 0x018] s t ∧
  (bitAt (f s.engines[e]).stat 10 = false → RegsBut [engBase e + 0x070] s t) ∧
  t = { s with engines := t.engines, regs := t.regs, permit := t.permit, freeIndex := t.freeIndex } ∧
  t.permit = { s.permit with eCtrl := t.permit.eCtrl, eMgmt := t.permit.eMgmt } ∧
  h = { g with
    x := h.x, mdr := h.mdr, mdrOld := h.mdrOld, prevRes := h.prevRes, lc := h.lc, tickWait := h.tickWait, paceLate := false, micro := false
    mstack := [], stepping := false, inInstr := false, lastUpc := none, stopReq := if stop then false else g.stopReq
    oldStore := if g.rep then g.oldStore else [], oldWin := if g.rep then g.oldWin else [], run := if stop then .stopped else g.run
    waitMask := if stop then none else g.waitMask, waitEv := if stop then none else g.waitEv }

/-- The exception of cause `cause` that engine `e`, at a boundary in `s` with no delayed load to come, raises within its instruction once the
instruction has come to `u`: with room on the return stack and both frame words stored, the outcome `o` is the entry, with cells, DSP and PC as
they stood before the instruction (R191, R216, R236, R264, R268). -/
def Enters (e : Fin 257) (s u : State) (cause detail : Nat) (eaddr ret : Word) (o : Out) : Prop :=
  s.engines[e].load = none →
  let v := (u.undo e s.engines[e]).modEng e (fun g => { g.due (decide (e.val = 256)) with
    mstack := [], reserved := none, micro := false, inInstr := false, oldStore := [], oldWin := [], xcause := BitVec.ofNat 8 cause })
  v.engines[e].rsl.toNat + 8 ≤ v.engines[e].rsp.toNat → ∀ w, pushFrame e ret v = .ok () w →
  Goes o (Ran e w (fun h => { h with
    rsp := h.rsp - 8, ecause := BitVec.ofNat 32 (detail * 256 + cause), eaddr, rep := false
    stat := (h.stat &&& 0xFFFF3FFF) ||| 0x8000, pc := h.vbase + BitVec.ofNat 32 (16 * cause) }))

/-- Pin engine `k` has taken a step that leaves it as `q`: the inputs of two edges ago are in PIN_IN, those of this edge on their way, the
step has cost its energy, the engine's waiting writes have been sampled, and of the rest only registers and event latches may have changed (R336, R391). -/
def PinStepped (k : Fin 32) (pins : Word) (q : PinEng) (s t : State) : Prop :=
  (∀ k', k' ≠ k → t.pins[k'] = s.pins[k']) ∧ t.pins[k] = { q with pinIn := s.pins[k].sync1, sync1 := pins } ∧
  t.permit = { s.permit with eCtrl := s.permit.eCtrl + 20 * s.vddMv * s.vddMv } ∧
  t = { s with pins := t.pins, permit := t.permit, pinLost := false, regs := t.regs, engines := t.engines, islandQ := t.islandQ } ∧
  t.islandQ = s.islandQ.map (fun w => if w.pinPage == some k then { w with synced := true } else w)

/-- The step has raised no event. -/
def Quiet (s t : State) : Prop := t.regs = s.regs ∧ t.engines = s.engines

/-- The step has raised the events of `u`, and no other. -/
def Raised (u t : State) : Prop := t.regs = u.regs ∧ t.engines = u.engines

/-- Timer `n` of `t` has started from where it stood in `s` (R321). -/
def TimerStarted (n : Fin 64) (s t : State) : Prop :=
  t.timers[n] = { s.timers[n] with
    st := .running, phase := 0, moved := false, wrapped := false
    rldact := if s.timers[n].reloadMode then s.timers[n].reload else s.timers[n].rldact
    cmpact := if s.timers[n].reloadMode then s.timers[n].cmp else s.timers[n].cmpact }

/-- The states that a run from `s` comes to. -/
inductive Reaches (s : State) : State → Prop
  | refl : Reaches s s
  | step {t u : State} : Reaches s t → step t = .next u → Reaches s u
  /-- A command arrives at the end of the queue. -/
  | arrive {t : State} (c : Instr) : Reaches s t → Reaches s { t with pending := t.pending ++ [c] }

end Sys2Proof.Machine
end

