-- ==== Sys2Proof/Certificates/Slice0/Obligations.lean ====
section
/-!
DEFINITION. The statements about the block, for the provers: one Prop each, from the numbered rules of spec/.
-/
open Sys2Proof Sys2Proof.Machine

/-! ### Steps, reset, form -/

/-- A step is the front command's exec on the queue's rest; an empty queue idles (the model's choice, log entry 3). -/
def Obligations.StepRunsFrontCommand : Prop :=
  (∀ (c : Instr) (rest : List Instr) (s : State),
    Machine.step { s with pending := c :: rest } = exec c { s with pending := rest }) ∧
  (∀ s : State, s.pending = [] → Machine.step s = .next s)

/-- The state right after reset (R37, R201, R207, R315, R372, R441; the choices of log entries 1, 2, 20). -/
def Obligations.ResetState : Prop :=
  State.reset.pending = [] ∧ (∀ a, State.reset.getReg a = regReset a) ∧
  State.reset.callboard[(0 : Fin 64)].cur.st = .queued ∧ State.reset.callboard[(0 : Fin 64)].cur.kind = 1 ∧
  (∀ r : Fin 64, r ≠ 0 → State.reset.callboard[r] = {}) ∧
  (∀ e : Fin 257, State.reset.engines[e].run = if e.val < 256 then .stopped else .running) ∧
  State.reset.engines[houseNo].upc = 0 ∧ State.reset.engines[houseNo].micro = true ∧
  State.reset.beatno = 0 ∧ State.reset.clkOk = false ∧ State.reset.trust.boot = .wipe ∧ State.reset.wiping = true ∧
  (∀ n : Fin 128, State.reset.ports[n] = {}) ∧ (∀ p : Fin 64, State.reset.pipes[p] = none) ∧
  (∀ t : Fin 8, State.reset.slots[t].st = .free) ∧ (∀ n : Fin 64, State.reset.timers[n].st = .stopped) ∧
  State.reset.mem = [] ∧ State.reset.regs = [] ∧ State.reset.Canonical

/-- Every step keeps the canonical form of memory and registers, for every command in front. -/
def Obligations.StepKeepsCanonical : Prop := ∀ s : State, s.Canonical → IfGoes (Machine.step s) State.Canonical

/-- A command's effect is on everything but the queue. -/
def Obligations.ExecKeepsQueue : Prop := ∀ (c : Instr) (s : State), IfGoes (exec c s) (fun t => t.pending = s.pending)

/-! ### Register space (R20 to R34) -/

/-- R29, R30, R34, R158, R306: a refused REGISTER_WRITE, when a write is refused, and one that waits. -/
def Obligations.RefusedWrites : Prop :=
  (∀ (m : Master) (addr : BitVec 24) (data : Word) (strb : BitVec 4) (s : State) (c : Nat),
    s.Canonical → s.takes m addr.toNat = true → s.refuseCause m (regAlign addr.toNat) strb = some c →
    Goes (exec (.registerWrite m addr data strb) s) (fun t =>
      t = { s.replied m addr.toNat { err := true } with regs := t.regs } ∧ t.rsp = { err := true } ∧
      (bitAt (s.getReg 0x4C) 31 = true → RegsBut [0x4C] s t ∧ t.getReg 0x4C = s.getReg 0x4C ||| 0x40000000) ∧
      (bitAt (s.getReg 0x4C) 31 = false → RegsBut [0x18, 0x48, 0x4C] s t ∧
        t.getReg 0x48 = BitVec.ofNat 32 (regAlign addr.toNat) ∧
        t.getReg 0x4C = BitVec.ofNat 32 (2 ^ 31 + (masterCode m).toNat * 256 + c) ∧
        t.getReg 0x18 = s.getReg 0x18 ||| 1))) ∧
  (∀ (s : State) (m : Master) (p : Page) (off : Nat) (d : RegDesc) (strb : BitVec 4),
    off < 0x1000 → off % 4 = 0 → regOff p (pageBase p + off) = off → regDesc p off = some d →
    (s.nonOwner m = true ∨ (s.pageLocked p = true ∧ isHouse m = false ∧ off ≠ 0x018) ∨
      (d.staged = true ∧ s.pageStaged p = true) ∨ strb ≠ 0xF) →
    s.refuseCause m (pageBase p + off) strb ≠ none) ∧
  (∀ (m : Master) (addr : BitVec 24) (data : Word) (strb : BitVec 4) (s : State), s.takes m addr.toNat = false →
    Goes (exec (.registerWrite m addr data strb) s) (fun t => t = { s with singles := t.singles } ∧ ∀ x ∈ s.singles, x ∈ t.singles))

/-- R23, R27, R30, R317, R336, R422: an accepted REGISTER_WRITE of a register without an effect of its own. -/
def Obligations.RegisterWriteStores : Prop :=
  ∀ (m : Master) (p : Page) (off : Nat) (d : RegDesc) (data : Word) (s : State),
    s.Canonical → off ≠ 0x008 → off ≠ 0x01C → off < 0x1000 → off % 4 = 0 → regOff p (pageBase p + off) = off → regDesc p off = some d →
    s.Accepts m (pageBase p + off) →
    (islandOf p off = none → s.srstBusy p = false →
      (0x040 ≤ off → (if d.staged then (s.taken m (pageBase p + off)).touch 0 (pageBase p + off) (pageBase p + off) none
        else s.taken m (pageBase p + off)).unitWrite m (masterNo m) p off data s.beatno = none) →
      Goes (exec (.registerWrite m (BitVec.ofNat 24 (pageBase p + off)) data 0xF) s) (fun t =>
        t = { s.replied m (pageBase p + off) {} with regs := t.regs, slots := t.slots, engines := t.engines } ∧
        RegsBut [pageBase p + off] s t ∧
        t.getReg (pageBase p + off) = (s.getReg (pageBase p + off) &&& ~~~(d.rw ||| d.w1c)) ||| (data &&& d.rw)
          ||| (s.getReg (pageBase p + off) &&& d.w1c &&& ~~~data))) ∧
    (∀ i, islandOf p off = some i →
      (s.islandLost i = true →
        exec (.registerWrite m (BitVec.ofNat 24 (pageBase p + off)) data 0xF) s = .next (s.replied m (pageBase p + off) { err := true })) ∧
      (s.islandLost i = false → (i.1.isSome && off == 0x060) = false →
        exec (.registerWrite m (BitVec.ofNat 24 (pageBase p + off)) data 0xF) s = .next { s.taken m (pageBase p + off) with
          islandQ := s.islandQ ++
            [{ beat := s.beatno, pinPage := i.1, curtain := i.2, m, addr := pageBase p + off, data, origin := s.originOf m }] }))

/-- R22, R31, R32, R390. -/
def Obligations.ReadRows : Prop :=
  (∀ (m : Master) (addr : BitVec 24) (write : Bool) (s : State), s.Canonical → reservedAddr addr.toNat = true →
    isStagehand m = false → s.takes m addr.toNat = true → (write = true → s.Accepts m (regAlign addr.toNat)) →
    Goes (exec (.reservedAddressAccess m addr write) s) (fun t =>
      t = { s.replied m addr.toNat {} with regs := t.regs } ∧ t.rsp = {} ∧
      (bitAt (s.getReg 0x4C) 31 = true → RegsBut [0x4C] s t ∧ t.getReg 0x4C = s.getReg 0x4C ||| 0x40000000) ∧
      (bitAt (s.getReg 0x4C) 31 = false → RegsBut [0x18, 0x48, 0x4C] s t ∧
        t.getReg 0x48 = BitVec.ofNat 32 (regAlign addr.toNat) ∧
        t.getReg 0x4C = BitVec.ofNat 32 (2 ^ 31 + (masterCode m).toNat * 256 + if write then 2 else 1) ∧
        t.getReg 0x18 = s.getReg 0x18 ||| 1))) ∧
  (∀ (m : Master) (p : Page) (off : Nat) (d : RegDesc) (s : State), s.Canonical → off < 0x1000 → off % 4 = 0 →
    let a := pageBase p + off
    regOff p a = off → (p = .permit → off ≠ 0x068) → regDesc p off = some d → d.rc = true → s.srstBusy p = false →
    s.takes m a = true → (s.taken m a).unitRead p off = none → 0x040 ≤ off → (∀ k, p = .pin k → off ≠ 0x060) →
    Goes (exec (.rcFieldRead m (BitVec.ofNat 24 a)) s) (fun t =>
      t = { s.replied m a { data := ((s.taken m a).seen m p off).pageRead p off } with regs := t.regs } ∧ RegsBut [a] s t ∧
      t.rsp = { data := ((s.taken m a).seen m p off).pageRead p off } ∧
      (islandOf p off = none → t.rsp = { data := s.getReg a }) ∧
      t.getReg a = if isStagehand m then s.getReg a else 0)) ∧
  (∀ (m : Master) (s : State), s.Canonical → s.srstBusy .permit = false → s.takes m 0x2068 = true →
    Goes (exec (.highwaterRead m) s) (fun t =>
      t = { s.replied m 0x2068 { data := s.getReg 0x2068 } with regs := t.regs } ∧ t.rsp = { data := s.getReg 0x2068 } ∧
      RegsBut [0x2068] s t ∧
      t.getReg 0x2068 = if isStagehand m then s.getReg 0x2068 else BitVec.ofNat 32 s.granted))

/-- R24 to R26, R29, R30, R34, R424. -/
def Obligations.PageControl : Prop :=
  (
    (∀ (p : Page) (m : Master) (s : State), enFixed p = false → (p = .curtain → s.curtainTurn = true) → s.Accepts m (pageBase p + 0x08) →
      ∀ u, s.rowReady (pageBase p + 0x08) = u → u.Canonical → u.Accepts m (pageBase p + 0x08) → u.srstBusy p = false → bitAt (s.ctrlNow p) 2 = false →
      Goes (exec (.pageEnable p m) s) (fun t => t.pageEn p = true ∧ t.rsp = {}) ∧
      Goes (exec (.pageDisable p m) s) (fun t => t.pageEn p = false ∧ t.rsp = {})) ∧
    (∀ (p : Page) (m : Master) (s : State), (p = .curtain → s.curtainTurn = true) → s.Accepts m (pageBase p + 0x1C) →
      ∀ u, s.rowReady (pageBase p + 0x1C) = u → u.Canonical → u.Accepts m (pageBase p + 0x1C) →
      Goes (exec (.pageLock p m) s) (fun t => t = { u.replied m (pageBase p + 0x1C) {} with regs := t.regs } ∧ RegsBut [pageBase p + 0x1C] u t ∧
        t.pageLocked p = true)) ∧
    (∀ (p : Page) (m : Master) (s : State), srstOk p = true → (p = .curtain → s.curtainTurn = true) → s.Accepts m (pageBase p + 0x08) →
      ∀ u, s.rowReady (pageBase p + 0x08) = u → u.Canonical → u.Accepts m (pageBase p + 0x08) → u.srstBusy p = false →
      Goes (exec (.softReset p m) s) (fun t => t.srstBusy p = true ∧ t.rsp = {} ∧
        ∀ off, off < 0x1000 → off ∉ [0x08, 0x0C, 0x14, 0x18, 0x1C] → t.getReg (pageBase p + off) = regReset (pageBase p + off))) ∧
    (∀ (p : Page) (s : State), s.Canonical →
      Goes (exec (.softResetComplete p) s) (fun t => t = { s with regs := t.regs } ∧ RegsBut [pageBase p + 0x0C] s t ∧
        t.srstBusy p = false ∧ bitAt (t.getReg (pageBase p + 0x0C)) 0 = true))) ∧
  (
    (∀ (id : BitVec 8) (s : State), s.Canonical → s.Accepts (.hrp id) 0x44 → s.srstBusy .block = false →
      Goes (exec (.ownerClaim (.hrp id)) s) (fun t => t = { s.replied (.hrp id) 0x44 {} with regs := t.regs } ∧ RegsBut [0x44] s t ∧
        t.getReg 0x44 = if bitAt (s.getReg 0x44) 31 then s.getReg 0x44 else BitVec.ofNat 32 (2 ^ 31 + (foldId id).toNat))) ∧
    (∀ (k : Fin 21) (s : State), s.Accepts (.xbar k) 0x44 → exec (.ownerClaim (.xbar k)) s = .next (s.replied (.xbar k) 0x44 {})) ∧
    (∀ (m : Master) (s : State), s.Canonical → s.Accepts m 0x44 → s.srstBusy .block = false →
      ((∃ id, m = .hrp id) ∨ isHouse m = true) →
      Goes (exec (.ownerRelease m) s) (fun t => t = { s.replied m 0x44 {} with regs := t.regs } ∧ RegsBut [0x44] s t ∧ t.getReg 0x44 = 0)) ∧
    (∀ (m : Master) (s : State), s.Canonical → s.Accepts m 0x4C → s.srstBusy .block = false →
      Goes (exec (.errInfoClear m) s) (fun t => t = { s.replied m 0x4C {} with regs := t.regs } ∧ RegsBut [0x4C] s t ∧ t.getReg 0x4C = 0)))

/-- R36, R38, R39. -/
def Obligations.CallboardRows : Prop :=
  (∀ (r : Fin 64) (s : State), s.callboard[r].cur ≠ s.callboard[r].vis →
    Goes (exec (.callboardUpdate r) s) (fun t => t = { s with callboard := t.callboard } ∧
      t.callboard[r] = { s.callboard[r] with vis := s.callboard[r].cur, count := s.callboard[r].count + 1 } ∧
      ∀ r', r' ≠ r → t.callboard[r'] = s.callboard[r'])) ∧
  (∀ (r : Fin 64) (m : Master) (s : State), s.Accepts m (opCtrlAddr r) → s.srstBusy .callboard = false →
    Goes (exec (.opRelease r m) s) (fun t => t = { s.replied m (opCtrlAddr r) {} with callboard := t.callboard } ∧
      (s.callboard[r].vis.st.final = true → t.callboard[r] = { cur := {}, vis := {}, count := s.callboard[r].count + 1, abort := false }) ∧
      (s.callboard[r].vis.st.final = false → t.callboard[r] = s.callboard[r]) ∧
      ∀ r', r' ≠ r → t.callboard[r'] = s.callboard[r'])) ∧
  (∀ (r : Fin 64) (m : Master) (s : State), s.Accepts m (opCtrlAddr r) → s.srstBusy .callboard = false →
    (s.callboard[r].cur.st.final = true ∨ s.callboard[r].cur.st = .idle ∨ s.callboard[r].cur.kind = 1 →
      exec (.opAbort r m) s = .next (s.replied m (opCtrlAddr r) {})) ∧
    (s.callboard[r].cur.st.final = false → s.callboard[r].cur.st ≠ .idle → s.callboard[r].cur.kind = 7 →
      (∀ (n : Fin 128) (t : Training), s.ports[n].training = some t → t.cb = r → t.granted = true) →
      exec (.opAbort r m) s = .next ((s.modCb r (fun c => { c with abort := true })).after s m (opCtrlAddr r) {})))

/-! ### Links (R41 to R49, R145, R433, R446) -/

/-- R42 to R44, R46 to R48: the receive side of a port. -/
def Obligations.LinkReceive : Prop :=
  (∀ (n : Fin 128) (phy : List (BitVec 256)) (first : Fin 128) (s : State), s.Canonical →
    let d := decodeBlocks s.ports[n].rxBits (codewordAt phy first)
    let u := s.modPort n (fun p => { p with rxBlocks := d.1, rxBits := d.2 })
    (codewordOutcome phy first = .clean → exec (.codewordDecode n phy first) s = .next u) ∧
    (codewordOutcome phy first = .corrected → Goes (exec (.codewordDecode n phy first) s) (fun t => t = { u with regs := t.regs } ∧
      RegsBut [linkAddr n 0x50] s t ∧ t.getReg (linkAddr n 0x50) = s.getReg (linkAddr n 0x50) + 1)) ∧
    (codewordOutcome phy first = .uncorrectable → Goes (exec (.codewordDecode n phy first) s) (fun t => t = { u with regs := t.regs } ∧
      RegsBut [linkAddr n 0x54, linkAddr n 0x18] s t ∧ t.getReg (linkAddr n 0x54) = s.getReg (linkAddr n 0x54) + 1 ∧
      t.getReg (linkAddr n 0x18) = s.getReg (linkAddr n 0x18) ||| 2))) ∧
  (∀ (n : Fin 128) (c : Fin 16) (ws : List Word128) (ck : FrameCheck) (s : State), s.Canonical →
    let route := s.rxRoute n c.val ws
    let stays := ck = .good ∧ (route = .parse ∨ route = .ring ∨ (route = .peer ∧ c.val < 10))
    let drops := ck = .lengthMismatch ∨ (ck = .good ∧ route = .discard)
    (s.portUp n = false → exec (.lienoFrameReceive n c ws ck) s = .next s) ∧
    (s.portUp n = true → s.pageEn (.link n) = false →
      Goes (exec (.lienoFrameReceive n c ws ck) s) (fun t => t = { s with ports := t.ports } ∧ PortsBut n s t ∧
        t.ports[n] = { s.ports[n] with granted := t.ports[n].granted, owed := t.ports[n].owed, winOwed := t.ports[n].winOwed } ∧
        CreditBack n c.val (frameUnits ws.length) s t)) ∧
    (s.portUp n = true → s.pageEn (.link n) = true → stays →
      Goes (exec (.lienoFrameReceive n c ws ck) s) (fun t => t = { s with permit := t.permit, ports := t.ports } ∧
        PortsBut n s t ∧ t.ports[n] = { s.ports[n] with
          rx := s.ports[n].rx ++ [{ cls := c.val, words := ws, len := ws.length, beat := s.beatno }] })) ∧
    (s.portUp n = true → s.pageEn (.link n) = true → ¬ stays →
      Goes (exec (.lienoFrameReceive n c ws ck) s) (fun t => t = { s with permit := t.permit, ports := t.ports, regs := t.regs } ∧
        PortsBut n s t ∧
        t.ports[n] = { s.ports[n] with granted := t.ports[n].granted, owed := t.ports[n].owed, winOwed := t.ports[n].winOwed } ∧
        CreditBack n c.val (frameUnits ws.length) s t ∧
        RegsBut [linkAddr n 0x58, linkAddr n 0x18] s t ∧
        (drops → t.getReg (linkAddr n 0x58) = s.getReg (linkAddr n 0x58) + 1 ∧
          t.getReg (linkAddr n 0x18) = s.getReg (linkAddr n 0x18) ||| 4) ∧
        (¬ drops → t.regs = s.regs)))) ∧
  (∀ (n : Fin 128) (g : Fin 4) (c0 c1 c2 c3 : BitVec 12) (s : State),
    (s.portUp n = false → exec (.creditBlock n g c0 c1 c2 c3) s = .next s) ∧
    (s.portUp n = true → Goes (exec (.creditBlock n g c0 c1 c2 c3) s) (fun t => t = { s with ports := t.ports } ∧ PortsBut n s t ∧
      t.ports[n] = { s.ports[n] with txLimit := t.ports[n].txLimit, txKnown := t.ports[n].txKnown } ∧
      ∀ c : Fin 16, (c.val / 4 = g.val → t.ports[n].txKnown[c] = true ∧
          t.ports[n].txLimit[c] = (if c.val % 4 = 0 then c0 else if c.val % 4 = 1 then c1 else if c.val % 4 = 2 then c2 else c3)) ∧
        (c.val / 4 ≠ g.val → t.ports[n].txKnown[c] = s.ports[n].txKnown[c] ∧ t.ports[n].txLimit[c] = s.ports[n].txLimit[c])))) ∧
  (∀ (n : Fin 128) (s : State), s.Canonical →
    (s.portUp n = true → exec (.alignmentMarker n true) s = .next (s.modPort n (fun p => { p with badMarks := 0 }))) ∧
    (s.portUp n = true → s.ports[n].badMarks < 2 →
      exec (.alignmentMarker n false) s = .next (s.modPort n (fun p => { p with badMarks := p.badMarks + 1 }))) ∧
    (s.portUp n = true → 2 ≤ s.ports[n].badMarks → Goes (exec (.alignmentMarker n false) s) (fun t =>
      t = { s with regs := t.regs, ports := t.ports } ∧ PortsBut n s t ∧
      RegsBut [linkAddr n 0x44, linkAddr n 0x18, linkAddr n 0x38C] s t ∧ t.portUp n = false ∧
      t.getReg (linkAddr n 0x18) = s.getReg (linkAddr n 0x18) ||| 1 ∧
      t.ports[n] = { zeroCounts s.ports[n] with lockTry := true, goodMarks := 0, badMarks := 0 })) ∧
    (s.portUp n = false → s.ports[n].lockTry = false ∨ s.pageEn (.link n) = false → ∀ g, exec (.alignmentMarker n g) s = .next s) ∧
    (s.portUp n = false → s.ports[n].lockTry = true → s.pageEn (.link n) = true →
      exec (.alignmentMarker n false) s = .next (s.modPort n (fun p => { p with goodMarks := 0 })) ∧
      (s.ports[n].goodMarks = 0 →
        exec (.alignmentMarker n true) s = .next (s.modPort n (fun p => { p with goodMarks := p.goodMarks + 1 }))) ∧
      (s.ports[n].goodMarks ≠ 0 → Goes (exec (.alignmentMarker n true) s) (fun t =>
        let gr := fun (k : Nat) => t.ports[n].granted[Fin.ofNat 16 k]
        t = { s with regs := t.regs, ports := t.ports, fwdQ := t.fwdQ } ∧ PortsBut n s t ∧ RegsBut [linkAddr n 0x44] s t ∧
        t.portUp n = true ∧ t.ports[n].lockTry = false ∧
        (∀ c : Fin 16, t.ports[n].granted[c] = if s.crErr n then 0 else BitVec.ofNat 12 (s.rxWindow n c.val)) ∧
        t.ports[n].line = (List.finRange 4).map (fun g => .credit g (gr (4 * g.val)) (gr (4 * g.val + 1)) (gr (4 * g.val + 2)) (gr (4 * g.val + 3))) ∧
        t.fwdQ = s.fwdQ ++ (if t.peerUp n then [{ dir := s.peerDir n, cls := 11, port := n, frame := .msg { cls := 11, kind := 1, dest := 0, src := s.devno, fields := [BitVec.ofNat 64 s.devno, BitVec.ofNat 64 (s.peerDir n)] } }] else [])))))

/-- R43, R45, R145, R446, R354, R357, R361: the transmit side of a port, and its receive rings. -/
def Obligations.LinkTransmit : Prop :=
  (∀ (n : Fin 128) (c : Fin 16) (s : State),
    (c.val < 13 ∨ s.ports[n].rx.any (fun f => f.cls == c) = false → exec (.receiveRingWrite n c) s = .next s) ∧
    (13 ≤ c.val → ∀ (f : RxFrame) (rest : List RxFrame), takeFirst (fun f : RxFrame => f.cls == c) s.ports[n].rx = some (f, rest) →
      let r := 4096 + 32 * n.val + c.val
      let es := linkEntries c.val f.words (f.beat.setWidth 32)
      let gone := fun (k : Nat) => unitsLeft f.len (f.len - entryWords f.len k)
      (f.sent = 0 → s.pageEn (.link n) = false → exec (.receiveRingWrite n c) s = .next s) ∧
      (f.words.length = f.len → f.sent < es.length → (f.sent = 0 → s.pageEn (.link n) = true) →
      let left := fun (s1 t : State) => PortsBut n s1 t ∧ FrameBack n f (frameUnits f.len - gone f.sent) s1 t ∧
        t.ports[n] = { s1.ports[n] with rx := rest, granted := t.ports[n].granted, owed := t.ports[n].owed, winOwed := t.ports[n].winOwed }
      (s.Canonical → (s.ringEn r = false ∨ s.ringMemErr r = true ∨ s.ringLegal r = false ∨ s.ringEsize r ≠ 2) →
        Goes (exec (.receiveRingWrite n c) s) (fun t => t = { s with regs := t.regs, ports := t.ports } ∧ left s t ∧
          RegsBut [linkAddr n 0x58, linkAddr n 0x18] s t ∧ t.getReg (linkAddr n 0x58) = s.getReg (linkAddr n 0x58) + 1)) ∧
      (s.ringEn r = true → s.ringMemErr r = false → s.ringLegal r = true → s.ringEsize r = 2 → s.reservePeek r = none →
        exec (.receiveRingWrite n c) s = .next s) ∧
      (s.ringEsize r = 2 →
        (∀ w u, ringPut r (es.getD f.sent []) s = .error (.wait w) u → exec (.receiveRingWrite n c) s = .next (s.settle w)) ∧
        (∀ s1, ringPut r (es.getD f.sent []) s = .ok .failed s1 →
          Goes (exec (.receiveRingWrite n c) s) (fun t => t = { s1 with regs := t.regs, ports := t.ports } ∧ left s1 t)) ∧
        (∀ (k : Word) (s1 : State), ringPut r (es.getD f.sent []) s = .ok (.done k) s1 →
          (f.sent + 1 = es.length →
            Goes (exec (.receiveRingWrite n c) s) (fun t => t = { s1 with ports := t.ports } ∧ left s1 t)) ∧
          (f.sent + 1 < es.length → exec (.receiveRingWrite n c) s = exec (.receiveRingWrite n c)
            ((s1.modPort n (fun p => { p with rx := { f with sent := f.sent + 1 } :: rest })).frameCredit n f (gone (f.sent + 1) - gone f.sent)))))))) ∧
  (∀ (p : Port) (cls announced len : Nat), (p.sendFrame cls announced len).line.filter TxBlock.ofFrame =
    TxBlock.start cls announced :: (List.range (2 * len)).map TxBlock.payload ++ [TxBlock.done]) ∧
  (∀ p : Port, p.sendIdle.line.all (fun b => !b.ofFrame) = true ∧
    (p.creditGap < 638 → p.sendIdle.line.any (fun b => match b with | .credit .. => true | _ => false) = true)) ∧
  (∀ (n : Fin 128) (fine : BitVec 8) (s : State),
    let idle := fun (u : State) => if u.portUp n then u.modPort n (fun p => p.sendIdle.encodeLine none) else u
    (s.txReady n = false → exec (.lienoFrameTransmit n fine) s = .next (idle s)) ∧
    (s.txReady n = true → ∀ s1, txFirst n (txOrder s.ports[n].rr) s = .ok none s1 → exec (.lienoFrameTransmit n fine) s = .next (idle s1)) ∧
    (s.txReady n = true → ∀ c s1, txFirst n (txOrder s.ports[n].rr) s = .ok (some c) s1 → c ≠ 8 → c < 13 →
      ∀ q, s1.fwdHead n c = some q →
      let f := s1.stamped fine q.frame
      Goes (exec (.lienoFrameTransmit n fine) s) (fun t =>
        t = { s1 with permit := t.permit, ports := t.ports, fwdQ := s1.fwdQ.erase q, align := t.align } ∧
        PortsBut n s1 t ∧ t.ports[n] = { (s1.ports[n].sendFrame f.cls f.announced f.len).encodeLine (some f) with
          lastTx := some f, rr := c, txSent := t.ports[n].txSent } ∧
        t.ports[n].txSent[Fin.ofNat 16 f.cls] = s1.ports[n].txSent[Fin.ofNat 16 f.cls] + BitVec.ofNat 12 (frameUnits f.len) ∧
        (∀ m, q.frame = .msg m → f = .msg { m with
          beat := s1.timeNow.beat
          fields := if m.cls = 11 ∧ m.kind = 3 then [m.fields.headD 0, s1.stampNow fine] else m.fields } ∧
          t.align = if m.cls = 11 ∧ m.kind = 2 then s1.align.map (fun a => (a.1, some (s1.stampNow fine), a.2.2)) else s1.align))) ∧
    (s.txReady n = true → ∀ c s1, txFirst n (txOrder s.ports[n].rr) s = .ok (some c) s1 → 13 ≤ c →
      ∀ ws k s2, txRingHead n c s1 = .ok (some (ws, k)) s2 → s2.Canonical → spWf (fun _ => []) s2.ringRel = true →
      let r := 4096 + 32 * n.val + 16 + c
      let b := ringBase r
      Goes (exec (.lienoFrameTransmit n fine) s) (fun t =>
        t.ports[n] = { (s2.ports[n].sendFrame c ws.length ws.length).encodeLine (some (.data c ws)) with
          lastTx := some (.data c ws), rr := c, txSent := t.ports[n].txSent } ∧
        t.ports[n].txSent[Fin.ofNat 16 c] = s2.ports[n].txSent[Fin.ofNat 16 c] + BitVec.ofNat 12 (frameUnits ws.length) ∧
        t = { s2 with permit := t.permit, ports := t.ports, regs := t.regs, ringRel := t.ringRel } ∧ PortsBut n s2 t ∧
        RegsBut [b + 0x0C, b + 0x30] s2 t ∧ t.ringHead r = s2.ringHead r + BitVec.ofNat 32 k ∧
        (∀ r', r' ≠ r → t.relAhead r' = s2.relAhead r') ∧
        (s2.relAhead r = [] → s2.ringRelCount r = s2.ringHead r → t.relAhead r = [] ∧ t.ringRelCount r = t.ringHead r)))) ∧
  (∀ (n : Fin 128) (s : State), ∀ (f : TxFrame) (rest : List TxFrame), s.ports[n].relQ = f :: rest →
    s.pageEn (.link n) = true → s.frozen (.link n) = false → s.portUp n = true → roleSends (s.portRole n) f.cls = true →
    (f.cls < 8 ∨ s.peerOk n true = true) →
    (frameUnits f.len ≤ txCredit s.ports[n] f.cls → Goes (exec (.releaseFrame n) s) (fun t =>
      t = { s with permit := t.permit, ports := t.ports } ∧ PortsBut n s t ∧
      t.ports[n] = { (s.ports[n].sendFrame f.cls f.announced f.len).encodeLine (some f) with
        relQ := rest, lastTx := some f, txSent := t.ports[n].txSent } ∧
      t.ports[n].txSent[Fin.ofNat 16 f.cls] = s.ports[n].txSent[Fin.ofNat 16 f.cls] + BitVec.ofNat 12 (frameUnits f.len))) ∧
    (txCredit s.ports[n] f.cls < frameUnits f.len → exec (.releaseFrame n) s = .next s))

/-- R48, R49, R384, R433. -/
def Obligations.LinkTraining : Prop :=
  (
    (∀ (n : Fin 128) (m : Master) (s : State), s.Canonical → s.Accepts m (linkAddr n 0x48) → s.srstBusy (.link n) = false →
      s.pageEn (.link n) = true → s.ports[n].training = none → ∀ r : Fin 64, s.cbFree = some r → s.charge 250 ≤ s.avail →
      fld (s.pcfg n) 4 2 ≠ 3 → 1 ≤ fld (s.pcfg n) 0 3 → fld (s.pcfg n) 0 3 ≤ 5 →
      let rate := fld (s.pcfg n) 0 3
      let auto := bitAt (s.pcfg n) 8
      Goes (exec (.linkTraining n m) s) (fun t =>
        t = { s.replied m (linkAddr n 0x48) {} with regs := t.regs, ports := t.ports, callboard := t.callboard, permit := t.permit } ∧
        RegsBut [linkAddr n 0x44, linkAddr n 0x48, linkAddr n 0x18, linkAddr n 0x38C] s t ∧ PortsBut n s t ∧ CbBut r s t ∧
        t.getReg (linkAddr n 0x48) = BitVec.ofNat 32 r.val ∧ t.portUp n = false ∧
        t.callboard[r].cur =
          { kind := 7, ptype := 0x10, pinst := n.val, st := .permitWait, total := BitVec.ofNat 32 (if auto then 4 * rate else 4),
            partials := BitVec.ofNat 32 rate, beat := s.beatno.setWidth 32 } ∧
        t.ports[n].training = some { cb := r, rate, auto, step := 0, granted := false, total := if auto then 4 * rate else 4 } ∧
        t.permit = s.permit.enqueue 1 { who := .train n, mw := 250, since := s.beatno, aged := false })) ∧
    (∀ (n : Fin 128) (s : State), s.Canonical → ∀ tr : Training, s.ports[n].training = some tr → tr.granted = true →
      s.ports[n].phyEn = true → s.ports[n].phyRdy = true → s.callboard[tr.cb].abort = false →
      (tr.step < 3 → Goes (exec (.trainingStepDone n) s) (fun t => t = { s with ports := t.ports, callboard := t.callboard } ∧
        PortsBut n s t ∧ CbBut tr.cb s t ∧ t.ports[n] = { s.ports[n] with training := some { tr with step := tr.step + 1 } } ∧
        t.callboard[tr.cb].cur = { s.callboard[tr.cb].cur with progress := s.callboard[tr.cb].cur.progress + 1 })) ∧
      (3 ≤ tr.step → fld (s.pcfg n) 4 2 = 3 → Goes (exec (.trainingStepDone n) s) (fun t =>
        t = { s with ports := t.ports, callboard := t.callboard, permit := t.permit, regs := t.regs, phyReq := t.phyReq, phyAck := t.phyAck } ∧
        PortsBut n s t ∧ CbBut tr.cb s t ∧ t.portUp n = false ∧ bitAt (t.getReg (linkAddr n 0x44)) 9 = true ∧ t.ports[n].training = none ∧
        t.callboard[tr.cb].cur.st = .failed ∧ t.callboard[tr.cb].cur.result = opDeviceError)) ∧
      (3 ≤ tr.step → fld (s.pcfg n) 4 2 ≠ 3 → Goes (exec (.trainingStepDone n) s) (fun t =>
        t = { s with ports := t.ports, callboard := t.callboard, permit := t.permit, regs := t.regs, fwdQ := t.fwdQ } ∧
        PortsBut n s t ∧ CbBut tr.cb s t ∧ RegsBut [linkAddr n 0x44, 0x1018] s t ∧
        t.portUp n = true ∧ t.portRole n = fld (s.pcfg n) 4 2 ∧ t.ports[n].rate = tr.rate ∧ t.ports[n].training = none ∧
        t.callboard[tr.cb].cur.st = .done ∧ t.callboard[tr.cb].cur.result = BitVec.ofNat 32 (tr.rate * 256) ∧
        (∀ g ∈ t.permit.grants, g.1 ≠ .train n)))) ∧
    (∀ (n : Fin 128) (s : State), s.Canonical → ∀ tr : Training, s.ports[n].training = some tr → tr.granted = true →
      s.callboard[tr.cb].abort = false →
      (tr.auto = true → 1 < tr.rate → Goes (exec (.trainingStepTimeout n) s) (fun t =>
        t = { s with ports := t.ports, callboard := t.callboard, phyReq := t.phyReq } ∧ PortsBut n s t ∧ CbBut tr.cb s t ∧
        t.ports[n].training = some { tr with rate := tr.rate - 1, step := 0 } ∧
        t.callboard[tr.cb].cur = { s.callboard[tr.cb].cur with partials := BitVec.ofNat 32 (tr.rate - 1) })) ∧
      ((tr.auto = false ∨ tr.rate ≤ 1) → Goes (exec (.trainingStepTimeout n) s) (fun t =>
        t = { s with ports := t.ports, callboard := t.callboard, permit := t.permit, regs := t.regs, phyReq := t.phyReq, phyAck := t.phyAck } ∧
        PortsBut n s t ∧ CbBut tr.cb s t ∧ t.portUp n = false ∧ t.ports[n].phyEn = false ∧ t.ports[n].training = none ∧
        t.callboard[tr.cb].cur.st = .failed ∧ t.callboard[tr.cb].cur.result = 4 ∧ (∀ g ∈ t.permit.grants, g.1 ≠ .train n))))) ∧
  (
    (∀ (n : Fin 128) (s : State), exec (.phyReady n) s = .next (s.modPort n (fun p => { p with phyRdy := true }))) ∧
    (∀ (n : Fin 128) (s : State), s.Canonical →
      (s.portUp n = true → Goes (exec (.phyReadyFall n) s) (fun t => t = { s with regs := t.regs, ports := t.ports } ∧ PortsBut n s t ∧
        RegsBut [linkAddr n 0x44, linkAddr n 0x18, linkAddr n 0x38C] s t ∧ t.portUp n = false ∧
        t.getReg (linkAddr n 0x18) = s.getReg (linkAddr n 0x18) ||| 1 ∧
        t.ports[n] = { zeroCounts s.ports[n] with phyRdy := false, lockTry := true, goodMarks := 0, badMarks := 0 })) ∧
      (s.portUp n = false → Goes (exec (.phyReadyFall n) s) (fun t => t = { s with ports := t.ports, phyReq := t.phyReq } ∧ PortsBut n s t ∧
        t.ports[n] = { s.ports[n] with phyRdy := false, phyEn := t.ports[n].phyEn } ∧
        (s.ports[n].training = none → t.ports[n].phyEn = s.ports[n].phyEn ∧ t.phyReq = s.phyReq) ∧
        (∀ tr, s.ports[n].training = some tr → tr.granted = true → s.phyAck[phyGroup n] = true → t.ports[n].phyEn = true)))) ∧
    (∀ (g : Fin 8) (s : State),
      (s.phyReq[g] = false → exec (.phyGroupAck g) s = .next s) ∧
      (s.phyReq[g] = true → Goes (exec (.phyGroupAck g) s) (fun t =>
        t = { s with phyAck := s.phyAck.set g true, ports := t.ports } ∧
        ∀ n, t.ports[n] = if phyGroup n = g ∧ s.ports[n].training.any (·.granted) = true ∧ s.ports[n].phyEn = false ∧ s.ports[n].phyRdy = false
          then { s.ports[n] with phyEn := true } else s.ports[n]))))


/-! ### Parse scripts and the ingress writer (R51 to R53, R57) -/

/-- R25, R51 to R53: the steps that consume no word. -/
def Obligations.ParseNonConsuming : Prop :=
  (∀ (n : Fin 128) (s : State), s.Canonical → ∀ (w : Word64) (cur : Word128), s.parseAt n = some (w, cur) →
    let p := s.ports[n]
    (stepOp w = 1 → Goes (exec (.parseMatch n) s)
      (ParseStepped n { p with step := if stepField w cur = stepImm w then stepTgt w else p.step + 1 } s)) ∧
    (stepOp w = 2 → Goes (exec (.parseAny n) s)
      (ParseStepped n { p with step := if stepField w cur &&& stepImm w ≠ 0 then stepTgt w else p.step + 1 } s)) ∧
    (stepOp w = 3 → Goes (exec (.parseStream n) s) (ParseStepped n { p with
      step := p.step + 1, curStream := BitVec.ofNat 8 (if bitAt w 31 then stepField w cur else stepImm w) } s)) ∧
    (stepOp w = 4 → Goes (exec (.parseTag n) s) (ParseStepped n { p with
      step := p.step + 1, tag := some (stepField w cur, fld w 48 5 + 1),
      closedTo := if s.frEn then max p.closedTo (s.frameOf (extendTag s.beatno (stepField w cur) (fld w 48 5 + 1))) else p.closedTo } s)) ∧
    (stepOp w = 8 → Goes (exec (.parseJump n) s) (ParseStepped n { p with step := stepTgt w } s)) ∧
    (stepOp w = 6 →
      let k := if bitAt w 31 then stepField w cur else stepImm w % 8192
      (k = 0 → Goes (exec (.parseTake n) s) (ParseStepped n { p with step := p.step + 1 } s)) ∧
      (k ≠ 0 → exec (.parseTake n) s = .next (s.modPort n (fun p => { p with takeLeft := k })))) ∧
    (stepOp w = 7 → exec (.parseTakeRest n) s = .next (s.modPort n (fun p => { p with takeRest := true }))) ∧
    (stepOp w ≠ 1 → exec (.parseMatch n) s = .next s) ∧ (stepOp w ≠ 2 → exec (.parseAny n) s = .next s) ∧
    (stepOp w ≠ 3 → exec (.parseStream n) s = .next s) ∧ (stepOp w ≠ 4 → exec (.parseTag n) s = .next s) ∧
    (stepOp w ≠ 6 → exec (.parseTake n) s = .next s) ∧ (stepOp w ≠ 7 → exec (.parseTakeRest n) s = .next s) ∧
    (stepOp w ≠ 8 → exec (.parseJump n) s = .next s)) ∧
  (∀ (n : Fin 128) (s : State), s.parseAt n = none → ∀ row ∈ [Instr.parseMatch n, .parseAny n, .parseStream n, .parseTag n, .parseSkip n,
    .parseTake n, .parseTakeRest n, .parseJump n, .parseDropOp n, .parseReservedOp n], exec row s = .next s) ∧
  (∀ (n : Fin 128) (s : State), s.pageEn (.link n) = false → s.ports[n].step = 0 → s.ports[n].run = 0 → s.parseAt n = none)

/-- R47, R51, R52: the steps that consume words or end the script. -/
def Obligations.ParseConsuming : Prop :=
  (∀ (n : Fin 128) (s : State), s.Canonical → ∀ (f : RxFrame) (rest : List RxFrame), takeFirst isParse s.ports[n].rx = some (f, rest) →
    let p := s.ports[n]
    (p.run < 32 → p.step = 32 → p.takeLeft = 0 → p.takeRest = false → Goes (exec (.parseEnd n) s) (fun t =>
      t = { s with ports := t.ports } ∧ ParseFrameGone n f rest s t)) ∧
    (p.run = 32 → Goes (exec (.parseStepLimit n) s) (fun t => t = { s with ports := t.ports, regs := t.regs } ∧
      ParseFrameGone n f rest s t ∧ RegsBut [linkAddr n 0x58, linkAddr n 0x18, linkAddr n 0x44] s t ∧
      t.getReg (linkAddr n 0x58) = s.getReg (linkAddr n 0x58) + 1 ∧ t.getReg (linkAddr n 0x18) = s.getReg (linkAddr n 0x18) ||| 4 ∧
      t.getReg (linkAddr n 0x44) = s.getReg (linkAddr n 0x44) ||| 0x40)) ∧
    (p.run ≠ 32 → exec (.parseStepLimit n) s = .next s) ∧
    (∀ (w : Word64) (cur : Word128), s.parseAt n = some (w, cur) →
      (stepOp w = 0 → Goes (exec (.parseEnd n) s) (fun t => t = { s with ports := t.ports, regs := t.regs } ∧
        ParseFrameGone n f rest s t ∧ RegsBut [linkAddr n 0x60] s t ∧ Stalled n s t)) ∧
      (stepOp w = 9 → Goes (exec (.parseDropOp n) s) (fun t => t = { s with ports := t.ports, regs := t.regs } ∧
        ParseFrameGone n f rest s t ∧ RegsBut [linkAddr n 0x58, linkAddr n 0x18, linkAddr n 0x60] s t ∧ Stalled n s t ∧
        t.getReg (linkAddr n 0x58) = s.getReg (linkAddr n 0x58) + 1 ∧ t.getReg (linkAddr n 0x18) = s.getReg (linkAddr n 0x18) ||| 4)) ∧
      (10 ≤ stepOp w → Goes (exec (.parseReservedOp n) s) (fun t => t = { s with ports := t.ports, regs := t.regs } ∧
        ParseFrameGone n f rest s t ∧ RegsBut [linkAddr n 0x58, linkAddr n 0x18, linkAddr n 0x44, linkAddr n 0x60] s t ∧ Stalled n s t ∧
        t.getReg (linkAddr n 0x58) = s.getReg (linkAddr n 0x58) + 1 ∧ t.getReg (linkAddr n 0x18) = s.getReg (linkAddr n 0x18) ||| 4 ∧
        t.getReg (linkAddr n 0x44) = s.getReg (linkAddr n 0x44) ||| 0x40)) ∧
      (stepOp w = 5 →
        let k := stepImm w % 8192
        (k = 0 → Goes (exec (.parseSkip n) s) (ParseStepped n { p with step := p.step + 1 } s)) ∧
        (k ≠ 0 → f.words.length ≤ k → Goes (exec (.parseSkip n) s) (fun t =>
          t = { s with ports := t.ports } ∧ ParseFrameGone n f rest s t)) ∧
        (k ≠ 0 → k < f.words.length → Goes (exec (.parseSkip n) s) (fun t => t = { s with ports := t.ports } ∧ PortsBut n s t ∧
          FrameBack n f (unitsLeft f.len (f.words.length - k) - unitsLeft f.len f.words.length) s t ∧
          t.ports[n] = { p with step := p.step + 1, run := 0, rx := { f with words := f.words.drop k } :: rest,
                                granted := t.ports[n].granted, owed := t.ports[n].owed, winOwed := t.ports[n].winOwed }))) ∧
      (stepOp w ≠ 0 → exec (.parseEnd n) s = .next s) ∧ (stepOp w ≠ 5 → exec (.parseSkip n) s = .next s) ∧
      (stepOp w ≠ 9 → exec (.parseDropOp n) s = .next s) ∧ (stepOp w < 10 → exec (.parseReservedOp n) s = .next s)))

/-- R52, R53, R55 to R58: a word that a TAKE delivers. -/
def Obligations.IngressWord : Prop :=
  (∀ (n : Fin 128) (s : State), s.ports[n].takeLeft = 0 → s.ports[n].takeRest = false → exec (.ingressWordWrite n) s = .next s) ∧
  (∀ (n : Fin 128) (s : State), s.Canonical → s.ports[n].takeLeft ≠ 0 ∨ s.ports[n].takeRest = true →
    ∀ (f : RxFrame) (rest : List RxFrame), takeFirst isParse s.ports[n].rx = some (f, rest) → ∀ (w : Word128) (ws : List Word128), f.words = w :: ws →
    let gone := fun (s1 t : State) => PortsBut n s1 t ∧
      FrameBack n f (unitsLeft f.len ws.length - unitsLeft f.len f.words.length) s1 t ∧
      (ws = [] → t.ports[n] = { s1.ports[n] with rx := rest, step := 0, run := 0, takeLeft := 0, takeRest := false, presented := none, taking := none,
                                                 granted := t.ports[n].granted, owed := t.ports[n].owed, winOwed := t.ports[n].winOwed }) ∧
      (ws ≠ [] → t.ports[n].rx = { f with words := ws } :: rest ∧ t.ports[n].run = 0 ∧ t.ports[n].takeRest = s.ports[n].takeRest ∧
        t.ports[n].presented = none ∧
        (s.ports[n].takeRest = false → t.ports[n].takeLeft = s.ports[n].takeLeft - 1 ∧
          t.ports[n].step = s.ports[n].step + (if s.ports[n].takeLeft = 1 then 1 else 0)))
    (s.ports[n].tag = none → Goes (exec (.ingressWordWrite n) s) (fun t => t = { s with ports := t.ports, regs := t.regs } ∧
      gone s t ∧ RegsBut [linkAddr n 0x58, linkAddr n 0x18] s t ∧ t.getReg (linkAddr n 0x58) = s.getReg (linkAddr n 0x58) + 1 ∧ t.getReg (linkAddr n 0x18) = s.getReg (linkAddr n 0x18) ||| 4)) ∧
    (∀ tag width, s.ports[n].tag = some (tag, width) → ∀ (a : Ingress) (s1 : State),
      let fr := s.ports[n].presented.getD (s.frameOf (extendTag s.beatno tag width))
      ingressWord n s.ports[n].curStream.toNat fr w (s.modPort n (fun p => { p with presented := some fr })) = .ok a s1 → s1.Canonical →
      (a = .waits → Goes (exec (.ingressWordWrite n) s) (fun t => t = { s1 with regs := t.regs } ∧ RegsBut [linkAddr n 0x60] s1 t ∧
        t.getReg (linkAddr n 0x60) = s1.getReg (linkAddr n 0x60) + 1)) ∧
      (a ≠ .waits → Goes (exec (.ingressWordWrite n) s) (fun t => t = { s1 with ports := t.ports, regs := t.regs } ∧ gone s1 t ∧
        RegsBut [linkAddr n 0x58, linkAddr n 0x5C, linkAddr n 0x18] s1 t ∧
        t.getReg (linkAddr n 0x58) = s1.getReg (linkAddr n 0x58) + (if a = .dropped then 1 else 0) ∧
        t.getReg (linkAddr n 0x5C) = s1.getReg (linkAddr n 0x5C) + (if a = .late then 1 else 0) ∧
        t.getReg (linkAddr n 0x18) = s1.getReg (linkAddr n 0x18) ||| (if a = .dropped then 4 else if a = .late then 32 else 0))))) ∧
  (∀ (n : Fin 128) (s : State), s.Canonical → s.ports[n].takeLeft ≠ 0 ∨ s.ports[n].takeRest = true →
    ∀ (f : RxFrame) (rest : List RxFrame), takeFirst isParse s.ports[n].rx = some (f, rest) → ∀ (w : Word128) (ws : List Word128), f.words = w :: ws →
    ∀ tag width, s.ports[n].tag = some (tag, width) →
    let fr := s.ports[n].presented.getD (s.frameOf (extendTag s.beatno tag width))
    let st := s.ports[n].curStream.toNat
    let cfg := s.scfg st
    let fixed := bitAt cfg 29
    let sub := if fixed then n.val - fld cfg 8 7 else 0
    let sl := (s.slotOf fr).getD { frame := fr, ready := false, holds := [], written := [], overflow := [] }
    let a := s.frSlotAddr (fr % s.frSlots) + fld (s.getReg (streamAddr st 0x04)) 0 16 * 64 + (sub * s.regionWords st + sl.count st sub) * 16
    s.streamOn st = true → s.frEn = true → s.ports[n].closedTo ≤ fr → s.framePast fr = false → s.slotReady fr = true → s.regionBad st = false →
    (fixed = true → fld cfg 8 7 ≤ n.val ∧ sub ≤ fld cfg 0 7) → (fixed = false → s.takenBy n st fr = false) →
    (s.regionWords st ≤ sl.count st sub → Goes (exec (.ingressWordWrite n) s) (fun t => t.mem = s.mem ∧
      t.getReg (streamAddr st 0x18) = s.getReg (streamAddr st 0x18) + 1 ∧ bitAt (t.getReg (pageBase (streamPage st) + 0x18)) 4 = true)) ∧
    (sl.count st sub < s.regionWords st → s.underBist (.eventBank (Fin.ofNat 1024 (emBank a))) = false →
      s.awake (.eventBank (Fin.ofNat 1024 (emBank a))) = true → Goes (exec (.ingressWordWrite n) s) (fun t =>
        (∀ i : Nat, i < 16 → t.byteAt (a + i) = BitVec.ofNat 8 (w.toNat / 2 ^ (8 * i))) ∧
        (∀ x : Nat, x < a ∨ a + 16 ≤ x → t.byteAt x = s.byteAt x) ∧
        ∃ sl', t.slotOf fr = some sl' ∧ sl'.count st sub = sl.count st sub + 1 ∧ sl'.overflow = sl.overflow ∧ sl'.frame = sl.frame ∧
          ∀ st' sub', (st', sub') ≠ (st, sub) → sl'.count st' sub' = sl.count st' sub')))

/-! ### The frame ring and the rings (R54 to R65) -/

/-- R54, R58, R59, R64, R65: the rows of the frame ring. -/
def Obligations.FrameRing : Prop :=
  (∀ (m : Master) (data : Word) (s : State), s.Canonical → s.Accepts m 0x100304 → s.srstBusy (.link 0) = false →
    let d := withBit data 31 &&& 0x803FFFFF
    let e := withoutBit data 31 &&& 0x803FFFFF
    let fits := fld (s.getReg 0x100300) 12 15 * 4096 + (fld d 0 12 + 1) * (4096 * 2 ^ fld d 12 4) ≤ 0x08000000
    (s.frEn = true → exec (.frameRingEnable m data) s = .next (s.replied m 0x100304 {})) ∧
    (s.frEn = false → fld d 12 4 ≤ 8 → fits → Goes (exec (.frameRingEnable m data) s) (fun t =>
      t = { s.replied m 0x100304 {} with regs := t.regs, frames := t.frames, ports := t.ports } ∧ RegsBut [0x100304] s t ∧
      t.getReg 0x100304 = d ∧ t.frames = { oldest := s.beatno.toNat / (fld d 16 6 + 1), entries := s.frames.entries } ∧
      ∀ n : Fin 128, t.ports[n] = { s.ports[n] with closedTo := 0, waiting := none })) ∧
    (s.frEn = false → (8 < fld d 12 4 ∨ ¬ fits) → Goes (exec (.frameRingEnable m data) s) (fun t =>
      t = { s.replied m 0x100304 {} with regs := t.regs } ∧ RegsBut [0x100304, 0x10000C] s t ∧ t.frEn = false ∧
      t.getReg 0x10000C = s.getReg 0x10000C ||| 8)) ∧
    (s.frEn = true → Goes (exec (.frameRingDisable m data) s) (fun t =>
      t = { s.replied m 0x100304 {} with regs := t.regs, frames := { entries := s.frames.entries }, ports := t.ports } ∧
      RegsBut (0x100304 :: (List.finRange 128).map (fun n => linkAddr n 0x44)) s t ∧ t.getReg 0x100304 = e ∧
      ∀ n : Fin 128, t.ports[n] = { s.ports[n] with waiting := none, presented := none, taking := none })) ∧
    (s.frEn = false → Goes (exec (.frameRingDisable m data) s) (fun t =>
      t = { s.replied m 0x100304 {} with regs := t.regs } ∧ RegsBut [0x100304] s t ∧ t.getReg 0x100304 = e))) ∧
  (∀ (f : Word64) (s : State),
    let due := fun n : Fin 128 => s.frContributes n && decide (s.ports[n].closedTo ≤ f.toNat) &&
      beatLe (BitVec.ofNat 64 (f.toNat * s.frSpan + s.frSpan + s.regN (linkAddr n 0x4C))) s.beatno
    (s.frEn = false ∨ f.toNat < s.frames.oldest ∨ (∀ n, due n = false) → exec (.closeTimeout f) s = .next s) ∧
    (s.frEn = true → s.frames.oldest ≤ f.toNat → (¬ ∀ n, due n = false) → Goes (exec (.closeTimeout f) s) (fun t =>
      t = { s with ports := t.ports, frames := { s.frames with incomplete := t.frames.incomplete } } ∧
      (∀ g : Nat, t.frames.isIncomplete g = true ↔ s.frames.isIncomplete g = true ∨
        (g ≤ f.toNat ∧ ∃ n, due n = true ∧ max s.frames.oldest s.ports[n].closedTo ≤ g)) ∧
      ∀ n : Fin 128, t.ports[n] = if due n then { s.ports[n] with closedTo := f.toNat + 1 } else s.ports[n]))) ∧
  (∀ s : State,
    let f := s.frames.oldest
    let sl := (s.slotOf f).getD { frame := f, ready := false, holds := [], written := [], overflow := [] }
    let sl1 : Slot := { sl with ready := true }
    let u := s.modFrames (fun fr => { fr.putSlot (f % s.frSlots) sl1 with emptyWait := false })
    let todo := (List.range 256).filter (fun st => s.streamOn st && !s.frames.committed.contains st)
    (s.frEn = false ∨ s.frameClosed f = false → exec .frameReady s = .next s) ∧
    (s.frEn = true → s.frameClosed f = true → sl.frame ≠ f → s.frames.emptyWait = false →
      (∀ e ∈ s.frames.entries, bitAt (s.scfg e.stream) 30 = false) →
      exec .frameReady s = .next (((s.incReg 0x10031C).irq (.link 0) 6).modFrames (fun fr => { fr with emptyWait := true }))) ∧
    (s.frEn = true → s.frameClosed f = true → sl.frame = f →
      (todo = [] → Goes (exec .frameReady s) (fun t => t = { s with frames := t.frames } ∧ t.frames.oldest = f + 1 ∧
        t.frames.committed = [] ∧ t.frames.entries = s.frames.entries)) ∧
      (∀ st rest, todo = st :: rest →
        let r := s.sring st
        let usable := s.ringEn r && !s.ringMemErr r && s.ringLegal r
        let shed := bitAt (s.scfg st) 30
        let first := s.frames.entries.find? (fun e => e.stream == st)
        (usable = false ∨ (shed = true ∧ (s.ringStuck r = true ∨ (s.readyCount st < s.shedDepth st ∧ s.reservePeek r = none ∧
            (s.ringFull r = false ∨ first = none)))) →
          ∀ t, frameReady (((u.incReg (streamAddr st 0x14)).irq (streamPage st) 3).modFrames
            (fun fr => { fr with committed := st :: fr.committed })) = .ok () t → exec .frameReady s = .next t) ∧
        (usable = true → shed = false → s.reservePeek r = none → exec .frameReady s = .next u) ∧
        (usable = true → (shed = true → s.ringStuck r = false ∧ s.readyCount st < s.shedDepth st ∧ s.ringFull r = false) →
          ∀ k s1, ringPut r (bytesLE 8 (f * s.frSpan) ++
            bytesLE 4 ((s.frSlotAddr (f % s.frSlots) + fld (s.getReg (streamAddr st 0x04)) 0 16 * 64) % 2 ^ 27) ++
            bytesLE 4 (((sl.written.filter (fun w => w.1 == st)).map (fun w => w.2.2)).sum % 2 ^ 20 + st * 2 ^ 20 +
              b2n (s.frames.isIncomplete f) * 2 ^ 28 + b2n (sl.overflow.contains st) * 2 ^ 30)) u = .ok (.done k) s1 →
          ∀ t, frameReady ((s1.incReg (streamAddr st 0x10)).modFrames (fun fr =>
            { fr.putSlot (f % s.frSlots) { sl1 with holds := sl.holds ++ [(st, false)] } with
              committed := st :: fr.committed, entries := fr.entries ++ [{ stream := st, ring := r, k, frame := f }] })) = .ok () t →
          exec .frameReady s = .next t) ∧
        (usable = true → shed = true → s.ringStuck r = false → (s.shedDepth st ≤ s.readyCount st ∨ s.ringFull r = true) →
          ∀ e, first = some e → e.ring = r → e.k = s.ringHead r → s.ringUsed r ≤ s.ringSlots r →
          (s.relAhead r).contains (s.ringRelCount r) = false → (s.ringRelCount r = s.ringHead r → s.relAhead r = []) →
          ∀ b s1 s2, memRead gateway (s.entryAddr r e.k + 12) 4 u = .ok b s1 →
          memWrite gateway (s.entryAddr r e.k + 12) ((bytesLE 4 (putBit (wordLE b) 29 true).toNat).map some) s1 = .ok () s2 →
          ∀ t, frameReady (((((s2.setReg (ringBase r + 0x0C) (e.k + 1)).ringReleased r e.k).modFrames
            (fun fr => ({ fr with entries := fr.entries.erase e } : Frames).dropHold e.frame st)).incReg (streamAddr st 0x14)).irq
              (streamPage st) 3) = .ok () t → exec .frameReady s = .next t)))) ∧
  (∀ (m : Master) (data : Word) (s : State), s.Accepts m 0x100318 → s.srstBusy (.link 0) = false →
    let st := fld data 0 8
    (s.frames.slots.find? (fun p => p.1 == fld data 16 12) = none → exec (.frRelease m data) s = .next (s.replied m 0x100318 {})) ∧
    (∀ p, s.frames.slots.find? (fun p => p.1 == fld data 16 12) = some p →
      (p.2.holds.contains (st, true) = false → exec (.frRelease m data) s = .next (s.replied m 0x100318 {})) ∧
      (p.2.holds.contains (st, true) = true → exec (.frRelease m data) s = .next { s.replied m 0x100318 {} with
        frames := { s.frames with
          slots := (s.frames.slots.map (fun q => if q.2.frame = p.2.frame then (q.1, { q.2 with holds := q.2.holds.filter (fun h => h.1 ≠ st) })
            else q)).filter (fun q => !(q.2.ready && q.2.holds.isEmpty && !(q.2.frame == s.frames.oldest))) } })))

/-- R61, R62. -/
def Obligations.RingRows : Prop :=
  ∀ (i : Fin 16384) (m : Master) (s : State), s.Canonical → spWf (fun _ => []) s.ringAhead = true → spWf (fun _ => []) s.ringRel = true →
    let r := i.val
    let b := ringBase r
    let rw : Word := if r < 4096 then 0x1F else if r < 8192 then 0x1FFDF else 0xF01FFDF
    (s.takes m (b + 0x1C) = true →
      (isStagehand m = true → exec (.ringReserve i m) s = .next (s.replied m (b + 0x1C) { data := (s.reservePeek r).getD 0xFFFFFFFF })) ∧
      (isStagehand m = false →
        (∀ k, s.reservePeek r = some k → Goes (exec (.ringReserve i m) s) (fun t =>
          t = { s.replied m (b + 0x1C) { data := k } with regs := t.regs } ∧ RegsBut [b + 0x14] s t ∧ k = s.ringRsv r ∧ t.ringRsv r = k + 1)) ∧
        (s.reservePeek r = none → Goes (exec (.ringReserve i m) s) (fun t =>
          t = { s.replied m (b + 0x1C) { data := 0xFFFFFFFF } with regs := t.regs } ∧ RegsBut [b + 0x28] s t ∧
          t.getReg (b + 0x28) = s.getReg (b + 0x28) + (if s.ringEn r ∧ s.ringLegal r then 1 else 0))))) ∧
    (s.takes m (b + 0x18) = true →
      (isStagehand m = true → exec (.ringPop i m) s = .next (s.replied m (b + 0x18) { data := (s.popPeek r).getD 0xFFFFFFFF })) ∧
      (isStagehand m = false →
        (∀ k, s.popPeek r = some k → Goes (exec (.ringPop i m) s) (fun t =>
          t = { s.replied m (b + 0x18) { data := k } with regs := t.regs, frames := takeHold s.frames r k } ∧ RegsBut [b + 0x0C] s t ∧
          k = s.ringHead r ∧ t.ringHead r = k + 1)) ∧
        (s.popPeek r = none → Goes (exec (.ringPop i m) s) (fun t =>
          t = { s.replied m (b + 0x18) { data := 0xFFFFFFFF } with regs := t.regs } ∧ RegsBut [b + 0x24] s t ∧
          t.getReg (b + 0x24) = s.getReg (b + 0x24) ||| (if 4096 ≤ r ∧ s.ringEn r ∧ s.ringLegal r then 4 else 0))))) ∧
    (s.Accepts m (b + 0x20) →
      (∀ k : Word, (countIn (s.ringTail r) (s.ringRsv r) k = false ∨ (s.ahead r).contains k = true) →
        Goes (exec (.ringCommit i m k) s) (fun t => t = { s.replied m (b + 0x20) {} with regs := t.regs } ∧ RegsBut [b + 0x24] s t ∧
          t.getReg (b + 0x24) = s.getReg (b + 0x24) ||| 1)) ∧
      (∀ k : Word, countIn (s.ringTail r) (s.ringRsv r) k = true → (s.ahead r).contains k = false → (s.ahead r).contains (s.ringTail r) = false →
        (k ≠ s.ringTail r → Goes (exec (.ringCommit i m k) s) (fun t => t = { s.replied m (b + 0x20) {} with ringAhead := t.ringAhead } ∧
          t.ahead r = k :: s.ahead r ∧ ∀ r', r' ≠ r → t.ahead r' = s.ahead r')) ∧
        (k = s.ringTail r → Goes (exec (.ringCommit i m k) s) (fun t =>
          t = { s.replied m (b + 0x20) {} with regs := t.regs, ringAhead := t.ringAhead, engines := t.engines } ∧ RegsBut [b + 0x10] s t ∧
          (t.ahead r, t.ringTail r) = runOver (s.ahead r).length (s.ahead r) (k + 1) ∧ (t.ahead r).contains (t.ringTail r) = false ∧
          (s.ahead r = [] → t.ringTail r = k + 1 ∧ t.ahead r = []) ∧ (∀ r', r' ≠ r → t.ahead r' = s.ahead r') ∧
          ∀ e : Fin 257, t.engines[e] = if s.ringOwner r = some e then { s.engines[e] with evl := s.engines[e].evl ||| 1 } else s.engines[e])))) ∧
    (s.Accepts m (b + 0x2C) →
      (∀ k : Word, (countIn (s.ringRelCount r) (s.ringHead r) k = false ∨ (s.relAhead r).contains k = true) →
        Goes (exec (.ringRelease i m k) s) (fun t => t = { s.replied m (b + 0x2C) {} with regs := t.regs } ∧ RegsBut [b + 0x24] s t ∧
          t.getReg (b + 0x24) = s.getReg (b + 0x24) ||| 8)) ∧
      (∀ k : Word, countIn (s.ringRelCount r) (s.ringHead r) k = true → (s.relAhead r).contains k = false →
        (s.relAhead r).contains (s.ringRelCount r) = false → Goes (exec (.ringRelease i m k) s) (fun t =>
          t = { s.replied m (b + 0x2C) {} with regs := t.regs, ringRel := t.ringRel } ∧ RegsBut [b + 0x30] s t ∧
          (∀ r', r' ≠ r → t.relAhead r' = s.relAhead r') ∧
          (k ≠ s.ringRelCount r → t.ringRelCount r = s.ringRelCount r ∧ t.relAhead r = k :: s.relAhead r) ∧
          (k = s.ringRelCount r → (t.relAhead r, t.ringRelCount r) = runOver (s.relAhead r).length (s.relAhead r) (k + 1) ∧
            (t.relAhead r).contains (t.ringRelCount r) = false ∧
            (s.relAhead r = [] → t.ringRelCount r = k + 1 ∧ t.relAhead r = []))))) ∧
    (s.Accepts m (b + 0x08) → ∀ data : Word,
      (s.ringEn r = false → Goes (exec (.ringEnable i m data) s) (fun t =>
        t = { s.replied m (b + 0x08) {} with regs := t.regs, ringAhead := t.ringAhead, ringRel := t.ringRel, frames := t.frames } ∧
        RegsBut [b + 0x08, b + 0x0C, b + 0x10, b + 0x14, b + 0x30] s t ∧
        t.ringCtrl r = 0x80000000 ||| (s.ringCtrl r &&& ~~~rw) ||| (data &&& rw) ∧
        t.frames.entries = s.frames.entries.filter (fun e => e.ring != r) ∧ t.ringHead r = 0 ∧ t.ringTail r = 0 ∧
        t.ringRsv r = 0 ∧ t.ringRelCount r = 0 ∧ t.ahead r = [] ∧ t.relAhead r = [] ∧
        ∀ r', r' ≠ r → t.ahead r' = s.ahead r' ∧ t.relAhead r' = s.relAhead r')) ∧
      (s.ringEn r = true → exec (.ringEnable i m data) s = .next (s.replied m (b + 0x08) {})) ∧
      (s.ringEn r = true → Goes (exec (.ringDisable i m data) s) (fun t =>
        t = { s.replied m (b + 0x08) {} with regs := t.regs, ringAhead := t.ringAhead } ∧ RegsBut [b + 0x08, b + 0x14] s t ∧
        t.ringCtrl r = (s.ringCtrl r &&& ~~~rw &&& 0x7FFFFFFF) ||| (data &&& rw) ∧
        t.ringEn r = false ∧ t.ringRsv r = s.ringTail r ∧ t.ringTail r = s.ringTail r ∧ t.ahead r = [] ∧
        ∀ r', r' ≠ r → t.ahead r' = s.ahead r')) ∧
      (s.ringEn r = false → Goes (exec (.ringDisable i m data) s) (fun t =>
        t = { s.replied m (b + 0x08) {} with regs := t.regs } ∧ RegsBut [b + 0x08] s t ∧
        t.ringCtrl r = (s.ringCtrl r &&& ~~~rw) ||| (data &&& rw))))

/-! ### Vector cues: issue, pipes, steps, ends (R68 to R101) -/

/-- R71, R72, R94, R448. -/
def Obligations.CueIssue : Prop :=
  (∀ (i : Fin 4096) (s : State), s.mayServe i.val = false → exec (.cueIssue i) s = .next s) ∧
  (∀ (i : Fin 4096) (s : State), s.mayServe i.val = true → ∀ (tk : Taken) (s1 : State), takeCues i.val s = .ok tk s1 →
    tk.members.any (fun m => m.2.isNone) = true → s1.Canonical →
    Goes (exec (.cueIssue i) s) (fun t =>
      t = { s1 with regs := t.regs, groups := t.groups, ringRel := t.ringRel } ∧
      t.ringHead i.val = s1.ringHead i.val + BitVec.ofNat 32 tk.members.length ∧
      t.groups[cueGroup i.val].chains = s1.groups[cueGroup i.val].chains ∧
      t.getReg (groupAddr (cueGroup i.val) 0x110) = s1.getReg (groupAddr (cueGroup i.val) 0x110) + BitVec.ofNat 32 tk.members.length ∧
      bitAt (t.getReg (groupAddr (cueGroup i.val) 0x108)) 1 = true)) ∧
  (∀ (i : Fin 4096) (s : State), s.mayServe i.val = true →
    ∀ (ws : List Word) (s1 : State), takeCues i.val s = .ok { members := [(s.ringHead i.val, some ws)], bad := false } s1 → s1.Canonical →
    let r := i.val
    let g := cueGroup r
    let s2 := (s1.served r).ringConsume r (s1.ringHead r) 1
    let m := (typeMembers none [{ words := ws, k := s.ringHead r }]).headD { words := [], k := 0 }
    let cclass := costClass m.cost
    (∀ wins, s2.fare r false m = .ok wins → Goes (exec (.cueIssue i) s) (fun t =>
      t = { s2 with groups := t.groups, nextChain := s2.nextChain + 1 } ∧ (∀ g', g' ≠ g → t.groups[g'] = s2.groups[g']) ∧
      t.groups[g] = { s2.groups[g] with chains := t.groups[g].chains } ∧
      ∃ c, t.groups[g].chains = s2.groups[g].chains ++ [c] ∧ c.id = s2.nextChain ∧ c.ring = r ∧ c.eng = r / 16 ∧ c.cclass = cclass ∧
        c.pipes = [] ∧ c.members.map (·.words) = [ws] ∧
        c.stage = if bitAt m.ctrl 23 = true ∧ s2.fenced r s2.nextChain = true then .fence else .pipes)) ∧
    (s2.fare r false m = .drop → Goes (exec (.cueIssue i) s) (fun t => t = { s2 with regs := t.regs } ∧
      RegsBut [groupAddr g 0x108, pageBase (groupPage g) + 0x18, groupAddr g 0x10C, groupAddr g 0x110] s2 t ∧
      t.getReg (groupAddr g 0x108) = s2.getReg (groupAddr g 0x108) ||| 1 ∧ t.getReg (groupAddr g 0x10C) = BitVec.ofNat 32 r ∧
      t.getReg (groupAddr g 0x110) = s2.getReg (groupAddr g 0x110) + 1)) ∧
    (∀ e : IssueErr, s2.fare r false m = .fail e →
      let bytes := recBytes g r m { final := true, code := e.1, fstream := e.2.1, faddr := e.2.2, cclass, result := m.result0 }
      (∀ s3, recPut g (r / 16) m.cring bytes s2 = .ok true s3 → exec (.cueIssue i) s = .next s3) ∧
      (∀ s3, recPut g (r / 16) m.cring bytes s2 = .ok false s3 → exec (.cueIssue i) s = .next
        (s3.modGroup g (fun gr => { gr with recs := gr.recs ++ [{ ring := r, eng := r / 16, cring := m.cring, bytes }] }))))) ∧
  (∀ (i : Fin 4096) (s : State),
    let g := cueGroup i.val
    (takeFirst (fun c : Chain => c.ring == i.val && c.stage == .fence) s.groups[g].chains = none → exec (.fenceWaitEnd i) s = .next s) ∧
    (∀ (c : Chain) (rest : List Chain), takeFirst (fun c : Chain => c.ring == i.val && c.stage == .fence) s.groups[g].chains = some (c, rest) →
      (s.fenced i.val c.id = true → exec (.fenceWaitEnd i) s = .next s) ∧
      (s.fenced i.val c.id = false → exec (.fenceWaitEnd i) s =
        .next (s.modGroup g (fun gr => { gr with chains := rest ++ [{ c with stage := .pipes }] })))))

/-- R71, R72, R86, R99, R385, R387, R449. -/
def Obligations.PipeAssign : Prop :=
  ∀ (p : Fin 64) (s : State), s.Canonical →
    let g := groupOf p
    let waits := s.groups[g].chains.filter (fun c => c.stage == .pipes)
    let first := (waits.filter (·.urgent) ++ waits.filter (fun c => !c.urgent)).head?
    (s.pipeFree p = false ∨ first = none → exec (.pipeAssign p) s = .next s) ∧
    (∀ c, first = some c → s.pipeFree p = true →
      let c1 : Chain := { c with pipes := c.pipes ++ [p.val % 8] }
      let placed := fun (x : Chain) => s.groups[g].chains.map (fun d => if d.id = c.id then x else d)
      let h := c.members.headD { words := [], k := 0 }
      let mw := 50 * (c.cclass + 1)
      let ch := s.charge mw
      let q := durationClass h.n
      let nowait := bitAt h.ctrl 29
      let started := fun (s1 t : State) =>
        t = { s1 with pipes := t.pipes, groups := t.groups, regs := t.regs } ∧ RegsBut ((List.range 16).map (chainAddr g)) s1 t ∧
        (∀ g', g' ≠ g → t.groups[g'] = s.groups[g']) ∧
        t.groups[g] = { s.groups[g] with chains := placed { c1 with stage := .running }, claims := t.groups[g].claims } ∧
        (∀ x : Fin 64, x.val / 8 ≠ g.val ∨ x.val % 8 ∉ c1.pipes → t.pipes[x] = s.pipes[x]) ∧
        (∀ i m j, c.members[i]? = some m → c1.pipes[i]? = some j →
          t.pipes[Fin.ofNat 64 (8 * g.val + j)] = some { chain := c.id, idx := i, eng := c.eng, ring := c.ring, cclass := c.cclass, m
                                                         inPlace := if m.ownStreams.contains 3 then s.inPlace m else [] } ∧
          ((m.desc 3).fill = true → m.fuse = 0 ∨ m.fuse = 3 → t.getReg (chainAddr g (fld m.cnt 28 4)) = 0x80000000)) ∧
        ((∀ m ∈ c.members, (m.desc 3).fill = false ∨ (m.fuse ≠ 0 ∧ m.fuse ≠ 3)) → t.regs = s1.regs ∧ t.groups[g].claims = s.groups[g].claims)
      (c1.pipes.length < c.members.length →
        exec (.pipeAssign p) s = .next (s.modGroup g (fun gr => { gr with chains := placed c1 }))) ∧
      (c1.pipes.length = c.members.length → c1.pipes.Nodup → (∀ j ∈ c1.pipes, j < 8) →
        (c.cclass = 0 → Goes (exec (.pipeAssign p) s) (started s)) ∧
        (c.cclass ≠ 0 → nowait = false → ch ≤ s.avail → Goes (exec (.pipeAssign p) s) (fun t =>
          t = { s with permit := t.permit, groups := t.groups, regs := t.regs } ∧ RegsBut [groupAddr g 0x118] s t ∧
          t.getReg (groupAddr g 0x118) = s.getReg (groupAddr g 0x118) + (if s.grantNow ch q then 0 else 1) ∧
          t.permit = s.permit.enqueue q { who := .cue c.id, mw, since := s.beatno, aged := false } ∧
          (∀ g', g' ≠ g → t.groups[g'] = s.groups[g']) ∧ t.groups[g] = { s.groups[g] with chains := placed { c1 with stage := .permit } })) ∧
        (c.cclass ≠ 0 → nowait = true → ch ≤ s.avail → s.grantNow ch q = true → ∀ s1 : State,
          s1 = (((s.modPermit (fun x => { x with grants := x.grants ++ [(.cue c.id, ch)] })).incReg 0x205C).modReg 0x2068
            (fun w => BitVec.ofNat 32 (max w.toNat (s.granted + ch)))) → Goes (exec (.pipeAssign p) s) (started s1)) ∧
        (c.cclass ≠ 0 → s.avail < ch ∨ (nowait = true ∧ s.grantNow ch q = false) →
          ∃ u : State, u = { s with regs := u.regs, groups := u.groups } ∧ RegsBut [0x2060, 0x2064, 0x2018, groupAddr g 0x11C] s u ∧
            u.getReg 0x2064 = s.getReg 0x2064 + (if s.avail < ch then 1 else 0) ∧ u.getReg 0x2060 = s.getReg 0x2060 + (if nowait then 1 else 0) ∧
            u.getReg 0x2018 = s.getReg 0x2018 ||| 2 ∧
            u.getReg (groupAddr g 0x11C) = s.getReg (groupAddr g 0x11C) + BitVec.ofNat 32 c.members.length ∧
            (∀ g', g' ≠ g → u.groups[g'] = s.groups[g']) ∧
            u.groups[g] = { s.groups[g] with
              chains := s.groups[g].chains.filter (fun d => d.id ≠ c.id)
              recs := s.groups[g].recs ++ (c.members.zip c1.pipes).map (fun x =>
                { ring := c.ring, eng := c.eng, cring := x.1.cring, bytes := recBytes g c.ring x.1
                    { final := true, pipe := x.2, code := 4, cclass := c.cclass, result := x.1.result0 } }) } ∧
            (∀ t, flushRecs g u.groups[g].recs u = .ok () t → exec (.pipeAssign p) s = .next t) ∧
            (∀ w v, flushRecs g u.groups[g].recs u = .error (.wait w) v → exec (.pipeAssign p) s = .next (u.settle w)))))

/-- R82, R83, R90, R100, R119. -/
def Obligations.ElementStep : Prop :=
  (∀ (p : Fin 64) (s : State),
    (s.pipes[p] = none → exec (.elementStep p) s = .next s) ∧
    (∀ r, s.pipes[p] = some r → (r.fin.isSome = true ∨ (s.chainPipes (groupOf p) r.chain).any (fun x => s.frozen (.pipe x.1)) = true) →
      exec (.elementStep p) s = .next s)) ∧
  (∀ (p : Fin 64) (s : State), ∀ r, s.pipes[p] = some r → r.fin = none → r.m.whole = false → s.chainPipes (groupOf p) r.chain = [(p, r)] →
    s.frozen (.pipe p) = false → r.done < r.m.n → r.m.prog = 0 →
    let e := max 1 r.m.perStep
    let i1 := min r.m.n ((r.done / e + 1) * e)
    ∀ els s1, elLoop (groupOf p) r.done [r] (i1 - r.done) s = .ok (els, none) s1 →
    ∀ s2, putElems (els.filterMap (·.2)) (els.length + 1) i1 s1 = .ok none s2 →
    Goes (exec (.elementStep p) s) (fun t => t = { s2 with regs := t.regs, pipes := t.pipes, permit := t.permit, freeIndex := t.freeIndex } ∧
      (∀ q, q ≠ p → t.pipes[q] = s2.pipes[q]) ∧
      ∃ r', t.pipes[p] = some r' ∧ r'.done = i1 ∧ r'.m = r.m ∧ r'.fin = if i1 = r.m.n then some endOk else none)) ∧
  (∀ (p : Fin 64) (s : State), ∀ r, s.pipes[p] = some r → r.fin = none → r.m.whole = true →
    (s.chainPipes (groupOf p) r.chain).any (fun x => s.frozen (.pipe x.1)) = false → (r.m.op 0 = 0x82 → r.m.param5 % 2 = 1 → r.bins ≠ []) →
    (r.taken < r.m.n →
      let e := max 1 (if r.m.op 0 = 0x84 then r.m.perStep else etPerStep r.m.lanes r.m.wt)
      ∀ r' s1, wholeReads (groupOf p) r (min r.m.n ((r.taken / e + 1) * e) - r.taken) s = .ok (r', none) s1 →
      Goes (exec (.elementStep p) s) (fun t => t = { s1 with regs := t.regs, pipes := t.pipes, permit := t.permit, freeIndex := t.freeIndex } ∧
        t.pipes[p] = some r' ∧ (∀ q, q ≠ p → t.pipes[q] = s1.pipes[q]))) ∧
    ((r.m.accumulates && r.bins.isEmpty || decide (r.m.n ≤ r.taken ∧ r.done = 0)) = true → s.binsBusy p r = true →
      exec (.elementStep p) s = .next s) ∧
    (r.m.n ≤ r.taken → r.m.prog = 0 → (r.done = 0 → s.binsBusy p r = false) →
      let e := max 1 r.m.perStep
      let nd := r.wholeOut.outs.length
      let k := min nd ((r.done / e + 1) * e) - r.done
      let r' := { r with done := r.done + k, flags := r.wholeOut.flagsAt (r.done + k), fin := if r.done + k < nd then none else some endOk }
      ∀ s1, putElems (wholeWrites r r.wholeOut s.freeIndex k) (k + 1) (r.done + k) s = .ok none s1 →
      Goes (exec (.elementStep p) s) (fun t => t.pipes[p] = some r' ∧ (∀ q, q ≠ p → t.pipes[q] = s1.pipes[q]) ∧
        (nd ≤ r.done + k → r'.result = r.wholeOut.result) ∧
        (r.m.freeOut = false → r.done + k < nd ∨ r.m.overlaps nd = false → t = { s1 with regs := t.regs, pipes := t.pipes, permit := t.permit, freeIndex := t.freeIndex }))))

/-- R88, R92, R94, R99, R101, R108. -/
def Obligations.ChainEnds : Prop :=
  (∀ (p : Fin 64) (s : State), ∀ r, s.pipes[p] = some r → r.fin = none →
    let g := groupOf p
    let tmo := fld (s.getReg (groupAddr g 0x100)) 0 16
    let l := s.chainPipes g r.chain
    (r.waitSince = none ∨ tmo = 0 → exec (.chainTimeout p) s = .next s) ∧
    (∀ b, r.waitSince = some b → tmo ≠ 0 →
      ((s.beatno - b).toNat < tmo → exec (.chainTimeout p) s = .next s) ∧
      (tmo ≤ (s.beatno - b).toNat → ∀ k, r.m.fillSource = some k →
        let need := if r.m.whole then (if k = 0 ∧ r.m.op 0 = 0x84 then r.used else r.taken) else r.m.ahead k r.done
        let count := fld (s.getReg (chainAddr g (fld r.m.cnt 24 4))) 0 20
        (need < count → exec (.chainTimeout p) s = .next s) ∧
        (count ≤ need → (∀ x ∈ l, x.2.m.whole = true →
            x.2.m.overlaps (if x.2.m.n ≤ x.2.taken then x.2.wholeOut.outs.length else x.2.m.nD) = false) →
          Goes (exec (.chainTimeout p) s) (fun t =>
            t = { s with pipes := t.pipes, regs := t.regs } ∧ RegsBut ((List.range 16).map (chainAddr g)) s t ∧
            (∀ q, q ∉ l.map (·.1) → t.pipes[q] = s.pipes[q]) ∧
            (∀ x ∈ l, t.pipes[x.1] = some { x.2 with
              waitSince := none
              fin := some { code := if x.2.idx = r.idx then 9 else 7, fstream := 0, faddr := 0, result := none } })))))) ∧
  (∀ (p : Fin 64) (s : State), s.pipes[p] = none → exec (.chainTimeout p) s = .next s) ∧
  (∀ (p : Fin 64) (s : State), s.Canonical → s.groups[groupOf p].recs = [] →
    (s.pipes[p].all (fun r => r.fin.isNone) = true → exec (.finalRecord p) s = .next s) ∧
    (∀ r, s.pipes[p] = some r → ∀ f, r.fin = some f →
      let g := groupOf p
      let s0 := if f.result.isNone then (s.finalResult r).2 else s
      let bytes := recBytes g r.ring r.m
        { final := true, pipe := p.val % 8, code := f.code, fstream := f.fstream, faddr := f.faddr, cclass := r.cclass,
          flags := r.flags, done := r.done, result := f.result.getD (s.finalResult r).1 }
      let a := pageBase (.pipe p)
      let quiet := f.code == 0 && bitAt r.m.ctrl 28
      let gone := fun (s1 t : State) => t = { s1 with regs := t.regs, pipes := s1.pipes.set p none, permit := t.permit, groups := t.groups } ∧
        RegsBut [a + 0x50, a + 0x60, a + 0x18] s1 t ∧ t.getReg (a + 0x50) = s1.getReg (a + 0x50) + 1 ∧
        t.getReg (a + 0x60) = s1.getReg (a + 0x60) + (if f.code = 0 then 0 else 1) ∧
        t.getReg (a + 0x18) = s1.getReg (a + 0x18) ||| (if f.code = 0 then 0 else if f.code = 9 then 3 else 1) ∧
        t.permit = (if r.m.fuse = 0 ∨ r.m.fuse = 3 then { s1.permit with grants := s1.permit.grants.filter (fun x => x.1 ≠ .cue r.chain) }
          else s1.permit) ∧
        (∀ g', g' ≠ g → t.groups[g'] = s1.groups[g']) ∧
        t.groups[g] = { s1.groups[g] with
          chains := match s1.groups[g].chains.find? (fun c => c.id == r.chain) with
            | none => s1.groups[g].chains
            | some c => if c.members.length ≤ c.ended + 1 then s1.groups[g].chains.filter (fun d => d.id ≠ r.chain)
              else s1.groups[g].chains.map (fun d => if d.id = r.chain then { d with ended := d.ended + 1 } else d) }
      (quiet = true → Goes (exec (.finalRecord p) s) (gone s0)) ∧
      (quiet = false → ∀ s1, recPut g r.eng r.m.cring bytes s0 = .ok true s1 → s1.Canonical →
        Goes (exec (.finalRecord p) s) (gone s1)) ∧
      (quiet = false → ∀ s1, recPut g r.eng r.m.cring bytes s0 = .ok false s1 → exec (.finalRecord p) s = .next s1)))

/-! ### Power (R383 to R391) -/

/-- R383, R385, R386, R388, R390. -/
def Obligations.PermitGrants : Prop :=
  (∀ s : State, s.Canonical → (∀ j : Fin 16, s.bists[j] = none) → s.bulk = none →
      (s.nextGrant = none → exec .permitGrant s = .next s) ∧
      (∀ c, s.nextGrant = some c → ∀ r rest, s.permit.queue c = r :: rest →
        Goes (exec .permitGrant s) (fun t => ∃ u : State, t = u.grantStarts r.who ∧ (∀ x, r.who = .wake x → t = u) ∧
          u = { s with regs := u.regs, permit := u.permit } ∧ RegsBut [0x205C, 0x2068] s u ∧
          u.permit.grants = s.permit.grants ++ [(r.who, s.charge r.mw)] ∧ u.granted = s.granted + s.charge r.mw ∧ u.granted ≤ s.avail ∧
          u.getReg 0x205C = s.getReg 0x205C + 1 ∧ u.getReg 0x2068 = BitVec.ofNat 32 (max (s.regN 0x2068) u.granted) ∧
          (s.permit.entering = [] → u.permit.queue c = headFrom s.beatno rest) ∧
          (∀ a, s.agedClass = some a → c = a) ∧
          (s.agedClass = none → ∀ c' : Fin 3, c'.val < c → ∀ q ql, s.permit.queue c'.val = q :: ql → s.avail < s.granted + s.charge q.mw)))) ∧
  (∀ s : State, s.Canonical →
    let due := fun c : Nat => match s.permit.queue c with | r :: _ => !r.aged && decide (s.waitLim ≤ (s.beatno - r.since).toNat) | [] => false
    ((∀ c : Fin 3, due c.val = false) → exec .headAged s = .next s) ∧
    (∀ c : Fin 3, due c.val = true → (∀ c' : Fin 3, c'.val < c.val → due c'.val = false) → ∀ r rest, s.permit.queue c.val = r :: rest →
      Goes (exec .headAged s) (fun t => t = { s with permit := s.permit.setQueue c.val ({ r with aged := true } :: rest), regs := t.regs } ∧
        RegsBut [0x2018] s t ∧ t.getReg 0x2018 = s.getReg 0x2018 ||| 1))) ∧
  (∀ (m : Master) (data : Word) (s : State), s.Canonical → s.srstBusy .permit = false →
    (∀ reg : BudgetReg, s.Accepts m (budgetAddr reg) →
      let mask : Word := if reg = .vddMv then 0x3FF else 0x1FFFF
      Goes (exec (.budgetWrite reg m data) s) (fun t => t = { s.replied m (budgetAddr reg) {} with regs := t.regs } ∧
        RegsBut [budgetAddr reg, 0x2018] s t ∧ t.getReg (budgetAddr reg) = (s.getReg (budgetAddr reg) &&& ~~~mask) ||| (data &&& mask) ∧
        t.getReg 0x2018 = s.getReg 0x2018 ||| (if (t.peakMw < s.peakMw ∨ s.regN 0x2044 < t.regN 0x2044 ∨ s.vddMv < t.vddMv) ∧ t.avail < s.granted then 4 else 0))) ∧
    (s.Accepts m 0x2088 → exec (.energyClear m) s =
      .next { s.replied m 0x2088 {} with permit := { s.permit with eData := 0, eCtrl := 0, eMgmt := 0 } }))

/-! ### The Curtain (R132 to R152, R447) -/

/-- R138, R139, R150, R447. -/
def Obligations.DecisionPosting : Prop :=
  (∀ s : State, (s.logQ = [] → s.logged = s) ∧ (nextPosted s.posted = none → exec .decisionPosting s = .next s.logged)) ∧
  (∀ (s : State) (cause : Nat) (b : Word64) (d eng : Nat) (beat : Word64),
    let cfg := s.getReg 0x4044
    let r := fld cfg 0 14
    let on := bitAt cfg 31 = true ∧ bitAt (s.getReg 0x4048) (cause - 1) = true
    (¬ on → s.curLog cause b d eng beat = s) ∧
    (on → s.ringClass r = 0 → s.ringEsize r = 0 → s.curLog cause b d eng beat = { s with logQ := s.logQ ++
      [(r, bytesLE 8 b.toNat ++ bytesLE 4 (cause * 2 ^ 24 + d * 2 ^ 16 + eng) ++ bytesLE 4 (beat.toNat % 2 ^ 32))] })) ∧
  (∀ (s : State), ∀ p, nextPosted s.posted = some p →
    let ready := s.curNext = some .posting
    let s0 := { s with posted := s.posted.erase p }
    let b : Word64 := p.words.getD 1 0 ++ p.words.getD 0 0
    let ctl := p.words.getD 2 0
    let d : Fin 64 := Fin.ofNat 64 (fld ctl 24 6)
    let log := fun (cause : Nat) (u : State) => exec .decisionPosting s = .next (u.curLog cause b d.val p.eng p.beat).logged
    let refused := s0.countIrq .curtain 0x50 4
    let open_ := s.pageEn .curtain = true ∧ s.curOn d.val = true ∧ beatLe s.curtain[d].enableBeat b = true
    let tooLate := beatLe (b + BitVec.ofNat 64 (latFor s.curtain[d].regimes b)) p.beat
    (beatLe p.beat s.beatno = false ∨ s.curNext = none → exec .decisionPosting s = .next s.logged) ∧
    (ready ↔ s.curTurn .write = false ∧ s.curTurn .raise = false ∧ s.curTurn .release = false ∧ beatLe p.beat s.beatno = true ∧
      s.curWritesDone p.beat = true ∧ s.raisesDone p.beat = true ∧ (s.pageEn .curtain = false ∨ beatLt p.beat s.relNext = true)) ∧
    (ready → ¬ open_ → log 6 refused) ∧
    (ready → open_ → 5 ≤ fld ctl 13 3 → log 7 refused) ∧
    (ready → open_ → fld ctl 13 3 ≤ 4 →
      (b.toNat % s.curPeriod d.val ≠ 0 → log 4 refused) ∧
      (b.toNat % s.curPeriod d.val = 0 → beatLt p.beat b = true → log 5 refused) ∧
      (b.toNat % s.curPeriod d.val = 0 → beatLt p.beat b = false →
        (tooLate = true → log 2 ((s0.incReg (curAddr d.val 0x24)).irq .curtain 1)) ∧
        (tooLate = false →
          (∀ h, s.heldAt (s.entryOf d.val b) = some h → h.b = b → log 3 (s0.incReg (curAddr d.val 0x28))) ∧
          ((s.heldAt (s.entryOf d.val b)).all (fun h => h.b != b) = true → ∃ u : State, exec .decisionPosting s = .next u.logged ∧
            u = { s0 with store := u.store } ∧ (spWf (fun _ => none) s.store = true →
              u.heldAt (s.entryOf d.val b) = some { b, words := p.words }) ∧
            ∀ i, i ≠ s.entryOf d.val b → u.heldAt i = s.heldAt i)))))

/-- R136, R141, R142, R144 to R146, R150, R447. -/
def Obligations.CurtainRelease : Prop :=
  (∀ s : State,
    let r := s.relNext
    (s.pageEn .curtain = false ∨ beatLe r s.beatno = false ∨ s.curNext = none → exec .curtainRelease s = .next s.logged) ∧
    (s.curNext = some .release → exec .curtainRelease s = .next
      (((List.finRange 64).flatMap (fun d => (s.dueFrames d r).map (fun b => (d, b)))).foldl
        (fun (u : State) x => u.releaseFrameBeat x.1 x.2 r) { s with relNext := r + 1 }).logged) ∧
    exec .curtainWriteAccept s = .next (s.curWork .write) ∧ exec .wingsRaise s = .next (s.curWork .raise) ∧
    exec .curtainRelease s = .next (s.curWork .release).logged ∧ exec .decisionPosting s = .next (s.curWork .posting).logged ∧
    (∀ k w : CurWork, k ≠ w → s.curComes k = true → s.curNext = some w → (s.curDo w).curNext = some k →
      s.curWork k = (s.curDo w).curDo k)) ∧
  (∀ (u : State) (d : Fin 64) (b r : Word64), u.Canonical → spWf (fun _ => none) u.store = true →
    let i := u.entryOf d.val b
    let real := (u.heldAt i).any (fun h => h.b == b)
    let rec_ := (u.heldAt i).elim (u.understudy d.val b) (fun h => if h.b = b then released u.devno h.words else u.understudy d.val b)
    let out := u.getReg (curAddr d.val 0x14)
    let sent := fun (v : State) =>
      (v.toTarget d.val b r rec_ (bitAt out 15) (fld out 8 7) (fld out 4 4)).toTarget d.val b r rec_ (bitAt out 31) (fld out 24 7) (fld out 20 4)
    let pins := fun (v : State) => v.modStream d (pinsAt (u.getReg (curAddr d.val 0x18)) (bitAt (rec_.getD 2 0) 0) (!real) r)
    ∃ v : State, v = { u with store := v.store, regs := v.regs } ∧ v.heldAt i = none ∧ (∀ j, j ≠ i → v.heldAt j = u.heldAt j) ∧
      (real = true → u.releaseFrameBeat d b r = sent (pins v) ∧ RegsBut [curAddr d.val 0x1C] u v ∧
        v.getReg (curAddr d.val 0x1C) = u.getReg (curAddr d.val 0x1C) + 1) ∧
      (real = false → u.releaseFrameBeat d b r = sent (pins (v.curLog 1 b d.val 511 r)) ∧ RegsBut [curAddr d.val 0x20, 0x4018] u v ∧
        v.getReg (curAddr d.val 0x20) = u.getReg (curAddr d.val 0x20) + 1 ∧ v.getReg 0x4018 = u.getReg 0x4018 ||| 1)) ∧
  (∀ (u : State) (d : Nat) (b r : Word64) (rec_ : List Word) (port cls : Nat), u.Canonical →
    let n : Fin 128 := Fin.ofNat 128 port
    let valid := u.portUp n = true ∧ ((u.portRole n = 1 ∧ cls < 8) ∨ (u.portRole n = 2 ∧ cls = 9))
    u.toTarget d b r rec_ false port cls = u ∧
    (¬ valid → ∃ t : State, u.toTarget d b r rec_ true port cls = t ∧ t = { u with regs := t.regs } ∧ RegsBut [0x4058, 0x4018, 0x400C] u t ∧
      t.getReg 0x4058 = u.getReg 0x4058 + 1 ∧ t.getReg 0x4018 = u.getReg 0x4018 ||| 24 ∧ t.getReg 0x400C = u.getReg 0x400C ||| 8) ∧
    (valid → 128 ≤ u.ports[n].relQ.length → ∃ t : State, u.toTarget d b r rec_ true port cls = t.curLog 8 b d 511 r ∧
      t = { u with regs := t.regs } ∧ RegsBut [0x4054, 0x4018] u t ∧ t.getReg 0x4054 = u.getReg 0x4054 + 1 ∧
      t.getReg 0x4018 = u.getReg 0x4018 ||| 8) ∧
    (valid → u.ports[n].relQ.length < 128 → u.toTarget d b r rec_ true port cls = u.modPort n (fun p => { p with relQ := p.relQ ++
      [.data cls (portWordsOfBytes 3 (bytesOfWords rec_ ++ bytesLE 8 r.toNat ++ List.replicate 8 0))] }))) ∧
  (∀ (pin : Fin 1024) (s : State), Goes (exec (.decisionPinPulseEnd pin) s) (fun t => t = { s with curtain := t.curtain } ∧
    ∀ d : Fin 64, t.curtain[d] = { s.curtain[d] with pulses := t.curtain[d].pulses } ∧
      ∀ x, x ∈ t.curtain[d].pulses ↔ x ∈ s.curtain[d].pulses ∧ (x.1 = pin.val → beatLe x.2 s.beatno = false)))

/-- R134, R147, R148, R447. -/
def Obligations.CurtainStreams : Prop :=
  (∀ (d : Fin 64) (m : Master) (data : Word) (s : State), s.Canonical → s.srstBusy .curtain = false →
    let a := curAddr d.val 0x00
    let queued := fun (a : Nat) (v : Word) (t : State) => t = { s.taken m a with islandQ := t.islandQ } ∧ ∃ l1 l2, s.islandQ = l1 ++ l2 ∧
      t.islandQ = l1 ++ { beat := (if s.pageEn .curtain = true ∧ beatLt s.beatno s.relNext = true then s.beatno + 1 else s.beatno) - 2,
                          pinPage := none, curtain := true, m, addr := a, data := v, origin := s.originOf m } :: l2
    (s.Accepts m a → s.curtainTurn = false → Goes (exec (.streamEnable d m data) s) (queued a (withBit data 31)) ∧
      Goes (exec (.streamDisable d m data) s) (queued a (withoutBit data 31))) ∧
    (s.Accepts m (a + 8) → s.curtainTurn = false → Goes (exec (.latencyWrite d m data) s) (queued (a + 8) data)) ∧
    (s.Accepts m a → s.curtainTurn = true →
      (s.curOn d.val = true → exec (.streamEnable d m data) s = .next (s.replied m a {})) ∧
      (s.curOn d.val = false → (s.setReg a (withBit data 31 &&& 0x3F)).allocBad d.val = true → Goes (exec (.streamEnable d m data) s) (fun t =>
        t = { s.replied m a {} with regs := t.regs } ∧ RegsBut [a, 0x400C, 0x4018] s t ∧ t.curOn d.val = false ∧
        t.getReg 0x400C = s.getReg 0x400C ||| 8 ∧ t.getReg 0x4018 = s.getReg 0x4018 ||| 16)) ∧
      (s.curOn d.val = false → (s.setReg a (withBit data 31 &&& 0x3F)).allocBad d.val = false → Goes (exec (.streamEnable d m data) s) (fun t =>
        t = { s.replied m a {} with regs := t.regs, curtain := t.curtain } ∧ RegsBut [a] s t ∧ t.getReg a = 0x80000000 ||| (data &&& 0x3F) ∧
        (∀ d', d' ≠ d → t.curtain[d'] = s.curtain[d']) ∧ t.curtain[d] = if s.pageEn .curtain = true
          then { enableBeat := s.beatno, regimes := [(s.beatno, s.curLat d.val)] } else s.curtain[d])) ∧
      (s.curOn d.val = true → Goes (exec (.streamDisable d m data) s) (fun t =>
        t = { s.replied m a {} with regs := t.regs, store := t.store } ∧ RegsBut [a] s t ∧ t.curOn d.val = false ∧
        ∀ i, t.heldAt i = if s.curBase d.val ≤ i ∧ i < s.curBase d.val + s.curDepth d.val then none else s.heldAt i)) ∧
      (s.curOn d.val = false → Goes (exec (.streamDisable d m data) s) (fun t =>
        t = { s.replied m a {} with regs := t.regs } ∧ RegsBut [a] s t ∧ t.getReg a = withoutBit data 31 &&& 0x3F))) ∧
    (s.Accepts m (a + 8) → s.curtainTurn = true →
      let ok := s.curOn d.val = true → s.depthOk d.val (max (s.curLat d.val) (latOf data)) = true
      (¬ ok → Goes (exec (.latencyWrite d m data) s) (fun t => t = { s.replied m (a + 8) {} with regs := t.regs, slots := t.slots } ∧
        RegsBut [0x400C, 0x4018] s t ∧ t.getReg 0x400C = s.getReg 0x400C ||| 8 ∧ t.getReg 0x4018 = s.getReg 0x4018 ||| 16)) ∧
      (ok → Goes (exec (.latencyWrite d m data) s) (fun t =>
        t = { s.replied m (a + 8) {} with regs := t.regs, slots := t.slots, curtain := t.curtain } ∧ RegsBut [a + 8] s t ∧
        t.getReg (a + 8) = data &&& 0xFFFF ∧ (∀ d', d' ≠ d → t.curtain[d'] = s.curtain[d']) ∧
        (s.curOn d.val = true → s.pageEn .curtain = true → s.curLat d.val ≠ latOf data →
          t.curtain[d].regimes.head? = some (s.beatno, latOf data)) ∧
        (s.curOn d.val = false ∨ s.pageEn .curtain = false ∨ s.curLat d.val = latOf data → t.curtain[d] = s.curtain[d]))))) ∧
  (∀ s : State, takeFirst (fun w : IslandWrite => w.curtain) s.islandQ = none → exec .curtainWriteAccept s = .next s) ∧
  (∀ s : State, ∀ w rest, takeFirst (fun w : IslandWrite => w.curtain) s.islandQ = some (w, rest) →
    (beatLe w.due s.beatno = false ∨ s.curNext = none → exec .curtainWriteAccept s = .next s) ∧
    (s.curtainDue w = true → s.Canonical → s.srstBusy .curtain = false → ∀ d : Fin 64, w.addr = curAddr d.val 0x10 →
      (s.regHeld w.addr = false → ∃ u : State, exec .curtainWriteAccept s = .next (u.answer w.origin {}) ∧
        u = { s with islandQ := rest, regs := u.regs, slots := u.slots } ∧ RegsBut [w.addr] s u ∧ u.getReg w.addr = w.data) ∧
      (s.regHeld w.addr = true → exec .curtainWriteAccept s =
        .next (({ s with islandQ := rest }.record w.addr 5 w.m).answer w.origin { err := true }))))

/-! ### The Wings (R153 to R170) -/

/-- R154, R155. -/
def Obligations.WingsStaging : Prop :=
  ∀ (k : Fin 8) (m : Master) (s : State), s.srstBusy .wings = false →
    let w := s.slots[k]
    (s.Accepts m (wslotAddr k 0x00) →
      (w.st ≠ .free ∨ s.pageEn .wings = false → exec (.tcmdOpen k m) s = .next (s.replied m (wslotAddr k 0x00) {})) ∧
      (w.st = .free → s.pageEn .wings = true →
        (∀ r, s.cbFree = some r → Goes (exec (.tcmdOpen k m) s) (fun t =>
          t = { s.replied m (wslotAddr k 0x00) {} with slots := t.slots, callboard := t.callboard } ∧ (∀ k', k' ≠ k → t.slots[k'] = s.slots[k']) ∧
          t.slots[k] = { st := .opened, seq := w.seq + 1, owner := masterCode m, cb := BitVec.ofNat 8 r.val,
                         bulkRan := s.bulk.any (fun l => l.granted) } ∧ CbBut r s t ∧
          t.callboard[r] = { s.callboard[r] with
            abort := false, cur := { kind := 6, ptype := 4, pinst := 0, st := .queued, beat := s.beatno.setWidth 32 } })) ∧
        (s.cbFree = none → Goes (exec (.tcmdOpen k m) s) (fun t => t = { s.replied m (wslotAddr k 0x00) {} with slots := t.slots, regs := t.regs } ∧
          RegsBut [0x1018] s t ∧ t.getReg 0x1018 = s.getReg 0x1018 ||| 2 ∧
          (∀ k', k' ≠ k → t.slots[k'] = s.slots[k']) ∧ t.slots[k] = { w with cb := 255 })))) ∧
    (s.Accepts m (wslotAddr k 0x08) → ∀ data : Word,
      (w.st ≠ .opened ∨ s.frozen .wings = true → exec (.taddr k m data) s = .next (s.replied m (wslotAddr k 0x08) {})) ∧
      (w.st = .opened → s.frozen .wings = false → 4096 ≤ s.stagedEntries → exec (.taddr k m data) s = .next
        ((s.modSlot k (fun w => { w with overflow := true })).after s m (wslotAddr k 0x08) {})) ∧
      (w.st = .opened → s.frozen .wings = false → s.stagedEntries < 4096 → Goes (exec (.taddr k m data) s) (fun t =>
        t = { s.replied m (wslotAddr k 0x08) {} with slots := t.slots, callboard := t.callboard } ∧ (∀ k', k' ≠ k → t.slots[k'] = s.slots[k']) ∧
        (w.rec? = none → t.callboard = s.callboard) ∧ (∀ r, w.rec? = some r → CbBut r s t ∧ t.callboard[r] = { s.callboard[r] with cur :=
          { s.callboard[r].cur with progress := BitVec.ofNat 32 w.entries.length, total := BitVec.ofNat 32 w.entries.length } }) ∧
        t.slots[k] = { w with entries := w.entries ++ [{ start := some data, data := [] }], entryOpen := true }))) ∧
    (s.Accepts m (wslotAddr k 0x0C) → ∀ data : Word,
      (w.st ≠ .opened ∨ s.frozen .wings = true → exec (.tdata k m data) s = .next (s.replied m (wslotAddr k 0x0C) {})) ∧
      (w.st = .opened → s.frozen .wings = false → (16384 ≤ s.stagedWords ∨ (w.entryOpen = false ∧ 4096 ≤ s.stagedEntries)) →
        exec (.tdata k m data) s = .next
        ((s.modSlot k (fun w => { w with overflow := true })).after s m (wslotAddr k 0x0C) {})) ∧
      (w.st = .opened → s.frozen .wings = false → s.stagedWords < 16384 → w.entryOpen = false → s.stagedEntries < 4096 → exec (.tdata k m data) s = .next
        ((s.modSlot k (fun w => { w with entries := w.entries ++ [{ start := none, data := [data] }], entryOpen := true })).after s m (wslotAddr k 0x0C) {})) ∧
      (w.st = .opened → s.frozen .wings = false → s.stagedWords < 16384 → w.entryOpen = true → Goes (exec (.tdata k m data) s) (fun t =>
        t = { s.replied m (wslotAddr k 0x0C) {} with slots := t.slots } ∧ (∀ k', k' ≠ k → t.slots[k'] = s.slots[k']) ∧
        t.slots[k] = { w with entries := t.slots[k].entries } ∧ t.slots[k].entries.length = w.entries.length ∧
        ∀ e l, w.entries.reverse = e :: l → t.slots[k].entries = l.reverse ++ [{ e with data := e.data ++ [data] }])))

/-- R157 to R159, R164 to R166. -/
def Obligations.WingsPrepareRaise : Prop :=
  (∀ (k : Fin 8) (m : Master) (s : State), s.srstBusy .wings = false → s.Accepts m (wslotAddr k 0x00) →
    let w := s.slots[k]
    let a := wslotAddr k 0x00
    let asked : WSlot := { w with raiseAsked := true }
    let prepares := fun (w' : WSlot) (t : State) =>
      let n := BitVec.ofNat 32 w.entries.length
      t = { s.replied m a {} with slots := t.slots, callboard := t.callboard, permit := t.permit } ∧ (∀ k', k' ≠ k → t.slots[k'] = s.slots[k']) ∧
      t.slots[k] = { w' with st := .preparing, entryOpen := false } ∧ (w.rec? = none → t.callboard = s.callboard) ∧
      (s.frozen .wings = false → t.permit = s.permit.enqueue 0 { who := .prepare k, mw := 100, since := s.beatno, aged := false } ∧
        ∀ r, w.rec? = some r → CbBut r s t ∧ t.callboard[r].cur =
          { s.callboard[r].cur with st := .permitWait, beat := s.beatno.setWidth 32, progress := n, total := n }) ∧
      (s.frozen .wings = true → t.permit = s.permit ∧
        ∀ r, w.rec? = some r → CbBut r s t ∧ t.callboard[r].cur = { s.callboard[r].cur with progress := n, total := n })
    let x := s.tbeat k
    let left := (x - s.beatno).toNat
    let npart := fld (s.tglob k) 16 10
    let vlead := fld (s.tglob k) 0 16
    let dup := (List.finRange 8).any (fun o => o != k && s.slots[o].st != .free && s.tglobal o && s.gtag o == s.gtag k)
    let fails := fun (code reason : Nat) => ∀ r, w.rec? = some r → Goes (exec (.tcmdRaise k m) s) (fun t => t.slots[k].st = .free ∧
      t.slots[k].entries = [] ∧ (∀ k', k' ≠ k → t.slots[k'] = s.slots[k']) ∧ CbBut r s t ∧ t.callboard[r].cur.st = .failed ∧
      t.callboard[r].cur.result = BitVec.ofNat 32 ((reason * 2 ^ 16 + 0xFFF) * 256 + code) ∧ bitAt (t.getReg 0x3018) 1 = true ∧
      t = { s.replied m a {} with slots := t.slots, callboard := t.callboard, permit := t.permit, regs := t.regs })
    (w.st ≠ .opened → exec (.tcmdPrepare k m) s = .next (s.replied m a {})) ∧
    (w.st = .opened → w.granted = false → s.charge 100 ≤ s.avail → (∀ q ∈ s.permit.q0 ++ s.permit.q1 ++ s.permit.q2, q.who ≠ .prepare k) →
      Goes (exec (.tcmdPrepare k m) s) (prepares w) ∧ Goes (exec (.tcmdRaise k m) s) (prepares asked)) ∧
    (w.st = .free ∨ w.st = .voting ∨ w.st = .armed → exec (.tcmdRaise k m) s = .next (s.replied m a {})) ∧
    (w.st = .preparing → exec (.tcmdRaise k m) s = .next ((s.modSlot k (fun _ => asked)).after s m a {})) ∧
    (w.st = .prepared → s.frozen .wings = true → exec (.tcmdRaise k m) s = .next ((s.modSlot k (fun _ => asked)).after s m a {})) ∧
    (w.st = .prepared → s.frozen .wings = false → s.raiseMin ≤ left → left < 2 ^ 31 →
      (s.tglobal k = false → exec (.tcmdRaise k m) s = .next
        ((s.modSlot k (fun _ => { asked with st := .armed, raiseBeat := x })).after s m a {})) ∧
      (s.tglobal k = true → s.tcoord k = true → dup = false → 1 ≤ npart → npart ≤ 512 → 1 ≤ vlead →
        beatLe x (s.beatno + BitVec.ofNat 64 vlead) = false → exec (.tcmdRaise k m) s = .next
          (((s.modSlot k (fun _ => { asked with st := .voting, raiseBeat := x })).wingsSend 1 none
            [(s.gtag k).setWidth 64, x, x - BitVec.ofNat 64 vlead, BitVec.ofNat 64 s.devno]).after s m a {}))) ∧
    (w.st = .prepared → s.frozen .wings = false → s.tglobal k = true → s.tcoord k = false → dup = false → 0 < left → left < 2 ^ 31 →
      (w.prep = none → exec (.tcmdRaise k m) s = .next
        ((s.modSlot k (fun _ => { asked with st := .voting, raiseBeat := x })).after s m a {})) ∧
      (∀ r v c, w.prep = some (r, v, c) → w.voted = false → s.alarm = false → beatLt x r = false → exec (.tcmdRaise k m) s = .next
        (((s.modSlot k (fun _ => { asked with st := .voting, raiseBeat := x, voted := true })).sendVote k c true).after s m a {}))) ∧
    (w.st = .prepared → s.frozen .wings = false → s.Canonical → (∀ j : Fin 16, s.bists[j] = none) → s.bulk = none → w.prep = none →
      (s.tglobal k = false → left < s.raiseMin ∨ 2 ^ 31 ≤ left → fails 4 0x20) ∧
      (s.tglobal k = true → dup = true → fails 7 0x13) ∧
      (s.tglobal k = true → s.tcoord k = true →
        npart = 0 ∨ 512 < npart ∨ vlead = 0 ∨ beatLe x (s.beatno + BitVec.ofNat 64 vlead) = true → fails 7 0x13) ∧
      (s.tglobal k = true → s.tcoord k = true → dup = false → 1 ≤ npart → npart ≤ 512 → 1 ≤ vlead →
        beatLe x (s.beatno + BitVec.ofNat 64 vlead) = false → left < s.raiseMin ∨ 2 ^ 31 ≤ left → fails 4 0x20) ∧
      (s.tglobal k = true → s.tcoord k = false → dup = false → left = 0 ∨ 2 ^ 31 ≤ left → fails 4 0x22))) ∧
  (∀ (k : Fin 8) (s : State), s.Canonical → (∀ j : Fin 16, s.bists[j] = none) → s.bulk = none →
    let w := s.slots[k]
    (w.st ≠ .preparing ∨ w.granted = false ∨ s.frozen .wings = true → exec (.prepareComplete k) s = .next s) ∧
    (w.st = .preparing → w.granted = true → s.frozen .wings = false →
      (s.prepareCheck k = none → w.raiseAsked = false → Goes (exec (.prepareComplete k) s) (fun t =>
        t = { s with slots := t.slots, callboard := t.callboard } ∧ (∀ k', k' ≠ k → t.slots[k'] = s.slots[k']) ∧
        (w.rec? = none → t.callboard = s.callboard) ∧ (∀ r, w.rec? = some r → CbBut r s t) ∧
        t.slots[k] = { w with st := .prepared })) ∧
      (∀ code reason num, s.prepareCheck k = some (code, reason, num) → w.prep = none → ∀ r, w.rec? = some r →
        Goes (exec (.prepareComplete k) s) (fun t => t.slots[k].st = .free ∧ t.slots[k].entries = [] ∧ (∀ k', k' ≠ k → t.slots[k'] = s.slots[k']) ∧
          CbBut r s t ∧ t.callboard[r].cur.st = .failed ∧ t.callboard[r].cur.result = BitVec.ofNat 32 ((reason * 2 ^ 16 + num % 4096) * 256 + code) ∧
          bitAt (t.getReg 0x3018) 1 = true ∧ (∀ g ∈ t.permit.grants, g.1 ≠ .prepare k) ∧
          t = { s with slots := t.slots, callboard := t.callboard, permit := t.permit, regs := t.regs }))))

/-- R160, R162, R177. -/
def Obligations.WingsRaise : Prop :=
  ∀ s : State, s.Canonical → (∀ j : Fin 16, s.bists[j] = none) → s.bulk = none →
    (s.nextRaise = none → exec .wingsRaise s = .next s) ∧
    (∀ r, s.nextRaise = some r →
      (beatLe r s.beatno = false ∨ s.curNext = none → exec .wingsRaise s = .next s) ∧
      (s.curNext = some .raise ↔ s.curTurn .write = false ∧ beatLe r s.beatno = true ∧ s.curWritesDone r = true ∧ s.curJudged r = true ∧
        (s.pageEn .curtain = true → beatLe r s.relNext = true)) ∧
      (s.curNext = some .raise → Goes (exec .wingsRaise s) (fun t =>
        (∀ k : Fin 8, t.slots[k].st = if s.slots[k].st = .armed ∧ s.slots[k].raiseBeat = r then .free else s.slots[k].st) ∧
        (∀ e : Fin 257, t.engines[e].evl = s.engines[e].evl ||| 16) ∧
        (∀ k : Fin 8, s.slots[k].st = .armed → s.slots[k].raiseBeat = r → (∀ k', k' ≠ k → s.slots[k'].st ≠ .armed ∨ s.slots[k'].raiseBeat ≠ r) →
          t.getReg 0x3048 = BitVec.ofNat 32 (s.slots[k].txId k) ∧ t.getReg 0x304C = r.setWidth 32 ∧
          t.getReg 0x3050 = (r >>> 32).setWidth 32 ∧ t.getReg 0x3054 = s.getReg 0x3054 + 1 ∧
          (∀ c, s.slots[k].rec? = some c → t.callboard[c].cur.st = .done ∧ t.callboard[c].cur.result = 0) ∧
          (∀ (a : Word) (v : Word) (p : Page) (d : RegDesc), s.slots[k].entries = [{ start := some a, data := [v] }] → a.toNat < 2 ^ 24 →
            pageAt a.toNat = some p → p ≠ .curtain → regDesc p (a.toNat % 0x1000) = some d → a.toNat ∉ [0x3018, 0x3048, 0x304C, 0x3050, 0x3054, 0x1018] →
            t.getReg a.toNat = (s.getReg a.toNat &&& ~~~d.rw) ||| (v &&& d.rw))))))

/-- R166 to R168, R349. -/
def Obligations.WingsGlobal : Prop :=
  (∀ s : State, s.sysEn = false → ∀ g r v c d y, exec (.prep g r v c) s = .next s ∧ exec (.vote g d y) s = .next s ∧
    exec (.wingsCommit g r) s = .next s ∧ exec (.wingsAbort g c) s = .next s) ∧
  (∀ s : State, (∀ k : Fin 8, s.slots[k].st = .free ∧ s.slots[k].prep = none ∧ s.tglobal k = false) → ∀ g r v c d y (k : Fin 8),
    exec (.prep g r v c) s = .next s ∧ exec (.vote g d y) s = .next s ∧ exec (.wingsCommit g r) s = .next s ∧ exec (.wingsAbort g c) s = .next s ∧
    exec (.voteDeadline k) s = .next s ∧ exec (.prepExpiry k) s = .next s ∧ exec (.commitTimeout k) s = .next s) ∧
  (∀ (k : Fin 8) (s : State), s.Canonical → (∀ j : Fin 16, s.bists[j] = none) → s.bulk = none → s.sysEn = true → s.tglobal k = true →
    (∀ k', k' ≠ k → s.slots[k'].st = .free ∧ s.slots[k'].prep = none) →
    let w := s.slots[k]
    let g := s.gtag k
    let ended := fun (q : Fin 64) (st : OpState) (result : Nat) (t : State) => t.slots[k].st = .free ∧ (∀ k', k' ≠ k → t.slots[k'] = s.slots[k']) ∧
      CbBut q s t ∧ t.callboard[q].cur.st = st ∧ t.callboard[q].cur.result = BitVec.ofNat 32 result ∧ bitAt (t.getReg 0x3018) 1 = true ∧
      t = { s with slots := t.slots, callboard := t.callboard, permit := t.permit, regs := t.regs, fwdQ := t.fwdQ }
    (s.tcoord k = false →
      (∀ r v c, w.prep = none → w.st = .prepared ∨ w.st = .preparing → Goes (exec (.prep g r v c) s) (fun t =>
        t = s.modSlot k (fun w => { w with prep := some (r, v, c) }))) ∧
      (∀ r v c, w.prep = none → w.st = .voting → w.voted = false → s.alarm = false → beatLt (s.tbeat k) r = false →
        beatLe w.raiseBeat s.beatno = false → exec (.prep g r v c) s =
          .next ((s.modSlot k (fun w => { w with prep := some (r, v, c), voted := true })).sendVote k c true)) ∧
      (∀ r v c x, w.prep = some (r, v, c) → w.st = .voting → w.voted = true → beatLe r s.beatno = false →
        exec (.wingsCommit g x) s = .next (s.modSlot k (fun w => { w with st := .armed, raiseBeat := r }))) ∧
      ((∀ k', k' ≠ k → s.tglobal k' = false ∨ s.tcoord k' = false) → ∀ q, w.rec? = some q →
        (∀ r v c, w.prep = some (r, v, c) → w.st = .opened ∨ w.st = .preparing ∨ w.st = .prepared ∨
            (w.st = .voting ∧ (w.voted = false ∨ beatLe r s.beatno = false)) →
          Goes (exec (.wingsAbort g c) s) (ended q .aborted ((0x30 * 2 ^ 16 + 0xFFF) * 256 + 2)) ∧
          ∀ c', c' ≠ c → exec (.wingsAbort g c') s = .next s) ∧
        (∀ c, w.prep = none → w.st = .opened ∨ w.st = .preparing ∨ w.st = .prepared ∨ (w.st = .voting ∧ beatLe w.raiseBeat s.beatno = false) →
          Goes (exec (.wingsAbort g c) s) (ended q .aborted ((0x30 * 2 ^ 16 + 0xFFF) * 256 + 2)))) ∧
      (w.prep = none → w.st = .voting → beatLe w.raiseBeat s.beatno = true → ∀ q, w.rec? = some q →
        Goes (exec (.prepExpiry k) s) (ended q .failed ((0x23 * 2 ^ 16 + 0xFFF) * 256 + 4))) ∧
      (∀ r v c, w.prep = some (r, v, c) → w.st = .voting → w.voted = true → beatLe r s.beatno = true → ∀ q, w.rec? = some q →
        Goes (exec (.commitTimeout k) s) (fun t => ended q .failed ((0x24 * 2 ^ 16 + 0xFFF) * 256 + 4) t ∧ bitAt (t.getReg 0x3018) 3 = true))) ∧
    (s.tcoord k = true → w.st = .voting →
      let need := fld (s.tglob k) 16 10 - 1
      let v := w.raiseBeat - BitVec.ofNat 64 (fld (s.tglob k) 0 16)
      (∀ (d : BitVec 9) (yes : Bool), beatLe v s.beatno = false → Goes (exec (.vote g d yes) s) (fun t => t = { s with slots := t.slots } ∧
        (∀ k', k' ≠ k → t.slots[k'] = s.slots[k']) ∧ t.slots[k] = { w with votes := t.slots[k].votes, noVotes := t.slots[k].noVotes } ∧
        t.slots[k].votes = (if yes = true ∧ d ∉ w.votes then w.votes ++ [d] else w.votes) ∧
        t.slots[k].noVotes = (if yes = false ∧ d ∉ w.noVotes then w.noVotes ++ [d] else w.noVotes))) ∧
      (beatLt s.beatno v = true → exec (.voteDeadline k) s = .next s) ∧
      (beatLt s.beatno v = false → s.alarm = false → w.noVotes = [] → need ≤ w.votes.length → exec (.voteDeadline k) s =
        .next ((s.wingsSend 3 none [g.setWidth 64, w.raiseBeat]).modSlot k (fun w => { w with st := .armed }))) ∧
      (beatLt s.beatno v = false → s.alarm = false → ∀ d l, w.noVotes = d :: l → ∀ q, w.rec? = some q →
        Goes (exec (.voteDeadline k) s) (ended q .failed ((5 * 2 ^ 16 + d.toNat) * 256 + 3))) ∧
      (beatLt s.beatno v = false → s.alarm = false → w.noVotes = [] → w.votes.length < need → ∀ q, w.rec? = some q →
        Goes (exec (.voteDeadline k) s) (fun t => ended q .failed ((0x21 * 2 ^ 16 + w.votes.length % 4096) * 256 + 4) t ∧
          bitAt (t.getReg 0x3018) 2 = true))))

/-! ### Systems of many devices (R348 to R364) -/

/-- R349, R351, R352, R354 to R357. The model's choices: the deliveries of messages for this device are rows of their own (log entry 27); a
trunk without a member loses the message (log entry 19). -/
def Obligations.PeerMessages : Prop :=
  (∀ (m : Master) (data : Word) (s : State), s.Canonical → s.Accepts m 0x80 → s.srstBusy .block = false →
    let w := s.getReg 0x84
    let d := fld data 0 9
    let bad := (s.topo = 1 ∧ (fld w 16 10 < 2 ∨ 512 < fld w 16 10)) ∨ (s.topo = 0 ∧ d ≠ 0) ∨ s.validDev d = false
    (s.sysEn = true → Goes (exec (.peerEnable m data) s) (fun t => t = { s.replied m 0x80 {} with regs := t.regs } ∧ RegsBut [] s t)) ∧
    (s.sysEn = false → bad → Goes (exec (.peerEnable m data) s) (fun t => t = { s.replied m 0x80 {} with regs := t.regs } ∧
      RegsBut [0x80, 0x0C] s t ∧ t.getReg 0x80 = data &&& 0x1FF ∧ t.getReg 0x0C = s.getReg 0x0C ||| 8)) ∧
    (s.sysEn = false → ¬ bad → Goes (exec (.peerEnable m data) s) (fun t => t = { s.replied m 0x80 {} with regs := t.regs, fwdQ := t.fwdQ } ∧
      RegsBut [0x80] s t ∧ t.getReg 0x80 = 0x80000000 ||| (data &&& 0x1FF) ∧
      t.fwdQ = s.fwdQ ++ ((List.finRange 128).filter (fun n => s.portUp n && s.portRole n == 2 && decide (s.peerDir n < 6))).map (fun n =>
        { dir := s.peerDir n, cls := 11, port := n, frame := .msg
            { cls := 11, kind := 1, dest := 0, src := d, fields := [BitVec.ofNat 64 d, BitVec.ofNat 64 (s.peerDir n)] } })))) ∧
  (∀ (n : Fin 128) (devno : BitVec 9) (dir : BitVec 3) (s : State), s.Canonical →
    let ok := s.neighbor s.devno (s.peerDir n) = some devno.toNat ∧ dir.toNat = opposite (s.peerDir n)
    (s.peerOk n false = false → exec (.hello n devno dir) s = .next s) ∧
    (s.peerOk n false = true → Goes (exec (.hello n devno dir) s) (fun t => t = { s with regs := t.regs } ∧ RegsBut [linkAddr n 0x38C] s t ∧
      (t.nbValid n = true ↔ ok) ∧ (bitAt (t.getReg (linkAddr n 0x38C)) 30 = true ↔ ¬ ok) ∧
      bitAt (t.getReg (linkAddr n 0x38C)) 29 = bitAt (s.getReg (linkAddr n 0x38C)) 29 ∧
      fld (t.getReg (linkAddr n 0x38C)) 16 9 = devno.toNat ∧ fld (t.getReg (linkAddr n 0x38C)) 0 3 = dir.toNat))) ∧
  (∀ (n : Fin 128) (c : Fin 16) (w : Word128) (rest : List Word128) (s : State), s.Canonical →
    let dest := fld w 0 9
    let src := fld w 16 9
    let hops := fld w 48 10
    let stage := fld w 41 2
    let brem := fld w 58 6
    let takes := s.peerOk n true = true ∧ 10 ≤ c.val ∧ c.val ≤ 12 ∧ rest.length < 32
    let bad := s.validDev dest = false ∨ kindOk c.val (fld w 32 8) = false ∨ s.maxHops < hops
    let oneHop := c.val = 11 ∧ fld w 32 8 < 4
    let queued := fun (dir : Nat) => countIf (fun q : Fwd => q.dir == dir && q.cls == c.val && q.frame.isRouted) s.fwdQ
    exec (.routedMessage n c []) s = .next s ∧
    (¬ takes → exec (.routedMessage n c (w :: rest)) s = .next s) ∧
    (takes → bad → Goes (exec (.routedMessage n c (w :: rest)) s) (fun t => t = { s with regs := t.regs } ∧ RegsBut [0x8C, 0x18] s t ∧
      t.getReg 0x8C = s.getReg 0x8C + 1 ∧ t.getReg 0x18 = s.getReg 0x18 ||| 2)) ∧
    (takes → ¬ bad → oneHop → exec (.routedMessage n c (w :: rest)) s = .next s) ∧
    (takes → ¬ bad → ¬ oneHop → bitAt w 40 = false → s.firstHop s.devno dest = none →
      exec (.routedMessage n c (w :: rest)) s = .next s) ∧
    (takes → ¬ bad → ¬ oneHop → bitAt w 40 = false → ∀ dir, s.firstHop s.devno dest = some dir → s.trunk dir = [] →
      exec (.routedMessage n c (w :: rest)) s = .next s) ∧
    (takes → ¬ bad → ¬ oneHop → bitAt w 40 = false → ∀ dir, s.firstHop s.devno dest = some dir → s.trunk dir ≠ [] →
      (64 ≤ queued dir → Goes (exec (.routedMessage n c (w :: rest)) s) (fun t => t = { s with regs := t.regs } ∧
        RegsBut [0x88, 0x18] s t ∧ t.getReg 0x88 = s.getReg 0x88 + 1 ∧ t.getReg 0x18 = s.getReg 0x18 ||| 2)) ∧
      (queued dir < 64 → Goes (exec (.routedMessage n c (w :: rest)) s) (fun t => t = { s with fwdQ := t.fwdQ } ∧
        t.fwdQ = s.fwdQ ++ [{ dir, cls := c.val, port := (s.trunk dir).getD ((dest + c.val) % (s.trunk dir).length) 0,
                              frame := .data c.val (hopHeader w (hops + 1) stage brem :: rest) }]))) ∧
    (takes → ¬ bad → ¬ oneHop → bitAt w 40 = true → (∀ dir : Fin 6, queued dir.val ≤ 50) →
      let sends := (if 1 < brem then [(stage, opposite (s.peerDir n), brem - 1)] else []) ++ s.copies s.devno (stage + 1)
      exec (.routedMessage n c (w :: rest)) s = .next { s with fwdQ := s.fwdQ ++ sends.filterMap (fun x =>
        ((s.trunk x.2.1)[(src + c.val) % (s.trunk x.2.1).length]?).map (fun p =>
          { dir := x.2.1, cls := c.val, port := p, frame := .data c.val (hopHeader w (hops + 1) x.1 x.2.2 :: rest) })) }))

/-- R25, R43, R55 to R57, R358, R359. -/
def Obligations.PeerFrames : Prop :=
  (∀ (n : Fin 128) (s : State), s.Canonical →
    let pf := s.getReg (linkAddr n 0x384)
    let r := fld pf 0 14
    let may := s.txReady n = true ∧ s.peerOk n true = true ∧ bitAt pf 31 = true
    let wrong := s.ringEn r = true ∧ s.peerRingBad r = true
    (¬ may → exec (.fragmentSend n) s = .next s) ∧
    (may → wrong → Goes (exec (.fragmentSend n) s) (fun t => t = { s with regs := t.regs } ∧ RegsBut [linkAddr n 0x38C] s t ∧
      t.getReg (linkAddr n 0x38C) = s.getReg (linkAddr n 0x38C) ||| 0x20000000)) ∧
    (may → ¬ wrong → ∀ c s1, txFirst n (txOrder s.ports[n].rr) s = .ok c s1 → c ≠ some 8 → exec (.fragmentSend n) s = .next s1) ∧
    (may → ¬ wrong → ∀ s1, txFirst n (txOrder s.ports[n].rr) s = .ok (some 8) s1 →
      ∀ (k : Word) (b : List Byte) (s2 : State), txFragHead n s1 = .ok (some (k, b)) s2 →
      ∀ (data : List Word128) (s3 : State), fragData (natLE ((b.drop 8).take 4) % 2 ^ 27) (natLE ((b.drop 12).take 2) % 4096) s2 = .ok data s3 →
      fld (s3.getReg (linkAddr n 0x384)) 0 14 = r → s3.Canonical →
      Goes (exec (.fragmentSend n) s) (fun t =>
        t = { s3 with regs := t.regs, ringRel := t.ringRel, permit := t.permit, ports := t.ports } ∧ PortsBut n s3 t ∧
        t.getReg (ringBase r + 0x0C) = k + 1 ∧
        (∀ a, a < ringBase r ∨ ringBase r + 0x40 ≤ a → t.getReg a = s3.getReg a) ∧
        t.ports[n].txSent[(8 : Fin 16)] = s3.ports[n].txSent[(8 : Fin 16)] + BitVec.ofNat 12 (frameUnits (1 + data.length)) ∧
        let lenw := natLE ((b.drop 12).take 2) % 4096
        let frag := TxFrame.fragment (BitVec.ofNat 64 (natLE (b.take 8))) (natLE ((b.drop 14).take 1)) lenw s.devno data
        t.ports[n] = { (s3.ports[n].sendFrame 8 (1 + lenw) (1 + data.length)).encodeLine (some frag) with
          rr := 8, txSent := t.ports[n].txSent, lastTx := some frag }))) ∧
  (∀ (n : Fin 128) (beat : Word64) (st : BitVec 8) (s : State), s.Canonical →
    (s.rxHead n 8 = none → exec (.frameFragmentReceive n beat st) s = .next s) ∧
    (∀ (f : RxFrame) (rest : List RxFrame), s.rxHead n 8 = some (f, rest) → s.pageEn (.link n) = false → f.len ≤ f.words.length →
      exec (.frameFragmentReceive n beat st) s = .next s) ∧
    (∀ (f : RxFrame) (rest : List RxFrame), s.rxHead n 8 = some (f, rest) → s.pageEn (.link n) = true ∨ f.words.length < f.len →
      let gone := fun (u t : State) => FrameBack n f (frameUnits f.len - unitsLeft f.len f.words.length) u t ∧
        t.ports[n] = { u.ports[n] with rx := rest, presented := none, taking := none, closedTo := t.ports[n].closedTo,
                                       granted := t.ports[n].granted, owed := t.ports[n].owed, winOwed := t.ports[n].winOwed }
      (f.words.length ≤ 1 → Goes (exec (.frameFragmentReceive n beat st) s) (fun t =>
        PortsBut n s t ∧ t = { s with ports := t.ports } ∧ gone s t ∧
        t.ports[n].closedTo = if s.frEn then max s.ports[n].closedTo (s.frameOf beat + 1) else s.ports[n].closedTo)) ∧
      (∀ (h w : Word128) (more : List Word128), f.words = h :: w :: more → ∀ (a : Ingress) (s1 : State),
        ingressWord n st.toNat (s.frameOf beat) w s = .ok a s1 → s1.Canonical →
        let counted := fun (t : State) => RegsBut [linkAddr n 0x58, linkAddr n 0x5C, linkAddr n 0x60, linkAddr n 0x18] s1 t ∧
          t.getReg (linkAddr n 0x58) = s1.getReg (linkAddr n 0x58) + (if a = .dropped then 1 else 0) ∧
          t.getReg (linkAddr n 0x5C) = s1.getReg (linkAddr n 0x5C) + (if a = .late then 1 else 0) ∧
          t.getReg (linkAddr n 0x60) = s1.getReg (linkAddr n 0x60) + (if a = .waits then 1 else 0) ∧
          t.getReg (linkAddr n 0x18) = s1.getReg (linkAddr n 0x18) ||| (if a = .dropped then 4 else if a = .late then 32 else 0)
        (a = .waits → Goes (exec (.frameFragmentReceive n beat st) s) (fun t => t = { s1 with regs := t.regs } ∧ counted t)) ∧
        (a ≠ .waits → more = [] → Goes (exec (.frameFragmentReceive n beat st) s) (fun t =>
          t = { s1 with regs := t.regs, ports := t.ports } ∧ PortsBut n s1 t ∧ gone s1 t ∧ counted t)) ∧
        (a ≠ .waits → more ≠ [] → ∃ u : State, exec (.frameFragmentReceive n beat st) s = exec (.frameFragmentReceive n beat st) u ∧
          u = { s1 with regs := u.regs, ports := u.ports } ∧ PortsBut n s1 u ∧ counted u ∧
          FrameBack n f (unitsLeft f.len (more.length + 1) - unitsLeft f.len f.words.length) s1 u ∧
          u.ports[n] = { s1.ports[n] with rx := { f with words := h :: more } :: rest, presented := none, granted := u.ports[n].granted,
                                          owed := u.ports[n].owed, winOwed := u.ports[n].winOwed })) ∧
      (∀ (h w : Word128), f.words = [h, w] →
        let fr := s.frameOf beat
        let cfg := s.scfg st.toNat
        let fixed := bitAt cfg 29
        let sub := if fixed then n.val - fld cfg 8 7 else 0
        let sl := (s.slotOf fr).getD { frame := fr, ready := false, holds := [], written := [], overflow := [] }
        let a := s.frSlotAddr (fr % s.frSlots) + fld (s.getReg (streamAddr st.toNat 0x04)) 0 16 * 64 +
          (sub * s.regionWords st.toNat + sl.count st.toNat sub) * 16
        s.streamOn st.toNat = true → s.frEn = true → s.ports[n].closedTo ≤ fr → s.framePast fr = false → s.slotReady fr = true →
        s.regionBad st.toNat = false → (fixed = true → fld cfg 8 7 ≤ n.val ∧ sub ≤ fld cfg 0 7) →
        (fixed = false → s.takenBy n st.toNat fr = false) → sl.count st.toNat sub < s.regionWords st.toNat →
        s.underBist (.eventBank (Fin.ofNat 1024 (emBank a))) = false → s.awake (.eventBank (Fin.ofNat 1024 (emBank a))) = true →
        Goes (exec (.frameFragmentReceive n beat st) s) (fun t =>
          (∀ i : Nat, i < 16 → t.byteAt (a + i) = BitVec.ofNat 8 (w.toNat / 2 ^ (8 * i))) ∧
          (∀ x : Nat, x < a ∨ a + 16 ≤ x → t.byteAt x = s.byteAt x) ∧
          ∃ sl', t.slotOf fr = some sl' ∧ sl'.count st.toNat sub = sl.count st.toNat sub + 1 ∧ sl'.overflow = sl.overflow ∧
            ∀ st' sub', (st', sub') ≠ (st.toNat, sub) → sl'.count st' sub' = sl.count st' sub')))) ∧
  (∀ (n : Fin 128) (s : State), s.Canonical →
    let pd := s.getReg (linkAddr n 0x388)
    let r := fld pd 0 14
    (s.rxHead n 9 = none → exec (.decisionReceive n) s = .next s) ∧
    (s.pageEn (.link n) = false → exec (.decisionReceive n) s = .next s) ∧
    (∀ (f : RxFrame) (rest : List RxFrame), s.rxHead n 9 = some (f, rest) → s.pageEn (.link n) = true →
      let gone := fun (u t : State) => t = { u with regs := t.regs, ports := t.ports } ∧ PortsBut n u t ∧
        FrameBack n f (frameUnits f.len) u t ∧ t.ports[n] = { u.ports[n] with
          rx := rest, granted := t.ports[n].granted, owed := t.ports[n].owed, winOwed := t.ports[n].winOwed }
      (bitAt pd 31 = false → Goes (exec (.decisionReceive n) s) (fun t => gone s t ∧ RegsBut [linkAddr n 0x394] s t ∧
        t.getReg (linkAddr n 0x394) = s.getReg (linkAddr n 0x394) + 1)) ∧
      (bitAt pd 31 = true → s.peerRingBad r = true → Goes (exec (.decisionReceive n) s) (fun t => gone s t ∧
        RegsBut [linkAddr n 0x394, linkAddr n 0x38C] s t ∧ t.getReg (linkAddr n 0x394) = s.getReg (linkAddr n 0x394) + 1 ∧
        t.getReg (linkAddr n 0x38C) = s.getReg (linkAddr n 0x38C) ||| 0x20000000)) ∧
      (bitAt pd 31 = true → s.peerRingBad r = false → ∀ (p : Put) (s1 : State),
        ringPut r ((bytesOfPortWords f.words ++ List.replicate 40 0).take 40 ++ bytesLE 8 f.beat.toNat ++ [BitVec.ofNat 8 n.val] ++
          List.replicate 15 0) s = .ok p s1 → s1.Canonical →
        Goes (exec (.decisionReceive n) s) (fun t => gone s1 t ∧ RegsBut [linkAddr n 0x394] s1 t ∧
          t.getReg (linkAddr n 0x394) = s1.getReg (linkAddr n 0x394) + (match p with | .done _ => 0 | _ => 1)))))

/-- R355, R361 to R364. -/
def Obligations.AlignmentAndProbe : Prop :=
  (∀ (s : State), s.Canonical →
    let ctrl := s.getReg 0x5080
    let due := bitAt ctrl 31 = true ∧ s.sysEn = true ∧ s.devno ≠ s.tmdev ∧ s.align = none ∧ beatLt s.beatno s.alignDue = false
    let next := s.beatno + BitVec.ofNat 64 (max 64 (fld ctrl 0 16))
    let up := (s.firstHop s.devno s.tmdev).bind (fun dir => (s.trunk dir).head?)
    (¬ due → exec .alignmentMeasurement s = .next s) ∧
    (due → up = none → Goes (exec .alignmentMeasurement s) (fun t =>
      t = { s with alignDue := next, regs := t.regs, alignGood := if s.alarm then s.alignGood else 0 } ∧
      RegsBut [0x5084, 0x5018] s t ∧ t.alarm = true ∧ bitAt (t.getReg 0x5084) 7 = false ∧
      t.getReg 0x5018 = s.getReg 0x5018 ||| (if s.alarm then 0 else 16))) ∧
    (due → ∀ n, up = some n → Goes (exec .alignmentMeasurement s) (fun t =>
      t = { s with alignDue := next, regs := t.regs, fwdQ := t.fwdQ, align := t.align } ∧ RegsBut [0x5084] s t ∧
      fld (t.getReg 0x5084) 0 8 = 0x80 + n.val ∧ t.alarm = s.alarm ∧
      t.align = some (n.val, none, s.beatno) ∧
      t.fwdQ = s.fwdQ ++ [{ dir := s.peerDir n, cls := 11, port := n, frame := .msg { cls := 11, kind := 2, dest := 0, src := s.devno } }]))) ∧
  (∀ (n : Fin 128) (t2 : Word64) (s : State),
    (s.peerOk n true = false → exec (.alignCall n t2) s = .next s) ∧
    (s.peerOk n true = true → exec (.alignCall n t2) s = .next { s with fwdQ := s.fwdQ ++ [
      { dir := s.peerDir n, cls := 11, port := n, frame := .msg
          { cls := 11, kind := 3, dest := 0, src := s.devno, fields := [t2 + s.timeNow.fofs.signExtend 64] } }] })) ∧
  (∀ (n : Fin 128) (t2 t3 t4 : Word64) (s : State), s.Canonical →
    (s.align = none → exec (.alignResp n t2 t3 t4) s = .next s) ∧
    (∀ p b, s.align = some (p, none, b) → exec (.alignResp n t2 t3 t4) s = .next s) ∧
    (∀ p t1 b, s.align = some (p, some t1, b) →
      let a4 := t4 + s.timeNow.fofs.signExtend 64
      let d := ((a4 - t1).toInt - (t3 - t2).toInt).tdiv 2
      let θ := ((t2 - t1).toInt + (t3 - a4).toInt).tdiv 2
      let good := θ.natAbs ≤ max 1 (fld (s.getReg 0x5080) 16 8)
      (p ≠ n.val ∨ s.peerOk n true = false ∨ 64 ≤ (s.beatno - b).toNat → exec (.alignResp n t2 t3 t4) s = .next s) ∧
      (p = n.val → s.peerOk n true = true → (s.beatno - b).toNat < 64 → -128 ≤ s.fofs.toInt + θ → s.fofs.toInt + θ ≤ 127 →
        Goes (exec (.alignResp n t2 t3 t4) s) (fun t =>
          t = { s with align := none, regs := t.regs, alignGood := t.alignGood, fofs := t.fofs } ∧
          RegsBut [linkAddr n 0x390, 0x5088, 0x5084, 0x5018] s t ∧ t.fofs.toInt = s.fofs.toInt + θ ∧
          t.getReg (linkAddr n 0x390) = 0x80000000 ||| (BitVec.ofInt 32 d &&& 0x00FFFFFF) ∧ t.getReg 0x5088 = BitVec.ofInt 32 θ ∧
          fld (t.getReg 0x5084) 16 8 = 0 ∧ t.alignGood = (if good then s.alignGood + 1 else 0) ∧
          t.alarm = (if good then (s.alarm && decide (s.alignGood = 0)) else true))) ∧
      (p = n.val → s.peerOk n true = true → (s.beatno - b).toNat < 64 → 127 < s.fofs.toInt + θ → bitAt (s.getReg 0x5080) 29 = true → s.loadBarred = false →
        Goes (exec (.alignResp n t2 t3 t4) s) (fun t =>
          t = { s.rebase (BitVec.ofInt 64 ((s.fofs.toInt + θ + 128) / 256)) with
                  align := none, regs := t.regs, alignGood := t.alignGood, fofs := t.fofs } ∧
          t.getReg 0x5018 &&& 0x80 = 0x80 ∧
          t.beatno = s.beatno + BitVec.ofInt 64 ((s.fofs.toInt + θ + 128) / 256) ∧
          t.fofs.toInt = s.fofs.toInt + θ - 256 * ((s.fofs.toInt + θ + 128) / 256))))) ∧
  (∀ s : State, s.Canonical → (s.align = none → exec .measurementMiss s = .next s) ∧
    (∀ p t1 b, s.align = some (p, t1, b) →
      let misses := min 255 (fld (s.getReg 0x5084) 16 8 + 1)
      ((s.beatno - b).toNat < 64 → exec .measurementMiss s = .next s) ∧
      (64 ≤ (s.beatno - b).toNat → Goes (exec .measurementMiss s) (fun t => t = { s with align := none, alignGood := 0, regs := t.regs } ∧
        RegsBut [0x5084, 0x5018] s t ∧ fld (t.getReg 0x5084) 16 8 = misses ∧ t.alarm = (s.alarm || decide (3 ≤ misses)) ∧
        t.getReg 0x5018 = s.getReg 0x5018 ||| (if s.alarm = false ∧ 3 ≤ misses then 0x50 else 0x40))))) ∧
  (∀ (m : Master) (data : Word) (s : State), s.Accepts m 0x508C → ∀ u, s.rowReady 0x508C = u → u.Canonical → u.Accepts m 0x508C →
    u.srstBusy .timebase = false → u.sysEn = true → u.validDev (fld data 0 9) = true →
    ∀ dir, u.firstHop u.devno (fld data 0 9) = some dir → u.trunk dir ≠ [] →
    countIf (fun q : Fwd => q.dir == dir && q.cls == 11 && q.frame.isRouted) u.fwdQ < 64 →
    Goes (exec (.probe m data) s) (fun t =>
      t = { u.replied m 0x508C {} with regs := t.regs, fwdQ := t.fwdQ, probe := some (data.setWidth 9, u.beatno) } ∧
      RegsBut [0x508C, 0x5090] u t ∧ t.getReg 0x508C = data &&& 0x1FF ∧ t.getReg 0x5090 = u.getReg 0x5090 &&& 0x00FFFFFF ∧
      t.fwdQ = u.fwdQ ++ [{ dir, cls := 11, port := (u.trunk dir).getD ((fld data 0 9 + 11) % (u.trunk dir).length) 0,
                            frame := .msg { cls := 11, kind := 4, src := u.devno, dest := fld data 0 9, hops := 1 } }])) ∧
  (∀ (src : BitVec 9) (s : State),
    (s.sysEn = false → exec (.echo src) s = .next s) ∧
    (s.sysEn = true → s.validDev src.toNat = true → ∀ dir, s.firstHop s.devno src.toNat = some dir → s.trunk dir ≠ [] →
      countIf (fun q : Fwd => q.dir == dir && q.cls == 11 && q.frame.isRouted) s.fwdQ < 64 →
      exec (.echo src) s = .next { s with fwdQ := s.fwdQ ++
        [{ dir, cls := 11, port := (s.trunk dir).getD ((src.toNat + 11) % (s.trunk dir).length) 0,
           frame := .msg { cls := 11, kind := 5, src := s.devno, dest := src.toNat, hops := 1 } }] })) ∧
  (∀ (src fine : BitVec 9) (s : State), s.Canonical → (s.probe = none → exec (.echor src fine) s = .next s) ∧
    (∀ dest sent, s.probe = some (dest, sent) →
      (dest ≠ src ∨ s.sysEn = false ∨ 65536 ≤ (s.beatno - sent).toNat → exec (.echor src fine) s = .next s) ∧
      (dest = src → s.sysEn = true → (s.beatno - sent).toNat < 65536 → Goes (exec (.echor src fine) s) (fun t => t = { s with probe := none, regs := t.regs } ∧ RegsBut [0x5090] s t ∧
        t.getReg 0x5090 = 0x80000000 ||| (((s.beatno - sent) * 256 + fine.signExtend 64).setWidth 32 &&& 0x00FFFFFF))))) ∧
  (∀ s : State, s.Canonical → (s.probe = none → exec .probeTimeout s = .next s) ∧
    (∀ dest sent, s.probe = some (dest, sent) →
      ((s.beatno - sent).toNat < 65536 → exec .probeTimeout s = .next s) ∧
      (65536 ≤ (s.beatno - sent).toNat → Goes (exec .probeTimeout s) (fun t => t = { s with probe := none, regs := t.regs } ∧
        RegsBut [0x5090] s t ∧ t.getReg 0x5090 = s.getReg 0x5090 ||| 0x40000000))))

/-! ### Engines: control, stores, boundaries (R171 to R207, R222 to R226, R264 to R274) -/

/-- R177, R200, R203, R211, R272. -/
def Obligations.EngineControl : Prop :=
  (∀ (e : Fin 257) (m : Master) (s : State), s.Canonical → e.val < 256 → s.Accepts m (engBase e + 0x40) → s.srstBusy (enginePage e) = false →
    let g := s.engines[e]
    (s.engRun e = false → s.pageEn (enginePage e) = true → g.run = .stopped → Goes (exec (.engineRun e m) s) (fun t =>
      t = { s.replied m (engBase e + 0x40) {} with regs := t.regs, engines := t.engines } ∧ RegsBut [engBase e + 0x40] s t ∧ EngBut e s t ∧ t.engRun e = true ∧
      t.engines[e] = { g with
        run := .running, micro := false, pc := s.getReg (engBase e + 0x5C), stat := 0x8000, statNext := none, cells := [], mstack := []
        dsp := 0x100, rsp := 0x100, dsl := 0, rsl := 0, lnk := 0, ecause := 0, eaddr := 0, vbase := 0, krights := 0xFFFFFFFE, part := 0
        sptr := 0, dptr := 0, scnt := 0, cfg := 0, cfgSync := none, lseaddr := 0, ag := Vector.replicate 20 0, dreason := 0
        rep := false, waitMask := none, waitEv := none, load := none, oldStore := [], oldWin := [], stopReq := false, stepping := false
        lastUpc := none, inInstr := false, tickWait := 0, paceLate := false, wdg := { g.wdg with started := true } })) ∧
    (g.run ≠ .stopped → exec (.engineRun e m) s = .next (s.replied m (engBase e + 0x40) {})) ∧
    (g.run = .stopped → s.engRun e = true ∨ s.pageEn (enginePage e) = false → Goes (exec (.engineRun e m) s) (fun t =>
      t = { s.replied m (engBase e + 0x40) {} with regs := t.regs } ∧ RegsBut [engBase e + 0x40] s t ∧ t.engRun e = true)) ∧
    (s.engRun e = true → Goes (exec (.engineStop e m false) s) (fun t =>
      t = { s.replied m (engBase e + 0x40) {} with regs := t.regs, engines := t.engines } ∧ RegsBut [engBase e + 0x40] s t ∧ EngBut e s t ∧ t.engRun e = false ∧
      ((g.run = .running ∧ g.micro = false ∧ g.rep = false) ∨ g.run = .intermission → t.engines[e] =
        { g with run := .stopped, micro := false, mstack := [], rep := false, waitMask := none, waitEv := none, oldStore := [], oldWin := []
                 stopReq := false, stepping := false, inInstr := false }) ∧
      (g.run = .dark → t.engines[e] = { g with run := .stopped }) ∧
      ((g.run = .running ∧ (g.micro = true ∨ g.rep = true)) ∨ g.run = .halted → t.engines[e] = { g with stopReq := true }) ∧
      (g.run = .stopped → t.engines[e] = g)))) ∧
  (∀ (e : Fin 257) (m : Master) (s : State), s.Canonical → e.val < 256 → s.Accepts m (engBase e + 0x08) → s.srstBusy (enginePage e) = false →
    s.pageEn (enginePage e) = true → bitAt (s.ctrlNow (enginePage e)) 2 = false →
    let g := s.engines[e]
    Goes (exec (.engineStop e m true) s) (fun t =>
      t = { s.replied m (engBase e + 0x08) {} with regs := t.regs, engines := t.engines } ∧ RegsBut [engBase e + 0x08] s t ∧ EngBut e s t ∧
      t.pageEn (enginePage e) = false ∧
      ((g.run = .running ∧ g.micro = false ∧ g.rep = false) ∨ g.run = .intermission → t.engines[e] =
        { g with run := .stopped, micro := false, mstack := [], rep := false, waitMask := none, waitEv := none, oldStore := [], oldWin := []
                 stopReq := false, stepping := false, inInstr := false }) ∧
      ((g.run = .running ∧ (g.micro = true ∨ g.rep = true)) ∨ g.run = .halted → t.engines[e] = { g with stopReq := true }) ∧
      (g.run = .stopped ∨ g.run = .dark → t.engines[e] = g))) ∧
  (∀ (e : Fin 257) (m : Master) (data : Word) (s : State), s.Canonical → s.Accepts m (engBase e + 0x88) → s.srstBusy (enginePage e) = false →
    Goes (exec (.iset e m data) s) (fun t => t = { s.replied m (engBase e + 0x88) {} with regs := t.regs } ∧ RegsBut [engBase e + 0x80] s t ∧
      t.getReg (engBase e + 0x80) = s.getReg (engBase e + 0x80) ||| data)) ∧
  (∀ (e : Fin 257) (m : Master) (s : State), Goes (exec (.doorbellWrite e m) s) (fun t => t = { s with engines := t.engines } ∧ EngBut e s t ∧
    t.engines[e] = { s.engines[e] with evl := s.engines[e].evl ||| 8 })) ∧
  (∀ (e : Fin 257) (s : State), s.Canonical →
    let g := s.engines[e]
    let paced := bitAt g.stat 10 = true ∧ s.working e = true
    (bitAt g.stat 10 = false ∨ (s.working e = false ∧ g.run ≠ .intermission) → exec (.pacingTick e) s = .next s) ∧
    (paced → g.tickWait ≠ 0 → Goes (exec (.pacingTick e) s) (fun t => t = { s with engines := t.engines } ∧ EngBut e s t ∧
      t.engines[e] = { g with tickWait := g.tickWait - 1 })) ∧
    (paced → g.tickWait = 0 → s.inRoutine e = false ∨ g.paceLate = true ∨ e.val = 256 → exec (.pacingTick e) s = .next s) ∧
    (paced → g.tickWait = 0 → s.inRoutine e = true → g.paceLate = false → e.val < 256 → Goes (exec (.pacingTick e) s) (fun t =>
      t = { s with regs := t.regs, engines := t.engines } ∧ EngBut e s t ∧ t.engines[e] = { g with paceLate := true } ∧
      RegsBut [engBase e + 0x64, engBase e + 0x18] s t ∧ t.getReg (engBase e + 0x64) = s.getReg (engBase e + 0x64) + 1 ∧
      t.getReg (engBase e + 0x18) = s.getReg (engBase e + 0x18) ||| 4)))

/-- R195, R196, R201, R202, R205, R206. -/
def Obligations.ControlStores : Prop :=
  (∀ (e : Fin 257) (m : Master) (data : Word) (s : State), s.Canonical → spWf csBase s.cstore = true → e.val < 256 →
    s.Accepts m (engBase e + 0x58) → s.srstBusy (enginePage e) = false → bitAt (s.csaddr e) 30 = false →
    let i := fld (s.csaddr e) 0 11
    let idle := s.engines[e].run = .stopped ∨ s.engines[e].run = .dark
    (idle → Goes (exec (.controlStoreCommit e m data) s) (fun t =>
      t = { s.replied m (engBase e + 0x58) {} with regs := t.regs, cstore := t.cstore, csErr := t.csErr } ∧ RegsBut [engBase e + 0x58, engBase e + 0x48] s t ∧
      t.csWord e.val i = withChk (data ++ s.getReg (engBase e + 0x54) ++ s.getReg (engBase e + 0x50) ++ s.getReg (engBase e + 0x4C)) ∧
      (∀ j, j < 2048 → j ≠ i → t.csWord e.val j = s.csWord e.val j) ∧
      (∀ e', e' < 257 → e' ≠ e.val → ∀ j, j < 2048 → t.csWord e' j = s.csWord e' j) ∧
      fld (t.csaddr e) 0 11 = (if bitAt (s.csaddr e) 31 then (i + 1) % 2048 else i))) ∧
    (¬ idle → Goes (exec (.controlStoreCommit e m data) s) (fun t => t = { s.replied m (engBase e + 0x58) {} with regs := t.regs, engines := t.engines } ∧
      RegsBut [engBase e + 0x58, engBase e + 0x18] s t ∧ EngBut e s t ∧ t.engines[e] = { s.engines[e] with lderr := true } ∧
      t.getReg (engBase e + 0x18) = s.getReg (engBase e + 0x18) ||| 8))) ∧
  (∀ (e : Fin 257) (m : Master) (data : Word) (s : State), s.Canonical → spWf dispBase s.dispatch = true → e.val < 256 →
    s.Accepts m (engBase e + 0x4C) → s.srstBusy (enginePage e) = false → bitAt (s.csaddr e) 30 = true →
    let x := fld (s.csaddr e) 0 8
    let may := (s.engines[e].run = .stopped ∨ s.engines[e].run = .dark) ∧ ¬ (0xE0 ≤ x ∧ x ≤ 0xEF)
    (may → Goes (exec (.dispatchEntryCommit e m data) s) (fun t =>
      t = { s.replied m (engBase e + 0x4C) {} with regs := t.regs, dispatch := t.dispatch, dispErr := t.dispErr } ∧ RegsBut [engBase e + 0x4C, engBase e + 0x48] s t ∧
      t.dispEntry e.val x = data ∧ (∀ y, y < 256 → y ≠ x → t.dispEntry e.val y = s.dispEntry e.val y) ∧
      (∀ e', e' < 257 → e' ≠ e.val → ∀ y, y < 256 → t.dispEntry e' y = s.dispEntry e' y))) ∧
    (¬ may → Goes (exec (.dispatchEntryCommit e m data) s) (fun t => t = { s.replied m (engBase e + 0x4C) {} with regs := t.regs, engines := t.engines } ∧
      RegsBut [engBase e + 0x4C, engBase e + 0x18] s t ∧ EngBut e s t ∧ t.engines[e] = { s.engines[e] with lderr := true } ∧
      t.getReg (engBase e + 0x18) = s.getReg (engBase e + 0x18) ||| 8))) ∧
  (∀ (c : Fin 16) (m : Master) (data : Word) (s : State), s.Canonical → spWf (fun _ => 0) s.sstore = true →
    s.Accepts m (pageBase (.cluster c) + 0x50) → s.srstBusy (.cluster c) = false →
    let b := pageBase (.cluster c)
    let i := fld (s.getReg (b + 0x40)) 0 14
    let held := s.unitHeld 3 ((16384 * c.val + i) / 256)
    (held = true → Goes (exec (.sharedStoreCommit c m data) s) (fun t =>
      t = { s.replied m (pageBase (.cluster c) + 0x50) {} with regs := t.regs, ssWait := s.ssWait.set c true } ∧ RegsBut [b + 0x50] s t ∧ t.getReg (b + 0x50) = data)) ∧
    (held = false → Goes (exec (.sharedStoreCommit c m data) s) (fun t =>
      t = { s.replied m (pageBase (.cluster c) + 0x50) {} with regs := t.regs, sstore := t.sstore, ssErr := t.ssErr, trust := t.trust, slots := t.slots } ∧
      RegsBut [b + 0x50, b + 0x40, b + 0x18, b + 0x5C + 4 * (i / 256 / 32)] s t ∧
      t.ssWord c.val i = withChk (data ++ s.getReg (b + 0x4C) ++ s.getReg (b + 0x48) ++ s.getReg (b + 0x44)) ∧
      (∀ j, j < 16384 → j ≠ i → t.ssWord c.val j = s.ssWord c.val j) ∧
      bitAt (t.getReg (b + 0x5C + 4 * (i / 256 / 32))) (i / 256 % 32) = true ∧ t.getReg (b + 0x18) = s.getReg (b + 0x18) ||| 2 ∧
      fld (t.getReg (b + 0x40)) 0 14 = (if bitAt (s.getReg (b + 0x40)) 31 then (i + 1) % 16384 else i)))) ∧
  (∀ (c : Fin 16) (s : State), s.Canonical → spWf (fun _ => 0) s.sstore = true →
    let b := pageBase (.cluster c)
    let i := fld (s.getReg (b + 0x40)) 0 14
    let held := s.unitHeld 3 ((16384 * c.val + i) / 256)
    (s.ssWait[c] = false ∨ held = true → exec (.sharedStoreCommitResume c) s = .next s) ∧
    (s.ssWait[c] = true → held = false → Goes (exec (.sharedStoreCommitResume c) s) (fun t =>
      t = { s with regs := t.regs, sstore := t.sstore, ssErr := t.ssErr, trust := t.trust, slots := t.slots, ssWait := s.ssWait.set c false } ∧
      t.ssWord c.val i =
        withChk (s.getReg (b + 0x50) ++ s.getReg (b + 0x4C) ++ s.getReg (b + 0x48) ++ s.getReg (b + 0x44)) ∧
      (∀ j, j < 16384 → j ≠ i → t.ssWord c.val j = s.ssWord c.val j))))

/-- R223 to R226, R292, R297, R299, R306, R422, R447. -/
def Obligations.StoreBuffer : Prop :=
  ∀ (e : Fin 257) (col : Collision) (s : State),
    let g := s.engines[e]
    let acked := fun (k : Engine) => if k.tinvs.isEmpty then k else { k with tinvs := k.tinvs.map (Tinv.ack e.val) }
    let left := fun (u : State) (f : Engine → Engine) => { u with
      engines := Vector.ofFn (fun e' => acked (if e' = e then f u.engines[e] else u.engines[e'])) }
    (g.sbuf = [] → exec (.storeBufferDrain e col) s = .next s ∧ exec (.lateStoreError e) s = .next s) ∧
    (∀ x rest, g.sbuf = x :: rest → regSpaceOf x.pa = none →
      (∀ s1, memWrite (s.engWho e) x.pa (x.bytes.map some) s = .ok () s1 → exec (.lateStoreError e) s = .next s ∧
        exec (.storeBufferDrain e col) s = .next ((left s1 (fun k => { k with sbuf := rest })).meets (engMaster e).val x.pa true col)) ∧
      (∀ s1, memWrite (s.engWho e) x.pa (x.bytes.map some) s = .error .fault s1 →
        let u := left s1 (fun k => { k with sbuf := rest, lse := true, lseaddr := if k.lse then k.lseaddr else BitVec.ofNat 32 x.va })
        exec (.lateStoreError e) s = .next u ∧ exec (.storeBufferDrain e col) s = .next (u.meets (engMaster e).val x.pa true col)) ∧
      (∀ w s1, memWrite (s.engWho e) x.pa (x.bytes.map some) s = .error (.wait w) s1 → exec (.lateStoreError e) s = .next s ∧
        ((s.settle w).hostReqs.length ≤ s.hostReqs.length → exec (.storeBufferDrain e col) s = .next (s.settle w)) ∧
        (s.hostReqs.length < (s.settle w).hostReqs.length → Goes (exec (.storeBufferDrain e col) s) (fun t =>
          t = { s.settle w with engines := t.engines } ∧ EngBut e (s.settle w) t ∧
          t.engines[e] = { g with sbuf := { x with sent := (s.settle w).hostReqs.getLast?.map HostReq.tag } :: rest })))) ∧
    (∀ x rest, g.sbuf = x :: rest → ∀ off, regSpaceOf x.pa = some off →
      let tgt := regTarget off
      let r := (s.grantSingle (engMaster e).val tgt).regStore e off x.bytes
      let u := left r.2 (fun k => { k with
        sbuf := k.sbuf.drop 1, lse := k.lse || r.1, lseaddr := if r.1 && !k.lse then BitVec.ofNat 32 x.va else k.lseaddr })
      (x.island = true → exec (.storeBufferDrain e col) s = .next s ∧ exec (.lateStoreError e) s = .next s) ∧
      (x.island = false → s.grants (engMaster e).val tgt = false →
        exec (.storeBufferDrain e col) s = .next (s.arbWaits (engMaster e).val tgt) ∧ exec (.lateStoreError e) s = .next s) ∧
      (x.island = false → s.grants (engMaster e).val tgt = true → r.2.islandQ.length ≤ s.islandQ.length →
        exec (.storeBufferDrain e col) s = .next u ∧
        exec (.lateStoreError e) s = .next (if r.1 then u else s)) ∧
      (x.island = false → s.grants (engMaster e).val tgt = true → s.islandQ.length < r.2.islandQ.length →
        exec (.lateStoreError e) s = .next s ∧ Goes (exec (.storeBufferDrain e col) s) (fun t => ∃ w, r.2.islandQ.getLast? = some w ∧
          t = { s.grantSingle (clusterOf e).val 24 with islandQ := s.islandQ ++ [w], engines := t.engines } ∧ EngBut e s t ∧
          t.engines[e] = { g with sbuf := { x with island := true } :: rest })))

/-- R186, R191, R193, R200, R214 to R216, R231, R234, R249, R256, R259 to R261, R264 to R270, R273, R289 to R291. -/
def Obligations.ExceptionEntry : Prop :=
  (∀ (e : Fin 257) (s : State),
    (s.atBoundary e = false ∨ s.noHalt e = false ∨ s.quietStep e = true ∨ s.pendingEvent e = none → exec (.exceptionEntry e none) s = .next s) ∧
    (s.atBoundary e = true → s.noHalt e = true → s.quietStep e = false → s.engines[e].load = none →
      ∀ cause eaddr, s.pendingEvent e = some (cause, eaddr) →
      let s1 := s.modEng e (fun g => { g.due (decide (e.val = 256)) with
        mstack := [], reserved := none, micro := false, inInstr := false, oldStore := [], oldWin := [], xcause := BitVec.ofNat 8 cause })
      let g1 := s1.engines[e]
      let enter := fun (cause orig : Nat) (eaddr : Word) (h : Engine) => { h with
        rsp := h.rsp - 8, ecause := BitVec.ofNat 32 (orig * 2 ^ 16 + cause), eaddr
        lse := h.lse && cause != 0x0D, rep := false, stat := (h.stat &&& 0xFFFF3FFF) ||| 0x8000
        pc := h.vbase + BitVec.ofNat 32 (16 * cause), wdg := if cause = 0x0E then { h.wdg with pend := false } else h.wdg }
      (g1.rsp.toNat < g1.rsl.toNat ∨ g1.rsp.toNat < 8 → Goes (exec (.exceptionEntry e none) s) (fun t => t.engines[e].run = .dark ∧
        t.engines[e].dreason = 7 ∧ t.engines[e].eaddr = g1.rsp ∧ t.engines[e].ecause = BitVec.ofNat 32 (cause * 2 ^ 16 + 0x70F))) ∧
      (g1.rsl.toNat ≤ g1.rsp.toNat → 8 ≤ g1.rsp.toNat → ∀ s2, pushFrame e s.engines[e].pc s1 = .ok () s2 →
        (g1.rsl.toNat + 8 ≤ g1.rsp.toNat → s2.engines[e].rsp = g1.rsp → Goes (exec (.exceptionEntry e none) s) (Ran e s2 (enter cause 0 eaddr))) ∧
        (g1.rsp.toNat < g1.rsl.toNat + 8 → s2.engines[e].rsp = g1.rsp →
          Goes (exec (.exceptionEntry e none) s) (Ran e s2 (enter 0x0C cause (g1.rsp - 8))))))) ∧
  (∀ (e : Fin 257) (opc : BitVec 8) (s : State),
    (s.canRun e = false ∨ baseReserved opc.toNat = false → exec (.exceptionEntry e (some opc)) s = .next s) ∧
    (s.canRun e = true → baseReserved opc.toNat = true → s.entryIsBase e.val opc.toNat = true → s.prompting e = false →
      ∀ u, (do fetchBytes e s.engines[e].pc 1 true; useEntry e opc.toNat) s = .ok () u →
      Enters e s u (if 0xC0 ≤ opc.toNat then 0x02 else 0x01) 0 s.engines[e].pc s.engines[e].pc (exec (.exceptionEntry e (some opc)) s))) ∧
  (∀ (e : Fin 257) (s : State), s.canRun e = true → s.privileged e = false →
    ∀ (opc : Nat) (c : Instr), (opc, c) ∈ [(0x65, Instr.rete e), (0xA6, Instr.tinv e), (0xA7, Instr.tsync e)] →
    s.entryIsBase e.val opc = true → s.entryMoved e.val opc = false → ∀ u, (do fetchBytes e s.engines[e].pc 1 true; useEntry e opc) s = .ok () u →
    u.privileged e = false → Enters e s (u.modEng e (fun g => { g with
      rep := false, inInstr := true, ipc := s.engines[e].pc, opc := BitVec.ofNat 8 opc, immv := 0, pc := s.engines[e].pc + 1 }))
      0x09 0 s.engines[e].pc s.engines[e].pc (exec c s)) ∧
  (∀ (e : Fin 257) (s : State), s.canRun e = true → s.entryMoved e.val 0x44 = false → ∀ u, dispatchBase e 0x44 1 0 s = .ok () u →
    ∀ a rest, u.engines[e].cells = a :: rest → rest.length < 8 →
    let here := s.engines[e].pc
    (a.toNat % 4 ≠ 0 → bitAt u.engines[e].stat 9 = false → Enters e s u 0x03 0 a here (exec (.ld32 e) s)) ∧
    (a.toNat % 4 = 0 → ∀ v, (∀ c d x n, translateRaw e false a.toNat u = .error (.fault c d x n) v →
        Enters e s v 0x07 d a (if n then v.engines[e].pc else here) (exec (.ld32 e) s)) ∧
      (∀ p, translateRaw e false a.toNat u = .ok p v →
        (hasRight p.x p.w p.r .read = false → Enters e s v 0x07 0x51 a here (exec (.ld32 e) s)) ∧
        (hasRight p.x p.w p.r .read = true → keyGrants v.engines[e].krights p.key .read = false →
          Enters e s v 0x08 p.key a here (exec (.ld32 e) s))))) ∧
  (∀ (e : Fin 257) (imm : BitVec 8) (s : State), s.canRun e = true → s.entryMoved e.val 0x01 = false →
    ∀ u, dispatchBase e 0x01 2 (imm.setWidth 32) s = .ok () u → u.engines[e].cells.length = 8 →
    u.engines[e].dsp.toNat < u.engines[e].stackLimit + 4 →
    Enters e s u 0x0A 0 (u.engines[e].dsp - 4) s.engines[e].pc (exec (.lit8 e imm) s)) ∧
  (∀ (e : Fin 257) (s : State), s.canRun e = true → s.entryMoved e.val 0x20 = false →
    ∀ u, dispatchBase e 0x20 1 0 s = .ok () u → u.engines[e].cells.length < 2 → u.engines[e].stackBase ≤ u.engines[e].dsp.toNat →
    Enters e s u 0x0B 0 u.engines[e].dsp s.engines[e].pc (exec (.add e) s)) ∧
  (∀ (e : Fin 257) (imm : BitVec 8) (s : State), s.canRun e = true → s.entryMoved e.val 0x69 = false →
    ∀ u, dispatchBase e 0x69 2 (imm.setWidth 32) s = .ok () u → imm.toNat ≤ 15 →
    Enters e s u (0x10 + imm.toNat) 0 u.engines[e].ipc u.engines[e].pc (exec (.trap e imm) s)) ∧
  (∀ (e : Fin 257) (s : State), s.canRun e = true → s.entryMoved e.val 0xBF = false →
    ∀ u, dispatchBase e 0xBF 1 0 s = .ok () u → u.engines[e].bkpt = false → u.prompting e = false →
    Enters e s u 0x01 0 u.engines[e].ipc s.engines[e].pc (exec (.bkpt e) s)) ∧
  (∀ (e : Fin 257) (s : State), ∀ r s1 s2,
    s.found e 0x65 1 0 (do let st ← readReturn e 0; let a ← readReturn e 4; predicted e; return (st, a)) = some (r, s1, s2) →
    Goes (exec (.rete e) s) (Ran e s2 (fun h => { h with
      rsp := h.rsp + 8, stat := (h.stat &&& 0x07FFFFFF) ||| (r.1 &&& 0xF8000000), statNext := some r.1, pc := r.2
      pred := ((h.partNo, h.ipc.toNat) :: h.pred.erase (h.partNo, h.ipc.toNat)).take 64 }))) ∧
  (∀ (e : Fin 257) (s : State),
    let g := s.engines[e]
    (g.run ≠ .intermission ∨ bitAt g.stat 10 = true → exec (.intermissionExit e) s = .next s) ∧
    ∀ c : Instr, (bitAt g.stat 10 = false ∧ c = .intermissionExit e) ∨ (bitAt g.stat 10 = true ∧ c = .pacingTick e) → g.run = .intermission →
    (∀ m, g.waitMask = some m →
      (g.evl &&& m = 0 → s.waitEnds e = false → exec c s = .next s) ∧
      (g.evl &&& m ≠ 0 ∨ s.waitEnds e = true → s.stopDue e = false → g.statNext = none → g.cfgSync = none →
        Goes (exec c s) (fun t => t = { s with engines := t.engines } ∧ EngBut e s t ∧ t.engines[e] =
          { g with
            run := .running, cells := (g.evl &&& m).setWidth 32 :: g.cells, waitMask := none, micro := false, mstack := [], stepping := false, inInstr := false
            oldStore := if g.rep then g.oldStore else [], oldWin := if g.rep then g.oldWin else []
            stat := putBit g.stat 30 (g.evl &&& m == 0) }))) ∧
    (g.waitMask = none → ∀ u, g.waitEv = some u → g.micro = true → g.tickWait = 0 →
      exec c s = exec (.microword e) { s with engines := s.engines.set e { g with run := .running, waitEv := none } }))

/-- R171 to R175, R178 to R183, R190 to R192, R200, R201. -/
def Obligations.MicrowordRuns : Prop :=
  ∀ (e : Fin 257) (s : State),
    let g := s.engines[e]
    let u := g.upc.toNat
    let m := microOf (s.csWord e.val u)
    let due := s.inRoutine e = true ∧ (bitAt g.stat 10 = false ∨ g.tickWait = 0)
    let simple := m.stk = 0 ∧ m.mem = 0 ∧ m.xcmd = 0 ∧ 8 ≤ m.asrc ∧ m.asrc ≤ 14 ∧ 8 ≤ m.bsrc ∧ m.bsrc ≤ 14 ∧
      ((8 ≤ m.dst ∧ m.dst ≤ 11) ∨ m.dst = 14) ∧ m.haltd = false ∧ m.csel ≠ 33
    (¬ due → exec (.microword e) s = .next s) ∧
    (due → u < 0x800 → spGet (fun _ => none) s.csErr (2048 * e.val + u) = none →
      (m.reserved = true → s.prompting e = false → Goes (exec (.microword e) s) (fun t =>
        t.engines[e] = { g with
          run := .dark, dreason := 2, dpc := g.upc, waitMask := none, waitEv := none, stepping := false, stopReq := false, ecause := 0x20F } ∧
        (e.val < 256 → s.Canonical → t = { s with engines := t.engines, regs := t.regs } ∧ EngBut e s t ∧
          RegsBut [engBase e + 0x18, engBase 256 + 0x80] s t ∧ t.getReg (engBase e + 0x18) = s.getReg (engBase e + 0x18) ||| 1))) ∧
      (m.reserved = false → simple → g.load = none → g.cells.length ≤ 8 →
        let a := s.microSrc e m m.asrc
        let b := s.microSrc e m m.bsrc
        let ex := microEx m a b (flagC g.stat)
        (∀ v : BitVec 16, (m.seq = 0 ∧ u + 1 < 0x800 ∧ v.toNat = u + 1) ∨
            (m.seq = 1 ∧ v = m.next ∧ v.toNat < 0x800 ∧ (u < 0x400 ∨ 0x400 ≤ v.toNat)) →
          s.Canonical → Goes (exec (.microword e) s) (fun t =>
            t = { s with engines := t.engines, regs := t.regs, permit := t.permit, freeIndex := s.freeIndex + 2 } ∧ EngBut e s t ∧
            t.permit = { s.permit with eCtrl := t.permit.eCtrl, eMgmt := t.permit.eMgmt } ∧
            RegsBut [engBase e + 0x70] s t ∧ (e.val < 256 → t.getReg (engBase e + 0x70) = s.getReg (engBase e + 0x70) + 1) ∧
            t.engines[e] = { g with
              x := if m.dst = 14 then g.x else g.x.setIfInBounds (m.dst - 8) ex.r
              stat := microFlags g.stat m.flg ex, prevRes := ex.r, mdrOld := g.mdr, upc := v, tickWait := s.paceOf e m, paceLate := false }))))

/-! ### Cue Code (R208 to R261) -/

/-- R214 to R218, R237, R238. -/
def Obligations.CueStack : Prop :=
  ∀ (e : Fin 257) (s : State),
    let runs := fun (i : Instr) (opc len : Nat) (imm : Word) (α : Type) (m : EngM α) (f : α → Engine → Engine) =>
      (s.canRun e = false → exec i s = .next s) ∧
      ∀ a s1 s2, s.found e opc len imm m = some (a, s1, s2) → Goes (exec i s) (Ran e s2 (f a))
    let stack := fun (i : Instr) (opc pops pushes : Nat) (f : List Word → List Word) =>
      runs i opc 1 0 (List Word) (operands e pops pushes) (fun c g => { g with cells := f c ++ g.cells.drop pops })
    let above := fun (i : Instr) (opc n pushes : Nat) (f : List Word → List Word) =>
      runs i opc 1 0 (List Word) (do needCells e n 8; operands e 0 pushes) (fun c g => { g with cells := f c ++ g.cells })
    let lit := fun (i : Instr) (opc len : Nat) (imm v : Word) =>
      runs i opc len imm (List Word) (operands e 0 1) (fun _ g => { g with cells := v :: g.cells })
    let push := fun (i : Instr) (opc len : Nat) (imm : Word) (m : EngM Word) =>
      runs i opc len imm Word m (fun v g => { g with cells := v :: g.cells })
    runs (.nop e) 0x00 1 0 Unit (pure ()) (fun _ g => g) ∧
    (∀ v : BitVec 8, lit (.lit8 e v) 0x01 2 (v.setWidth 32) (v.signExtend 32)) ∧
    (∀ v : BitVec 16, lit (.lit16 e v) 0x02 3 (v.setWidth 32) (v.signExtend 32) ∧ lit (.lit16u e v) 0x04 3 (v.setWidth 32) (v.setWidth 32)) ∧
    (∀ v : Word, lit (.lit32 e v) 0x03 5 v v) ∧
    above (.dup e) 0x05 1 1 (fun c => c.take 1) ∧
    stack (.drop e) 0x06 1 0 (fun _ => []) ∧
    stack (.swap e) 0x07 2 2 (fun c => (c.take 2).reverse) ∧
    above (.overOp e) 0x08 2 1 (fun c => [c.getD 1 0]) ∧
    stack (.rot e) 0x09 3 3 (fun c => (c.take 3).drop 2 ++ c.take 2) ∧
    stack (.nip e) 0x0A 2 1 (fun c => c.take 1) ∧
    stack (.tuck e) 0x0B 2 3 (fun c => c.take 2 ++ c.take 1) ∧
    above (.dup2 e) 0x0C 2 2 (fun c => c.take 2) ∧
    stack (.drop2 e) 0x0D 2 0 (fun _ => []) ∧
    (∀ n : BitVec 8, push (.pick e n) 0x0E 2 (n.setWidth 32) (do
      let g ← engOf e
      let a := g.dsp.toNat + 4 * (n.toNat - g.cells.length)
      let v ← if n.toNat < g.cells.length then pure (g.cells.getD n.toNat 0)
        else if g.stackBase ≤ a then throw (.fault 0x0B 0 g.dsp) else BitVec.ofNat 32 <$> loadN e (BitVec.ofNat 32 a) 4
      let _ ← operands e 0 1
      return v)) ∧
    push (.depth e) 0x0F 1 0 (do
      let g ← engOf e
      let _ ← operands e 0 1
      return BitVec.ofInt 32 (g.cells.length + ((g.stackBase : Int) - g.dsp.toNat) / 4)) ∧
    runs (.rpush e) 0x10 1 0 Unit (do let c ← operands e 1 0; pushReturn e (c.getD 0 0))
      (fun _ g => { g with cells := g.cells.drop 1, rsp := g.rsp - 4 }) ∧
    runs (.rpop e) 0x11 1 0 Word (do let _ ← operands e 0 1; readReturn e 0) (fun v g => { g with cells := v :: g.cells, rsp := g.rsp + 4 }) ∧
    runs (.rpeek e) 0x12 1 0 Word (do let _ ← operands e 0 1; readReturn e 0) (fun v g => { g with cells := v :: g.cells }) ∧
    runs (.flush e) 0x13 1 0 Unit (spillTo e 0 8) (fun _ g => g)

/-- R213, R239 to R242. -/
def Obligations.CueArith : Prop :=
  ∀ (e : Fin 257) (s : State),
    let st := fun (w r : Word) (c v : Option Bool) (dz : Bool) =>
      let w := putBit (putBit w 31 (r.getLsbD 31)) 30 (r == 0)
      let w := match c with | some b => putBit w 29 b | none => w
      let w := match v with | some b => putBit w 28 b | none => w
      if dz then putBit w 27 true else w
    let op := fun (i : Instr) (opc len : Nat) (imm : Word) (pops pushes : Nat)
        (f : Word → Word → Word → Word × Option Bool × Option Bool × Bool) =>
      ∀ c s1 s2, s.found e opc len imm (operands e pops pushes) = some (c, s1, s2) →
        let x := f s1.engines[e].stat (c.getD (pops - 1) 0) (c.getD 0 0)
        Goes (exec i s) (Ran e s2 (fun g => { g with
          cells := (if pushes = 1 then [x.1] else []) ++ g.cells.drop pops, stat := st g.stat x.1 x.2.1 x.2.2.1 x.2.2.2 }))
    let bin := fun i opc f => op i opc 1 0 2 1 (fun w a b => f w a b)
    let pure2 := fun (i : Instr) (opc : Nat) (f : Word → Word → Word) => bin i opc (fun _ a b => (f a b, none, none, false))
    let fits := fun (x : Int) => decide (x < -2147483648 ∨ 2147483647 < x)
    let sat := fun (x : Int) => (BitVec.ofInt 32 (max (-2147483648) (min 2147483647 x)), none, some (fits x), false)
    let carry := fun (w : Word) => if w.getLsbD 29 then 1 else 0
    let add := fun (a b : Word) (k : Nat) => (a + b + BitVec.ofNat 32 k, some (decide (2 ^ 32 ≤ a.toNat + b.toNat + k)),
      some (fits (a.toInt + b.toInt + k)), false)
    let sub := fun (a b : Word) (k : Nat) => (a - b - BitVec.ofNat 32 k, some (decide (b.toNat + k ≤ a.toNat)),
      some (fits (a.toInt - b.toInt - k)), false)
    let div := fun (a b q z : Word) (v : Bool) => if b = 0 then (z, none, some true, true) else (q, none, some v, false)
    let tooBig := fun (a b : Word) => a == 0x80000000 && b == 0xFFFFFFFF
    bin (.add e) 0x20 (fun _ a b => add a b 0) ∧
    bin (.adc e) 0x21 (fun w a b => add a b (carry w)) ∧
    bin (.sub e) 0x22 (fun _ a b => sub a b 0) ∧
    bin (.sbc e) 0x23 (fun w a b => sub a b (1 - carry w)) ∧
    op (.neg e) 0x24 1 0 1 1 (fun _ a _ => (-a, none, some (fits (-a.toInt)), false)) ∧
    bin (.adds e) 0x25 (fun _ a b => sat (a.toInt + b.toInt)) ∧
    bin (.subs e) 0x26 (fun _ a b => sat (a.toInt - b.toInt)) ∧
    bin (.addus e) 0x27 (fun _ a b => (BitVec.ofNat 32 (min 0xFFFFFFFF (a.toNat + b.toNat)), none, some (decide (2 ^ 32 ≤ a.toNat + b.toNat)), false)) ∧
    pure2 (.mul e) 0x28 (fun a b => BitVec.ofInt 32 (a.toInt * b.toInt)) ∧
    pure2 (.mulhs e) 0x29 (fun a b => (a.signExtend 64 * b.signExtend 64).extractLsb' 32 32) ∧
    pure2 (.mulhu e) 0x2A (fun a b => (a.setWidth 64 * b.setWidth 64).extractLsb' 32 32) ∧
    bin (.divs e) 0x2B (fun _ a b => div a b (a.sdiv b) 0xFFFFFFFF (tooBig a b)) ∧
    bin (.divu e) 0x2C (fun _ a b => div a b (a / b) 0xFFFFFFFF false) ∧
    bin (.rems e) 0x2D (fun _ a b => div a b (a.srem b) a (tooBig a b)) ∧
    bin (.remu e) 0x2E (fun _ a b => div a b (a % b) a false) ∧
    op (.cmp e) 0x2F 1 0 2 0 (fun _ a b => sub a b 0) ∧
    pure2 (.andOp e) 0x30 (fun a b => a &&& b) ∧
    pure2 (.orOp e) 0x31 (fun a b => a ||| b) ∧
    pure2 (.xorOp e) 0x32 (fun a b => a ^^^ b) ∧
    pure2 (.andn e) 0x33 (fun a b => a &&& ~~~b) ∧
    op (.notOp e) 0x34 1 0 1 1 (fun _ a _ => (~~~a, none, none, false)) ∧
    bin (.shl e) 0x35 (fun _ a n => (a <<< n.toNat, some (decide (n.toNat ≠ 0 ∧ n.toNat ≤ 32) && a.getLsbD (32 - n.toNat)), none, false)) ∧
    bin (.shr e) 0x36 (fun _ a n => (a >>> n.toNat, some (decide (n.toNat ≠ 0 ∧ n.toNat ≤ 32) && a.getLsbD (n.toNat - 1)), none, false)) ∧
    bin (.sar e) 0x37 (fun _ a n => (a.sshiftRight n.toNat, some (decide (n.toNat ≠ 0 ∧ n.toNat ≤ 32) && a.getLsbD (n.toNat - 1)), none, false)) ∧
    bin (.rol e) 0x38 (fun _ a n => (a.rotateLeft n.toNat, some (decide (n.toNat % 32 ≠ 0) && (a.rotateLeft n.toNat).getLsbD 0), none, false)) ∧
    bin (.ror e) 0x39 (fun _ a n => (a.rotateRight n.toNat, some (decide (n.toNat % 32 ≠ 0) && (a.rotateRight n.toNat).getLsbD 31), none, false)) ∧
    (∀ v : BitVec 8, op (.addi e v) 0x3A 2 (v.setWidth 32) 1 1 (fun _ a _ => add a (v.signExtend 32) 0) ∧
      op (.cmpi e v) 0x3B 2 (v.setWidth 32) 1 0 (fun _ a _ => sub a (v.signExtend 32) 0)) ∧
    op (.tst e) 0x3C 1 0 2 0 (fun _ a b => (a &&& b, none, none, false)) ∧
    pure2 (.mins e) 0x3D (fun a b => if b.slt a then b else a) ∧
    pure2 (.maxs e) 0x3E (fun a b => if a.slt b then b else a) ∧
    op (.clz e) 0x3F 1 0 1 1 (fun _ a _ => (BitVec.ofNat 32 (if a = 0 then 32 else 31 - Nat.log2 a.toNat), none, none, false))

/-- R221, R227, R243 to R246, R252. -/
def Obligations.CueMemory : Prop :=
  ∀ (e : Fin 257) (s : State),
    let runs := fun (i : Instr) (opc len : Nat) (imm : Word) (α : Type) (m : EngM α) (f : α → Engine → Engine) =>
      ∀ a s1 s2, s.found e opc len imm m = some (a, s1, s2) → Goes (exec i s) (Ran e s2 (f a))
    let load := fun (i : Instr) (opc len : Nat) (imm disp : Word) (n : Nat) (nc : Bool) (ext : Nat → Word) =>
      runs i opc len imm (Word × Nat) (do let c ← operands e 1 1; return (c.getD 0 0, ← loadN e (c.getD 0 0 + disp) n nc))
        (fun x g => { g with cells := x.1 :: g.cells.drop 1, load := some (1 + (g.cells.length - 1) + g.memCells, ext x.2) })
    let store := fun (i : Instr) (opc len : Nat) (imm disp : Word) (n : Nat) =>
      runs i opc len imm Unit (do let c ← operands e 2 0; storeN e (c.getD 0 0 + disp) n (c.getD 1 0).toNat)
        (fun _ g => { g with cells := g.cells.drop 2 })
    let z := BitVec.ofNat 32
    let sx8 := fun (v : Nat) => (BitVec.ofNat 8 v).signExtend 32
    let sx16 := fun (v : Nat) => (BitVec.ofNat 16 v).signExtend 32
    load (.ld8u e) 0x40 1 0 0 1 false z ∧ load (.ld8s e) 0x41 1 0 0 1 false sx8 ∧ load (.ld16u e) 0x42 1 0 0 2 false z ∧
    load (.ld16s e) 0x43 1 0 0 2 false sx16 ∧ load (.ld32 e) 0x44 1 0 0 4 false z ∧ load (.ld32nc e) 0x45 1 0 0 4 true z ∧
    store (.st8 e) 0x46 1 0 0 1 ∧ store (.st16 e) 0x47 1 0 0 2 ∧ store (.st32 e) 0x48 1 0 0 4 ∧
    (∀ d : BitVec 16, load (.ld32d e d) 0x49 3 (d.setWidth 32) (d.signExtend 32) 4 false z ∧
      store (.st32d e d) 0x4A 3 (d.setWidth 32) (d.signExtend 32) 4) ∧
    runs (.ldr e) 0x4B 1 0 Word (do let c ← operands e 1 1; loadReserve e (c.getD 0 0)) (fun v g => { g with cells := v :: g.cells.drop 1 }) ∧
    runs (.stc e) 0x4C 1 0 Bool (do let c ← operands e 2 1; storeConditional e (c.getD 0 0) (c.getD 1 0))
      (fun ok g => { g with cells := (if ok then 1 else 0) :: g.cells.drop 2, stat := putBit g.stat 30 (!ok) }) ∧
    runs (.tas e) 0x4D 1 0 Byte (do let c ← operands e 1 1; testAndSet e (c.getD 0 0))
      (fun v g => { g with cells := v.setWidth 32 :: g.cells.drop 1, stat := putBit g.stat 30 (v == 0) }) ∧
    (∀ v : BitVec 8,
      let k := v.toNat / 4
      let form := [(1, z), (1, sx8), (2, z), (2, sx16), (4, z)].getD k (4, z)
      (k < 5 → runs (.lda e v) 0x85 2 (v.setWidth 32) (Word × Nat)
        (do let g ← engOf e; let _ ← operands e 0 1; return (g.agAddr (v.toNat % 4), ← loadN e (g.agAddr (v.toNat % 4)) form.1))
        (fun x g => { g.agStep (v.toNat % 4) with cells := x.1 :: g.cells, load := some (1 + g.cells.length + g.memCells, form.2 x.2) })) ∧
      (k < 3 → runs (.sta e v) 0x86 2 (v.setWidth 32) Unit
        (do let g ← engOf e; let c ← operands e 1 0; storeN e (g.agAddr (v.toNat % 4)) (2 ^ k) (c.getD 0 0).toNat)
        (fun _ g => { g.agStep (v.toNat % 4) with cells := g.cells.drop 1 })))

/-- R213, R219, R247, R248. -/
def Obligations.CueFlow : Prop :=
  ∀ (e : Fin 257) (s : State),
    let runs := fun (i : Instr) (opc len : Nat) (imm : Word) (α : Type) (m : EngM α) (f : α → Engine → Engine) =>
      ∀ a s1 s2, s.found e opc len imm m = some (a, s1, s2) → Goes (exec i s) (Ran e s2 (f a))
    let to_ := fun (g : Engine) (target : Word) =>
      { g with pc := target, pred := ((g.partNo, g.ipc.toNat) :: g.pred.erase (g.partNo, g.ipc.toNat)).take 64 }
    let call := fun (pops : Nat) (target : Word) (g : Engine) =>
      let g := { g with cells := g.cells.drop pops }
      if g.stat.getLsbD 8 then to_ { g with lnk := g.pc } target else to_ { g with rsp := g.rsp - 4 } target
    let enter := (do let g ← engOf e; (if g.stat.getLsbD 8 then pure () else pushReturn e g.pc); predicted e : EngM Unit)
    let branch := fun (i : BitVec 16 → Instr) (opc : Nat) (p : Bool → Bool → Bool → Bool → Bool) =>
      ∀ d : BitVec 16, runs (i d) opc 3 (d.setWidth 32) Unit (predicted e) (fun _ g =>
        if p (g.stat.getLsbD 31) (g.stat.getLsbD 30) (g.stat.getLsbD 29) (g.stat.getLsbD 28) then to_ g (g.pc + d.signExtend 32) else g)
    runs (.jmp e) 0x60 1 0 Word (do let c ← operands e 1 0; predicted e; return c.getD 0 0)
      (fun a g => to_ { g with cells := g.cells.drop 1 } a) ∧
    (∀ d : BitVec 16, runs (.call e d) 0x61 3 (d.setWidth 32) Word (do let g ← engOf e; enter; return g.pc + d.signExtend 32) (call 0)) ∧
    (∀ d : Word, runs (.calll e d) 0x62 5 d Word (do let g ← engOf e; enter; return g.pc + d) (call 0)) ∧
    runs (.calli e) 0x63 1 0 Word (do let c ← operands e 1 0; enter; return c.getD 0 0) (call 1) ∧
    runs (.ret e) 0x64 1 0 (Option Word) (do
        let g ← engOf e
        let a ← if g.stat.getLsbD 8 then pure none else some <$> readReturn e 0
        predicted e
        return a)
      (fun a g => match a with | none => to_ g g.lnk | some v => to_ { g with rsp := g.rsp + 4 } v) ∧
    (∀ d : BitVec 16,
      let cell := (do let c ← operands e 1 0; predicted e; return c.getD 0 0 : EngM Word)
      runs (.bz e d) 0x66 3 (d.setWidth 32) Word cell (fun v g =>
        let g := { g with cells := g.cells.drop 1 }; if v = 0 then to_ g (g.pc + d.signExtend 32) else g) ∧
      runs (.bnz e d) 0x67 3 (d.setWidth 32) Word cell (fun v g =>
        let g := { g with cells := g.cells.drop 1 }; if v = 0 then g else to_ g (g.pc + d.signExtend 32)) ∧
      runs (.dbnz e d) 0x68 3 (d.setWidth 32) Word (do let c ← operands e 1 1; predicted e; return c.getD 0 0) (fun v g =>
        let g := { g with cells := (v - 1) :: g.cells.drop 1 }; if v = 1 then g else to_ g (g.pc + d.signExtend 32))) ∧
    branch (.bal e) 0x70 (fun _ _ _ _ => true) ∧ branch (.bnv e) 0x71 (fun _ _ _ _ => false) ∧
    branch (.beq e) 0x72 (fun _ z _ _ => z) ∧ branch (.bne e) 0x73 (fun _ z _ _ => !z) ∧
    branch (.blt e) 0x74 (fun n _ _ v => n != v) ∧ branch (.bge e) 0x75 (fun n _ _ v => n == v) ∧
    branch (.ble e) 0x76 (fun n z _ v => z || n != v) ∧ branch (.bgt e) 0x77 (fun n z _ v => !z && n == v) ∧
    branch (.bcs e) 0x78 (fun _ _ c _ => c) ∧ branch (.bcc e) 0x79 (fun _ _ c _ => !c) ∧
    branch (.bhi e) 0x7A (fun _ z c _ => c && !z) ∧ branch (.bls e) 0x7B (fun _ z c _ => !c || z) ∧
    branch (.bmi e) 0x7C (fun n _ _ _ => n) ∧ branch (.bpl e) 0x7D (fun n _ _ _ => !n) ∧
    branch (.bvs e) 0x7E (fun _ _ _ v => v) ∧ branch (.bvc e) 0x7F (fun _ _ _ v => !v)

/-- R210, R228, R229, R250, R251. -/
def Obligations.CueStrings : Prop :=
  ∀ (e : Fin 257) (imm : BitVec 8) (s : State), imm.toNat < 16 → imm.toNat % 4 ≠ 3 → imm.toNat / 4 ≠ 3 →
    let size := 2 ^ (imm.toNat % 4)
    let step := BitVec.ofNat 32 size
    let runs := fun (i : Instr) (opc : Nat) (α : Type) (m : EngM α) (f : α → Engine → Engine) =>
      ∀ a s1 s2, s.found e opc 2 (imm.setWidth 32) m = some (a, s1, s2) → Goes (exec i s) (Ran e s2 (f a))
    let movs := (do let g ← engOf e; storeN e g.dptr size (← loadN e g.sptr size) : EngM Unit)
    let fils := (do let g ← engOf e; let c ← operands e 1 1; storeN e g.dptr size (c.getD 0 0).toNat : EngM Unit)
    let moved := fun (g : Engine) => { g with sptr := g.sptr + step, dptr := g.dptr + step, scnt := g.scnt - 1 }
    let diff := fun (x y : Nat) (g : Engine) => { g with stat := (aluSub (BitVec.ofNat 32 x) (BitVec.ofNat 32 y) false).flags g.stat }
    let cmps := (do let g ← engOf e; let x ← loadN e g.sptr size; return (x, ← loadN e g.dptr size) : EngM (Nat × Nat))
    let scas := (do let g ← engOf e; let c ← operands e 1 1; return (← loadN e g.sptr size, (c.getD 0 0).toNat % 2 ^ (8 * size)) : EngM (Nat × Nat))
    let element := fun (op : StringOp) => (match op with
      | .movs => do movs; return (0, 0)
      | .fils => do fils; return (0, 0)
      | .cmps => cmps
      | .scas => scas
      | .other _ => pure (0, 0) : EngM (Nat × Nat))
    let after := fun (op : StringOp) (x : Nat × Nat) (g : Engine) => match op with
      | .movs => moved g
      | .fils => { g with dptr := g.dptr + step, scnt := g.scnt - 1 }
      | .cmps => diff x.1 x.2 (moved g)
      | .scas => diff x.1 x.2 { g with sptr := g.sptr + step, scnt := g.scnt - 1 }
      | .other _ => g
    (s.engines[e].scnt = 0 →
      (imm.toNat < 4 → runs (.movs e imm) 0x81 Unit (pure ()) (fun _ g => g) ∧ runs (.fils e imm) 0x82 Unit (pure ()) (fun _ g => g)) ∧
      runs (.cmps e imm) 0x83 Unit (pure ()) (fun _ g => g) ∧ runs (.scas e imm) 0x84 Unit (pure ()) (fun _ g => g)) ∧
    (s.engines[e].scnt ≠ 0 →
      (imm.toNat < 4 → runs (.movs e imm) 0x81 Unit movs (fun _ g => moved g) ∧
        runs (.fils e imm) 0x82 Unit fils (fun _ g => { g with dptr := g.dptr + step, scnt := g.scnt - 1 })) ∧
      runs (.cmps e imm) 0x83 (Nat × Nat) cmps (fun x g => diff x.1 x.2 (moved g)) ∧
      runs (.scas e imm) 0x84 (Nat × Nat) scas (fun x g => diff x.1 x.2 { g with sptr := g.sptr + step, scnt := g.scnt - 1 }) ∧
      (∀ op : StringOp, (∀ v, op ≠ .other v) → (op = .movs ∨ op = .fils → imm.toNat < 4) → s.canRun e = true → s.entryMoved e.val 0x80 = false →
        ∀ s0, (if s.engines[e].rep then modify (fun s => s.modEng e (fun g => { g with pc := g.ipc + 3 })) else dispatchRep e op imm) s = .ok () s0 →
        ∀ x s1, element op s0 = .ok x s1 → s0.engines[e].scnt = s.engines[e].scnt →
        let ends := s.engines[e].scnt = 1 ∨ ((op = .cmps ∨ op = .scas) ∧ ((imm.toNat / 4 = 1 ∧ x.1 = x.2) ∨ (imm.toNat / 4 = 2 ∧ x.1 ≠ x.2)))
        (¬ ends → Goes (exec (.rep e op imm) s) (Ran e s1 (fun g => { after op x g with pc := g.ipc, rep := true }))) ∧
        (ends → ∀ s2, completeLoad e s1 = .ok () s2 → Goes (exec (.rep e op imm) s) (Ran e s2 (fun g => { after op x g with rep := false })))))

/-- R199, R211, R212, R225, R253 to R255, R258, R278, R286, R287, R290, R292. -/
def Obligations.CueSystem : Prop :=
  ∀ (e : Fin 257) (s : State),
    let runs := fun (i : Instr) (opc len : Nat) (imm : Word) (α : Type) (m : EngM α) (f : α → Engine → Engine) =>
      ∀ a s1 s2, s.found e opc len imm m = some (a, s1, s2) → Goes (exec i s) (Ran e s2 (f a))
    (∀ n : BitVec 8, srOk n.toNat = true → runs (.rdsr e n) 0xA0 2 (n.setWidth 32) Word
        (do let s ← get; let _ ← operands e 0 1; return s.srRead e n.toNat) (fun v g => { g with cells := v :: g.cells })) ∧
    (∀ n : BitVec 8, srOk n.toNat = true → n.toNat ≠ 1 → ¬ (0x28 ≤ n.toNat ∧ n.toNat ≤ 0x47) → ∀ c s1 s2,
        s.found e 0xA1 2 (n.setWidth 32) (operands e 1 0) = some (c, s1, s2) → s1.privileged e = true ∨ srHouse n.toNat = false →
        Goes (exec (.wrsr e n) s) (Ran e s2 (fun g => { g with cells := g.cells.drop 1 }.srWrite n.toNat (c.getD 0 0)))) ∧
    (∀ n : BitVec 8, 0x28 ≤ n.toNat → n.toNat ≤ 0x47 → ∀ c s1 s2, s.found e 0xA1 2 (n.setWidth 32)
        (do let c ← operands e 1 0; completeLoad e; modify (fun s => s.srWindow e n.toNat (c.getD 0 0)); return c) = some (c, s1, s2) →
        s1.privileged e = true → s1.winHeld e n.toNat = false →
        Goes (exec (.wrsr e n) s) (Ran e s2 (fun g => { g with cells := g.cells.drop 1 }))) ∧
    (∀ c s1 s2, s.found e 0xA1 2 1 (operands e 1 0) = some (c, s1, s2) →
        let v := c.getD 0 0
        (s1.privileged e = true → Goes (exec (.wrsr e 1) s) (Ran e s2 (fun g => { g with
          cells := g.cells.drop 1, stat := (g.stat &&& 0x07FFFFFF) ||| (v &&& 0xF8000000), statNext := some v }))) ∧
        (s1.privileged e = false → (v ^^^ s1.engines[e].stat) &&& 0xFC00 = 0 → Goes (exec (.wrsr e 1) s) (Ran e s2 (fun g => { g with
          cells := g.cells.drop 1, stat := (g.stat &&& 0x07FFFFFF) ||| (v &&& 0xF8000000), statNext := none })))) ∧
    runs (.syncP e) 0xA2 1 0 Unit (pure ()) (fun _ g => { g with cfgSync := some g.cfg }) ∧
    runs (.syncI e) 0xA3 1 0 Unit (drainAll e) (fun _ g => { g with icache := [], pred := [] }) ∧
    runs (.syncM e) 0xA4 1 0 Unit (drainAll e) (fun _ g => g) ∧
    runs (.dinv e) 0xA5 1 0 Unit (pure ()) (fun _ g => { g with dcache := [] }) ∧
    runs (.tinv e) 0xA6 1 0 Unit (do let c ← operands e 1 0; drainAll e; act (fun s => s.modEng e (fun g =>
        { g with tinvs := g.tinvs ++ [{ part := (c.getD 0 0).toNat % 64, arrived := false, waits := [] }] })))
      (fun _ g => { g with cells := g.cells.drop 1 }) ∧
    (∀ s0, dispatchBase e 0xA7 1 0 s = .ok () s0 → s.canRun e = true → s.entryMoved e.val 0xA7 = false →
      (s0.engines[e].tinvDone = true → ∀ s2, completeLoad e s0 = .ok () s2 →
        Goes (exec (.tsync e) s) (Ran e s2 (fun g => { g with tinvs := [] }))) ∧
      (s0.engines[e].tinvDone = false → exec (.tsync e) s = .next s)) ∧
    (∀ c s1 s2, s.found e 0xA8 1 0 (operands e 1 0) = some (c, s1, s2) →
      s1.privileged e = true ∨ keysReduce s1.engines[e].krights (c.getD 0 0) = true →
      Goes (exec (.kset e) s) (Ran e s2 (fun g => { g with cells := g.cells.drop 1, krights := c.getD 0 0 }))) ∧
    (s.engines[e].tinvs.findIdx? (fun t => !t.arrived) = none → exec (.tinvBroadcast e) s = .next s) ∧
    (∀ i, s.engines[e].tinvs.findIdx? (fun t => !t.arrived) = some i → ∀ x, s.engines[e].tinvs[i]? = some x →
      Goes (exec (.tinvBroadcast e) s) (fun t => t = { s with engines := t.engines, shared := t.shared, walks := t.walks } ∧
        t.walks = s.walks.map (fun k => if k.part = x.part then { k with stale := true } else k) ∧
        t.engines[e].tinvs = s.engines[e].tinvs.modify i (fun y => { y with
          arrived := true, waits := s.heldStores, walks := (s.walks.filter (fun k => k.part == x.part)).map (fun k => (k.eng, k.page)) }) ∧
        (∀ e' : Fin 257, t.engines[e'] = { s.engines[e'] with
          itlb := s.engines[e'].itlb.filter (fun y => y.part != x.part), dtlb := s.engines[e'].dtlb.filter (fun y => y.part != x.part)
          pred := s.engines[e'].pred.filter (fun y => y.1 != x.part), tinvs := t.engines[e'].tinvs }) ∧
        (∀ e', e' ≠ e → t.engines[e'].tinvs = s.engines[e'].tinvs) ∧
        (∀ c : Fin 17, t.shared[c] =
          { utlb := s.shared[c].utlb.filter (fun y => y.part != x.part), walk := s.shared[c].walk.filter (fun y => y.part != x.part) }))) ∧
    (∀ (va : BitVec 40) (access : Access), s.Canonical →
      let g := s.engines[e]
      let fetch := access == .fetch
      let hit := (s.ownWindowFor e va.toNat).isSome ∨ (tlbFind (if fetch then g.itlb else g.dtlb) g.partNo va.toNat).isSome ∨
        (tlbFind s.shared[clusterOf e].utlb g.partNo va.toNat).isSome
      let near := s.walks.filter (fun k => k.eng / 16 == e.val / 16)
      let goes := fun (k : Walk) => ∀ x s1, walkOn e 3 k s = .ok x s1 → s1.Canonical →
        let u := s1.walkEnd x.2
        Goes (exec (.pageWalk e va access) s) (fun t => t = { u with engines := t.engines, shared := t.shared, regs := t.regs } ∧ EngBut e u t ∧
          RegsBut [engBase e + (if fetch then 0x180 else 0x184)] u t ∧
          (x.2.stale = true → t.engines = u.engines ∧ t.shared = u.shared) ∧
          (x.2.stale = false →
            t.engines[e] = (if fetch then { u.engines[e] with itlb := (x.1 :: u.engines[e].itlb).take 8 }
              else { u.engines[e] with dtlb := (x.1 :: u.engines[e].dtlb).take 16 }) ∧
            (∀ c, c ≠ clusterOf e → t.shared[c] = u.shared[c]) ∧
            t.shared[clusterOf e] =
              { utlb := (x.1 :: u.shared[clusterOf e].utlb).take 512, walk := (x.2.ptrs ++ u.shared[clusterOf e].walk).take 64 }) ∧
          t.getReg (engBase e + (if fetch then 0x180 else 0x184)) = u.getReg (engBase e + (if fetch then 0x180 else 0x184)) + 1)
      (s.walks.find? (fun k => k.eng == e.val && k.page == va.toNat / 4096) = none →
        (hit → exec (.pageWalk e va access) s = .next s) ∧
        (¬ hit → (walkers e ≤ near.length ∨ ∃ k ∈ near, k.part = g.partNo ∧ k.page = va.toNat / 4096) → exec (.pageWalk e va access) s = .next s) ∧
        (¬ hit → near.length < walkers e → (∀ k ∈ near, ¬ (k.part = g.partNo ∧ k.page = va.toNat / 4096)) →
          ∀ k s0, walkBegin e g.partNo va.toNat s = .ok k s0 → goes k ∧
          (∀ w s1, walkOn e 3 k s = .error (.wait w) s1 → exec (.pageWalk e va access) s = .next (s.settle w)) ∧
          (∀ c d a n s1, walkOn e 3 k s = .error (.fault c d a n) s1 → exec (.pageWalk e va access) s = .next s))) ∧
      (∀ k, s.walks.find? (fun k => k.eng == e.val && k.page == va.toNat / 4096) = some k → goes k ∧
        (∀ w s1, walkOn e 3 k s = .error (.wait w) s1 → exec (.pageWalk e va access) s = .next (s.settle w)) ∧
        (∀ c d a n s1, walkOn e 3 k s = .error (.fault c d a n) s1 → exec (.pageWalk e va access) s = .next (s.walkEnd k))))

/-- R62, R69, R137, R175, R185, R195, R256, R257. -/
def Obligations.CueRings : Prop :=
  ∀ (e : Fin 257) (s : State),
    let runs := fun (i : Instr) (opc len : Nat) (imm : Word) (α : Type) (m : EngM α) (f : α → Engine → Engine) =>
      ∀ a s1 s2, s.found e opc len imm m = some (a, s1, s2) → Goes (exec i s) (Ran e s2 (f a))
    let count := fun (i : Instr) (opc : Nat) (f : State → Nat → Option Word × State) =>
      runs i opc 1 0 (Option Word) (do
          let c ← operands e 1 1
          drainAll e
          modifyGet (fun s => f s ((c.getD 0 0).toNat % 16384)))
        (fun k g => { g with cells := k.getD 0xFFFFFFFF :: g.cells.drop 1, stat := putBit g.stat 30 (k.getD 0xFFFFFFFF == 0xFFFFFFFF) })
    let acts := fun (i : Instr) (opc : Nat) (f : State → Nat → Word → State) =>
      runs i opc 1 0 Unit (do
          let c ← operands e 2 0
          drainAll e
          modify (fun s => f s ((c.getD 0 0).toNat % 16384) (c.getD 1 0)))
        (fun _ g => { g with cells := g.cells.drop 2 })
    (∀ j : BitVec 8, j.toNat < 16 → runs (.cue e j) 0xA9 2 (j.setWidth 32) Word (do let c ← operands e 1 1; placeCue e (c.getD 0 0) j.toNat)
      (fun k g => { g with cells := k :: g.cells.drop 1, stat := putBit g.stat 30 (k == 0xFFFFFFFF) })) ∧
    runs (.post e) 0xAA 1 0 Unit (do
        let c ← operands e 1 0
        let b ← readRecord e (c.getD 0 0) 2
        modify (fun s => s.post e.val (wordsOfBytes 8 b)))
      (fun _ g => { g with cells := g.cells.drop 1 }) ∧
    count (.rres e) 0xAB State.ringReserve ∧ count (.rpopRing e) 0xAD State.ringPop ∧
    acts (.rcom e) 0xAC State.ringCommit ∧ acts (.rrel e) 0xAF State.ringRelease ∧
    (∀ w : BitVec 8, w.toNat < 64 → ∀ c s1 s2, s.found e 0xAE 2 (w.setWidth 32) (operands e 0 1) = some (c, s1, s2) →
      let m := w.setWidth 6
      (s1.engines[e].evl &&& m ≠ 0 ∨ s1.waitEnds e = true → Goes (exec (.wait e w) s) (Ran e s2 (fun g => { g with
        cells := (g.evl &&& m).setWidth 32 :: g.cells, stat := putBit g.stat 30 (g.evl &&& m == 0), waitMask := none }))) ∧
      (s1.engines[e].evl &&& m = 0 → s1.waitEnds e = false → s1.prompting e = false →
        Goes (exec (.wait e w) s) (Ran e s2 (fun g => { g with run := .intermission, waitMask := some m })))) ∧
    (∀ (u : Fin 16) (imm : Word), s.canRun e = true → ∀ s1, fetchBytes e s.engines[e].pc 1 true s = .ok () s1 →
      ∀ entry s2, userEntry e u.val s1 = .ok entry s2 → bitAt entry 31 = true → bitAt entry 30 = false ∨ s2.privileged e = true →
      s.prompting e = false →
      let n := [0, 1, 2, 4].getD (fld entry 28 2) 0
      upcOk (decide (e.val = 256)) (fld entry 0 16) = true → ∀ s3, fetchBytes e (s.engines[e].pc + 1) n false s2 = .ok () s3 →
      s3.privileged e = s2.privileged e →
      Goes (exec (.userOpcode e u imm) s) (fun t => t = { s3 with engines := t.engines } ∧ EngBut e s3 t ∧ t.engines[e] =
        { s3.engines[e] with
          rep := false, micro := true, upc := BitVec.ofNat 16 (fld entry 0 16), mstack := [], ipc := s.engines[e].pc
          opc := BitVec.ofNat 8 (0xE0 + u.val), immv := BitVec.ofNat 32 (imm.toNat % 2 ^ (8 * n))
          pc := s.engines[e].pc + 1 + BitVec.ofNat 32 n }))

/-! ### Crossbar, Host Fabric Port, memories (R295 to R314, R426 to R430, R439) -/

/-- R297, R299, R304 to R310, R408, R426 to R430. -/
def Obligations.CrossbarAndFabric : Prop :=
  (∀ (x : Fin 26) (words : Option (Fin 32)) (col : Collision) (s : State),
    let go := exec (.crossbarGrant x words col) s
    let inService := takeFirst (fun b : Burst => b.t == x.val && decide (0 < b.granted)) s.bursts
    let serves := fun (b : Burst) (rest : List Burst) =>
      let all := if b.size = 4 then 1 else 2 * b.granted
      let n := (words.map (fun k => min (k.val + 1) all)).getD all
      let s0 := { s with lastGrant := s.lastGrant.set x b.m, bursts := rest }
      (∀ b1 s1, subBurst n b s0 = .ok b1 s1 →
        let b' := (s1.collide col b b1).1
        let s' := (s1.collide col b b1).2
        Goes go (fun t => t = { s' with bursts := t.bursts, dbg := t.dbg, regs := t.regs, inbound := t.inbound } ∧
          (b'.m ≠ 17 ∨ s'.dbg.shBusy = true → t.bursts =
            (if b'.left = 0 then s'.bursts else { b' with t := if b'.size = 4 then regTarget b'.addr else b'.t } :: s'.bursts)) ∧
          (b'.m ≠ 17 → t.dbg = s'.dbg ∧ t.regs = s'.regs) ∧
          (b'.m ≠ 19 ∨ b'.left ≠ 0 ∨ s'.hfiRst = true → t.inbound = s'.inbound) ∧
          (b'.m = 19 → b'.left = 0 → s'.hfiRst = false → t.inbound = s'.inbound ++ [if b'.write
            then { tag := b'.tag, data := [], err := [b'.err.any id], busy := [b'.busy.any id] }
            else { tag := b'.tag, data := if b'.size = 4 then regBeat (b'.addr - 4) b'.got else b'.got, err := b'.err, busy := b'.busy }]))) ∧
      (∀ w s1, subBurst n b s0 = .error (.wait w) s1 → go = .next ({ s0 with bursts := b :: rest }.settle w))
    let single := fun (m : Nat) => s.singles.contains { m, t := x.val, granted := false }
    (s.bursts.all (fun b => b.t != x.val) = true → s.singles.all (fun y => y.t != x.val || y.granted) = true → go = .next s) ∧
    (∀ m, s.arbiter x = some m → s.requests m x = true ∧
      ∀ m' : Fin 21, s.requests m'.val x = true → s.pri m'.val x.val ≤ s.pri m x.val ∧
        (s.pri m'.val x.val = s.pri m x.val → s.cyclic m x ≤ s.cyclic m'.val x)) ∧
    (∀ b rest, inService = some (b, rest) → serves b rest) ∧
    (inService = none → ∀ m, s.arbiter x = some m → single m = true → go = .next { s with
      lastGrant := s.lastGrant.set x m
      singles := s.singles.map (fun y => if y.m = m ∧ y.t = x.val then { y with granted := true } else y) }) ∧
    (inService = none → ∀ m, s.arbiter x = some m → single m = false →
      ∀ b rest, takeFirst (fun b : Burst => b.t == x.val && b.m == m) s.bursts = some (b, rest) →
      serves { b with granted := if b.size = 4 then min 1 b.left else min 16 b.left } rest)) ∧
  (∀ (q : InboundReq) (s : State),
    let pa := q.addr.toNat
    let n := q.nm1.val + 1
    let s1 := { s with inbound := s.inbound.filter (fun r => r.tag ≠ q.tag.val) }
    let inUse := s.bursts.any (fun b => b.m == 19 && b.tag == q.tag.val)
    (s.inReset = true ∨ s.hfiRst = true ∨ inUse = true → exec (.hostFabricInbound q) s = .next s) ∧
    (s.inReset = false → s.hfiRst = false → inUse = false →
      (∀ s2, s1.burstCheck 19 q.write pa n = (none, s2) →
        (s.bursts.any (fun b => b.m == 19 && b.t == targetOf pa) = false → exec (.hostFabricInbound q) s = .next { s2 with
          inbound := s2.inbound ++ [if q.write then { tag := q.tag.val, data := [], err := [true], busy := [false] }
            else { tag := q.tag.val, data := List.replicate (32 * n) 0, err := List.replicate n true, busy := List.replicate n false }] }) ∧
        (s.bursts.any (fun b => b.m == 19 && b.t == targetOf pa) = true → Goes (exec (.hostFabricInbound q) s) (fun t =>
          t = { s2 with bursts := t.bursts } ∧ ∃ b, t.bursts = s.bursts ++ [b] ∧ b.m = 19 ∧ b.t = targetOf pa ∧ b.left = 0 ∧
            b.write = q.write ∧ b.tag = q.tag.val ∧ b.got = List.replicate (32 * n) 0 ∧ b.err = List.replicate n true))) ∧
      (∀ p, (s1.burstCheck 19 q.write pa n).1 = some p → Goes (exec (.hostFabricInbound q) s) (fun t => t = { s1 with bursts := t.bursts } ∧
        ∃ b, t.bursts = s.bursts ++ [b] ∧ b.m = 19 ∧ b.t = p.1 ∧ b.size = p.2 ∧ b.left = n ∧ b.write = q.write ∧ b.tag = q.tag.val ∧
          b.addr = (if p.2 = 4 then pa - 0x7F000000 else pa) ∧ b.got = [] ∧ b.err = [] ∧ b.busy = [])))) ∧
  (∀ (tag : Fin 32) (bytes : List Byte) (errs : List Bool) (s : State), Goes (exec (.hostFabricResponse tag bytes errs) s) (fun t =>
    t = { s with hostReqs := t.hostReqs } ∧ t.hostReqs = s.hostReqs.filterMap (fun q =>
      let beats := if q.write then 1 else max 1 ((q.addr % 32 + q.size + 31) / 32)
      if q.tag = tag ∧ q.answer = none then
        (if q.orphan then none else some { q with
          answer := some ((bytes ++ List.replicate q.size 0).take q.size, (errs ++ List.replicate beats false).take beats) })
      else some q))) ∧
  (∀ s : State, Goes (exec .inboundMasterReset s) (fun t => t.bursts = s.bursts.filter (fun b => b.m ≠ 19) ∧ t.hfiRst = true ∧
    t.hfiAck = true ∧ t.inbound = [] ∧
    (s.bursts.all (fun b => b.m != 19 || b.write || decide (b.granted = 0)) = true →
      t = { s with
        bursts := t.bursts, hfiRst := true, hfiAck := true, inbound := [], hostReqs := t.hostReqs
        singles := s.singles.filter (fun x => x.m ≠ 19), wakeFor := s.wakeFor.filter (fun x => x.2.m ≠ 19)
        islandQ := s.islandQ.map (fun w => if w.origin = .burst 19 then { w with origin := .none } else w) } ∧
      t.hostReqs = s.hostReqs.filterMap (fun q => if q.who.m = 19 ∧ (q.write = false ∨ q.who.engine = none) then
        (if q.answer.isSome then none else some { q with orphan := true }) else some q)))) ∧
  (∀ s : State, exec .hfiRstReqFall s = .next { s with hfiRst := false, hfiAck := false }) ∧
  (∀ s : State,
    (s.dbg.shBusy = false ∨ s.bursts.any (fun b => b.m == 17) = true → exec .stagehandDone s = .next s) ∧
    (s.dbg.shBusy = true → s.bursts.any (fun b => b.m == 17) = false → exec .stagehandDone s = .next { s with dbg := { s.dbg with
      shBusy := false, daccStatus := if s.dbg.daccStatus = 1 then 0 else s.dbg.daccStatus } }))

/-- R300 to R302, R384. -/
def Obligations.MemoryMaintenance : Prop :=
  (∀ (j : Fin 16) (m : Master) (s : State), s.Canonical → s.srstBusy (.memctl j) = false →
    let b := pageBase (.memctl j)
    (s.Accepts m (b + 0x74) →
      (s.scrubs[j].isSome = true → exec (.scrub j m) s = .next (s.replied m (b + 0x74) {})) ∧
      (s.scrubs[j] = none → ∀ r : Fin 64, s.cbFree = some r → s.charge 150 ≤ s.avail → Goes (exec (.scrub j m) s) (fun t =>
        t = { s.replied m (b + 0x74) {} with regs := t.regs, callboard := t.callboard, permit := t.permit, scrubs := t.scrubs } ∧
        RegsBut [b + 0x74] s t ∧ CbBut r s t ∧ t.scrubs[j] = some { cb := r, asked := true } ∧ (∀ j', j' ≠ j → t.scrubs[j'] = s.scrubs[j']) ∧
        fld (t.getReg (b + 0x74)) 0 8 = r.val ∧ t.callboard[r].cur.st = .permitWait ∧ t.callboard[r].cur.kind = 4 ∧
        t.permit = s.permit.enqueue 2 { who := .scrub j, mw := 150, since := s.beatno, aged := false }))) ∧
    (s.Accepts m (b + 0x78) →
      (s.bists[j].isSome = true → exec (.bist j m) s = .next (s.replied m (b + 0x78) {})) ∧
      (s.bists[j] = none → s.bistBlocked j = false → ∀ r : Fin 64, s.cbFree = some r → s.charge 600 ≤ s.avail →
        Goes (exec (.bist j m) s) (fun t =>
          t = { s.replied m (b + 0x78) {} with regs := t.regs, callboard := t.callboard, permit := t.permit, bists := t.bists } ∧
          RegsBut [b + 0x78] s t ∧ CbBut r s t ∧ t.bists[j] = some { cb := r, asked := true } ∧ (∀ j', j' ≠ j → t.bists[j'] = s.bists[j']) ∧
          fld (t.getReg (b + 0x78)) 0 8 = r.val ∧ t.callboard[r].cur.st = .permitWait ∧ t.callboard[r].cur.kind = 5 ∧
          t.permit = s.permit.enqueue 2 { who := .bist j, mw := 600, since := s.beatno, aged := false })))) ∧
  (∀ (j : Fin 16) (words : Option Word) (s : State), (s.scrubs[j] = none → exec (.scrubDone j words) s = .next s) ∧ (∀ b, s.scrubs[j] = some b →
    let left := (pageUnits j).drop b.units
    let base := pageBase (.memctl j)
    let counts := [base + 0x64, base + 0x68, base + 0x6C, base + 0x18, 0x1018]
    let runs := b.granted = true ∧ s.frozen (.memctl j) = false ∧ s.callboard[b.cb].abort = false
    (b.granted = false ∨ s.frozen (.memctl j) = true → exec (.scrubDone j words) s = .next s) ∧
    (b.granted = true → s.frozen (.memctl j) = false → s.callboard[b.cb].abort = true → Goes (exec (.scrubDone j words) s) (fun t =>
      t = { s with callboard := t.callboard, permit := t.permit, scrubs := t.scrubs, regs := t.regs } ∧ CbBut b.cb s t ∧ t.scrubs[j] = none ∧
      t.callboard[b.cb].cur.st = .aborted ∧ t.callboard[b.cb].cur.result = 2 ∧ (∀ g ∈ t.permit.grants, g.1 ≠ .scrub j))) ∧
    (∀ u us, left = u :: us →
      (runs → (s.waking.contains u = true ∨ s.underBist u = true) → s.retained.contains u = false → exec (.scrubDone j words) s = .next s) ∧
      (∀ n : Word, words = some n → runs → s.awake u = true → s.underBist u = false → b.words + n.toNat < unitWords u →
        Goes (exec (.scrubDone j words) s) (fun t =>
          t = { s with callboard := t.callboard, permit := t.permit, scrubs := t.scrubs, regs := t.regs, memErr := t.memErr } ∧
          CbBut b.cb s t ∧ (s.Canonical → RegsBut counts s t) ∧ t.scrubs[j] = some { b with words := b.words + n.toNat } ∧
          (∀ j', j' ≠ j → t.scrubs[j'] = s.scrubs[j']) ∧
          t.callboard[b.cb].cur.st = s.callboard[b.cb].cur.st ∧ t.callboard[b.cb].cur.progress = s.callboard[b.cb].cur.progress + n ∧
          (spWf (fun _ => none) s.memErr = true → ∀ x ∈ s.memErr, t.errAt x.1 =
            (if x.2 = some false ∧ unitAt x.1 = some u ∧ b.words ≤ wordIndex x.1 ∧ wordIndex x.1 < b.words + n.toNat
              then none else s.errAt x.1))))) ∧
    (words = none → runs → (∀ u ∈ left, s.waking.contains u = false ∧ s.underBist u = false) →
      (b.words = 0 ∨ ∀ u ∈ left.take 1, b.words < unitWords u ∧ s.retained.contains u = false) → Goes (exec (.scrubDone j words) s) (fun t =>
      t = { s with callboard := t.callboard, permit := t.permit, scrubs := t.scrubs, regs := t.regs, memErr := t.memErr } ∧
      CbBut b.cb s t ∧ (s.Canonical → RegsBut counts s t) ∧ t.scrubs[j] = none ∧ (∀ j', j' ≠ j → t.scrubs[j'] = s.scrubs[j']) ∧
      t.callboard[b.cb].cur.st = .done ∧ t.callboard[b.cb].cur.result = 0 ∧ t.callboard[b.cb].cur.progress =
        s.callboard[b.cb].cur.progress + BitVec.ofNat 32 ((left.map unitWords).sum - b.words) ∧ (∀ g ∈ t.permit.grants, g.1 ≠ .scrub j) ∧
      (spWf (fun _ => none) s.memErr = true → ∀ x ∈ s.memErr, t.errAt x.1 =
        (if x.2 = some false ∧ inUnits (left.filter (fun u => !s.retained.contains u)) x.1 = true ∧
            ¬ (inUnits (left.take 1) x.1 = true ∧ wordIndex x.1 < b.words) then none else s.errAt x.1)))))) ∧
  (∀ (j : Fin 16) (bank : Option Bool) (s : State), s.Canonical → (s.bists[j] = none → exec (.bistDone j bank) s = .next s) ∧
   (∀ b, s.bists[j] = some b →
    let left := ((pageUnits j).filter (· ≠ .secureBank)).drop b.units
    let runs := b.granted = true ∧ s.frozen (.memctl j) = false ∧ s.callboard[b.cb].abort = false
    let tested := fun (us : List RetUnit) (t : State) =>
      t = { s with callboard := t.callboard, permit := t.permit, bists := t.bists, regs := t.regs, mem := t.mem, memErr := t.memErr,
                   engines := t.engines, slots := t.slots } ∧ CbBut b.cb s t ∧
      (∀ x ∈ s.mem, t.bytesAt x.1 1 = if inUnits us x.1 then [0] else s.bytesAt x.1 1) ∧ (∀ x ∈ t.mem, t.bytesAt x.1 1 = s.bytesAt x.1 1)
    (b.granted = false ∨ s.frozen (.memctl j) = true → exec (.bistDone j bank) s = .next s) ∧
    (b.granted = true → s.frozen (.memctl j) = false → s.callboard[b.cb].abort = true → (∀ j', j' ≠ j → s.bists[j'] = none) → s.bulk = none →
      Goes (exec (.bistDone j bank) s) (fun t =>
        t = { s with callboard := t.callboard, permit := t.permit, bists := t.bists, regs := t.regs } ∧ CbBut b.cb s t ∧ t.bists[j] = none ∧
        t.callboard[b.cb].cur.st = .aborted ∧ t.callboard[b.cb].cur.result = 2 ∧ (∀ g ∈ t.permit.grants, g.1 ≠ .bist j))) ∧
    (∀ u us, left = u :: us →
      (runs → s.waking.contains u = true → s.retained.contains u = false → exec (.bistDone j bank) s = .next s) ∧
      (∀ f, bank = some f → runs → s.awake u = true → us ≠ [] → Goes (exec (.bistDone j bank) s) (fun t => tested [u] t ∧
        t.bists[j] = some { b with units := b.units + 1 } ∧ t.callboard[b.cb].cur.st = s.callboard[b.cb].cur.st ∧
        t.callboard[b.cb].cur.progress = s.callboard[b.cb].cur.progress + 1 ∧
        t.callboard[b.cb].cur.partials = s.callboard[b.cb].cur.partials + (if f then 1 else 0)))) ∧
    (bank = none → runs → (∀ j', j' ≠ j → s.bists[j'] = none) → s.bulk = none → (∀ u ∈ left, s.waking.contains u = false) →
      Goes (exec (.bistDone j bank) s) (fun t => tested (left.filter (fun u => !s.retained.contains u)) t ∧ t.bists[j] = none ∧
        t.callboard[b.cb].cur.st = .done ∧ t.callboard[b.cb].cur.result = 0 ∧ t.callboard[b.cb].cur.partials = s.callboard[b.cb].cur.partials ∧
        t.callboard[b.cb].cur.progress = s.callboard[b.cb].cur.progress + BitVec.ofNat 32 left.length ∧
        (∀ g ∈ t.permit.grants, g.1 ≠ .bist j))))) ∧
  (∀ s : State, s.Canonical → Goes (exec .secureBankWipe s) (fun t =>
    t = { s with wiping := true, mem := t.mem, memErr := t.memErr, engines := t.engines } ∧
    (∀ x ∈ s.mem, t.bytesAt x.1 1 = if 0x48000000 ≤ x.1 ∧ x.1 < 0x48040000 then [0] else s.bytesAt x.1 1) ∧
    (∀ x ∈ t.mem, t.bytesAt x.1 1 = s.bytesAt x.1 1) ∧ (∀ i : Nat, i < 8 → t.bytesAt (0x48000000 + i) 1 = [0]))) ∧
  (∀ s : State, s.trust.boot ≠ .wipe ∨ s.trust.lc = none → exec .wipeComplete s = .next { s with wiping := false })

/-- R303, R314, R384, R394, R439. -/
def Obligations.RetentionAndBulkLoad : Prop :=
  (∀ (u : RetUnit) (m : Master) (s : State), s.Canonical → s.Accepts m (retAddr u) → s.srstBusy (.memctl (unitPage u)) = false →
    s.retained = [] → s.entering = [] → s.waking = [] → s.getReg (retAddr u) = 0 →
    Goes (exec (.retentionRequest u m) s) (fun t =>
      t = { s.replied m (retAddr u) {} with regs := t.regs, entering := [u], retReq := t.retReq, retAck := t.retAck } ∧
      RegsBut [retAddr u] s t ∧ bitAt (t.getReg (retAddr u)) (unitBit u).2 = true ∧ (s.attached = false → t.retReq = true) ∧
      (s.attached = true → s.retReq = false → t.retReq = false))) ∧
  (∀ (u : RetUnit) (s : State),
    let may := s.entering.contains u = true ∧ s.waking.contains u = false ∧ s.wakeFor.all (fun x => x.1 != u) = true ∧ s.inScrub u = false ∧
      s.subBurstIn u = false ∧
      (s.attached = true ∨ (s.retReq = true ∧ s.retAck = true))
    (¬ may → exec (.retentionEntry u) s = .next s) ∧
    (may → exec (.retentionEntry u) s = .next { s with entering := s.entering.filter (· ≠ u), retained := s.retained ++ [u] })) ∧
  (∀ s : State, exec .retentionAck s = .next { s with retAck := s.retAck || s.retReq }) ∧
  (∀ (u : RetUnit) (s : State), s.Canonical →
    (s.noWake u = true ∨ s.retained.contains u = false → exec (.wake u none) s = .next s) ∧
    (s.noWake u = false → s.retained.contains u = true → s.charge (wakeMw u) ≤ s.avail → Goes (exec (.wake u none) s) (fun t =>
      t = { s with regs := t.regs, permit := t.permit, retained := s.retained.erase u, waking := s.waking ++ [u] } ∧
      RegsBut [retAddr u] s t ∧ t.getReg (retAddr u) = putBit (s.getReg (retAddr u)) (unitBit u).2 false ∧
      t.permit = s.permit.enqueue 0 { who := .wake u, mw := (wakeMw u), since := s.beatno, aged := false })) ∧
    (∀ m : Master, s.Accepts m (retAddr u) → s.srstBusy (.memctl (unitPage u)) = false → s.retained = [u] → s.entering = [] → s.waking = [] →
      s.getReg (retAddr u) = BitVec.ofNat 32 (2 ^ (unitBit u).2) → s.charge (wakeMw u) ≤ s.avail →
      Goes (exec (.wake u (some m)) s) (fun t => t = { s.replied m (retAddr u) {} with regs := t.regs, permit := t.permit, retained := [], waking := [u] } ∧
        RegsBut [retAddr u] s t ∧ t.getReg (retAddr u) = 0))) ∧
  (∀ (u : RetUnit) (s : State),
    (s.waking.contains u = false ∨ (s.wakeGranted u = false ∧ s.inReset = false) → exec (.wakeComplete u) s = .next s) ∧
    (s.waking.contains u = true → s.wakeGranted u = true ∨ s.inReset = true → Goes (exec (.wakeComplete u) s) (fun t =>
      t = { s with permit := { s.permit with grants := s.permit.grants.filter (fun g => g.1 ≠ .wake u) },
                   waking := s.waking.filter (· ≠ u), retReq := t.retReq, retAck := t.retAck } ∧
      (s.retained.contains u = false → t.awake u = true) ∧
      (s.retained ≠ [] → t.retReq = s.retReq ∧ t.retAck = s.retAck) ∧
      (s.retained = [] → s.entering = [] → s.waking = [u] → t.retReq = false ∧ t.retAck = false)))) ∧
  (∀ (m : Master) (data : Word) (s : State), s.Canonical → s.Accepts m 0x3C00E4 → s.srstBusy (.memctl 0) = false →
    (s.bulk.isSome = true → exec (.bulkLoad m data) s = .next (s.replied m 0x3C00E4 {})) ∧
    (s.bulk = none → ∀ r : Fin 64, s.cbFree = some r →
      let bad := 4194304 < s.plCount ∨ bulkSrcOk s.plSrc (8 * s.plCount) = false
      (bad → Goes (exec (.bulkLoad m data) s) (fun t => t = { s.replied m 0x3C00E4 {} with regs := t.regs, callboard := t.callboard } ∧ CbBut r s t ∧
        RegsBut [0x3C00E4, 0x1018] s t ∧ t.callboard[r].cur.st = .failed ∧ t.callboard[r].cur.result = 7)) ∧
      (¬ bad → s.plCount ≠ 0 ∨ bitAt data 30 = true → s.bulkBlocked = false → s.charge 400 ≤ s.avail →
        Goes (exec (.bulkLoad m data) s) (fun t =>
          t = { s.replied m 0x3C00E4 {} with regs := t.regs, callboard := t.callboard, permit := t.permit, bulk := some { cb := r, asked := true } } ∧
          CbBut r s t ∧ RegsBut [0x3C00E4] s t ∧ fld (t.getReg 0x3C00E4) 0 8 = r.val ∧ bitAt (t.getReg 0x3C00E4) 30 = bitAt data 30 ∧
          t.callboard[r].cur.st = .permitWait ∧ t.callboard[r].cur.kind = 3 ∧ t.callboard[r].cur.total = BitVec.ofNat 32 s.plCount ∧
          t.permit = s.permit.enqueue 2 { who := .bulk, mw := 400, since := s.beatno, aged := false })))) ∧
  (∀ (entries : Option Word) (s : State), (s.bulk = none → exec (.bulkLoadComplete entries) s = .next s) ∧ (∀ b, s.bulk = some b →
    (b.granted = false → exec (.bulkLoadComplete entries) s = .next s) ∧
    let toClear := bitAt (s.getReg 0x3C00E4) 30 = true ∧ b.cleared = false
    (b.granted = true → toClear → s.callboard[b.cb].abort = true → s.Canonical →
      (∀ k : Fin 256, s.awake (.patternBank k) = true ∧ s.underBist (.patternBank k) = false) →
      Goes (exec (.bulkLoadComplete entries) s) (fun t => t.bulk = none ∧ CbBut b.cb s t ∧
        t.callboard[b.cb].cur.st = .aborted ∧ t.callboard[b.cb].cur.result = 2 ∧
        (∀ x ∈ s.mem, t.bytesAt x.1 1 = if 0x50000000 ≤ x.1 ∧ x.1 < 0x52000000 then [0] else s.bytesAt x.1 1) ∧
        (∀ x ∈ t.mem, t.bytesAt x.1 1 = s.bytesAt x.1 1))) ∧
    (b.granted = true → ¬ toClear → s.callboard[b.cb].abort = true ∨ b.doneEntries = s.plCount →
      Goes (exec (.bulkLoadComplete entries) s) (fun t => t = { s with callboard := t.callboard, permit := t.permit, regs := t.regs, bulk := none } ∧
        CbBut b.cb s t ∧ (∀ g ∈ t.permit.grants, g.1 ≠ .bulk) ∧
        t.callboard[b.cb].cur.st = (if s.callboard[b.cb].abort then .aborted else .done) ∧
        t.callboard[b.cb].cur.result = (if s.callboard[b.cb].abort then 2 else 0)))))

/-! ### Timebase, timers, capture inputs, watchdogs (R315 to R334, R336, R422) -/

/-- R15, R141, R315, R317 to R319, R321 to R324, R327, R336, R410, R422. Rows stand at the acceptance edge (log entry 9). -/
def Obligations.TimebaseIslands : Prop :=
  (∀ s u t : State, s.edgeWrites.beatEvents.edgeWork = u → u.beatEdge = t →
    exec .beatclkEdge s = .next t.logged.traced ∧ (s.clkOk = false → exec .beatclkReturn s = .next t.logged.traced) ∧
    (s.clkOk = true → exec .beatclkReturn s = .next s) ∧ (t.logQ = [] → t.logged = t) ∧ (t.dbg.traceQ = [] → t.traced = t) ∧
    (u.inReset = true → t = u) ∧
    (u.inReset = false → u.firstEdge = false → t = { u with firstEdge := true, clkLost := false }) ∧
    (u.inReset = false → u.firstEdge = true →
      t = { u with
        beatno := u.beatno + 1, clkOk := true, clkLost := false, regs := t.regs, timers := t.timers, engines := t.engines, pins := t.pins
        frzClk := u.frz1, frz1 := u.freezeOn } ∧ (∀ k : Fin 32, t.pins[k] = { u.pins[k] with beatIn := true }) ∧
      (u.clkOk = true → t.regs = u.regs) ∧
      (u.clkOk = false → spWf regReset u.regs = true → RegsBut [0x5018] u t ∧ t.getReg 0x5018 = u.getReg 0x5018 ||| 0x2) ∧
      (∀ e : Fin 257,
        let w := u.engines[e].wdg
        let w' := t.engines[e].wdg
        t.engines[e] = { u.engines[e] with evl := putBit u.engines[e].evl 5 true, wdg := w' } ∧ w'.eff = w.q1 ∧ w'.q1 = u.engines[e].run ∧
        w'.start1 = w.started ∧ w'.rel1 = w.released ∧ w'.started = false ∧ w'.released = false ∧
        (w.start1 = true → w'.cnt = w.loadVal ∧ w'.exp = false ∧ w'.pend = false) ∧
        (w.start1 = false → w.rel1 = true → w.frz = true → w.reloadOnRun = true → w'.cnt = w.loadVal) ∧
        (w.start1 = false → w.rel1 = false ∨ w.frz = false ∨ w.reloadOnRun = false →
          w'.cnt = (if w.counts = true ∧ w.cnt ≠ 0 then w.cnt - 1 else w.cnt))) ∧
      (∀ n : Fin 64, (n.val % 2 = 0 ∨ u.timers[n].link = false) → u.timerSlave n = false →
        (u.timerCounts n = false ∨ u.timers[n].phase < u.timers[n].pre.toNat → t.timerVal n (·.count) = u.timerVal n (·.count)) ∧
        (u.timerCounts n = true → u.timers[n].phase ≥ u.timers[n].pre.toNat → t.timerVal n (·.count) =
          if u.timers[n].reloadMode = true ∧ u.timerVal n (·.count) = u.timerVal n (·.rldact) then 0
          else (u.timerVal n (·.count) + 1) % (if u.timers[n].link then 2 ^ 64 else 2 ^ 32))))) ∧
  (∀ s : State, s.Canonical → Goes (exec .beatclkLoss s) (fun t => t = { s with clkOk := false, clkLost := true, regs := t.regs } ∧
    (s.clkOk = false → t.regs = s.regs) ∧ (s.clkOk = true → RegsBut [0x5018] s t ∧ t.getReg 0x5018 = s.getReg 0x5018 ||| 0x1))) ∧
  (∀ s : State, (takeFirst s.beatDue s.islandQ = none → exec .beatclkWriteAccept s = .next s) ∧
    (∀ w rest, takeFirst s.beatDue s.islandQ = some (w, rest) →
      exec .beatclkWriteAccept s = .next ({ s with islandQ := rest }.timerWraps.islandAccept w) ∧
      (w.addr = 0x5058 → s.srstBusy .timebase = false → (∀ n : Fin 64, s.timers[n].wrapped = false) →
        exec .beatclkWriteAccept s = .next ({ s with islandQ := rest, fofs := w.data.setWidth 8 }.answer w.origin {})))) ∧
  (∀ (k : Fin 32) (s : State),
    (takeFirst (fun w : IslandWrite => w.pinPage == some k && w.synced) s.islandQ = none → exec (.pinclkWriteAccept k) s = .next s) ∧
    (∀ w rest, takeFirst (fun w : IslandWrite => w.pinPage == some k && w.synced) s.islandQ = some (w, rest) →
      exec (.pinclkWriteAccept k) s = .next ({ s with islandQ := rest, pinLost := false }.islandAccept w) ∧
      (w.addr = pinBase k + 0x60 → exec (.pinclkWriteAccept k) s = .next
        { s with islandQ := rest, pinLost := false, pins := s.pins.set k { s.pins[k] with rxfull := false } }))) ∧
  (∀ s : State, (s.islandQ = [] → exec .islandWriteDiscard s = .next s) ∧ (∀ w rest,
    (takeFirst (fun w : IslandWrite => s.islandLost (w.pinPage, w.curtain)) s.islandQ).or (takeFirst (fun _ => true) s.islandQ) = some (w, rest) →
    exec .islandWriteDiscard s = .next ({ s with
      islandQ := rest, pinLost := s.pinLost || w.pinPage.isSome, clkLost := s.clkLost || w.pinPage.isNone }.answer w.origin { err := true }))) ∧
  (∀ (m : Master) (s : State), s.Accepts m 0x5054 → ∀ u, s.rowReady 0x5054 = u → u.Canonical → u.Accepts m 0x5054 →
    u.srstBusy .timebase = false →
    let barred := bitAt (u.getReg 0x4008) 0 = true ∨ bitAt (u.getReg 0x100304) 31 = true ∨
      ∃ j : Fin 8, u.slots[j].st = .voting ∨ u.slots[j].st = .armed
    (barred → Goes (exec (.timebaseLoad m) s) (fun t => t = { u.replied m 0x5054 {} with regs := t.regs } ∧ RegsBut [0x5048, 0x5018, 0x500C] u t ∧
      bitAt (t.getReg 0x5048) 1 = true ∧ bitAt (t.getReg 0x5018) 2 = true ∧ bitAt (t.getReg 0x500C) 3 = true)) ∧
    (¬ barred → Goes (exec (.timebaseLoad m) s) (fun t =>
      let d := (u.getReg 0x5050 ++ u.getReg 0x504C : Word64) - u.beatno
      t = { u.replied m 0x5054 {} with
        beatno := u.getReg 0x5050 ++ u.getReg 0x504C, islandQ := u.islandQ.map (fun w => { w with beat := w.beat + d })
        posted := u.posted.map (fun p => { p with beat := p.beat + d }), relNext := u.relNext + d, curtain := t.curtain, permit := t.permit
        pipes := t.pipes, trust := { u.trust with peerBeat := u.trust.peerBeat + d }, alignDue := u.alignDue + d, align := t.align
        probe := u.probe.map (fun p => (p.1, p.2 + d)) }))) ∧
  (∀ (m : Master) (data : Word) (s : State), s.Accepts m 0x5070 → ∀ u, s.rowReady 0x5070 = u → u.Canonical → u.Accepts m 0x5070 →
    u.srstBusy .timebase = false →
    (bitAt data 1 = false → Goes (exec (.gstart m data) s) (fun t => t = { u.replied m 0x5070 {} with timers := t.timers, gsWait := none } ∧
      ∀ n : Fin 64, u.timerSlave n = false →
        if bitAt (u.getReg (0x5060 + 4 * (n.val / 32))) (n.val % 32) = true ∧ u.timers[n].st = .armed then TimerStarted n u t
        else t.timers[n] = u.timers[n])) ∧
    (bitAt data 1 = true → u.gsbeat.toNat ≤ u.beatno.toNat → Goes (exec (.gstart m data) s) (fun t =>
      t = { u.replied m 0x5070 {} with regs := t.regs, gsWait := none } ∧ RegsBut [0x5048, 0x5018] u t ∧ t.getReg 0x5048 = u.getReg 0x5048 ||| 1 ∧
      t.getReg 0x5018 = u.getReg 0x5018 ||| 0x8)) ∧
    (bitAt data 1 = true → u.beatno.toNat < u.gsbeat.toNat →
      exec (.gstart m data) s = .next { u.replied m 0x5070 {} with gsWait := some u.gsbeat })) ∧
  (∀ s : State, (s.beatWritesDone = false ∨ s.gsWait ≠ some s.beatno → exec .gstartBeat s = .next s) ∧
    (s.beatWritesDone = true → s.gsWait = some s.beatno → ∀ u, s.timerWraps = u →
      Goes (exec .gstartBeat s) (fun t => t = { u with timers := t.timers, gsWait := none } ∧
        ∀ n : Fin 64, u.timerSlave n = false →
          if bitAt (u.getReg (0x5060 + 4 * (n.val / 32))) (n.val % 32) = true ∧ u.timers[n].st = .armed then TimerStarted n u t
          else t.timers[n] = u.timers[n])))

/-- R316, R320 to R325, R328, R329, R332, R333. Rows that write stand at the acceptance edge (log entry 9). -/
def Obligations.TimersCaptureWatchdog : Prop :=
  let stored := fun (s : State) (n : Fin 64) (data : Word) =>
    let w := s.timers[n]
    let link := decide (n.val % 2 = 0) && (if s.timers[oddOf n].st = .stopped then bitAt data 29 else w.link)
    { w with
      gs := bitAt data 30, link, reloadMode := bitAt data 28, pre := BitVec.ofNat 8 (fld data 8 8)
      heldCmp := if link then w.heldCmp else none, heldReload := if link then w.heldReload else none }
  (∀ (n : Fin 64) (m : Master) (data : Word) (s : State), s.Accepts m (timerAddr n 0x00) → ∀ u, s.rowReady (timerAddr n 0x00) = u → u.Canonical →
    u.Accepts m (timerAddr n 0x00) → u.srstBusy (timerPage n) = false →
    (u.timerSlave n = true ∨ u.timers[n].st ≠ .stopped → exec (.timerStart n m data) s = .next (u.replied m (timerAddr n 0x00) {})) ∧
    (u.timerSlave n = false → u.timers[n].st = .stopped → Goes (exec (.timerStart n m data) s) (fun t =>
      let starts := bitAt data 30 = false
      let loads := bitAt data 30 = false ∧ bitAt data 28 = true
      let q := stored u n data
      t = { u.replied m (timerAddr n 0x00) {} with timers := t.timers } ∧ (∀ n', n' ≠ n → n' ≠ oddOf n → t.timers[n'] = u.timers[n']) ∧
      t.timers[n] = { q with
        st := if starts then .running else .armed, phase := if starts then 0 else q.phase, moved := q.moved && bitAt data 30
        wrapped := q.wrapped && bitAt data 30, rldact := if loads then q.reload else q.rldact, cmpact := if loads then q.cmp else q.cmpact } ∧
      (n.val % 2 = 0 → t.timers[oddOf n] = (if q.link = true ∧ loads
        then { u.timers[oddOf n] with rldact := u.timers[oddOf n].reload, cmpact := u.timers[oddOf n].cmp } else u.timers[oddOf n]))))) ∧
  (∀ (n : Fin 64) (m : Master) (data : Word) (s : State), s.Accepts m (timerAddr n 0x00) → ∀ u, s.rowReady (timerAddr n 0x00) = u → u.Canonical →
    u.Accepts m (timerAddr n 0x00) → u.srstBusy (timerPage n) = false →
    (u.timerSlave n = true → exec (.timerStop n m data) s = .next (u.replied m (timerAddr n 0x00) {})) ∧
    (u.timerSlave n = false → u.timers[n].st ≠ .stopped →
      exec (.timerStop n m data) s = .next { u.replied m (timerAddr n 0x00) {} with timers := u.timers.set n { u.timers[n] with st := .stopped } }) ∧
    (u.timerSlave n = false → u.timers[n].st = .stopped →
      exec (.timerStop n m data) s = .next { u.replied m (timerAddr n 0x00) {} with timers := u.timers.set n (stored u n data) })) ∧
  (∀ (n : Fin 64) (m : Master) (data : Word) (s : State), s.Accepts m (timerAddr n 0x10) → ∀ u, s.rowReady (timerAddr n 0x10) = u → u.Canonical →
    u.Accepts m (timerAddr n 0x10) → u.srstBusy (timerPage n) = false →
    (u.timerSlave n = false → u.timers[n].link = false → exec (.cmpWrite n m data) s = .next { u.replied m (timerAddr n 0x10) {} with
      timers := u.timers.set n (if u.timers[n].reloadMode then { u.timers[n] with cmp := data }
        else { u.timers[n] with cmp := data, cmpact := data, carmed := true }) }) ∧
    (u.timerSlave n = false → u.timers[n].link = true → exec (.cmpWrite n m data) s = .next { u.replied m (timerAddr n 0x10) {} with
      timers := u.timers.set n { u.timers[n] with heldCmp := some data } }) ∧
    (u.timerSlave n = true → Goes (exec (.cmpWrite n m data) s) (fun t =>
      let h := u.timerHead n
      let lo := u.timers[h].heldCmp.getD u.timers[h].cmp
      t = { u.replied m (timerAddr n 0x10) {} with timers := t.timers } ∧ (∀ n', n' ≠ n → n' ≠ h → t.timers[n'] = u.timers[n']) ∧
      t.timers[n] = (if u.timers[h].reloadMode then { u.timers[n] with cmp := data } else { u.timers[n] with cmp := data, cmpact := data }) ∧
      t.timers[h] = (if u.timers[h].reloadMode then { u.timers[h] with cmp := lo, heldCmp := none }
        else { u.timers[h] with cmp := lo, cmpact := lo, carmed := true, heldCmp := none })))) ∧
  (∀ (n : Fin 64) (s : State),
    let w := s.timers[n]
    (s.beatWritesDone = false → exec (.timerCompare n) s = .next s) ∧
    (s.beatWritesDone = true → w.wrapped = false →
      let fires := w.st = .running ∧ s.timerSlave n = false ∧
        (if w.reloadMode then w.moved = true ∧ s.timerVal n (·.count) = s.timerVal n (·.cmpact)
         else w.carmed = true ∧ (s.timerVal n (·.count) + (if w.link then 2 ^ 64 else 2 ^ 32) - s.timerVal n (·.cmpact)) %
           (if w.link then 2 ^ 64 else 2 ^ 32) < (if w.link then 2 ^ 63 else 2 ^ 31))
      (¬ fires → exec (.timerCompare n) s = .next s) ∧
      (fires → Goes (exec (.timerCompare n) s) (fun t =>
        t = { s with timers := s.timers.set n { w with hit := true, moved := false, carmed := w.carmed && w.reloadMode },
                     regs := t.regs, engines := t.engines } ∧
        Raised ((s.irq (timerPage n) (n.val % 8)).routeEvent w.route 1) t)))) ∧
  (∀ (n : Fin 64) (s : State),
    let w := s.timers[n]
    (w.wrapped = false → exec (.timerWrap n) s = .next s) ∧
    (w.wrapped = true → s.Canonical → Goes (exec (.timerWrap n) s) (fun t =>
      t = { s with timers := t.timers, regs := t.regs } ∧ RegsBut [pageBase (timerPage n) + 0x18] s t ∧
      t.getReg (pageBase (timerPage n) + 0x18) = s.getReg (pageBase (timerPage n) + 0x18) ||| maskOf 32 (8 + n.val % 8) 1 ∧
      (∀ n', n' ≠ n → n' ≠ oddOf n → t.timers[n'] = s.timers[n']) ∧
      t.timers[n] = { w with
        wrap := true, wrapped := false, rldact := if w.reloadMode then w.reload else w.rldact
        cmpact := if w.reloadMode then w.cmp else w.cmpact }))) ∧
  (∀ (i : Fin 256) (rise : Bool) (beat : Word64) (fine : BitVec 8) (s0 : State), s0.edgeWrites.Canonical →
    let s := s0.edgeWrites
    let c := s.getReg (capAddr i 0x00)
    let st := s.getReg (capAddr i 0x04)
    let up := rise != bitAt c 27
    let known := bitAt c 31 = true ∧ s.stampOk beat fine = true
    let on := known ∧ bitAt c (if up then 30 else 29) = true
    let shut := s.pageEn (capPage i) = false ∨ s.frozen (capPage i) = true
    let holds := bitAt c 28 = true ∧ bitAt st (if up then 0 else 1) = true
    (¬ known → exec (.captureEdge i rise beat fine) s0 = .next s) ∧
    (known → ¬ on → exec (.captureEdge i rise beat fine) s0 =
      .next { s with capRise := if up then s.capRise else s.capRise.set i false }) ∧
    (on → shut ∨ holds → Goes (exec (.captureEdge i rise beat fine) s0) (fun t =>
      t = { s with regs := t.regs, capRise := if up then s.capRise else s.capRise.set i false } ∧
      RegsBut [capAddr i 0x04, pageBase (capPage i) + 0x18] s t ∧ t.getReg (capAddr i 0x04) = st ||| 0x8 ∧
      t.getReg (pageBase (capPage i) + 0x18) = s.getReg (pageBase (capPage i) + 0x18) ||| 0x2)) ∧
    (on → ¬ shut → ¬ holds → Goes (exec (.captureEdge i rise beat fine) s0) (fun t =>
      let page := pageBase (capPage i)
      let stamp := BitVec.ofInt 64 (256 * beat.toNat + fine.toNat + s.timeNow.fofs.toInt)
      let route := s.getReg (page + 0x48)
      let routed := (engineNo (fld route 0 9)).map (fun e => engBase e + 0x80)
      t = { s with regs := t.regs, engines := t.engines, capRise := s.capRise.set i up } ∧ t.engines = (s.routeEvent route 1).engines ∧
      RegsBut ([capAddr i 0x04, capAddr i (if up then 0x08 else 0x10), capAddr i (if up then 0x0C else 0x14), capAddr i 0x18,
        page + 0x40 + 4 * (i.val % 64 / 32), page + 0x18] ++ routed.toList) s t ∧
      (∀ a ∈ routed.toList, t.getReg a = (s.routeEvent route 1).getReg a) ∧
      t.getReg (capAddr i (if up then 0x0C else 0x14)) ++ t.getReg (capAddr i (if up then 0x08 else 0x10)) = stamp ∧
      fld (t.getReg (capAddr i 0x04)) 24 8 = (fld st 24 8 + 1) % 256 ∧ bitAt (t.getReg (capAddr i 0x04)) (if up then 0 else 1) = true ∧
      bitAt (t.getReg (page + 0x40 + 4 * (i.val % 64 / 32))) (i.val % 32) = true ∧
      t.getReg (page + 0x18) = s.getReg (page + 0x18) ||| 0x1 ∧
      (up = true ∨ s.capRise[i] = false → t.getReg (capAddr i 0x18) = s.getReg (capAddr i 0x18)) ∧
      (up = false → s.capRise[i] = true → bitAt (t.getReg (capAddr i 0x04)) 2 = true ∧ (t.getReg (capAddr i 0x18)).toNat =
        min (stamp - (s.getReg (capAddr i 0x0C) ++ s.getReg (capAddr i 0x08)) : Word64).toNat 0xFFFFFFFF)))) ∧
  (∀ (e : Fin 257) (m : Master) (data : Word) (s : State), s.Accepts m (engBase e + 0xC0) → ∀ u, s.rowReady (engBase e + 0xC0) = u → u.Canonical →
    u.Accepts m (engBase e + 0xC0) → u.srstBusy (enginePage e) = false →
    Goes (exec (.watchdogEnable e m data) s) (fun t =>
      let w := u.engines[e].wdg
      t = { u.replied m (engBase e + 0xC0) {} with engines := t.engines } ∧ EngBut e u t ∧ t.engines[e] = { u.engines[e] with wdg := { w with
        en := true, frz := bitAt data 30, reloadOnRun := bitAt data 29, second := w.second && !bitAt data 3
        cnt := if w.en then w.cnt else if w.load = 0 then 1 else w.load
        exp := w.exp && w.en, held := w.held && w.en, zero := w.zero && w.en } })) ∧
  (∀ (e : Fin 257) (m : Master) (data : Word) (s : State), s.Accepts m (engBase e + 0xCC) → ∀ u, s.rowReady (engBase e + 0xCC) = u → u.Canonical →
    u.Accepts m (engBase e + 0xCC) → u.srstBusy (enginePage e) = false →
    exec (.watchdogKick e m data) s = .next ((u.replied m (engBase e + 0xCC) {}).modEng e (fun g => { g with
      wdg := { g.wdg with cnt := if g.wdg.load = 0 then 1 else g.wdg.load, exp := false, held := false, zero := false } }))) ∧
  (∀ (e : Fin 257) (s : State), s.Canonical →
    let w := s.engines[e].wdg
    let due := w.zero = true ∧ w.cnt = 0 ∧ s.beatWritesDone = true
    (¬ due → exec (.watchdogExpiry e) s = .next s) ∧
    (due → w.exp = false → exec (.watchdogExpiry e) s = .next (s.modEng e (fun g => { g with
      wdg := { w with cnt := if w.load = 0 then 1 else w.load, exp := true, pend := true, zero := false } }))) ∧
    (due → w.exp = true → Goes (exec (.watchdogExpiry e) s) (fun t => t = { s with regs := t.regs, engines := t.engines } ∧ EngBut e s t ∧
      RegsBut [engBase e + 0x18] s t ∧ t.getReg (engBase e + 0x18) = s.getReg (engBase e + 0x18) ||| 0x10 ∧
      t.engines[e] = { s.engines[e] with wdg := { w with second := true, held := true, zero := false } } ∧
      t.engines[e].wdg.cnt = 0 ∧ t.engines[e].wdg.counts = false)))

/-! ### Pin engines (R335 to R346) -/

/-- R335 to R346. Rows that write stand at the acceptance edge (log entry 9). -/
def Obligations.PinEngines : Prop :=
  (∀ (k : Fin 32) (s : State), s.pinSync k = { s with pins := s.pins.set k { s.pins[k] with
      beatNow := s.pins[k].beat2, beatSeen := s.pins[k].beat2.or s.pins[k].beatSeen, beat2 := s.pins[k].beat1
      beat1 := if s.pins[k].beatIn then some s.timeNow.beat else none, beatIn := false, frz := s.pins[k].frz1, frz1 := s.freezeOn } }) ∧
  (∀ (k : Fin 32) (pins : Word) (s : State),
    let u := (s.pinSync k).pinWrites k
    let not := fun op : PinOp => u.pinCur k ≠ none ∧ ∀ i, u.pinCur k = some i → pinDecode i ≠ op
    (not .nop → exec (.pinNop k pins) s = .next s) ∧ (not .stop → exec (.stop k pins) s = .next s) ∧
    (not .signal → exec (.signal k pins) s = .next s) ∧ (not .clr → exec (.clr k pins) s = .next s) ∧
    (not .drive → exec (.drive k pins) s = .next s) ∧ (not .putp → exec (.putp k pins) s = .next s) ∧
    (not .getp → exec (.getp k pins) s = .next s) ∧ (not .sho → exec (.sho k pins) s = .next s) ∧
    (not .shi → exec (.shi k pins) s = .next s) ∧ (not .take → exec (.take k pins) s = .next s) ∧
    (not .give → exec (.give k pins) s = .next s) ∧ (not .awaitPin → exec (.awaitPin k pins) s = .next s) ∧
    (not .awaitBeat → exec (.awaitBeat k pins) s = .next s) ∧ (not .br → exec (.br k pins) s = .next s) ∧
    (not .ldlc → exec (.ldlc k pins) s = .next s) ∧ (not .loop → exec (.pinLoop k pins) s = .next s) ∧
    (not .reserved → exec (.pinReservedOp k pins) s = .next s) ∧
    (u.pinCur k = none → ∀ o ∈ [
        exec (.pinNop k pins) s, exec (.stop k pins) s, exec (.signal k pins) s, exec (.clr k pins) s, exec (.drive k pins) s,
        exec (.putp k pins) s, exec (.getp k pins) s, exec (.sho k pins) s, exec (.shi k pins) s, exec (.take k pins) s,
        exec (.give k pins) s, exec (.awaitPin k pins) s, exec (.awaitBeat k pins) s, exec (.br k pins) s, exec (.ldlc k pins) s,
        exec (.pinLoop k pins) s, exec (.pinReservedOp k pins) s],
      o = .next { u with
        pins := u.pins.set k { (if u.frozen (.pin k) then u.pins[k] else u.pins[k].strobeEnds) with pinIn := u.pins[k].sync1, sync1 := pins }
        pinLost := false
        islandQ := u.islandQ.map (fun w => if w.pinPage == some k then { w with synced := true } else w) })) ∧
  (∀ (p : PinEng) (target : Option Nat),
    (p.injected = none → p.finish target = { p with
      busy := false, half := false, spill := false, nrem := 0, pc := target.getD ((p.pc + 1) % 64), st := .running }) ∧
    (p.injected ≠ none → p.finish target = { p with
      busy := false, half := false, spill := false, nrem := 0, pc := target.getD p.pc, injected := none, injStopped := false,
      st := if p.injStopped then .stopped else .running })) ∧
  (∀ (k : Fin 32) (pins : Word) (s0 s : State), (s0.pinSync k).pinWrites k = s → s.Canonical → ∀ i, s.pinCur k = some i →
    let p := s.pins[k].strobeEnds
    let j := fld i 0 5
    (pinDecode i = .nop → Goes (exec (.pinNop k pins) s0) (fun t => PinStepped k pins (p.finish none) s t ∧ Quiet s t)) ∧
    (pinDecode i = .signal → Goes (exec (.signal k pins) s0) (fun t => PinStepped k pins (p.finish none) s t ∧ Raised (s.pinEvent k 3 20) t)) ∧
    (pinDecode i = .clr → Goes (exec (.clr k pins) s0) (fun t => PinStepped k pins ({ p with sr := 0, bc := 0 }.finish none) s t ∧ Quiet s t)) ∧
    (pinDecode i = .drive → Goes (exec (.drive k pins) s0) (fun t => PinStepped k pins ({ p with
      pout := putBit p.pout j (match fld i 10 2 with
        | 0 => false | 1 => true | 2 => !bitAt p.pout j | _ => bitAt p.sr (if p.order then 31 else 0)) }.finish none) s t ∧ Quiet s t)) ∧
    (pinDecode i = .putp → Goes (exec (.putp k pins) s0) (fun t => PinStepped k pins ({ p with pout := p.sr }.finish none) s t ∧ Quiet s t)) ∧
    (pinDecode i = .getp → Goes (exec (.getp k pins) s0) (fun t => PinStepped k pins ({ p with sr := p.pinIn, bc := 32 }.finish none) s t ∧ Quiet s t)) ∧
    (pinDecode i = .ldlc → Goes (exec (.ldlc k pins) s0) (fun t => PinStepped k pins ({ p with lc := fld i 0 12 }.finish none) s t ∧ Quiet s t)) ∧
    (pinDecode i = .loop → Goes (exec (.pinLoop k pins) s0) (fun t => PinStepped k pins
      (if 1 < p.lc then { p with lc := p.lc - 1 }.finish (some (fld i 0 6)) else { p with lc := 0 }.finish none) s t ∧ Quiet s t)) ∧
    (pinDecode i = .br → Goes (exec (.br k pins) s0) (fun t => PinStepped k pins
      (p.finish (if p.cond (fld i 8 4) then some (fld i 0 6) else none)) s t ∧ Quiet s t)) ∧
    (pinDecode i = .awaitPin → Goes (exec (.awaitPin k pins) s0) (fun t => PinStepped k pins
      (if bitAt p.pinIn j = bitAt i 5 then p.finish none else p.goOn true) s t ∧ Quiet s t)) ∧
    (pinDecode i = .take → Goes (exec (.take k pins) s0) (fun t =>
      (p.txfull = true → PinStepped k pins ({ p with sr := p.txd, bc := 32, txfull := false }.finish none) s t ∧ Raised (s.pinEvent k 0 23) t) ∧
      (p.txfull = false → bitAt i 11 = true → PinStepped k pins ({ p with sr := p.txd, bc := 32 }.finish none) s t ∧ t.engines = s.engines ∧
        RegsBut [pinBase k + 0x78, pinBase k + 0x18] s t ∧ t.getReg (pinBase k + 0x78) = s.getReg (pinBase k + 0x78) + 1 ∧
        t.getReg (pinBase k + 0x18) = s.getReg (pinBase k + 0x18) ||| 0x10) ∧
      (p.txfull = false → bitAt i 11 = false → PinStepped k pins (p.goOn true) s t ∧ Quiet s t))) ∧
    (pinDecode i = .give → Goes (exec (.give k pins) s0) (fun t =>
      (p.rxfull = false → PinStepped k pins ({ p with rxd := p.sr, bc := 0, rxfull := true }.finish none) s t ∧ Raised (s.pinEvent k 1 22) t) ∧
      (p.rxfull = true → bitAt i 11 = true → PinStepped k pins ({ p with rxd := p.sr, bc := 0 }.finish none) s t ∧ t.engines = s.engines ∧
        RegsBut [pinBase k + 0x7C, pinBase k + 0x18] s t ∧ t.getReg (pinBase k + 0x7C) = s.getReg (pinBase k + 0x7C) + 1 ∧
        t.getReg (pinBase k + 0x18) = s.getReg (pinBase k + 0x18) ||| 0x20) ∧
      (p.rxfull = true → bitAt i 11 = false → PinStepped k pins (p.goOn true) s t ∧ Quiet s t))) ∧
    (pinDecode i = .stop → Goes (exec (.stop k pins) s0) (fun t => PinStepped k pins ({ p.finish none with st := .stopped }) s t ∧
      (p.runs = true → Raised (s.pinEvent k 2 21) t) ∧ (p.runs = false → Quiet s t))) ∧
    (pinDecode i = .reserved → Goes (exec (.pinReservedOp k pins) s0) (fun t =>
      PinStepped k pins ({ ({ p with err := true } : PinEng).finish none with st := .stopped }) s t ∧
      (p.runs = true → Raised ((s.irq (.pin k) 6).pinEvent k 2 21) t) ∧ (p.runs = false → Raised (s.irq (.pin k) 6) t))) ∧
    (pinDecode i = .sho →
      let p0 := if p.busy then p else { p with busy := true, half := false, spill := false, nrem := fld i 0 5 + 1 }
      let out := fun q : PinEng =>
        let q1 := { (q.drive (fld i 5 5) q.nextOut).shiftIn false with bc := q.bc - 1 }
        if q.strb then { q1 with half := true }.goOn false else q1.bitDone
      (p0.half = true → Goes (exec (.sho k pins) s0) (fun t => PinStepped k pins (p0.strobe true).bitDone s t ∧ Quiet s t)) ∧
      (p0.half = false → p.bc = 0 → bitAt i 11 = true → p.txfull = false →
        Goes (exec (.sho k pins) s0) (fun t => PinStepped k pins ((p0.strobe false).goOn true) s t ∧ Quiet s t)) ∧
      (p0.half = false → p.bc ≠ 0 ∨ bitAt i 11 = false →
        Goes (exec (.sho k pins) s0) (fun t => PinStepped k pins (out (p0.strobe false)) s t ∧ Quiet s t)) ∧
      (p0.half = false → p.bc = 0 → bitAt i 11 = true → p.txfull = true → Goes (exec (.sho k pins) s0) (fun t =>
        PinStepped k pins (out { p0.strobe false with sr := p.txd, bc := 32, txfull := false }) s t ∧ Raised (s.pinEvent k 0 23) t))) ∧
    (pinDecode i = .shi →
      let p0 := if p.busy then p else { p with busy := true, half := false, spill := false, nrem := fld i 0 5 + 1 }
      let q1 := { (p0.strobe true).shiftIn (bitAt p.pinIn (fld i 5 5)) with bc := min 32 (p.bc + 1), half := false }
      (p0.spill = false → p.strb = true → p0.half = false →
        Goes (exec (.shi k pins) s0) (fun t => PinStepped k pins ({ p0.strobe false with half := true }.goOn false) s t ∧ Quiet s t)) ∧
      (p0.spill = false → p.strb = false ∨ p0.half = true → p.bc < 31 ∨ bitAt i 11 = false → p0.nrem ≠ 0 →
        Goes (exec (.shi k pins) s0) (fun t => PinStepped k pins q1.bitDone s t ∧ Quiet s t)) ∧
      (p0.spill = false → p.strb = false ∨ p0.half = true → 31 ≤ p.bc → bitAt i 11 = true → p0.nrem ≠ 0 →
        Goes (exec (.shi k pins) s0) (fun t =>
          (p.rxfull = false → PinStepped k pins ({ q1 with rxd := q1.sr, bc := 0, rxfull := true }.bitDone) s t ∧ Raised (s.pinEvent k 1 22) t) ∧
          (p.rxfull = true → PinStepped k pins ({ q1 with nrem := p0.nrem - 1, spill := true }.goOn true) s t ∧ Quiet s t))) ∧
      (p0.spill = true → Goes (exec (.shi k pins) s0) (fun t =>
        (p.rxfull = false → PinStepped k pins
          ({ p0.strobe false with rxd := p.sr, bc := 0, rxfull := true, spill := false, nrem := p0.nrem + 1 }.bitDone) s t ∧
          Raised (s.pinEvent k 1 22) t) ∧
        (p.rxfull = true → PinStepped k pins ((p0.strobe false).goOn true) s t ∧ Quiet s t))))) ∧
  (∀ (k : Fin 32) (pins : Word) (s0 s : State), (s0.pinSync k).pinWrites k = s → s.Canonical →
    ∀ i, s.pinCur k = some i → pinDecode i = .awaitBeat →
    let p := s.pins[k].strobeEnds
    (p.busy = true → Goes (exec (.awaitBeat k pins) s0) (fun t => PinStepped k pins
      (if p.beatNow.any (fun n => s.beatMeets k i n) then p.finish none else p.goOn true) s t ∧ Quiet s t)) ∧
    (p.busy = false → bitAt i 10 = true → p.beatSeen.any (fun n => s.beatMeets k i n) = true → Goes (exec (.awaitBeat k pins) s0) (fun t =>
      PinStepped k pins ({ p with blate := true }.finish none) s t ∧ Raised (s.irq (.pin k) 7) t)) ∧
    (p.busy = false → bitAt i 10 = false ∨ p.beatSeen.any (fun n => s.beatMeets k i n) = false → Goes (exec (.awaitBeat k pins) s0) (fun t =>
      PinStepped k pins (p.goOn true) s t ∧ Quiet s t))) ∧
  (∀ (k : Fin 32) (m : Master) (data : Word) (s : State), s.Accepts m (pinBase k + 0x40) → ∀ u, s.rowReady (pinBase k + 0x40) = u → u.Canonical →
    u.Accepts m (pinBase k + 0x40) → u.srstBusy (.pin k) = false →
    let p := u.pins[k]
    let set := fun q : PinEng => { q with
      strobed := q.strobed && bitAt data 5 && decide (q.strbpin = fld data 0 5), startpc := fld data 24 6, psel := fld data 16 5
      order := bitAt data 8, strb := bitAt data 5, strbpin := fld data 0 5 }
    (p.runs = true → exec (.pinEngineRun k m data) s = .next (u.replied m (pinBase k + 0x40) {})) ∧
    (p.runs = false → u.pageEn (.pin k) = false → exec (.pinEngineRun k m data) s = .next { u.replied m (pinBase k + 0x40) {} with pins := u.pins.set k (set p) }) ∧
    (p.runs = false → u.pageEn (.pin k) = true → p.injected = none → exec (.pinEngineRun k m data) s = .next { u.replied m (pinBase k + 0x40) {} with
      pins := u.pins.set k { set p with pc := fld data 24 6, st := .running, busy := false, half := false, spill := false, nrem := 0 } }) ∧
    (p.runs = false → u.pageEn (.pin k) = true → p.injected ≠ none → exec (.pinEngineRun k m data) s = .next { u.replied m (pinBase k + 0x40) {} with
      pins := u.pins.set k { set p with pc := fld data 24 6, injStopped := false } }) ∧
    (p.runs = false → exec (.pinEngineStop k m data) s = .next { u.replied m (pinBase k + 0x40) {} with pins := u.pins.set k (set p.abandon) }) ∧
    (p.runs = true → Goes (exec (.pinEngineStop k m data) s) (fun t =>
      t = { u.replied m (pinBase k + 0x40) {} with pins := u.pins.set k { p.abandon with st := .stopped, strobed := false }, regs := t.regs, engines := t.engines } ∧
      Raised (u.pinEvent k 2 21) t))) ∧
  (∀ (k : Fin 32) (m : Master) (data : Word) (s : State), s.Accepts m (pinBase k + 0x5C) → ∀ u, s.rowReady (pinBase k + 0x5C) = u → u.Canonical →
    u.Accepts m (pinBase k + 0x5C) → u.srstBusy (.pin k) = false →
    Goes (exec (.txdWrite k m data) s) (fun t =>
      t = { u.replied m (pinBase k + 0x5C) {} with pins := u.pins.set k { u.pins[k] with txd := data, txfull := true }, regs := t.regs } ∧
      (u.pins[k].txfull = false → t.regs = u.regs) ∧
      (u.pins[k].txfull = true → RegsBut [pinBase k + 0x80] u t ∧ t.getReg (pinBase k + 0x80) = u.getReg (pinBase k + 0x80) + 1))) ∧
  (∀ (k : Fin 32) (m : Master) (s u : State), s.rowReady (pinBase k + 0x60) = u → u.takes m (pinBase k + 0x60) = true →
    u.srstBusy (.pin k) = false → (∀ w ∈ u.islandQ, w.pinPage ≠ some k) →
    exec (.rxdPop k m) s = .next { u.replied m (pinBase k + 0x60) { data := u.pins[k].rxd } with
      pins := if isStagehand m then u.pins else u.pins.set k { u.pins[k] with rxfull := false } }) ∧
  (∀ (k : Fin 32) (m : Master) (data : Word) (s : State), s.Accepts m (pinBase k + 0x68) → ∀ u, s.rowReady (pinBase k + 0x68) = u → u.Canonical →
    u.Accepts m (pinBase k + 0x68) → u.srstBusy (.pin k) = false →
    exec (.inject k m data) s = .next { u.replied m (pinBase k + 0x68) {} with
      pins := u.pins.set k { u.pins[k].abandon with injected := some (data.setWidth 16), injStopped := !u.pins[k].runs } })

/-! ### Trust (R302, R367 to R382) -/

/-- R302, R367 to R378, R401. -/
def Obligations.TrustBoot : Prop :=
  (∀ (code : BitVec 8) (s : State), s.Canonical → s.dbg.level < 2 →
    let bad := lcIndex code = none
    let c : BitVec 8 := if lcIndex code = none then 0xFF else code
    let err := fun t : State => t = { s with trust := { s.trust with lcerr := true }, regs := t.regs } ∧ RegsBut [0x6018] s t ∧
      t.getReg 0x6018 = s.getReg 0x6018 ||| 0x8
    let ret := fun (c : BitVec 8) (t : State) => t.retReq = (s.retReq || (s.attached && defaultLevel (some c) == 0 && (s.retained ≠ [] || s.entering ≠ [])))
    (s.trust.lc = none → s.trust.boot ≠ .wipe ∨ s.wiping = true → Goes (exec (.lifeCycleChange code) s) (fun t =>
      t = { s with trust := { s.trust with lc := some c, lcerr := s.trust.lcerr || decide bad },
                   dbg := { s.dbg with level := defaultLevel (some c) }, regs := t.regs, retReq := t.retReq } ∧ ret c t ∧
      RegsBut [0x6018, 0x7044] s t ∧ (bad → t.getReg 0x6018 = s.getReg 0x6018 ||| 0x8))) ∧
    (∀ old, s.trust.lc = some old → ∀ io, lcIndex old = some io →
      let ic := (lcIndex c).getD 0
      (ic = io → ¬ bad → exec (.lifeCycleChange code) s = .next s) ∧
      (ic = io → bad → Goes (exec (.lifeCycleChange code) s) err) ∧ (ic < io → Goes (exec (.lifeCycleChange code) s) err) ∧
      (io < ic → s.trust.boot ≠ .secret → s.trust.quotes = [] → Goes (exec (.lifeCycleChange code) s) (fun t =>
        t = { s with trust := { s.trust with lc := some c, keys := false, noKeys := true, rs := [], lcerr := s.trust.lcerr || decide bad },
                     dbg := { s.dbg with level := defaultLevel (some c) }, wiping := true, regs := t.regs, mem := t.mem, memErr := t.memErr,
                     engines := t.engines, retReq := t.retReq } ∧ ret c t ∧
        RegsBut [0x6018, 0x7044] s t ∧ t.getReg 0x6018 = s.getReg 0x6018 ||| 0x8 ∧
        (∀ e : Fin 257, t.engines[e] = { s.engines[e] with reserved := t.engines[e].reserved }) ∧
        (∀ x ∈ s.mem, t.bytesAt x.1 1 = if 0x48000000 ≤ x.1 ∧ x.1 < 0x48040000 then [0] else s.bytesAt x.1 1) ∧
        (∀ x ∈ t.mem, t.bytesAt x.1 1 = s.bytesAt x.1 1))))) ∧
  (∀ s : State, s.Canonical → s.trust.boot ≠ .secret → s.dbg.level < 2 → Goes (exec .tamper s) (fun t =>
    t.trust.tamper = true ∧ t.trust.keys = false ∧ t.trust.noKeys = true ∧ t.trust.rs = [] ∧ t.trust.quotes = [] ∧ t.trust.boot = s.trust.boot ∧
    t.wiping = true ∧ (s.trust.tamper = false → bitAt (t.getReg 0x6018) 2 = true) ∧
    (∀ q ∈ s.trust.quotes, t.callboard[q.cb].cur.st = .failed ∧ t.callboard[q.cb].cur.result = 0x07000007) ∧
    (∀ x ∈ s.mem, t.bytesAt x.1 1 = if 0x48000000 ≤ x.1 ∧ x.1 < 0x48040000 then [0] else s.bytesAt x.1 1) ∧
    (∀ x ∈ t.mem, t.bytesAt x.1 1 = s.bytesAt x.1 1))) ∧
  (∀ s : State, s.Canonical → s.trust.boot = .wipe → s.trust.lc ≠ none →
    (s.trust.keyed = true → s.trust.noKeys = false → Goes (exec .wipeComplete s) (fun t =>
      t = { s with wiping := false, trust := { s.trust with boot := .secret, secretReq := true, rs := [] }, regs := t.regs } ∧
      RegsBut (0x6054 :: (List.range 96).map (fun i => 0x6100 + 4 * i)) s t ∧ t.measBytes = List.replicate 384 0 ∧ t.logcnt = 0)) ∧
    (s.trust.keyed = false ∨ s.trust.noKeys = true → s.trust.index ≠ 4 → s.trust.goHeld = false → Goes (exec .wipeComplete s) (fun t =>
      t.wiping = false ∧ t.trust = { s.trust with boot := .waitGo } ∧ t.callboard = s.callboard ∧ t.logcnt = 1 ∧
      t.regBytes (measAddr 0) 12 = sha384 (List.replicate 48 0 ++ sha384 ((List.range 262144).map Config.bootRom)))) ∧
    (s.trust.index = 4 → Goes (exec .wipeComplete s) (fun t => t.wiping = false ∧ t.trust = { s.trust with boot := .failed } ∧ CbBut 0 s t ∧
      t.callboard[(0 : Fin 64)].cur.st = .failed ∧ t.callboard[(0 : Fin 64)].cur.result.toNat / 2 ^ 24 = 6 ∧
      t.callboard[(0 : Fin 64)].cur.result.toNat % 256 = 7 ∧ bitAt (t.getReg 0x6018) 0 = true))) ∧
  (∀ (w : Word) (s : State), s.Canonical →
    (s.trust.secretReq = false → exec (.secretWord w) s = .next s) ∧
    (s.trust.secretReq = true → s.trust.rs.length < 11 → exec (.secretWord w) s = .next { s with trust := { s.trust with rs := s.trust.rs ++ [w] } }) ∧
    (s.trust.secretReq = true → s.trust.rs.length = 11 → s.trust.noKeys = false → s.trust.index ≠ 4 → s.trust.goHeld = false →
      let key := bytesOfWords (s.trust.rs ++ [w])
      let l := s.trust.lc.getD 0
      Goes (exec (.secretWord w) s) (fun t =>
        t.trust.keys = true ∧ t.trust.secretReq = false ∧ t.trust.rs = [] ∧ t.trust.boot = .waitGo ∧ t.callboard = s.callboard ∧
        t.bytesAt 0x48000000 48 = hmac384 key (ascii "G9-ATTEST" ++ [l]) ∧ t.bytesAt 0x48000040 48 = hmac384 key (ascii "G9-DEBUG" ++ [l])))) ∧
  (∀ s : State, s.Canonical →
    (s.trust.secretReq = false ∨ s.trust.rs ≠ [] → exec .secretTimeout s = .next s) ∧
    (s.trust.secretReq = true → s.trust.rs = [] → s.trust.index ≠ 4 → s.trust.goHeld = false → s.logcnt < 4095 → Goes (exec .secretTimeout s) (fun t =>
      t.trust = { s.trust with sectmo := true, secretReq := false, boot := .waitGo } ∧ t.logcnt = s.logcnt + 1 ∧ t.callboard = s.callboard ∧
      t.regBytes (measAddr 0) 12 = sha384 (s.regBytes (measAddr 0) 12 ++ sha384 ((List.range 262144).map Config.bootRom)) ∧
      (∀ a, a < 0x403C0000 ∨ 0x40400000 ≤ a → t.bytesAt a 1 = s.bytesAt a 1)))) ∧
  (∀ (m : Master) (s : State), s.Canonical → s.Accepts m 0x6050 → s.srstBusy .trust = false →
    (s.trust.boot = .wipe ∨ s.trust.boot = .secret → exec (.bootcmd m) s = .next { s.replied m 0x6050 {} with trust := { s.trust with goHeld := true } }) ∧
    (s.trust.boot = .waitGo → s.charge 300 ≤ s.avail → Goes (exec (.bootcmd m) s) (fun t =>
      t = { s.replied m 0x6050 {} with trust := { s.trust with boot := .waitPermit }, callboard := t.callboard, permit := t.permit } ∧ CbBut 0 s t ∧
      t.callboard[(0 : Fin 64)].cur.st = .permitWait ∧
      t.permit = s.permit.enqueue 2 { who := .boot, mw := 300, since := s.beatno, aged := false })) ∧
    (s.trust.boot = .waitGo → s.avail < s.charge 300 → Goes (exec (.bootcmd m) s) (fun t =>
      t = { s.replied m 0x6050 {} with trust := { s.trust with boot := .failed }, callboard := t.callboard, permit := t.permit, regs := t.regs } ∧
      CbBut 0 s t ∧ RegsBut [0x1018, 0x6018, 0x2064, 0x2018] s t ∧
      t.callboard[(0 : Fin 64)].cur.st = .failed ∧ t.callboard[(0 : Fin 64)].cur.result = 1)) ∧
    (s.trust.boot ∉ [.wipe, .secret, .waitGo] → exec (.bootcmd m) s = .next (s.replied m 0x6050 {}))) ∧
  (∀ (bytes : Option (List Byte)) (s : State), s.Canonical →
    let failed := fun (result : Nat) (t : State) =>
      t = { s with trust := { s.trust with boot := .failed }, callboard := t.callboard, permit := t.permit, regs := t.regs } ∧ CbBut 0 s t ∧
      RegsBut [0x1018, 0x6018] s t ∧ t.callboard[(0 : Fin 64)].cur.st = .failed ∧ t.callboard[(0 : Fin 64)].cur.result.toNat = result ∧
      bitAt (t.getReg 0x6018) 0 = true
    (s.trust.boot ∉ [.descriptor, .images] → exec (.bootImageLoad bytes) s = .next s) ∧
    (s.trust.boot = .descriptor → bytes = none → Goes (exec (.bootImageLoad bytes) s) (failed 0x040FFF07)) ∧
    (s.trust.boot = .images → bytes = none → Goes (exec (.bootImageLoad bytes) s) (failed ((0x04 * 2 ^ 16 + s.trust.image % 4096) * 256 + 7))) ∧
    let at0 := s.regN 0x6048 + s.regN 0x604C * 2 ^ 32
    let from1 := entryField s.trust.desc s.trust.image 8 8
    (s.trust.boot = .descriptor → ∀ d, bytes = some d → 2 ^ 39 < at0 + d.length → Goes (exec (.bootImageLoad bytes) s) (failed 0x040FFF07)) ∧
    (s.trust.boot = .images → ∀ b, bytes = some b → 2 ^ 39 < from1 + b.length →
      Goes (exec (.bootImageLoad bytes) s) (failed ((0x04 * 2 ^ 16 + s.trust.image % 4096) * 256 + 7))) ∧
    (s.trust.boot = .descriptor → ∀ d, bytes = some d → 64 ≤ d.length → at0 + d.length ≤ 2 ^ 39 →
      let n := descField d 6 2
      (headerOk d = false → Goes (exec (.bootImageLoad bytes) s) (failed 0x010FFF07)) ∧
      (headerOk d = true → d.length ≠ 64 + 32 * n → exec (.bootImageLoad bytes) s = .next s) ∧
      (headerOk d = true → d.length = 64 + 32 * n →
        (∀ i r, (List.range n).findSome? (fun i => (entryFault d i).map (fun r => (i, r))) = some (i, r) →
          Goes (exec (.bootImageLoad bytes) s) (failed ((r * 2 ^ 16 + i) * 256 + 7))) ∧
        ((List.range n).all (fun i => (entryFault d i).isNone) = true → s.logcnt < 4095 → Goes (exec (.bootImageLoad bytes) s) (fun t =>
          t.trust = { s.trust with boot := .images, desc := d, image := 0 } ∧ CbBut 0 s t ∧
          t.callboard[(0 : Fin 64)].cur = { s.callboard[(0 : Fin 64)].cur with total := BitVec.ofNat 32 n } ∧ t.logcnt = s.logcnt + 1 ∧
          t.regBytes (measAddr 0) 12 = sha384 (s.regBytes (measAddr 0) 12 ++ sha384 d))))) ∧
    (s.trust.boot = .images → ∀ b, bytes = some b → from1 + b.length ≤ 2 ^ 39 →
      let d := s.trust.desc
      let i := s.trust.image
      let k := entryField d i 0 1
      let m := entryField d i 1 1
      let tg := entryField d i 16 8
      let log := fun a : Nat => 0x403C0000 ≤ a ∧ a < 0x40400000
      (b.length ≠ entryField d i 4 4 → exec (.bootImageLoad bytes) s = .next s) ∧
      (b.length = entryField d i 4 4 → entryFault d i = none → s.logcnt < 4095 → spWf csBase s.cstore = true → spWf (fun _ => 0) s.sstore = true →
        Goes (exec (.bootImageLoad bytes) s) (fun t =>
          CbBut 0 s t ∧ t.logcnt = s.logcnt + 1 ∧ t.trust.image = i + 1 ∧ t.callboard[(0 : Fin 64)].cur.progress = BitVec.ofNat 32 (i + 1) ∧
          t.regBytes (measAddr m) 12 = sha384 (s.regBytes (measAddr m) 12 ++ sha384 b) ∧
          (∀ m' : Fin 8, m'.val ≠ m → t.regBytes (measAddr m'.val) 12 = s.regBytes (measAddr m'.val) 12) ∧
          (k ≠ 1 ∧ k ≠ 2 → t.cstore = s.cstore) ∧ (k ≠ 3 → t.sstore = s.sstore) ∧
          (k ≠ 4 → ∀ a, ¬ log a → t.bytesAt a 1 = s.bytesAt a 1) ∧
          (k = 1 → ∀ jw ∈ (portWordsOfBytes (b.length / 16) b).zipIdx, t.csWord 256 (tg % 2048 + jw.2) = withChk jw.1) ∧
          (k = 2 → ∀ e : Fin 256, tg % 256 ≤ e.val → e.val ≤ tg / 256 % 256 →
            ∀ jw ∈ (portWordsOfBytes (b.length / 16) b).zipIdx, t.csWord e.val (tg / 2 ^ 16 % 2048 + jw.2) = withChk jw.1) ∧
          (k = 3 → ∀ c : Fin 16, tg % 16 ≤ c.val → c.val ≤ tg / 16 % 16 →
            ∀ jw ∈ (portWordsOfBytes (b.length / 16) b).zipIdx, t.ssWord c.val (tg / 256 % 2 ^ 14 + jw.2) = withChk jw.1) ∧
          (k = 4 → ∀ jb ∈ b.zipIdx, ¬ log (tg % 2 ^ 40 + jb.2) → t.bytesAt (tg % 2 ^ 40 + jb.2) 1 = [jb.1]) ∧
          (i + 1 < descField d 6 2 → t.trust.boot = .images ∧ t.callboard[(0 : Fin 64)].cur.partials = BitVec.ofNat 32 (i + 1) ∧
            t.engines[houseNo].pc = s.engines[houseNo].pc) ∧
          (descField d 6 2 ≤ i + 1 → t.trust.boot = .done ∧ t.callboard[(0 : Fin 64)].cur.st = .done ∧ t.callboard[(0 : Fin 64)].cur.result = 0 ∧
            bitAt (t.getReg 0x6018) 0 = true ∧ t.engines[houseNo].run = .running ∧ t.engines[houseNo].pc = BitVec.ofNat 32 (descField d 8 4) ∧
            t.engines[houseNo].stat = 0x8000 ∧ bitAt (t.getReg 0x30016C) 31 = false ∧ bitAt (t.getReg 0x30017C) 31 = false))))) ∧
  (∀ (m : Master) (data : Word) (s : State), s.Canonical → s.Accepts m 0x60F0 → s.srstBusy .trust = false →
    let i := fld data 16 3
    (i = 0 → exec (.houseExtend m data) s = .next (s.replied m 0x60F0 {})) ∧
    (i ≠ 0 → s.logcnt < 4095 → Goes (exec (.houseExtend m data) s) (fun t =>
      t = { s.replied m 0x60F0 {} with
        regs := t.regs, mem := t.mem, memErr := t.memErr, engines := t.engines, permit := t.permit, freeIndex := t.freeIndex } ∧
      RegsBut (0x6054 :: (List.range 12).map (fun w => measAddr i + 4 * w)) s t ∧ t.logcnt = s.logcnt + 1 ∧
      t.regBytes (measAddr i) 12 = sha384 (s.regBytes (measAddr i) 12 ++ s.regBytes 0x60C0 12) ∧
      t.bytesAt (0x403C0000 + 64 * s.logcnt) 52 = s.regBytes 0x60C0 12 ++ [BitVec.ofNat 8 i, 0x20] ++ bytesLE 2 (fld data 0 16) ∧
      t.bytesAt (0x403C0000 + 64 * s.logcnt + 56) 8 = bytesLE 8 s.beatno.toNat ∧
      (∀ x ∈ s.mem, ¬ (0x403C0000 + 64 * s.logcnt ≤ x.1 ∧ x.1 < 0x403C0000 + 64 * s.logcnt + 64) → t.bytesAt x.1 1 = s.bytesAt x.1 1)))) ∧
  (∀ s : State, s.Canonical →
    (s.trust.boot ≠ .done ∨ s.engines[houseNo].run = .dark ∨ s.trust.pages = [] → exec .pageMeasurement s = .next s) ∧
    (s.trust.boot = .done → s.engines[houseNo].run ≠ .dark → s.logcnt < 4095 → ∀ p, s.trust.pages.min? = some p →
      let b := (List.range 256).flatMap (fun i => bytesLE 16 (s.ssWord (p / 64) (256 * (p % 64) + i)).toNat)
      Goes (exec .pageMeasurement s) (fun t =>
        t.trust = { s.trust with pages := s.trust.pages.filter (· ≠ p) } ∧ t.logcnt = s.logcnt + 1 ∧ t.callboard = s.callboard ∧
        RegsBut (0x6054 :: (List.range 12).map (fun w => measAddr 7 + 4 * w)) s t ∧
        t.regBytes (measAddr 7) 12 = sha384 (s.regBytes (measAddr 7) 12 ++ sha384 b) ∧
        t.bytesAt (0x403C0000 + 64 * s.logcnt) 56 = sha384 b ++ [7, 0x10] ++ bytesLE 2 p ++ bytesLE 4 4096)))

/-- R379, R380, R416; the readings of log entries 77, 93 and 115 (the model's choices). -/
def Obligations.Quotes : Prop :=
  let asks := fun (r : Fin 64) (who : QuoteFor) (nonce : List Byte) (s t : State) =>
    let q : Quote := { cb := r, who, nonce, snap := none }
    CbBut r s t ∧ t.callboard[r].cur.kind = 2 ∧ t.callboard[r].cur.total = 8 ∧
    (s.engines[houseNo].run = .dark → t.callboard[r].cur.st = .queued ∧ t.permit = s.permit ∧ t.trust.quotes = s.trust.quotes ++ [q]) ∧
    (s.engines[houseNo].run ≠ .dark → s.trust.keys = false ∨ s.trust.keyed = false →
      t.callboard[r].cur.st = .failed ∧ t.callboard[r].cur.result = 0x07000007 ∧ t.trust.quotes = s.trust.quotes.filter (fun x => x.cb ≠ r)) ∧
    (s.engines[houseNo].run ≠ .dark → s.trust.keys = true → s.trust.keyed = true → s.charge 50 ≤ s.avail →
      t.callboard[r].cur.st = .permitWait ∧ t.trust.quotes = s.trust.quotes ++ [q] ∧
      t.permit = s.permit.enqueue 0 { who := .quote r, mw := 50, since := s.beatno, aged := false }) ∧
    (s.engines[houseNo].run ≠ .dark → s.trust.keys = true → s.trust.keyed = true → s.avail < s.charge 50 →
      t.callboard[r].cur.st = .failed ∧ t.callboard[r].cur.result = 1)
  (∀ (m : Master) (data : Word) (s : State), s.Canonical → s.Accepts m 0x6058 → s.srstBusy .trust = false →
    (s.trust.hostRec ≠ none → exec (.quote m data) s = .next (s.replied m 0x6058 {}) ∧ exec (.peerQuoteRequest m data) s = .next (s.replied m 0x6058 {})) ∧
    (s.trust.hostRec = none → s.cbFree = none →
      let none := fun t : State => t = { s.replied m 0x6058 {} with regs := t.regs } ∧
        fld (t.getReg 0x605C) 0 8 = 0xFF ∧ RegsBut [0x6058, 0x605C, 0x1018] s t
      Goes (exec (.quote m data) s) none ∧ Goes (exec (.peerQuoteRequest m data) s) none) ∧
    (s.trust.hostRec = none → ∀ r, s.cbFree = some r →
      Goes (exec (.quote m data) s) (fun t => asks r .host (s.regBytes 0x6080 8) s t ∧ fld (t.getReg 0x605C) 0 8 = r.val ∧
        t = { s.replied m 0x6058 {} with regs := t.regs, callboard := t.callboard, permit := t.permit, trust := t.trust } ∧
        t.trust = { s.trust with quotes := t.trust.quotes, hostRec := t.trust.hostRec } ∧
        RegsBut [0x6058, 0x605C, 0x6018, 0x1018, 0x2064, 0x2018] s t ∧
        (t.callboard[r].cur.st.final = false → t.trust.hostRec = some r) ∧ (t.callboard[r].cur.st.final = true → bitAt (t.getReg 0x6018) 1 = true)) ∧
      let ask : Msg := { cls := 12, kind := 1, dest := fld data 0 9, fields := fields64 (s.regBytes 0x6080 8) 4, len := 3 }
      (s.trust.keys = false ∨ s.trust.keyed = false → Goes (exec (.peerQuoteRequest m data) s) (fun t =>
        t = { s.replied m 0x6058 {} with callboard := t.callboard, regs := t.regs } ∧ CbBut r s t ∧ RegsBut [0x6058, 0x605C, 0x6018, 0x1018] s t ∧
        t.callboard[r].cur.st = .failed ∧ t.callboard[r].cur.result = 0x07000007 ∧ bitAt (t.getReg 0x6018) 1 = true ∧
        fld (t.getReg 0x605C) 0 8 = r.val)) ∧
      (s.trust.keys = true → s.trust.keyed = true → Goes (exec (.peerQuoteRequest m data) s) (fun t =>
        t = { s.replied m 0x6058 {} with
          callboard := t.callboard, regs := t.regs, fwdQ := (s.sendPeer ask).fwdQ
          trust := { s.trust with hostRec := some r, peerRec := some r, peerBeat := s.beatno, peerHalves := 0 } } ∧
        CbBut r s t ∧ RegsBut [0x6058, 0x605C, 0x18, 0x88, 0x8C] s t ∧
        (∀ a ∈ [0x18, 0x88, 0x8C], t.getReg a = (s.sendPeer ask).getReg a) ∧
        t.callboard[r].cur.st = .running ∧ t.callboard[r].cur.kind = 2 ∧ t.callboard[r].cur.total = 8 ∧
        fld (t.getReg 0x605C) 0 8 = r.val)))) ∧
  (∀ (src : BitVec 9) (nonce : List Word128) (s : State), s.Canonical →
    let many := 8 ≤ countIf (fun q : Quote => match q.who with | .peer _ => true | _ => false) s.trust.quotes
    (s.sysEn = false → exec (.qreq src nonce) s = .next s) ∧
    (s.sysEn = true → many → Goes (exec (.qreq src nonce) s) (fun t => t = { s with regs := t.regs } ∧ RegsBut [0x6060] s t ∧ t.getReg 0x6060 = s.getReg 0x6060 + 1)) ∧
    (s.sysEn = true → ¬ many → s.cbFree = none → Goes (exec (.qreq src nonce) s) (fun t => t = { s with regs := t.regs } ∧ RegsBut [0x6060, 0x1018] s t ∧
      t.getReg 0x6060 = s.getReg 0x6060 + 1)) ∧
    (s.sysEn = true → ¬ many → ∀ r, s.cbFree = some r → Goes (exec (.qreq src nonce) s) (fun t =>
      asks r (.peer src) ((bytesOfPortWords nonce).take 32) s t ∧
      t = { s with regs := t.regs, callboard := t.callboard, permit := t.permit, trust := t.trust } ∧ RegsBut [0x1018, 0x6018, 0x2064, 0x2018] s t))) ∧
  (∀ s : State, s.Canonical → 1 ≤ s.dbg.level → s.dbg.daccStatus ≠ 1 → s.inReset = false → s.pageLocked .debug = false → s.srstBusy .debug = false →
    (s.cbFree = none → Goes (exec .debugQuote s) (fun t => t = { s with regs := t.regs, dbg := t.dbg } ∧ RegsBut [0x7174, 0x1018] s t ∧
      t.dbg = { s.dbg with daccStatus := 0, daccOff := 0x170, daccData := 0 } ∧ fld (t.getReg 0x7174) 0 8 = 0xFF)) ∧
    (∀ r, s.cbFree = some r → Goes (exec .debugQuote s) (fun t => asks r .debugger (s.regBytes 0x7180 8) s t ∧ fld (t.getReg 0x7174) 0 8 = r.val ∧
      t.dbg.daccStatus = 0 ∧ t = { s with regs := t.regs, callboard := t.callboard, permit := t.permit, trust := t.trust, dbg := t.dbg } ∧
      RegsBut [0x7174, 0x1018, 0x6018, 0x2064, 0x2018] s t))) ∧
  (∀ s : State, s.dbg.level = 0 → s.dbg.daccStatus ≠ 1 → s.inReset = false → exec .debugQuote s = .next { s with
    dbg := { s.dbg with daccStatus := 2, daccOff := 0x170, daccData := 0 } }) ∧
  (∀ (half : Bool) (words : List Word128) (s : State), s.Canonical →
    (s.trust.peerRec = none ∨ words.length ≠ 16 ∨ s.sysEn = false ∨ 65536 ≤ (s.beatno - s.trust.peerBeat).toNat → exec (.qresp half words) s = .next s) ∧
    (∀ r, s.trust.peerRec = some r → words.length = 16 → s.sysEn = true → (s.beatno - s.trust.peerBeat).toNat < 65536 → Goes (exec (.qresp half words) s) (fun t =>
      t.regBytes (0x6800 + if half then 256 else 0) 64 = bytesOfPortWords words ∧
      t.regBytes (0x6800 + if half then 0 else 256) 64 = s.regBytes (0x6800 + if half then 0 else 256) 64 ∧ CbBut r s t ∧
      t = { s with regs := t.regs, callboard := t.callboard, trust := t.trust } ∧
      (s.trust.peerHalves = 0 → t.callboard = s.callboard ∧ t.trust = { s.trust with peerHalves := if half then 2 else 1 }) ∧
      (s.trust.peerHalves = (if half then 1 else 2) → t.callboard[r].cur.st = .done ∧ t.callboard[r].cur.result = 0 ∧
        t.callboard[r].cur.progress = 8 ∧ t.trust.hostRec = none ∧ t.trust.peerRec = none ∧ bitAt (t.getReg 0x6018) 1 = true)))) ∧
  (∀ s : State, s.Canonical →
    (s.trust.peerRec = none ∨ (s.beatno - s.trust.peerBeat).toNat < 65536 → exec .quoteTimeout s = .next s) ∧
    (∀ r, s.trust.peerRec = some r → 65536 ≤ (s.beatno - s.trust.peerBeat).toNat → Goes (exec .quoteTimeout s) (fun t =>
      t = { s with regs := t.regs, callboard := t.callboard, trust := { s.trust with hostRec := none, peerRec := none } } ∧ CbBut r s t ∧
      RegsBut [0x1018, 0x6018] s t ∧ t.callboard[r].cur.st = .failed ∧ t.callboard[r].cur.result = 4 ∧ bitAt (t.getReg 0x6018) 1 = true))) ∧
  (∀ s : State, s.Canonical →
    (s.trust.quotes.all (fun q => q.snap.isNone) = true → exec .quoteComplete s = .next s) ∧
    (∀ q, s.trust.quotes.find? (fun q => q.snap.isSome) = some q →
      let body := q.snap.getD []
      let all := body ++ hmac384 (s.bytesAt 0x48000000 48) body ++ List.replicate 16 0
      (s.callboard[q.cb].abort = true → Goes (exec .quoteComplete s) (fun t => CbBut q.cb s t ∧ t.callboard[q.cb].cur.st = .aborted ∧
        t.callboard[q.cb].cur.result = 2 ∧ t.trust.quotes = s.trust.quotes.filter (fun x => x.cb ≠ q.cb) ∧
        t = { s with regs := t.regs, callboard := t.callboard, trust := t.trust, permit := t.permit })) ∧
      (s.callboard[q.cb].abort = false → body.length = 448 → (q.who = .host ∨ q.who = .debugger) → Goes (exec .quoteComplete s) (fun t =>
        CbBut q.cb s t ∧ t.callboard[q.cb].cur.st = .done ∧ t.callboard[q.cb].cur.result = 0 ∧ t.callboard[q.cb].cur.progress = 8 ∧
        t = { s with regs := t.regs, callboard := t.callboard, trust := t.trust, permit := t.permit } ∧
        t.trust.quotes = s.trust.quotes.filter (fun x => x.cb ≠ q.cb) ∧ (∀ g ∈ t.permit.grants, g.1 ≠ .quote q.cb) ∧
        t.regBytes (if q.who = .host then 0x6800 else 0x7800) 128 = all ∧
        (q.who = .host → bitAt (t.getReg 0x6018) 1 = true))) ∧
      (∀ src, q.who = .peer src → s.callboard[q.cb].abort = false → Goes (exec .quoteComplete s) (fun t =>
        t.callboard[q.cb].cur.st = .done ∧ t.trust.quotes = s.trust.quotes.filter (fun x => x.cb ≠ q.cb) ∧
        t.fwdQ = (((s.useMgmt 9000 (hmacBlocks 448)).sendPeer { cls := 12, kind := 2, dest := src.toNat, fields := fields64 all 32, len := 17 }).sendPeer
          { cls := 12, kind := 3, dest := src.toNat, fields := fields64 (all.drop 256) 32, len := 17 }).fwdQ))))

/-! ### Debug and run control (R399 to R416), resets (R441) -/

/-- R401, R404 to R407, R410, R412, R415, R416. -/
def Obligations.DebugHalt : Prop :=
  let dacc := fun (s : State) (o : BitVec 12) (st : Nat) => { s.dbg with daccStatus := st, daccOff := o, daccData := 0 }
  (∀ (sel : BitVec 9) (e : Fin 257), e ∈ selEngines sel ↔ (sel.toNat = 511 ∧ e.val < 256) ∨ e.val = sel.toNat) ∧
  (∀ (sel : BitVec 9) (data : Word) (s : State), s.dbg.daccStatus = 1 ∨ s.inReset = true →
    exec (.debugHaltRequest sel) s = .next s ∧ exec (.resume sel) s = .next s ∧ exec (.step sel) s = .next s ∧
    exec (.bkpton sel) s = .next s ∧ exec (.bkptoff sel) s = .next s ∧ exec (.freeze data) s = .next s ∧
    exec (.freezeEnd data) s = .next s ∧ exec (.bellstrike data) s = .next s) ∧
  (∀ (sel : BitVec 9) (data : Word) (s : State), s.dbg.daccStatus ≠ 1 → s.inReset = false → s.dbg.level < 2 →
    let no := fun o : BitVec 12 => { s with dbg := dacc s o 2 }
    exec (.debugHaltRequest sel) s = .next (no 0x054) ∧ exec (.resume sel) s = .next (no 0x054) ∧ exec (.step sel) s = .next (no 0x054) ∧
    exec (.bkpton sel) s = .next (no 0x054) ∧ exec (.bkptoff sel) s = .next (no 0x054) ∧ exec (.freeze data) s = .next (no 0x050) ∧
    exec (.freezeEnd data) s = .next (no 0x050) ∧ exec (.bellstrike data) s = .next (no 0x058)) ∧
  (∀ (sel : BitVec 9) (s : State), s.dbg.daccStatus ≠ 1 → s.inReset = false → s.dbg.level = 2 → s.pageLocked .debug = false → s.srstBusy .debug = false →
    let on := fun (t : State) (f : Engine → Engine) => t = { s with engines := t.engines, dbg := dacc s 0x054 0 } ∧
      ∀ e : Fin 257, t.engines[e] = if e ∈ selEngines sel then f s.engines[e] else s.engines[e]
    Goes (exec (.debugHaltRequest sel) s) (fun t => on t (fun g =>
      if g.run = .halted ∨ g.haltReq.contains 1 = true then g else { g with haltReq := g.haltReq ++ [1] })) ∧
    Goes (exec (.bkpton sel) s) (fun t => on t (fun g => { g with bkpt := true })) ∧
    Goes (exec (.bkptoff sel) s) (fun t => on t (fun g => { g with bkpt := false }))) ∧
  (∀ (e : Fin 257) (s : State), s.dbg.daccStatus ≠ 1 → s.inReset = false → s.dbg.level = 2 → s.pageLocked .debug = false → s.srstBusy .debug = false → bitAt s.trcfg 31 = false →
    let sel := BitVec.ofNat 9 e.val
    let g := s.engines[e]
    let held := g.haltCause = 6 ∧ s.frozen (enginePage e) = true
    let one := fun g' : Engine => { s with engines := s.engines.set e g', dbg := dacc s 0x054 0 }
    (g.run ≠ .halted → exec (.resume sel) s = .next (one { g with haltReq := [] }) ∧ exec (.step sel) s = .next { s with dbg := dacc s 0x054 0 }) ∧
    (g.run = .halted → s.prompting e = true →
      exec (.resume sel) s = .next { s with dbg := { dacc s 0x054 0 with resumeHeld := some false } } ∧
      exec (.step sel) s = .next { s with dbg := { dacc s 0x054 0 with resumeHeld := some true } }) ∧
    (g.run = .halted → s.prompting e = false → held →
      exec (.resume sel) s = .next { s with dbg := dacc s 0x054 0 } ∧ exec (.step sel) s = .next { s with dbg := dacc s 0x054 0 }) ∧
    (g.run = .halted → s.prompting e = false → ¬ held → s.stopDue e = false →
      exec (.resume sel) s = .next (one { g with haltCause := 0, stepping := false, run := .running, wdg := { g.wdg with released := true } }) ∧
      exec (.step sel) s = .next (one { g with
        haltCause := 0, stepping := true, run := .running, wdg := { g.wdg with released := true }, haltReq := if g.haltReq.contains 4 then g.haltReq else g.haltReq ++ [4] })) ∧
    (g.run = .halted → s.prompting e = false → ¬ held → s.stopDue e = true →
      let stops := fun t : State => t = one t.engines[e] ∧ t.engines[e].run = .stopped ∧ t.engines[e].haltCause = 0 ∧
        t.engines[e].stepping = false ∧ t.engines[e].stopReq = false ∧ t.engines[e].haltReq = g.haltReq
      Goes (exec (.resume sel) s) stops ∧ Goes (exec (.step sel) s) stops)) ∧
  (∀ (data : Word) (s : State), s.Canonical → s.dbg.daccStatus ≠ 1 → s.inReset = false → s.dbg.level = 2 → s.pageLocked .debug = false → s.srstBusy .debug = false →
    (bitAt (s.getReg 0x715C) 0 = false → exec (.bellstrike data) s = .next { s with dbg := dacc s 0x058 0 }) ∧
    (bitAt (s.getReg 0x715C) 0 = true → Goes (exec (.bellstrike data) s) (fun t =>
      t = { s with engines := t.engines, regs := t.regs, dbg := { dacc s 0x058 0 with rung := s.dbg.rung ||| data.setWidth 8 } } ∧
      RegsBut [0x705C] s t ∧ t.getReg 0x705C = s.getReg 0x705C ||| (data &&& 0xFF) ∧
      ∀ e : Fin 257, t.engines[e] =
        if s.engines[e].run ≠ .halted ∧ (List.range 8).any (fun b => bitAt data b && s.bellMember true b e) = true ∧ 5 ∉ s.engines[e].haltReq
        then { s.engines[e] with haltReq := s.engines[e].haltReq ++ [5] } else s.engines[e]))) ∧
  (∀ (data : Word) (s : State), s.Canonical → s.dbg.daccStatus ≠ 1 → s.inReset = false → s.dbg.level = 2 → s.pageLocked .debug = false → s.srstBusy .debug = false →
    Goes (exec (.freeze data) s) (fun t => t = { s with regs := t.regs, dbg := dacc s 0x050 0 } ∧ RegsBut [0x7050] s t ∧
      t.getReg 0x7050 = (data &&& 0xFF00) ||| 1 ∧ t.freezeOn = true) ∧
    ((∀ j : Fin 8, s.slots[j].st = .free) → bitAt s.trcfg 31 = false → Goes (exec (.freezeEnd data) s) (fun t =>
      t = { s with regs := t.regs, engines := t.engines, dbg := { dacc s 0x050 0 with rung := 0 } } ∧ RegsBut [0x7050] s t ∧
      t.getReg 0x7050 = data &&& 0xFF00 ∧ t.freezeOn = false ∧
      ∀ e : Fin 257, (s.engines[e].run ≠ .halted ∨ s.engines[e].haltCause ≠ 6 → t.engines[e] = s.engines[e]) ∧
        (s.engines[e].run = .halted → s.engines[e].haltCause = 6 → s.stopDue e = false →
          t.engines[e] = { s.engines[e] with
            haltCause := 0, stepping := false, run := .running, wdg := { s.engines[e].wdg with released := true } })))) ∧
  (∀ (e : Fin 257) (s : State), s.Canonical →
    let g := s.engines[e]
    (s.atBoundary e = false ∨ g.stepping = true ∨ s.haltCauses e = [] → exec (.debugHalt e) s = .next s) ∧
    (s.atBoundary e = true → g.stepping = false → g.load = none → bitAt s.trcfg 31 = false → ∀ cause rest, s.haltCauses e = cause :: rest →
      let rings := fun b : Nat => bitAt (s.getReg 0x715C) 0 && cause != 5 && s.bellMember false b e
      Goes (exec (.debugHalt e) s) (fun t =>
        t = { s with engines := t.engines, regs := t.regs, permit := t.permit, freeIndex := t.freeIndex, dbg := { s.dbg with rung := t.dbg.rung } } ∧
        RegsBut ([0x7018, 0x705C] ++ if e.val < 256 then [engBase e + 0x18, engBase e + 0x64, engBase e + 0x70] else []) s t ∧
        t.getReg 0x7018 = s.getReg 0x7018 ||| 1 ∧
        t.engines[e] = { g with
          run := .halted, haltCause := cause, haltReq := [], mstack := [], reserved := none, micro := false, stepping := false, rep := false
          x := t.engines[e].x, mdr := t.engines[e].mdr, mdrOld := t.engines[e].mdrOld, prevRes := t.engines[e].prevRes, lc := t.engines[e].lc
          tickWait := t.engines[e].tickWait, paceLate := false, inInstr := false, lastUpc := none, oldStore := [], oldWin := [] } ∧
        (∀ b : Fin 8, bitAt (t.getReg 0x705C) b.val = (bitAt (s.getReg 0x705C) b.val || rings b.val)) ∧
        ∀ e' : Fin 257, e' ≠ e → t.engines[e'] =
          if s.engines[e'].run ≠ .halted ∧ (List.range 8).any (fun b => rings b && s.bellMember true b e') = true ∧ 5 ∉ s.engines[e'].haltReq
          then { s.engines[e'] with haltReq := s.engines[e'].haltReq ++ [5] } else s.engines[e']))) ∧
  (∀ (w : Option Word) (s : State), s.Canonical → s.pageLocked .debug = false → s.srstBusy .debug = false →
    (w = none → s.dbg.prompt = none → exec (.prompter w) s = .next s) ∧
    (w.isSome = true → s.dbg.daccStatus ≠ 1 → s.inReset = false → s.dbg.level < 2 → s.dbg.prompt = none → exec (.prompter w) s = .next { s with dbg := dacc s 0x144 2 }) ∧
    (w.isSome = true → s.dbg.daccStatus ≠ 1 → s.inReset = false → s.dbg.level = 2 → s.dbg.prompt = none → ∀ e, engineNo (fld (s.getReg 0x7140) 0 9) = some e → s.engines[e].run ≠ .halted →
      exec (.prompter w) s = .next { s with dbg := { dacc s 0x144 0 with pNotHalted := true } }) ∧
    (∀ v, w = some v → s.dbg.daccStatus ≠ 1 → s.inReset = false → s.dbg.level = 2 → s.dbg.prompt = none → ∀ e, engineNo (fld (s.getReg 0x7140) 0 9) = some e → s.engines[e].run = .halted →
      exec (.prompter w) s = exec (.prompter none) { s.setReg 0x7144 v with dbg := { dacc s 0x144 1 with
        prompt := some (e, bytesLE 4 v.toNat ++ [(s.getReg 0x7148).setWidth 8]), pExc := false, pNotHalted := false, pEmpty := false, pCause := 0 } }) ∧
    (w = none → ∀ e bytes, s.dbg.prompt = some (e, bytes) →
      (s.engines[e].run ≠ .halted → exec (.prompter w) s = .next { s with dbg := { s.dbg with
        prompt := none, resumeHeld := none, pNotHalted := true, daccStatus := if s.dbg.daccStatus = 1 then 0 else s.dbg.daccStatus } }) ∧
      (s.engines[e].run = .halted → s.engines[e].micro = true ∨ s.paced e = false → exec (.prompter w) s = .next s) ∧
      (s.engines[e].run = .halted → s.engines[e].micro = false → s.paced e = true → s.dbg.resumeHeld = none →
        ((bytes.getD 0 0).toNat < 0xE0 ∨ 0xF0 ≤ (bytes.getD 0 0).toNat) →
        s.entryIsBase e.val (bytes.getD 0 0).toNat = true → s.entryMoved e.val (bytes.getD 0 0).toNat = false →
        let ended := fun (t : State) => t.dbg.prompt = none ∧ t.dbg.pExc = false ∧ t.dbg.pCause = 0 ∧ t.dbg.daccStatus ≠ 1
        (∀ s1, promptInstr e bytes s = .ok () s1 → ∀ s2, settleLoad e s1 = .ok () s2 →
          (s2.engines[e].depth = 0 → Goes (exec (.prompter w) s) (fun t => ended t ∧ t.engines = (s2.boundary e).engines ∧ t.mem = s2.mem ∧
            t.dbg.pEmpty = true ∧ t.dbg.pResult = 0)) ∧
          (∀ x l, s2.engines[e].cells = x :: l → Goes (exec (.prompter w) s) (fun t => ended t ∧ t.engines = (s2.boundary e).engines ∧
            t.mem = s2.mem ∧ t.dbg.pEmpty = false ∧ t.dbg.pResult = x)) ∧
          (s2.engines[e].cells = [] → s2.engines[e].depth ≠ 0 →
            (∀ x s3, loadN e s2.engines[e].dsp 4 false (s2.boundary e) = .ok x s3 → Goes (exec (.prompter w) s) (fun t => ended t ∧
              t.engines = s3.engines ∧ t.mem = s3.mem ∧ t.dbg.pResult = BitVec.ofNat 32 x)) ∧
            (∀ v s3, loadN e s2.engines[e].dsp 4 false (s2.boundary e) = .error (.wait v) s3 → exec (.prompter w) s = .next (s.waits e s3 v)))) ∧
        (s.engines[e].load = none → (s.engines[e].cells ≠ [] ∨ s.engines[e].depth = 0) → bodyOf e (bytes.getD 0 0).toNat (natLE ((bytes.drop 1).take (ilenOf (baseFlags (bytes.getD 0 0).toNat)))) = none →
          Goes (exec (.prompter w) s) (fun t => t.dbg.prompt = none ∧ t.dbg.pExc = true ∧
            t.dbg.pCause = (if 0xC0 ≤ (bytes.getD 0 0).toNat then 2 else 1) ∧ t.engines[e].ecause = s.engines[e].ecause ∧
            t.engines[e].eaddr = s.engines[e].eaddr ∧ t.engines[e].pc = s.engines[e].pc ∧ t.engines[e].run = .halted))))) ∧
  (∀ (fine : Byte) (port kind who : Nat) (data : Word) (s : State), (s.packet fine port kind who data).length = 16 ∧
    (s.packet fine port kind who data).drop 8 = [BitVec.ofNat 8 port, BitVec.ofNat 8 kind] ++ bytesLE 2 (who % 512) ++ bytesLE 4 data.toNat) ∧
  (∀ (m : Master) (port : Fin 256) (data : Word) (s : State), s.Canonical → s.Accepts m (0x7400 + 4 * port.val) → s.srstBusy .debug = false →
    let a := 0x7400 + 4 * port.val
    let on := fun u : State => u.answer (s.originOf m) {}
    let taken := s.taken m a
    (bitAt s.trcfg 31 = false → exec (.stimulus m port data) s = .next (s.replied m a {})) ∧
    (bitAt s.trcfg 31 = true → s.sinkOk = false → bitAt s.trcfg 30 = false →
      exec (.stimulus m port data) s = .next { s.replied m a {} with dbg := { s.dbg with traceErr := true } }) ∧
    (bitAt s.trcfg 31 = true → s.sinkOk = false → bitAt s.trcfg 30 = true → Goes (exec (.stimulus m port data) s) (fun t =>
      t = { s.replied m a {} with dbg := { s.dbg with traceErr := true, traceLost := s.dbg.traceLost + 1 }, regs := t.regs } ∧
      RegsBut [0x70B8, 0x7018] s t ∧ t.getReg 0x70B8 = s.getReg 0x70B8 + 1 ∧ t.getReg 0x7018 = s.getReg 0x7018 ||| 2)) ∧
    (bitAt s.trcfg 31 = true → s.sinkOk = true → s.dbg.traceLost = 0 →
      let p := s.packet (freeByte (s.freeIndex + 2)) port.val 1 (masterNo m) data
      let r := fld (s.getReg 0x70B4) 0 14
      let s1 := { taken.drew 4 with dbg := { s.dbg with traceQ := [(r, 0, p)] } }
      (bitAt s.trcfg 30 = false → s.dbg.traceQ = [] → ∀ k u, ringPut r p s1 = .ok (.done k) u →
        exec (.stimulus m port data) s = .next (on { u with dbg := { u.dbg with traceQ := [] } })) ∧
      (bitAt s.trcfg 30 = false → s.dbg.traceQ = [] → ∀ x u, ringPut r p s1 = .ok x u → x = .full ∨ x = .unusable ∨ x = .failed →
        spWf regReset u.regs = true → u.dbg.traceLost = 0 → Goes (exec (.stimulus m port data) s) (fun t =>
          t = { on u with regs := t.regs, dbg := { u.dbg with traceQ := [], traceLost := 1 } } ∧ RegsBut [0x70B8, 0x7018] u t ∧
          t.getReg 0x70B8 = u.getReg 0x70B8 + 1)) ∧
      (bitAt s.trcfg 30 = false → s.dbg.traceQ = [] → ∀ w u, ringPut r p s1 = .error (.wait w) u →
        exec (.stimulus m port data) s = .next (on (s1.settle w))) ∧
      (bitAt s.trcfg 30 = true →
        let n : Fin 128 := Fin.ofNat 128 (fld s.trcfg 8 7)
        let cls := fld s.trcfg 0 4
        let opens := s.pageEn (.link n) = true ∧ s.frozen (.link n) = false ∧ s.portUp n = true ∧ 1 ≤ txCredit s.ports[n] cls
        (opens → exec (.stimulus m port data) s = .next (on ((taken.drew 4).transmit n (.data cls (portWordsOfBytes 1 p))))) ∧
        (¬ opens → Goes (exec (.stimulus m port data) s) (fun t =>
          t = { on (taken.drew 4) with regs := t.regs, dbg := { s.dbg with traceLost := 1 } } ∧ RegsBut [0x70B8, 0x7018] s t ∧
          t.getReg 0x70B8 = s.getReg 0x70B8 + 1 ∧ t.getReg 0x7018 = s.getReg 0x7018 ||| 2)))) ∧
    (bitAt s.trcfg 31 = true → s.sinkOk = true → s.dbg.traceLost ≠ 0 → bitAt s.trcfg 30 = true →
      let n : Fin 128 := Fin.ofNat 128 (fld s.trcfg 8 7)
      let cls := fld s.trcfg 0 4
      s.pageEn (.link n) = true → s.frozen (.link n) = false → s.portUp n = true → 2 ≤ txCredit s.ports[n] cls →
      let p0 := s.packet (freeByte s.freeIndex) 0 4 (Config.freeWord (s.freeIndex + 1)).toNat (BitVec.ofNat 32 s.dbg.traceLost)
      let p1 := s.packet (freeByte (s.freeIndex + 2)) port.val 1 (masterNo m) data
      exec (.stimulus m port data) s = .next (on (({ taken.drew 4 with dbg := { s.dbg with traceLost := 0 } }.transmit n
        (.data cls (portWordsOfBytes 1 p0))).transmit n (.data cls (portWordsOfBytes 1 p1))))))

/-- R399 to R402, R408, R416, R437. The model's choices: the TAP of IEEE 1149.1 (log entry 91), the corners of scan-port accesses (log
entries 87 and 88). -/
def Obligations.DebugPort : Prop :=
  (∀ (c : TapReset) (s : State), exec (.tapReset c) s = .next { s with dbg := { s.dbg with tap := .testLogicReset, ir := 1, irShift := 1 } }) ∧
  (∀ (tms tdi : Bool) (s : State),
    let d := s.dbg
    let len := if d.ir = 1 then 32 else if d.ir = 8 then 46 else 1
    (s.porLow = true → exec (.tckEdge tms tdi) s = .next { s with dbg := { d with tck := !d.tck } }) ∧
    (s.porLow = false → d.tck = false → Goes (exec (.tckEdge tms tdi) s) (fun t => t = { s with dbg := t.dbg } ∧
      t.dbg = { d with tck := true, tap := d.tap.next tms, ir := t.dbg.ir, irShift := t.dbg.irShift, dr := t.dbg.dr } ∧
      (d.tap = .captureDr → t.dbg.dr.toNat = if d.ir = 1 then 0x24739001 + Config.jtagMfr.toNat * 2
        else if d.ir = 8 then (d.daccStatus * 2 ^ 44 + d.daccOff.toNat * 2 ^ 32 + d.daccData.toNat) % 2 ^ 46 else 0) ∧
      (d.tap = .shiftDr → t.dbg.dr.toNat = (d.dr.toNat / 2 + (if tdi then 2 ^ (len - 1) else 0)) % 2 ^ 46) ∧
      (d.tap ≠ .captureDr → d.tap ≠ .shiftDr → t.dbg.dr = d.dr) ∧
      (d.tap.next tms = .testLogicReset → t.dbg.ir = 1) ∧ (d.tap.next tms ≠ .testLogicReset → t.dbg.ir = d.ir) ∧
      (d.tap = .captureIr → t.dbg.irShift = 1) ∧
      (d.tap = .shiftIr → t.dbg.irShift.toNat = d.irShift.toNat / 2 + (if tdi then 8 else 0)))) ∧
    (s.porLow = false → d.tck = true →
      let s1 := { s with dbg := { d with
        tck := false, tdo := if d.tap = .shiftDr then bitAt d.dr 0 else if d.tap = .shiftIr then bitAt d.irShift 0 else d.tdo } }
      (d.tap ≠ .updateIr → d.tap ≠ .updateDr ∨ d.ir ≠ 8 → exec (.tckEdge tms tdi) s = .next s1) ∧
      (d.tap = .updateIr → exec (.tckEdge tms tdi) s = .next { s1 with dbg := { s1.dbg with ir := d.irShift } }) ∧
      (d.tap = .updateDr → d.ir = 8 →
        (fld d.dr 44 2 = 1 → exec (.tckEdge tms tdi) s = exec (.daccRead (BitVec.ofNat 12 (fld d.dr 32 12))) s1) ∧
        (fld d.dr 44 2 = 2 → exec (.tckEdge tms tdi) s = exec (.daccWrite (BitVec.ofNat 12 (fld d.dr 32 12)) (d.dr.setWidth 32)) s1) ∧
        (fld d.dr 44 2 = 0 ∨ fld d.dr 44 2 = 3 → exec (.tckEdge tms tdi) s = .next s1)))) ∧
  (∀ s : State, s.dbg.tdoOe = true ↔ (s.dbg.tap = .shiftIr ∨ s.dbg.tap = .shiftDr)) ∧
  (∀ (o : BitVec 12) (data : Word) (s : State),
    let off := g7Alias (o.toNat / 4 * 4)
    let done := fun (st : Nat) (v : Word) => { s with dbg := { s.dbg with daccStatus := st, daccOff := o, daccData := v } }
    let need := if off = 0x168 ∧ (bitAt data 30 ∨ bitAt data 29) then 2 else regLevel off
    let v := if off = 0x044 ∧ s.dbg.level < 2 then putBit data 1 (bitAt (s.getReg 0x7044) 1) else data
    (s.dbg.daccStatus = 1 ∨ s.inReset = true → exec (.daccRead o) s = .next s ∧ exec (.daccWrite o data) s = .next s) ∧
    (s.dbg.daccStatus ≠ 1 → s.inReset = false →
      (regDesc .debug off = none → exec (.daccRead o) s = .next (done 0 0)) ∧
      ((regDesc .debug off).isSome = true → s.dbg.level < regLevel off → exec (.daccRead o) s = .next (done 2 0)) ∧
      ((regDesc .debug off).isSome = true → regLevel off ≤ s.dbg.level → exec (.daccRead o) s = .next (done 0 (s.pageRead .debug off))) ∧
      (s.pageLocked .debug = true → off ≠ 0x018 → exec (.daccWrite o data) s = .next (done 2 0)) ∧
      (s.pageLocked .debug = false ∨ off = 0x018 →
        (regDesc .debug off = none → exec (.daccWrite o data) s = .next (done 0 0)) ∧
        ((regDesc .debug off).isSome = true → s.dbg.level < need → exec (.daccWrite o data) s = .next (done 2 0)) ∧
        ((regDesc .debug off).isSome = true → need ≤ s.dbg.level →
          let u := s.pageWrite (.xbar 17) 17 .debug off v s.beatno
          Goes (exec (.daccWrite o data) s) (fun t => t = { u with dbg := { u.dbg with
            daccStatus := t.dbg.daccStatus, daccOff := o, daccData := 0 } } ∧ (t.dbg.daccStatus = 0 ∨ t.dbg.daccStatus = 1) ∧
            (t.dbg.daccStatus = 1 → u.dbg.shBusy = true ∨ u.dbg.prompt.isSome = true))))) ∧
    (∀ w : Fin 12, o.toNat = 0x80 + 4 * w.val → s.Canonical → s.dbg.daccStatus ≠ 1 → s.inReset = false → s.pageLocked .debug = false → s.srstBusy .debug = false →
      Goes (exec (.daccWrite o data) s) (fun t => t = { s with regs := t.regs, dbg := (done 0 0).dbg } ∧ RegsBut [0x7000 + o.toNat] s t ∧
        t.getReg (0x7000 + o.toNat) = data))) ∧
  (∀ s : State, s.Canonical → s.dbg.daccStatus ≠ 1 → s.inReset = false → s.pageLocked .debug = false → s.srstBusy .debug = false →
    let dacc : Debug := { s.dbg with daccStatus := 0, daccOff := 0x048, daccData := 0 }
    let dead := s.trust.keys = false ∨ s.trust.index = 4 ∨ s.dbg.backoff = true ∨ s.dbg.lockout = true
    let fails := fun t : State => t = { s with regs := t.regs, permit := t.permit, dbg := { dacc with
        chalValid := false, backoff := true, lockout := s.dbg.lockout || decide (16 ≤ fld (s.getReg 0x704C) 0 5 + 1) } } ∧
      RegsBut [0x704C, 0x7018] s t ∧ (t.getReg 0x704C).toNat = fld (s.getReg 0x704C) 0 5 + 1 ∧ t.getReg 0x7018 = s.getReg 0x7018 ||| 4
    (dead → exec .challengeNew s = .next { s with dbg := dacc } ∧ ∀ lvl, exec (.challengeCheck lvl) s = .next { s with dbg := dacc }) ∧
    (¬ dead → Goes (exec .challengeNew s) (fun t =>
      t = { s with regs := t.regs, permit := t.permit, dbg := { dacc with ccount := s.dbg.ccount + 1, chalValid := true } } ∧
      RegsBut ((List.range 8).map (fun w => 0x7060 + 4 * w)) s t ∧ t.regBytes 0x7060 8 =
        (hmac384 (s.bytesAt 0x48000040 48) (ascii "G9-CHAL" ++ bytesLE 8 s.dbg.ccount.toNat ++ bytesLE 8 s.beatno.toNat)).take 32)) ∧
    (¬ dead → ∀ lvl : BitVec 2,
      let right := s.dbg.chalValid = true ∧ (lvl = 1 ∨ lvl = 2) ∧
        s.regBytes 0x7080 12 = hmac384 (s.bytesAt 0x48000040 48) (ascii "G9-RESP" ++ s.regBytes 0x7060 8 ++ [lvl.setWidth 8])
      (right → Goes (exec (.challengeCheck lvl) s) (fun t =>
        t = { s with permit := t.permit, dbg := { dacc with chalValid := false, level := max s.dbg.level lvl.toNat } })) ∧
      (¬ right → Goes (exec (.challengeCheck lvl) s) fails))) ∧
  (∀ s : State, exec .challengeBackoffEnd s = .next { s with dbg := { s.dbg with backoff := false } }) ∧
  (∀ (data : Word) (s : State), s.Canonical → s.dbg.daccStatus ≠ 1 → s.inReset = false → s.pageLocked .debug = false → s.srstBusy .debug = false →
    let dacc := fun st : Nat => { s.dbg with daccStatus := st, daccOff := 0x168, daccData := 0 }
    let n := fld data 0 6 + 1
    let pa := (s.getReg 0x7160).toNat + 2 ^ 32 * fld (s.getReg 0x7164) 0 8
    (s.dbg.level < (if bitAt data 30 then 2 else 1) → exec (.stagehandTransfer data) s = .next { s with dbg := dacc 2 }) ∧
    (s.dbg.level = 2 → s.dbg.shBusy = true → exec (.stagehandTransfer data) s = .next { s with dbg := dacc 0 }) ∧
    (s.dbg.level = 2 → s.dbg.shBusy = false → bitAt data 28 = true → Goes (exec (.stagehandTransfer data) s) (fun t =>
      t = { s with bursts := t.bursts, dbg := { dacc 1 with
        shBusy := true, shErr := false, shDone := 0, shWrite := bitAt data 30, shReg := true } } ∧
      ∃ b, t.bursts = s.bursts ++ [b] ∧ b.m = 17 ∧ b.addr = fld (s.getReg 0x7160) 0 24 / 4 * 4 ∧ b.left = n ∧ b.size = 4 ∧ b.write = bitAt data 30)) ∧
    (s.dbg.level = 2 → s.dbg.shBusy = false → bitAt data 28 = false →
      (∀ p, (s.burstCheck 17 (bitAt data 30) pa n).1 = some p → Goes (exec (.stagehandTransfer data) s) (fun t =>
        t = { s with bursts := t.bursts, dbg := { dacc 1 with
          shBusy := true, shErr := false, shDone := 0, shWrite := bitAt data 30, shReg := false } } ∧
        ∃ b, t.bursts = s.bursts ++ [b] ∧ b.m = 17 ∧ b.t = p.1 ∧ b.left = n ∧ b.size = p.2 ∧ b.write = bitAt data 30)) ∧
      ((s.burstCheck 17 (bitAt data 30) pa n).1 = none → s.bursts.all (fun b => b.m != 17) = true → Goes (exec (.stagehandTransfer data) s) (fun t =>
        t.dbg.shErr = true ∧ t.dbg.shBusy = false ∧ t.dbg.daccStatus = 0 ∧ t.bursts = s.bursts))) ∧
    (s.dbg.level < 2 → exec .stagehandReset s = .next { s with dbg := dacc 2 }) ∧
    (∀ r o, regionOf pa = some (r, o) → r = .rings ∨ r = .pages → (s.burstCheck 17 (bitAt data 30) pa n).1 = none) ∧
    (s.dbg.level = 2 → Goes (exec .stagehandReset s) (fun t => t.bursts = s.bursts.filter (fun b => b.m ≠ 17) ∧
      t.dbg.shBusy = false ∧ t.dbg.daccStatus = 0 ∧
      (s.bursts.all (fun b => b.m != 17 || b.write || decide (b.granted = 0)) = true →
        t = { s with
          bursts := t.bursts, hostReqs := t.hostReqs, dbg := { dacc 0 with shBusy := false }
          singles := s.singles.filter (fun x => x.m ≠ 17), wakeFor := s.wakeFor.filter (fun x => x.2.m ≠ 17)
          islandQ := s.islandQ.map (fun w => if w.origin = .burst 17 then { w with origin := .none } else w) } ∧
        t.hostReqs = s.hostReqs.filterMap (fun q => if q.who.m = 17 ∧ (q.write = false ∨ q.who.engine = none) then
          (if q.answer.isSome then none else some { q with orphan := true }) else some q)))))

/-- R302, R441, R442. The values of State.reset that no rule gives are the model's choice (log entries 1, 2). -/
def Obligations.Resets : Prop :=
  let por := fun (s : State) (low : Bool) => { State.reset with
    pending := s.pending, porLow := low, rstLow := s.rstLow, freeIndex := s.freeIndex, hfiRst := s.hfiRst
    ports := s.ports.map (fun p : Port => { ({} : Port) with phyRdy := p.phyRdy }), dbg := { State.reset.dbg with tck := s.dbg.tck } }
  let held := fun (s r : State) =>
    let wake := s.retained ++ s.waking
    { r with engines := r.engines.set 256 {}, trust := { r.trust with boot := .failed }, waking := wake
             retReq := s.retReq && wake ≠ [], retAck := s.retAck && wake ≠ [] }
  let rst := fun (s t r : State) (low : Bool) =>
    t = { r with
      pending := s.pending, porLow := s.porLow, rstLow := low, freeIndex := s.freeIndex, hfiRst := s.hfiRst, ports := t.ports
      cstore := s.cstore, dispatch := s.dispatch, sstore := s.sstore, csErr := s.csErr, ssErr := s.ssErr, dispErr := s.dispErr
      mem := t.mem, memErr := t.memErr, dbg := t.dbg } ∧
    (∀ n : Fin 128, t.ports[n] = { ({} : Port) with phyRdy := s.ports[n].phyRdy }) ∧
    t.dbg.tck = s.dbg.tck ∧ t.dbg.tap = s.dbg.tap ∧ t.dbg.ir = s.dbg.ir ∧ t.dbg.dr = s.dbg.dr ∧ t.dbg.ccount = s.dbg.ccount ∧ t.dbg.daccStatus = (if s.dbg.daccStatus = 1 then 0 else s.dbg.daccStatus) ∧
    t.dbg.level = 0 ∧ t.dbg.lockout = false ∧ t.dbg.backoff = false ∧ t.dbg.prompt = none ∧ t.dbg.shBusy = false ∧ t.dbg.chalValid = false ∧
    (∀ a, t.getReg a = regReset a) ∧
    (∀ x ∈ s.mem, t.bytesAt x.1 1 = if 0x48000000 ≤ x.1 ∧ x.1 < 0x48040000 then [0] else s.bytesAt x.1 1) ∧
    (∀ x ∈ t.mem, t.bytesAt x.1 1 = s.bytesAt x.1 1)
  (∀ s : State, exec .porAssert s = .next (held s (por s true))) ∧
  (∀ (low : Bool) (s : State),
    (s.porLow = true → s.rstLow = false → exec (.porRelease low) s = .next { por s false with trust := { State.reset.trust with noKeys := low } }) ∧
    (s.porLow = true → s.rstLow = true → exec (.porRelease low) s = .next (held s (por s false))) ∧
    (s.porLow = false → exec (.porRelease low) s = .next s)) ∧
  (∀ s : State, s.Canonical → Goes (exec .resetAssert s) (fun t => rst s t (held s State.reset) true)) ∧
  (∀ (low : Bool) (s : State), s.Canonical →
    (s.rstLow = true → s.porLow = false → Goes (exec (.resetRelease low) s) (fun t =>
      rst s t { State.reset with trust := { State.reset.trust with noKeys := low } } false)) ∧
    (s.rstLow = true → s.porLow = true → Goes (exec (.resetRelease low) s) (fun t => rst s t (held s State.reset) false)) ∧
    (s.rstLow = false → exec (.resetRelease low) s = .next s)) ∧
  (∀ (m : Master) (a : Nat) (s : State), s.inReset = true → s.takes m a = false)

/-! ### Values of the vector operations (R102 to R131) -/

/-- R102 to R104, R109, R114 to R118, R120 to R126. GAIN of −0, and T = BIT of an integer operand, are the model's choices (log entries 48
and 128). -/
def Obligations.VectorValues : Prop :=
  let wraps := fun (t : Nat) (v : Int) (o : Word × Flags) => o.1.toNat < 2 ^ etWidth t ∧ (etVal t o.1 - v) % 2 ^ etWidth t = 0 ∧
    o.2 = if etMin t ≤ v ∧ v ≤ etMax t then 0 else fWrap
  let sats := fun (t : Nat) (v : Int) (o : Word × Flags) => o.1.toNat < 2 ^ etWidth t ∧ etVal t o.1 = max (etMin t) (min (etMax t) v) ∧
    o.2 = if etMin t ≤ v ∧ v ≤ etMax t then 0 else fSat
  let float := fun t : Nat => t = 6 ∨ t = 7
  let nz := fun (t : Nat) (x : Word) => (float t → x.toNat % 2 ^ (etWidth t - 1) ≠ 0) ∧ (¬ float t → x ≠ 0)
  (∀ (t rm : Nat) (x y b c : Word), t ≤ 8 → x.toNat < 2 ^ etWidth t → y.toNat < 2 ^ etWidth t →
    let v := fun op => vElem op t rm x y b c
    (v 0x00 = (x, 0) ∧ v 0x01 = (y, 0) ∧ (∀ op ∈ [0x02, 0x03, 0x04, 0x05, 0x06], (v op).2 = 0)) ∧
    (∀ i, bitAt (v 0x02).1 i = (bitAt x i && bitAt y i) ∧ bitAt (v 0x03).1 i = (bitAt x i || bitAt y i) ∧
      bitAt (v 0x04).1 i = (bitAt x i ^^ bitAt y i) ∧ bitAt (v 0x05).1 i = (bitAt x i && !bitAt y i) ∧
      bitAt (v 0x06).1 i = (decide (i < etWidth t) && !bitAt x i)) ∧
    (nz t x → v 0x07 = (b, 0) ∧ v 0x08 = (y, 0)) ∧ (¬ nz t x → v 0x07 = (c, 0) ∧ v 0x08 = (0, 0)) ∧
    (t ≤ 5 →
      let is := fun (op : Nat) (h : Bool) => v op = (if h then 1 else 0, 0)
      is 0x20 (etVal t x == etVal t y) ∧ is 0x21 (etVal t x != etVal t y) ∧ is 0x22 (decide (etVal t x < etVal t y)) ∧
      is 0x23 (decide (etVal t x ≤ etVal t y)) ∧ is 0x24 (decide (etVal t y < etVal t x)) ∧ is 0x25 (decide (etVal t y ≤ etVal t x)))) ∧
  (∀ (a t rm : Nat) (nsat : Bool) (x : Word), x.toNat < 2 ^ etWidth a →
    (a ≤ 5 ∨ a = 8 → t ≤ 5 → (convIn a t rm x).2 = 0 ∧ (convIn a t rm x).1.toNat < 2 ^ etWidth t ∧
      (etVal t (convIn a t rm x).1 - etVal a x) % 2 ^ etWidth t = 0) ∧
    (a ≤ 5 → t ≤ 5 →
      (etWidth a < etWidth t → (convOut a t rm nsat x).2 = 0 ∧ (convOut a t rm nsat x).1.toNat < 2 ^ etWidth t ∧
        (etVal t (convOut a t rm nsat x).1 - etVal a x) % 2 ^ etWidth t = 0) ∧
      (etWidth t ≤ etWidth a → a ≠ t → if nsat then sats t (etVal a x) (convOut a t rm nsat x) else wraps t (etVal a x) (convOut a t rm nsat x))) ∧
    (a ≤ 8 → convOut a a rm nsat x = (x, 0)) ∧
    (a ≤ 7 → (nz a x → convOut a 8 rm nsat x = (1, 0)) ∧ (¬ nz a x → convOut a 8 rm nsat x = (0, 0)))) ∧
  (∀ (t rm : Nat) (x e : Word),
    (t ≤ 5 → sats t (((etVal t x - (e.setWidth 16 : BitVec 16).toInt) * fld e 16 16 + 2048) / 4096) (vCal t rm x e)) ∧
    (float t → fld e 16 16 = 0 → vCal t rm x e = (0, 0)) ∧
    (float t → fld e 16 16 ≠ 0 →
      let ped := convIn 6 t rm (BitVec.ofNat 32 (fld e 0 16))
      let gain := convIn 6 t rm (BitVec.ofNat 32 (fld e 16 16))
      let d := vElem 0x41 t rm x ped.1 0 0
      let r := vElem 0x42 t rm d.1 gain.1 0 0
      vCal t rm x e = (r.1, ped.2 ||| gain.2 ||| d.2 ||| r.2))) ∧
  (∀ (m : Member) (seen : List Nat) (op i : Nat) (x y yu : Word) (s : State), ∀ v s1, lookup m seen op i x y yu s = .ok (.ok v) s1 →
    let j := (yu.toNat + if m.opt / 16 % 2 = 1 then i else 0) % 2 ^ 20
    let entry := wordLE (s1.bytesAt (0x54000000 + 4 * j) 4)
    let key := if etWidth m.wt = 16 then y.toNat % 65536 * 65536 + x.toNat % 65536 else x.toNat
    let way := fun w : Nat => natLE (s1.bytesAt (0x50000000 + 64 * (key * 0x8DA6B343 % 2 ^ 32 / 2 ^ 13) + 8 * w) 8)
    let hit := fun w : Nat => way w / 2 ^ 31 % 2 = 1 ∧ way w / 2 ^ 32 = key
    (op = 0x60 → v = vCal m.wt m.rm x entry) ∧ (op = 0x61 → v = (entry, 0)) ∧
    (op = 0x62 ∨ op = 0x63 →
      (∀ w, w < 8 → hit w → (∀ w' < w, ¬ hit w') →
        v = (if op = 0x62 then BitVec.ofNat 32 (way w % 2 ^ 31 % 2 ^ etWidth m.wt) else 1, 0)) ∧
      ((∀ w < 8, ¬ hit w) → v = (if op = 0x62 then BitVec.ofNat 32 (2 ^ etWidth m.wt - 1) else 0, 0)))) ∧
  (∀ (op t param : Nat) (l : List (Word × Bool)), t ≤ 5 → param < 16 →
    let at_ := fun j : Nat => l.getD j (0, false)
    let val := fun j : Nat => etVal t (at_ j).1
    let outs := (l.foldl (fun (a : List (Word × Flags) × ScanState) p =>
      let r := vScan op t param a.2 p.1 p.2
      (a.1 ++ [(r.1, r.2.1)], r.2.2)) ([], {})).1
    outs.length = l.length ∧
    ∀ i < l.length, ∀ g ≤ i, (g = 0 ∨ (at_ g).2 = true) → (∀ j ≤ i, g < j → (at_ j).2 = false) →
      let o := outs.getD i (0, 0)
      let sum := fun lo : Nat => ((List.range (i + 1 - lo)).map (fun k => val (lo + k))).sum
      let from_ := max g (i - param)
      let extreme := fun (lo : Nat) (le : Int → Int → Prop) =>
        o.2 = 0 ∧ (∀ j ≤ i, lo ≤ j → le (val j) (etVal t o.1)) ∧ ∃ j ≤ i, lo ≤ j ∧ val j = etVal t o.1
      (op = 0x70 → wraps t (sum g) o) ∧
      (op = 0x71 → sats t ((if i = g then 0 else etVal t (outs.getD (i - 1) (0, 0)).1) + val i) o) ∧
      (op = 0x72 → extreme g (· ≤ ·)) ∧ (op = 0x73 → extreme g (· ≥ ·)) ∧
      (op = 0x74 → wraps t (sum from_) o) ∧ (op = 0x75 → sats t (sum from_) o) ∧ (op = 0x76 → extreme from_ (· ≤ ·))) ∧
  (∀ (m : Member) (i : Nat) (r : PipeRun) (hits : List Bool), i < m.n → m.param < 16 → hits.length = m.n →
    r.taken = min (i + m.param) (m.n - 1) + 1 → r.scan.window = (((hits.take r.taken).reverse.map (fun h => (b2n h : Int))).take 40) →
    coincCount m i r = ((List.range m.n).filter (fun j => decide (i ≤ j + m.param ∧ j ≤ i + m.param) && hits.getD j false)).length) ∧
  (∀ (t d rm out k : Nat) (nsat small topk : Bool) (keys pay : List Word), t ≤ 7 → out ≤ 2 → (∀ x ∈ keys, x.toNat < 2 ^ etWidth t) →
    (topk = false → k = keys.length) →
    let n := keys.length
    let top := etWidth t - 1
    let key := fun i : Nat =>
      let x := keys.getD i 0
      if t ≤ 5 then etVal t x else if bitAt x top then -(x.toNat % 2 ^ top : Nat) - 1 else (x.toNat % 2 ^ top : Nat)
    let ahead := fun i j : Nat => (if small then decide (key i < key j) else decide (key j < key i)) || (key i == key j && decide (i < j))
    let rank := fun i : Nat => ((List.range n).filter (fun j => ahead j i)).length
    let o := vRank t d rm nsat out small topk k keys pay
    let lowest : Word := if t ≤ 5 then BitVec.ofInt 32 (if small then etMax t else etMin t) &&& BitVec.ofNat 32 (2 ^ etWidth t - 1)
      else BitVec.ofNat 32 (if small then 2 ^ top - 1 else 2 ^ etWidth t - 1)
    o.outs.length = k ∧
    (∀ i < n, rank i < k → o.outs.getD (rank i) (0, 0) =
      if out = 0 then convOut t d rm nsat (keys.getD i 0)
      else if out = 1 then (BitVec.ofNat 32 (i % 2 ^ etWidth d), if i < 2 ^ etWidth d then 0 else fWrap) else (pay.getD i 0, 0)) ∧
    (∀ j < k, n ≤ j → o.outs.getD j (0, 0) =
      if out = 0 then convOut t d rm nsat lowest else if out = 1 then (BitVec.ofNat 32 (2 ^ etWidth d - 1), 0) else (0, 0)) ∧
    (topk = false → o.result.toNat = n % 2 ^ 64 ∧ (o.flags = if decide (6 ≤ t) && keys.any (fun x => (etFmt t).isNan x.toNat) then fOpx else 0)) ∧
    (topk = true → (o.flags = if n < k then fOpx else 0) ∧ ∀ i < n, rank i + 1 = min n k →
      o.result = BitVec.ofNat 64 (min n k + (keys.getD i 0).toNat * 2 ^ 32))) ∧
  (∀ (t : Nat) (bins : List Nat) (keys : List Word) (weights : List Nat), t ≤ 5 → keys.length = weights.length → (∀ b ∈ bins, b < 2 ^ 32) →
    let o := vHist t bins keys weights
    let total := fun b : Nat => bins.getD b 0 + (((keys.zip weights).filter (fun p => etVal t p.1 == b)).map (·.2)).sum
    let inside := (keys.filter (fun x => decide (0 ≤ etVal t x ∧ etVal t x < bins.length))).length
    o.outs.length = bins.length ∧ o.result = BitVec.ofNat 64 (inside + (keys.length - inside) * 2 ^ 32) ∧
    (o.flags = if inside < keys.length then fOpx else 0) ∧
    ∀ b < bins.length, o.outs.getD b (0, 0) = (BitVec.ofNat 32 (min 0xFFFFFFFF (total b)), if 0xFFFFFFFF < total b then fSat else 0)) ∧
  (∀ (t d rm : Nat) (nsat noFill idx : Bool) (fill : Word × Flags) (xs : List Word) (mask : List Bool), xs.length = mask.length →
    let kept := (List.range xs.length).filter (fun i => mask.getD i false)
    let o := vCompress t d rm nsat noFill idx fill xs mask
    o.outs.length = (if noFill then kept.length else xs.length) ∧ o.result = BitVec.ofNat 64 kept.length ∧
    (∀ j < kept.length,
      let i := kept.getD j 0
      o.outs.getD j (0, 0) = if idx then (BitVec.ofNat 32 (i % 2 ^ etWidth d), if i < 2 ^ etWidth d then 0 else fWrap)
        else convOut t d rm nsat (xs.getD i 0)) ∧
    (∀ j < o.outs.length, kept.length ≤ j → o.outs.getD j (0, 0) = fill)) ∧
  (∀ (t d rm : Nat) (nsat : Bool) (fill : Word × Flags) (mask : List Bool) (xs : List Word), (mask.filter id).length ≤ xs.length →
    let o := vExpand t d rm nsat fill mask xs
    o.length = mask.length ∧ ∀ i < mask.length, o.getD i (0, 0) =
      if mask.getD i false then convOut t d rm nsat (xs.getD ((mask.take i).filter id).length 0) else fill) ∧
  (∀ (inv : Bool) (p : Nat) (xs : List (Nat × Nat)), xs.length = 2 ^ (p + 1) →
    let half := fun (o : Nat) => (List.range (2 ^ p)).map (fun k => xs.getD (2 * k + o) (0, 0))
    let e := (fftRec inv p (half 0)).1
    let o := (fftRec inv p (half 1)).1
    let all := (fftRec inv (p + 1) xs).1
    let op := fun (c a b : Nat) => (vElem c 7 0 (BitVec.ofNat 32 a) (BitVec.ofNat 32 b) 0 0).1.toNat
    all.length = 2 ^ (p + 1) ∧ ∀ k < 2 ^ p, (∀ x ∈ xs, x.1 < 2 ^ 32 ∧ x.2 < 2 ^ 32) →
      let w := twiddle inv (p + 1) k
      let u := e.getD k (0, 0)
      let v := o.getD k (0, 0)
      let t := (op 0x41 (op 0x42 w.1 v.1) (op 0x42 w.2 v.2), op 0x40 (op 0x42 w.1 v.2) (op 0x42 w.2 v.1))
      all.getD k (0, 0) = (op 0x40 u.1 t.1, op 0x40 u.2 t.2) ∧ all.getD (k + 2 ^ p) (0, 0) = (op 0x41 u.1 t.1, op 0x41 u.2 t.2)) ∧
  (∀ (inv : Bool) (s : Nat), 1 ≤ s → s ≤ 12 → twiddle inv s 0 = (0x3F800000, 0) ∧
    (2 ≤ s → twiddle inv s (2 ^ (s - 2)) = (0, if inv then 0x3F800000 else 0xBF800000))) ∧
  (∀ (t d rm p : Nat) (nsat inv : Bool) (re im : List Word) (fl : List Flags), float t → float d → re.length = im.length → fl.length = im.length →
    re.length = 2 ^ p →
    let up := fun x : Word => (convOut t 7 0 false x).1.toNat
    let x := (fftRec inv p ((re.zip im).map (fun z => (up z.1, up z.2)))).1
    let scale := fun v : Nat => if inv then (vElem 0x42 7 0 (BitVec.ofNat 32 v) (BitVec.ofNat 32 (0x3F800000 - p * 2 ^ 23)) 0 0).1 else BitVec.ofNat 32 v
    let o := vFft t d rm nsat inv p re im fl
    p ≤ 12 → o.outs.length = 2 ^ (p + 1) ∧ o.result = 1 ∧
    ∀ k < 2 ^ p, (o.outs.getD (2 * k) (0, 0)).1 = (convOut 7 d rm nsat (scale (x.getD k (0, 0)).1)).1 ∧
      (o.outs.getD (2 * k + 1) (0, 0)).1 = (convOut 7 d rm nsat (scale (x.getD k (0, 0)).2)).1)

/-- R103, R104, R107, R113, R114. Values are counted in units of the format's least subnormal, so that every finite value is an integer. -/
def Obligations.VectorFloatValues : Prop :=
  ∀ (t rm : Nat), (t = 6 ∨ t = 7) → rm < 4 →
    let mb := if t = 6 then 10 else 23
    let eb := if t = 6 then 5 else 8
    let sign := 2 ^ (mb + eb)
    let unit : Int := 2 ^ (if t = 6 then 24 else 149)
    let inf := (2 ^ eb - 1) * 2 ^ mb
    let quiet := inf + 2 ^ (mb - 1)
    let neg := fun x : Nat => decide (sign ≤ x)
    let fin := fun x : Nat => x < 2 * sign ∧ x % sign < inf
    let nan := fun x : Nat => inf < x % sign
    let snan := fun x : Nat => inf < x % sign ∧ x % sign < quiet
    let val := fun x : Nat =>
      let e := x % sign / 2 ^ mb
      let m : Int := if e = 0 then (x % 2 ^ mb : Nat) else (x % 2 ^ mb + 2 ^ mb) * 2 ^ (e - 1)
      if neg x then -m else m
    let signed := fun (n : Bool) (m : Nat) => (if n then sign else 0) + m
    let largest := val (inf - 1)
    let ulp : Int := 2 ^ (2 ^ eb - 3)
    -- `o` is the exact value num/den, not 0, rounded
    let rounded := fun (num den : Int) (o : Nat × Flags) =>
      let n := decide (num < 0)
      let away := (rm = 2 ∧ n = false) ∨ (rm = 3 ∧ n = true)
      let tooLarge := (rm = 0 ∧ den * (2 * largest + ulp) ≤ 2 * num.natAbs) ∨ (away ∧ den * largest < num.natAbs) ∨
        (rm ≠ 0 ∧ ¬ away ∧ den * (largest + ulp) ≤ num.natAbs)
      (tooLarge → o = (signed n (if rm = 0 ∨ away then inf else inf - 1), fOvf ||| fInx)) ∧
      (¬ tooLarge → fin o.1 ∧ neg o.1 = n ∧
        (rm = 0 → ∀ z, fin z → (num - den * val o.1).natAbs ≤ (num - den * val z).natAbs ∧
          ((num - den * val o.1).natAbs = (num - den * val z).natAbs → val z ≠ val o.1 → o.1 % 2 = 0)) ∧
        (rm = 1 → den * (val o.1).natAbs ≤ num.natAbs ∧ ∀ z, fin z → den * (val z).natAbs ≤ num.natAbs → (val z).natAbs ≤ (val o.1).natAbs) ∧
        (rm = 2 → num ≤ den * val o.1 ∧ ∀ z, fin z → num ≤ den * val z → val o.1 ≤ val z) ∧
        (rm = 3 → den * val o.1 ≤ num ∧ ∀ z, fin z → den * val z ≤ num → val z ≤ val o.1) ∧
        (bitAt o.2 6 = true ↔ den * val o.1 ≠ num) ∧ o.2 &&& 0x9F = 0 ∧
        ((val o.1).natAbs < 2 ^ mb → bitAt o.2 5 = bitAt o.2 6) ∧ (den * 2 ^ mb ≤ num.natAbs → bitAt o.2 5 = false))
    (∀ x y b c : Word, x.toNat < 2 * sign → y.toNat < 2 * sign →
      let v := fun op : Nat => ((vElem op t rm x y b c).1.toNat, (vElem op t rm x y b c).2)
      let inv2 : Flags := if snan x.toNat ∨ snan y.toNat then fInv else 0
      let nx := neg x.toNat
      let ny := neg y.toNat
      let isInf := fun z : Word => z.toNat % sign = inf
      let zero := fun z : Word => z.toNat % sign = 0
      (nan x.toNat ∨ nan y.toNat → ∀ op ∈ [0x40, 0x41, 0x42, 0x43], v op = (quiet, inv2)) ∧
      (fin x.toNat → fin y.toNat →
        (∀ sub : Bool,
          let o := v (if sub then 0x41 else 0x40)
          let sum := if sub then val x.toNat - val y.toNat else val x.toNat + val y.toNat
          (sum ≠ 0 → rounded sum 1 o) ∧ (sum = 0 → o = (signed (if nx = (ny ^^ sub) then nx else decide (rm = 3)) 0, 0))) ∧
        (val x.toNat * val y.toNat ≠ 0 → rounded (val x.toNat * val y.toNat) unit (v 0x42)) ∧
        (val x.toNat * val y.toNat = 0 → v 0x42 = (signed (nx ^^ ny) 0, 0)) ∧
        (val x.toNat ≠ 0 → val y.toNat ≠ 0 → rounded ((if ny then -val x.toNat else val x.toNat) * unit) (val y.toNat).natAbs (v 0x43)) ∧
        (zero x → ¬ zero y → v 0x43 = (signed (nx ^^ ny) 0, 0)) ∧ (¬ zero x → zero y → v 0x43 = (signed (nx ^^ ny) inf, fDz)) ∧
        (zero x → zero y → v 0x43 = (quiet, fInv))) ∧
      (isInf x → isInf y → (∀ sub : Bool, v (if sub then 0x41 else 0x40) = if nx = (ny ^^ sub) then (signed nx inf, 0) else (quiet, fInv)) ∧
        v 0x42 = (signed (nx ^^ ny) inf, 0) ∧ v 0x43 = (quiet, fInv)) ∧
      (isInf x → fin y.toNat → v 0x40 = (signed nx inf, 0) ∧ v 0x41 = (signed nx inf, 0) ∧ v 0x43 = (signed (nx ^^ ny) inf, 0) ∧
        v 0x42 = if zero y then (quiet, fInv) else (signed (nx ^^ ny) inf, 0)) ∧
      (fin x.toNat → isInf y → v 0x40 = (signed ny inf, 0) ∧ v 0x41 = (signed (!ny) inf, 0) ∧ v 0x43 = (signed (nx ^^ ny) 0, 0) ∧
        v 0x42 = if zero x then (quiet, fInv) else (signed (nx ^^ ny) inf, 0)) ∧
      (nan x.toNat → nan y.toNat → v 0x44 = (quiet, inv2) ∧ v 0x45 = (quiet, inv2)) ∧
      (nan x.toNat → ¬ nan y.toNat → v 0x44 = (y.toNat, inv2) ∧ v 0x45 = (y.toNat, inv2)) ∧
      (¬ nan x.toNat → nan y.toNat → v 0x44 = (x.toNat, inv2) ∧ v 0x45 = (x.toNat, inv2)) ∧
      v 0x46 = (x.toNat % sign, 0) ∧ v 0x47 = (signed (!nx) (x.toNat % sign), 0) ∧
      (let one : Nat := if t = 6 then 0x3C00 else 0x3F800000
       let is := fun (op : Nat) (h : Bool) => v op = (if h then one else 0, inv2)
       -- the order of all values but NaNs: −0 and +0 alike in `m`, −0 below +0 in `k`
       let m := fun z : Word => (if neg z.toNat then -(z.toNat % sign : Nat) else (z.toNat % sign : Nat) : Int)
       let k := fun z : Word => (if neg z.toNat then -(z.toNat % sign : Nat) - 1 else (z.toNat % sign : Nat) : Int)
       (nan x.toNat ∨ nan y.toNat → is 0x21 true ∧ ∀ op ∈ [0x20, 0x22, 0x23, 0x24, 0x25], is op false) ∧
       (¬ nan x.toNat → ¬ nan y.toNat → is 0x20 (m x == m y) ∧ is 0x21 (m x != m y) ∧ is 0x22 (decide (m x < m y)) ∧
         is 0x23 (decide (m x ≤ m y)) ∧ is 0x24 (decide (m y < m x)) ∧ is 0x25 (decide (m y ≤ m x)) ∧
         v 0x44 = ((if k x ≤ k y then x else y).toNat, 0) ∧ v 0x45 = ((if k x ≤ k y then y else x).toNat, 0))) ∧
      (nan x.toNat → v 0x48 = (quiet, if snan x.toNat then fInv else 0)) ∧ (zero x → v 0x48 = (x.toNat, 0)) ∧
      (¬ nan x.toNat → ¬ zero x → nx = true → v 0x48 = (quiet, fInv)) ∧ (isInf x → nx = false → v 0x48 = (inf, 0)) ∧
      (fin x.toNat → ¬ zero x → nx = false →
        let o := v 0x48
        let r := val o.1
        let sq := val x.toNat * unit
        fin o.1 ∧ neg o.1 = false ∧ o.2 = (if r * r = sq then 0 else fInx) ∧
        (rm = 0 → ∀ z, fin z → neg z = false → (r < val z → 4 * sq ≤ (r + val z) ^ 2) ∧ (val z < r → (r + val z) ^ 2 ≤ 4 * sq)) ∧
        (rm = 1 ∨ rm = 3 → r * r ≤ sq ∧ ∀ z, fin z → neg z = false → val z * val z ≤ sq → val z ≤ r) ∧
        (rm = 2 → sq ≤ r * r ∧ ∀ z, fin z → neg z = false → sq ≤ val z * val z → r ≤ val z))) ∧
    (∀ (a : Nat) (x : Word), a ≤ 5 ∨ a = 8 →
      let o := ((convIn a t rm x).1.toNat, (convIn a t rm x).2)
      (etVal a x ≠ 0 → rounded (etVal a x * unit) 1 o) ∧ (etVal a x = 0 → o = (0, 0)) ∧
      (a ≤ 5 → ∀ nsat, convOut a t rm nsat x = convIn a t rm x)) ∧
    (∀ (nsat : Bool) (x : Word),
      let u := if t = 6 then 7 else 6
      let w := etWidth u
      let f := if t = 6 then b32 else b16
      let o := ((convIn u t rm x).1.toNat, (convIn u t rm x).2)
      let scale : Int := 2 ^ (if t = 6 then 149 else 24)
      let side := 2 ^ (w - 1)
      let top := f.emax * 2 ^ f.mbits
      let mag := fun z : Nat =>
        let e := z % side / 2 ^ f.mbits
        (if e = 0 then (z % 2 ^ f.mbits : Nat) else (z % 2 ^ f.mbits + 2 ^ f.mbits) * 2 ^ (e - 1) : Int)
      let n := decide (side ≤ x.toNat)
      x.toNat < 2 * side → convOut u t rm nsat x = convIn u t rm x ∧
      (x.toNat % side = 0 → o = (signed n 0, 0)) ∧ (x.toNat % side = top → o = (signed n inf, 0)) ∧
      (top < x.toNat % side → o = (quiet, if x.toNat % side < top + 2 ^ (f.mbits - 1) then fInv else 0)) ∧
      (x.toNat % side < top → x.toNat % side ≠ 0 → rounded ((if n then -mag x.toNat else mag x.toNat) * unit) scale o)) ∧
    (∀ (d : Nat) (nsat : Bool) (x : Word), d ≤ 5 → x.toNat < 2 * sign →
      let o := convOut t d rm nsat x
      let clamps := fun v : Int => etVal d o.1 = max (etMin d) (min (etMax d) v) ∧ o.2 = if etMin d ≤ v ∧ v ≤ etMax d then 0 else fInv
      o.1.toNat < 2 ^ etWidth d ∧ (nan x.toNat → o = (0, fInv)) ∧
      (x.toNat % sign = inf → o.2 = fInv ∧ etVal d o.1 = if neg x.toNat then etMin d else etMax d) ∧
      (fin x.toNat → ∀ v : Int,
        ((rm = 0 ∧ 2 * (val x.toNat - v * unit).natAbs ≤ unit ∧ (2 * (val x.toNat - v * unit).natAbs = unit → v % 2 = 0)) ∨
         (rm = 1 ∧ v.natAbs * unit ≤ (val x.toNat).natAbs ∧ (val x.toNat).natAbs < (v.natAbs + 1) * unit ∧ 0 ≤ v * val x.toNat) ∨
         (rm = 2 ∧ val x.toNat ≤ v * unit ∧ v * unit < val x.toNat + unit) ∨
         (rm = 3 ∧ v * unit ≤ val x.toNat ∧ val x.toNat < (v + 1) * unit)) → clamps v))

/-! ### Rules stated word for word -/

/-- R110 to R112. -/
def Obligations.VectorIntegerOperations : Prop :=
  ∀ (t rm : Nat) (x y b c : Word), t ≤ 5 → x.toNat < 2 ^ etWidth t → y.toNat < 2 ^ etWidth t →
    let q := vElem 0x33 t rm x y b c
    let r := vElem 0x34 t rm x y b c
    let edge := etSigned t = true ∧ etVal t x = -2 ^ (etWidth t - 1) ∧ etVal t y = -1
    let v := fun op => vElem op t rm x y b c
    let w := etWidth t
    let fits := fun e : Int => if etSigned t then -2 ^ (w - 1) ≤ e ∧ e < 2 ^ (w - 1) else 0 ≤ e ∧ e < 2 ^ w
    let wraps := fun (op : Nat) (e : Int) => (v op).1.toNat < 2 ^ w ∧ (etVal t (v op).1 - e) % 2 ^ w = 0 ∧
      (fits e → (v op).2 = 0) ∧ (¬ fits e → (v op).2 = fWrap)
    let sats := fun (op : Nat) (e : Int) => (v op).1.toNat < 2 ^ w ∧ (fits e → etVal t (v op).1 = e ∧ (v op).2 = 0) ∧
      (¬ fits e → (v op).2 = fSat ∧ (0 < e → etVal t (v op).1 = (if etSigned t then 2 ^ (w - 1) else 2 ^ w) - 1) ∧
        (e < 0 → etVal t (v op).1 = if etSigned t then -2 ^ (w - 1) else 0))
    let exact := fun (op : Nat) (e : Int) => (v op).1.toNat < 2 ^ w ∧ etVal t (v op).1 = e ∧ (v op).2 = 0
    let X := etVal t x
    let Y := etVal t y
    let n := y.toNat
    (wraps 0x10 (X + Y) ∧ sats 0x11 (X + Y) ∧ wraps 0x12 (X - Y) ∧ sats 0x13 (X - Y) ∧ wraps 0x14 (Y - X) ∧ wraps 0x15 (-X) ∧
      wraps 0x16 X.natAbs ∧ sats 0x17 (X - Y).natAbs ∧ exact 0x18 (min X Y) ∧ exact 0x19 (max X Y) ∧ exact 0x1A ((X + Y) / 2) ∧
      wraps 0x30 (X * Y) ∧ sats 0x31 (X * Y) ∧ exact 0x32 (X * Y / 2 ^ w)) ∧
    wraps 0x1B (X * 2 ^ n) ∧
    (∀ i, bitAt (v 0x1C).1 i = bitAt x (i + n)) ∧ (v 0x1C).2 = 0 ∧
    (∀ i, bitAt (v 0x1D).1 i = (decide (i < w) && bitAt x (min (i + n) (w - 1)))) ∧ (v 0x1D).2 = 0 ∧
    (∀ i, bitAt (v 0x1E).1 i = (decide (i < w) && bitAt x ((i + (w - n % w)) % w))) ∧ (v 0x1E).2 = 0 ∧
    (y = 0 → (etSigned t = false → q.1.toNat = 2 ^ etWidth t - 1) ∧ (etSigned t = true → etVal t q.1 = -1) ∧ r.1 = x ∧
      q.2 = fWrap ||| fDz ∧ r.2 = fWrap ||| fDz) ∧
    (edge → q.1 = x ∧ r.1 = 0 ∧ q.2 = fWrap ∧ r.2 = fWrap) ∧
    (y ≠ 0 → ¬ edge → etVal t x = etVal t q.1 * etVal t y + etVal t r.1 ∧ (etVal t r.1).natAbs < (etVal t y).natAbs ∧
      (etVal t r.1 ≠ 0 → (etVal t r.1 < 0 ↔ etVal t x < 0)) ∧ q.2 = 0 ∧ r.2 = 0)

/-- R342. -/
def Obligations.PinReservedEncodings : Prop :=
  (∀ i : BitVec 16, pinDecode i = .reserved ↔
    (0xB ≤ fld i 12 4 ∨ (fld i 12 4 = 0x0 ∧ 4 ≤ fld i 8 4) ∨ (fld i 12 4 = 0x2 ∧ 2 ≤ fld i 10 2) ∨ (fld i 12 4 = 0x8 ∧ 9 ≤ fld i 8 4))) ∧
  (∀ (k : Fin 32) (pins : Word) (s : State), ∀ i, s.pinCur k = some i →
    let p := s.pins[k]
    let ends := fun (e : Bool) (u t : State) => PinStepped k pins { p.finish none with st := .stopped, err := e } s t ∧ t.pins[k].runs = false ∧
      (p.runs = true → Raised (u.pinEvent k 2 21) t) ∧ (p.runs = false → Raised u t)
    (pinDecode i = .stop → Goes (exec (.stop k pins) s) (ends p.err s)) ∧
    (pinDecode i = .reserved → Goes (exec (.pinReservedOp k pins) s) (ends true (s.irq (.pin k) 6))))

/-- R388. -/
def Obligations.BudgetWriteKeepsGrants : Prop :=
  ∀ (reg : BudgetReg) (m : Master) (data : Word) (s : State), s.Canonical → s.srstBusy .permit = false → s.Accepts m (budgetAddr reg) →
    Goes (exec (.budgetWrite reg m data) s) (fun t =>
      t.permit = s.permit ∧ t.granted = s.granted ∧
      ((∀ j : Fin 16, s.bists[j] = none) → s.bulk = none →
        (∀ c : Fin 3, ∀ r rest, t.permit.queue c.val = r :: rest → t.avail < t.granted + t.charge r.mw) → exec .permitGrant t = .next t) ∧
      let cuts := t.peakMw < s.peakMw ∨ s.regN 0x2044 < t.regN 0x2044 ∨ s.vddMv < t.vddMv
      (cuts → t.avail < t.granted → t.getReg 0x2018 = s.getReg 0x2018 ||| 4) ∧
      (¬ cuts ∨ t.granted ≤ t.avail → t.getReg 0x2018 = s.getReg 0x2018))
end

