-- ==== Sys2Proof/Laws/State.lean ====
section
/-!
SUPPORT. The small lemmas of the named updates of the state: what each update leaves of every field, by rfl, so that no later proof
unfolds a record update.
-/
namespace Sys2Proof.Machine

variable (s : State)

/-! ### setReg -/

@[simp] theorem State.setReg_pending (a : Nat) (v : Word) : (s.setReg a v).pending = s.pending := rfl
@[simp] theorem State.setReg_porLow (a : Nat) (v : Word) : (s.setReg a v).porLow = s.porLow := rfl
@[simp] theorem State.setReg_rstLow (a : Nat) (v : Word) : (s.setReg a v).rstLow = s.rstLow := rfl
@[simp] theorem State.setReg_firstEdge (a : Nat) (v : Word) : (s.setReg a v).firstEdge = s.firstEdge := rfl
@[simp] theorem State.setReg_clkOk (a : Nat) (v : Word) : (s.setReg a v).clkOk = s.clkOk := rfl
@[simp] theorem State.setReg_beatno (a : Nat) (v : Word) : (s.setReg a v).beatno = s.beatno := rfl
@[simp] theorem State.setReg_fofs (a : Nat) (v : Word) : (s.setReg a v).fofs = s.fofs := rfl
@[simp] theorem State.setReg_rsp (a : Nat) (v : Word) : (s.setReg a v).rsp = s.rsp := rfl
@[simp] theorem State.setReg_hrpQ (a : Nat) (v : Word) : (s.setReg a v).hrpQ = s.hrpQ := rfl
@[simp] theorem State.setReg_hrpOut (a : Nat) (v : Word) : (s.setReg a v).hrpOut = s.hrpOut := rfl
@[simp] theorem State.setReg_hrpSeq (a : Nat) (v : Word) : (s.setReg a v).hrpSeq = s.hrpSeq := rfl
@[simp] theorem State.setReg_islandQ (a : Nat) (v : Word) : (s.setReg a v).islandQ = s.islandQ := rfl
@[simp] theorem State.setReg_clkLost (a : Nat) (v : Word) : (s.setReg a v).clkLost = s.clkLost := rfl
@[simp] theorem State.setReg_pinLost (a : Nat) (v : Word) : (s.setReg a v).pinLost = s.pinLost := rfl
@[simp] theorem State.setReg_callboard (a : Nat) (v : Word) : (s.setReg a v).callboard = s.callboard := rfl
@[simp] theorem State.setReg_permit (a : Nat) (v : Word) : (s.setReg a v).permit = s.permit := rfl
@[simp] theorem State.setReg_ringAhead (a : Nat) (v : Word) : (s.setReg a v).ringAhead = s.ringAhead := rfl
@[simp] theorem State.setReg_ringRel (a : Nat) (v : Word) : (s.setReg a v).ringRel = s.ringRel := rfl
@[simp] theorem State.setReg_ports (a : Nat) (v : Word) : (s.setReg a v).ports = s.ports := rfl
@[simp] theorem State.setReg_frames (a : Nat) (v : Word) : (s.setReg a v).frames = s.frames := rfl
@[simp] theorem State.setReg_fwdQ (a : Nat) (v : Word) : (s.setReg a v).fwdQ = s.fwdQ := rfl
@[simp] theorem State.setReg_groups (a : Nat) (v : Word) : (s.setReg a v).groups = s.groups := rfl
@[simp] theorem State.setReg_pipes (a : Nat) (v : Word) : (s.setReg a v).pipes = s.pipes := rfl
@[simp] theorem State.setReg_nextChain (a : Nat) (v : Word) : (s.setReg a v).nextChain = s.nextChain := rfl
@[simp] theorem State.setReg_curtain (a : Nat) (v : Word) : (s.setReg a v).curtain = s.curtain := rfl
@[simp] theorem State.setReg_store (a : Nat) (v : Word) : (s.setReg a v).store = s.store := rfl
@[simp] theorem State.setReg_posted (a : Nat) (v : Word) : (s.setReg a v).posted = s.posted := rfl
@[simp] theorem State.setReg_logQ (a : Nat) (v : Word) : (s.setReg a v).logQ = s.logQ := rfl
@[simp] theorem State.setReg_relNext (a : Nat) (v : Word) : (s.setReg a v).relNext = s.relNext := rfl
@[simp] theorem State.setReg_slots (a : Nat) (v : Word) : (s.setReg a v).slots = s.slots := rfl
@[simp] theorem State.setReg_engines (a : Nat) (v : Word) : (s.setReg a v).engines = s.engines := rfl
@[simp] theorem State.setReg_shared (a : Nat) (v : Word) : (s.setReg a v).shared = s.shared := rfl
@[simp] theorem State.setReg_walks (a : Nat) (v : Word) : (s.setReg a v).walks = s.walks := rfl
@[simp] theorem State.setReg_cstore (a : Nat) (v : Word) : (s.setReg a v).cstore = s.cstore := rfl
@[simp] theorem State.setReg_dispatch (a : Nat) (v : Word) : (s.setReg a v).dispatch = s.dispatch := rfl
@[simp] theorem State.setReg_sstore (a : Nat) (v : Word) : (s.setReg a v).sstore = s.sstore := rfl
@[simp] theorem State.setReg_csErr (a : Nat) (v : Word) : (s.setReg a v).csErr = s.csErr := rfl
@[simp] theorem State.setReg_ssErr (a : Nat) (v : Word) : (s.setReg a v).ssErr = s.ssErr := rfl
@[simp] theorem State.setReg_dispErr (a : Nat) (v : Word) : (s.setReg a v).dispErr = s.dispErr := rfl
@[simp] theorem State.setReg_ssWait (a : Nat) (v : Word) : (s.setReg a v).ssWait = s.ssWait := rfl
@[simp] theorem State.setReg_mem (a : Nat) (v : Word) : (s.setReg a v).mem = s.mem := rfl
@[simp] theorem State.setReg_memErr (a : Nat) (v : Word) : (s.setReg a v).memErr = s.memErr := rfl
@[simp] theorem State.setReg_retained (a : Nat) (v : Word) : (s.setReg a v).retained = s.retained := rfl
@[simp] theorem State.setReg_entering (a : Nat) (v : Word) : (s.setReg a v).entering = s.entering := rfl
@[simp] theorem State.setReg_waking (a : Nat) (v : Word) : (s.setReg a v).waking = s.waking := rfl
@[simp] theorem State.setReg_wakeFor (a : Nat) (v : Word) : (s.setReg a v).wakeFor = s.wakeFor := rfl
@[simp] theorem State.setReg_scrubs (a : Nat) (v : Word) : (s.setReg a v).scrubs = s.scrubs := rfl
@[simp] theorem State.setReg_bists (a : Nat) (v : Word) : (s.setReg a v).bists = s.bists := rfl
@[simp] theorem State.setReg_bulk (a : Nat) (v : Word) : (s.setReg a v).bulk = s.bulk := rfl
@[simp] theorem State.setReg_wiping (a : Nat) (v : Word) : (s.setReg a v).wiping = s.wiping := rfl
@[simp] theorem State.setReg_bursts (a : Nat) (v : Word) : (s.setReg a v).bursts = s.bursts := rfl
@[simp] theorem State.setReg_lastGrant (a : Nat) (v : Word) : (s.setReg a v).lastGrant = s.lastGrant := rfl
@[simp] theorem State.setReg_singles (a : Nat) (v : Word) : (s.setReg a v).singles = s.singles := rfl
@[simp] theorem State.setReg_clash (a : Nat) (v : Word) : (s.setReg a v).clash = s.clash := rfl
@[simp] theorem State.setReg_hostReqs (a : Nat) (v : Word) : (s.setReg a v).hostReqs = s.hostReqs := rfl
@[simp] theorem State.setReg_inbound (a : Nat) (v : Word) : (s.setReg a v).inbound = s.inbound := rfl
@[simp] theorem State.setReg_hfiRst (a : Nat) (v : Word) : (s.setReg a v).hfiRst = s.hfiRst := rfl
@[simp] theorem State.setReg_hfiAck (a : Nat) (v : Word) : (s.setReg a v).hfiAck = s.hfiAck := rfl
@[simp] theorem State.setReg_frz1 (a : Nat) (v : Word) : (s.setReg a v).frz1 = s.frz1 := rfl
@[simp] theorem State.setReg_frzClk (a : Nat) (v : Word) : (s.setReg a v).frzClk = s.frzClk := rfl
@[simp] theorem State.setReg_timers (a : Nat) (v : Word) : (s.setReg a v).timers = s.timers := rfl
@[simp] theorem State.setReg_gsWait (a : Nat) (v : Word) : (s.setReg a v).gsWait = s.gsWait := rfl
@[simp] theorem State.setReg_capRise (a : Nat) (v : Word) : (s.setReg a v).capRise = s.capRise := rfl
@[simp] theorem State.setReg_pins (a : Nat) (v : Word) : (s.setReg a v).pins = s.pins := rfl
@[simp] theorem State.setReg_align (a : Nat) (v : Word) : (s.setReg a v).align = s.align := rfl
@[simp] theorem State.setReg_alignGood (a : Nat) (v : Word) : (s.setReg a v).alignGood = s.alignGood := rfl
@[simp] theorem State.setReg_alignDue (a : Nat) (v : Word) : (s.setReg a v).alignDue = s.alignDue := rfl
@[simp] theorem State.setReg_probe (a : Nat) (v : Word) : (s.setReg a v).probe = s.probe := rfl
@[simp] theorem State.setReg_phyReq (a : Nat) (v : Word) : (s.setReg a v).phyReq = s.phyReq := rfl
@[simp] theorem State.setReg_phyAck (a : Nat) (v : Word) : (s.setReg a v).phyAck = s.phyAck := rfl
@[simp] theorem State.setReg_retReq (a : Nat) (v : Word) : (s.setReg a v).retReq = s.retReq := rfl
@[simp] theorem State.setReg_retAck (a : Nat) (v : Word) : (s.setReg a v).retAck = s.retAck := rfl
@[simp] theorem State.setReg_trust (a : Nat) (v : Word) : (s.setReg a v).trust = s.trust := rfl
@[simp] theorem State.setReg_dbg (a : Nat) (v : Word) : (s.setReg a v).dbg = s.dbg := rfl
@[simp] theorem State.setReg_freeIndex (a : Nat) (v : Word) : (s.setReg a v).freeIndex = s.freeIndex := rfl

/-! ### modReg -/

@[simp] theorem State.modReg_pending (a : Nat) (f : Word → Word) : (s.modReg a f).pending = s.pending := rfl
@[simp] theorem State.modReg_porLow (a : Nat) (f : Word → Word) : (s.modReg a f).porLow = s.porLow := rfl
@[simp] theorem State.modReg_rstLow (a : Nat) (f : Word → Word) : (s.modReg a f).rstLow = s.rstLow := rfl
@[simp] theorem State.modReg_firstEdge (a : Nat) (f : Word → Word) : (s.modReg a f).firstEdge = s.firstEdge := rfl
@[simp] theorem State.modReg_clkOk (a : Nat) (f : Word → Word) : (s.modReg a f).clkOk = s.clkOk := rfl
@[simp] theorem State.modReg_beatno (a : Nat) (f : Word → Word) : (s.modReg a f).beatno = s.beatno := rfl
@[simp] theorem State.modReg_fofs (a : Nat) (f : Word → Word) : (s.modReg a f).fofs = s.fofs := rfl
@[simp] theorem State.modReg_rsp (a : Nat) (f : Word → Word) : (s.modReg a f).rsp = s.rsp := rfl
@[simp] theorem State.modReg_hrpQ (a : Nat) (f : Word → Word) : (s.modReg a f).hrpQ = s.hrpQ := rfl
@[simp] theorem State.modReg_hrpOut (a : Nat) (f : Word → Word) : (s.modReg a f).hrpOut = s.hrpOut := rfl
@[simp] theorem State.modReg_hrpSeq (a : Nat) (f : Word → Word) : (s.modReg a f).hrpSeq = s.hrpSeq := rfl
@[simp] theorem State.modReg_islandQ (a : Nat) (f : Word → Word) : (s.modReg a f).islandQ = s.islandQ := rfl
@[simp] theorem State.modReg_clkLost (a : Nat) (f : Word → Word) : (s.modReg a f).clkLost = s.clkLost := rfl
@[simp] theorem State.modReg_pinLost (a : Nat) (f : Word → Word) : (s.modReg a f).pinLost = s.pinLost := rfl
@[simp] theorem State.modReg_callboard (a : Nat) (f : Word → Word) : (s.modReg a f).callboard = s.callboard := rfl
@[simp] theorem State.modReg_permit (a : Nat) (f : Word → Word) : (s.modReg a f).permit = s.permit := rfl
@[simp] theorem State.modReg_ringAhead (a : Nat) (f : Word → Word) : (s.modReg a f).ringAhead = s.ringAhead := rfl
@[simp] theorem State.modReg_ringRel (a : Nat) (f : Word → Word) : (s.modReg a f).ringRel = s.ringRel := rfl
@[simp] theorem State.modReg_ports (a : Nat) (f : Word → Word) : (s.modReg a f).ports = s.ports := rfl
@[simp] theorem State.modReg_frames (a : Nat) (f : Word → Word) : (s.modReg a f).frames = s.frames := rfl
@[simp] theorem State.modReg_fwdQ (a : Nat) (f : Word → Word) : (s.modReg a f).fwdQ = s.fwdQ := rfl
@[simp] theorem State.modReg_groups (a : Nat) (f : Word → Word) : (s.modReg a f).groups = s.groups := rfl
@[simp] theorem State.modReg_pipes (a : Nat) (f : Word → Word) : (s.modReg a f).pipes = s.pipes := rfl
@[simp] theorem State.modReg_nextChain (a : Nat) (f : Word → Word) : (s.modReg a f).nextChain = s.nextChain := rfl
@[simp] theorem State.modReg_curtain (a : Nat) (f : Word → Word) : (s.modReg a f).curtain = s.curtain := rfl
@[simp] theorem State.modReg_store (a : Nat) (f : Word → Word) : (s.modReg a f).store = s.store := rfl
@[simp] theorem State.modReg_posted (a : Nat) (f : Word → Word) : (s.modReg a f).posted = s.posted := rfl
@[simp] theorem State.modReg_logQ (a : Nat) (f : Word → Word) : (s.modReg a f).logQ = s.logQ := rfl
@[simp] theorem State.modReg_relNext (a : Nat) (f : Word → Word) : (s.modReg a f).relNext = s.relNext := rfl
@[simp] theorem State.modReg_slots (a : Nat) (f : Word → Word) : (s.modReg a f).slots = s.slots := rfl
@[simp] theorem State.modReg_engines (a : Nat) (f : Word → Word) : (s.modReg a f).engines = s.engines := rfl
@[simp] theorem State.modReg_shared (a : Nat) (f : Word → Word) : (s.modReg a f).shared = s.shared := rfl
@[simp] theorem State.modReg_walks (a : Nat) (f : Word → Word) : (s.modReg a f).walks = s.walks := rfl
@[simp] theorem State.modReg_cstore (a : Nat) (f : Word → Word) : (s.modReg a f).cstore = s.cstore := rfl
@[simp] theorem State.modReg_dispatch (a : Nat) (f : Word → Word) : (s.modReg a f).dispatch = s.dispatch := rfl
@[simp] theorem State.modReg_sstore (a : Nat) (f : Word → Word) : (s.modReg a f).sstore = s.sstore := rfl
@[simp] theorem State.modReg_csErr (a : Nat) (f : Word → Word) : (s.modReg a f).csErr = s.csErr := rfl
@[simp] theorem State.modReg_ssErr (a : Nat) (f : Word → Word) : (s.modReg a f).ssErr = s.ssErr := rfl
@[simp] theorem State.modReg_dispErr (a : Nat) (f : Word → Word) : (s.modReg a f).dispErr = s.dispErr := rfl
@[simp] theorem State.modReg_ssWait (a : Nat) (f : Word → Word) : (s.modReg a f).ssWait = s.ssWait := rfl
@[simp] theorem State.modReg_mem (a : Nat) (f : Word → Word) : (s.modReg a f).mem = s.mem := rfl
@[simp] theorem State.modReg_memErr (a : Nat) (f : Word → Word) : (s.modReg a f).memErr = s.memErr := rfl
@[simp] theorem State.modReg_retained (a : Nat) (f : Word → Word) : (s.modReg a f).retained = s.retained := rfl
@[simp] theorem State.modReg_entering (a : Nat) (f : Word → Word) : (s.modReg a f).entering = s.entering := rfl
@[simp] theorem State.modReg_waking (a : Nat) (f : Word → Word) : (s.modReg a f).waking = s.waking := rfl
@[simp] theorem State.modReg_wakeFor (a : Nat) (f : Word → Word) : (s.modReg a f).wakeFor = s.wakeFor := rfl
@[simp] theorem State.modReg_scrubs (a : Nat) (f : Word → Word) : (s.modReg a f).scrubs = s.scrubs := rfl
@[simp] theorem State.modReg_bists (a : Nat) (f : Word → Word) : (s.modReg a f).bists = s.bists := rfl
@[simp] theorem State.modReg_bulk (a : Nat) (f : Word → Word) : (s.modReg a f).bulk = s.bulk := rfl
@[simp] theorem State.modReg_wiping (a : Nat) (f : Word → Word) : (s.modReg a f).wiping = s.wiping := rfl
@[simp] theorem State.modReg_bursts (a : Nat) (f : Word → Word) : (s.modReg a f).bursts = s.bursts := rfl
@[simp] theorem State.modReg_lastGrant (a : Nat) (f : Word → Word) : (s.modReg a f).lastGrant = s.lastGrant := rfl
@[simp] theorem State.modReg_singles (a : Nat) (f : Word → Word) : (s.modReg a f).singles = s.singles := rfl
@[simp] theorem State.modReg_clash (a : Nat) (f : Word → Word) : (s.modReg a f).clash = s.clash := rfl
@[simp] theorem State.modReg_hostReqs (a : Nat) (f : Word → Word) : (s.modReg a f).hostReqs = s.hostReqs := rfl
@[simp] theorem State.modReg_inbound (a : Nat) (f : Word → Word) : (s.modReg a f).inbound = s.inbound := rfl
@[simp] theorem State.modReg_hfiRst (a : Nat) (f : Word → Word) : (s.modReg a f).hfiRst = s.hfiRst := rfl
@[simp] theorem State.modReg_hfiAck (a : Nat) (f : Word → Word) : (s.modReg a f).hfiAck = s.hfiAck := rfl
@[simp] theorem State.modReg_frz1 (a : Nat) (f : Word → Word) : (s.modReg a f).frz1 = s.frz1 := rfl
@[simp] theorem State.modReg_frzClk (a : Nat) (f : Word → Word) : (s.modReg a f).frzClk = s.frzClk := rfl
@[simp] theorem State.modReg_timers (a : Nat) (f : Word → Word) : (s.modReg a f).timers = s.timers := rfl
@[simp] theorem State.modReg_gsWait (a : Nat) (f : Word → Word) : (s.modReg a f).gsWait = s.gsWait := rfl
@[simp] theorem State.modReg_capRise (a : Nat) (f : Word → Word) : (s.modReg a f).capRise = s.capRise := rfl
@[simp] theorem State.modReg_pins (a : Nat) (f : Word → Word) : (s.modReg a f).pins = s.pins := rfl
@[simp] theorem State.modReg_align (a : Nat) (f : Word → Word) : (s.modReg a f).align = s.align := rfl
@[simp] theorem State.modReg_alignGood (a : Nat) (f : Word → Word) : (s.modReg a f).alignGood = s.alignGood := rfl
@[simp] theorem State.modReg_alignDue (a : Nat) (f : Word → Word) : (s.modReg a f).alignDue = s.alignDue := rfl
@[simp] theorem State.modReg_probe (a : Nat) (f : Word → Word) : (s.modReg a f).probe = s.probe := rfl
@[simp] theorem State.modReg_phyReq (a : Nat) (f : Word → Word) : (s.modReg a f).phyReq = s.phyReq := rfl
@[simp] theorem State.modReg_phyAck (a : Nat) (f : Word → Word) : (s.modReg a f).phyAck = s.phyAck := rfl
@[simp] theorem State.modReg_retReq (a : Nat) (f : Word → Word) : (s.modReg a f).retReq = s.retReq := rfl
@[simp] theorem State.modReg_retAck (a : Nat) (f : Word → Word) : (s.modReg a f).retAck = s.retAck := rfl
@[simp] theorem State.modReg_trust (a : Nat) (f : Word → Word) : (s.modReg a f).trust = s.trust := rfl
@[simp] theorem State.modReg_dbg (a : Nat) (f : Word → Word) : (s.modReg a f).dbg = s.dbg := rfl
@[simp] theorem State.modReg_freeIndex (a : Nat) (f : Word → Word) : (s.modReg a f).freeIndex = s.freeIndex := rfl

/-! ### incReg -/

@[simp] theorem State.incReg_pending (a : Nat) : (s.incReg a).pending = s.pending := rfl
@[simp] theorem State.incReg_porLow (a : Nat) : (s.incReg a).porLow = s.porLow := rfl
@[simp] theorem State.incReg_rstLow (a : Nat) : (s.incReg a).rstLow = s.rstLow := rfl
@[simp] theorem State.incReg_firstEdge (a : Nat) : (s.incReg a).firstEdge = s.firstEdge := rfl
@[simp] theorem State.incReg_clkOk (a : Nat) : (s.incReg a).clkOk = s.clkOk := rfl
@[simp] theorem State.incReg_beatno (a : Nat) : (s.incReg a).beatno = s.beatno := rfl
@[simp] theorem State.incReg_fofs (a : Nat) : (s.incReg a).fofs = s.fofs := rfl
@[simp] theorem State.incReg_rsp (a : Nat) : (s.incReg a).rsp = s.rsp := rfl
@[simp] theorem State.incReg_hrpQ (a : Nat) : (s.incReg a).hrpQ = s.hrpQ := rfl
@[simp] theorem State.incReg_hrpOut (a : Nat) : (s.incReg a).hrpOut = s.hrpOut := rfl
@[simp] theorem State.incReg_hrpSeq (a : Nat) : (s.incReg a).hrpSeq = s.hrpSeq := rfl
@[simp] theorem State.incReg_islandQ (a : Nat) : (s.incReg a).islandQ = s.islandQ := rfl
@[simp] theorem State.incReg_clkLost (a : Nat) : (s.incReg a).clkLost = s.clkLost := rfl
@[simp] theorem State.incReg_pinLost (a : Nat) : (s.incReg a).pinLost = s.pinLost := rfl
@[simp] theorem State.incReg_callboard (a : Nat) : (s.incReg a).callboard = s.callboard := rfl
@[simp] theorem State.incReg_permit (a : Nat) : (s.incReg a).permit = s.permit := rfl
@[simp] theorem State.incReg_ringAhead (a : Nat) : (s.incReg a).ringAhead = s.ringAhead := rfl
@[simp] theorem State.incReg_ringRel (a : Nat) : (s.incReg a).ringRel = s.ringRel := rfl
@[simp] theorem State.incReg_ports (a : Nat) : (s.incReg a).ports = s.ports := rfl
@[simp] theorem State.incReg_frames (a : Nat) : (s.incReg a).frames = s.frames := rfl
@[simp] theorem State.incReg_fwdQ (a : Nat) : (s.incReg a).fwdQ = s.fwdQ := rfl
@[simp] theorem State.incReg_groups (a : Nat) : (s.incReg a).groups = s.groups := rfl
@[simp] theorem State.incReg_pipes (a : Nat) : (s.incReg a).pipes = s.pipes := rfl
@[simp] theorem State.incReg_nextChain (a : Nat) : (s.incReg a).nextChain = s.nextChain := rfl
@[simp] theorem State.incReg_curtain (a : Nat) : (s.incReg a).curtain = s.curtain := rfl
@[simp] theorem State.incReg_store (a : Nat) : (s.incReg a).store = s.store := rfl
@[simp] theorem State.incReg_posted (a : Nat) : (s.incReg a).posted = s.posted := rfl
@[simp] theorem State.incReg_logQ (a : Nat) : (s.incReg a).logQ = s.logQ := rfl
@[simp] theorem State.incReg_relNext (a : Nat) : (s.incReg a).relNext = s.relNext := rfl
@[simp] theorem State.incReg_slots (a : Nat) : (s.incReg a).slots = s.slots := rfl
@[simp] theorem State.incReg_engines (a : Nat) : (s.incReg a).engines = s.engines := rfl
@[simp] theorem State.incReg_shared (a : Nat) : (s.incReg a).shared = s.shared := rfl
@[simp] theorem State.incReg_walks (a : Nat) : (s.incReg a).walks = s.walks := rfl
@[simp] theorem State.incReg_cstore (a : Nat) : (s.incReg a).cstore = s.cstore := rfl
@[simp] theorem State.incReg_dispatch (a : Nat) : (s.incReg a).dispatch = s.dispatch := rfl
@[simp] theorem State.incReg_sstore (a : Nat) : (s.incReg a).sstore = s.sstore := rfl
@[simp] theorem State.incReg_csErr (a : Nat) : (s.incReg a).csErr = s.csErr := rfl
@[simp] theorem State.incReg_ssErr (a : Nat) : (s.incReg a).ssErr = s.ssErr := rfl
@[simp] theorem State.incReg_dispErr (a : Nat) : (s.incReg a).dispErr = s.dispErr := rfl
@[simp] theorem State.incReg_ssWait (a : Nat) : (s.incReg a).ssWait = s.ssWait := rfl
@[simp] theorem State.incReg_mem (a : Nat) : (s.incReg a).mem = s.mem := rfl
@[simp] theorem State.incReg_memErr (a : Nat) : (s.incReg a).memErr = s.memErr := rfl
@[simp] theorem State.incReg_retained (a : Nat) : (s.incReg a).retained = s.retained := rfl
@[simp] theorem State.incReg_entering (a : Nat) : (s.incReg a).entering = s.entering := rfl
@[simp] theorem State.incReg_waking (a : Nat) : (s.incReg a).waking = s.waking := rfl
@[simp] theorem State.incReg_wakeFor (a : Nat) : (s.incReg a).wakeFor = s.wakeFor := rfl
@[simp] theorem State.incReg_scrubs (a : Nat) : (s.incReg a).scrubs = s.scrubs := rfl
@[simp] theorem State.incReg_bists (a : Nat) : (s.incReg a).bists = s.bists := rfl
@[simp] theorem State.incReg_bulk (a : Nat) : (s.incReg a).bulk = s.bulk := rfl
@[simp] theorem State.incReg_wiping (a : Nat) : (s.incReg a).wiping = s.wiping := rfl
@[simp] theorem State.incReg_bursts (a : Nat) : (s.incReg a).bursts = s.bursts := rfl
@[simp] theorem State.incReg_lastGrant (a : Nat) : (s.incReg a).lastGrant = s.lastGrant := rfl
@[simp] theorem State.incReg_singles (a : Nat) : (s.incReg a).singles = s.singles := rfl
@[simp] theorem State.incReg_clash (a : Nat) : (s.incReg a).clash = s.clash := rfl
@[simp] theorem State.incReg_hostReqs (a : Nat) : (s.incReg a).hostReqs = s.hostReqs := rfl
@[simp] theorem State.incReg_inbound (a : Nat) : (s.incReg a).inbound = s.inbound := rfl
@[simp] theorem State.incReg_hfiRst (a : Nat) : (s.incReg a).hfiRst = s.hfiRst := rfl
@[simp] theorem State.incReg_hfiAck (a : Nat) : (s.incReg a).hfiAck = s.hfiAck := rfl
@[simp] theorem State.incReg_frz1 (a : Nat) : (s.incReg a).frz1 = s.frz1 := rfl
@[simp] theorem State.incReg_frzClk (a : Nat) : (s.incReg a).frzClk = s.frzClk := rfl
@[simp] theorem State.incReg_timers (a : Nat) : (s.incReg a).timers = s.timers := rfl
@[simp] theorem State.incReg_gsWait (a : Nat) : (s.incReg a).gsWait = s.gsWait := rfl
@[simp] theorem State.incReg_capRise (a : Nat) : (s.incReg a).capRise = s.capRise := rfl
@[simp] theorem State.incReg_pins (a : Nat) : (s.incReg a).pins = s.pins := rfl
@[simp] theorem State.incReg_align (a : Nat) : (s.incReg a).align = s.align := rfl
@[simp] theorem State.incReg_alignGood (a : Nat) : (s.incReg a).alignGood = s.alignGood := rfl
@[simp] theorem State.incReg_alignDue (a : Nat) : (s.incReg a).alignDue = s.alignDue := rfl
@[simp] theorem State.incReg_probe (a : Nat) : (s.incReg a).probe = s.probe := rfl
@[simp] theorem State.incReg_phyReq (a : Nat) : (s.incReg a).phyReq = s.phyReq := rfl
@[simp] theorem State.incReg_phyAck (a : Nat) : (s.incReg a).phyAck = s.phyAck := rfl
@[simp] theorem State.incReg_retReq (a : Nat) : (s.incReg a).retReq = s.retReq := rfl
@[simp] theorem State.incReg_retAck (a : Nat) : (s.incReg a).retAck = s.retAck := rfl
@[simp] theorem State.incReg_trust (a : Nat) : (s.incReg a).trust = s.trust := rfl
@[simp] theorem State.incReg_dbg (a : Nat) : (s.incReg a).dbg = s.dbg := rfl
@[simp] theorem State.incReg_freeIndex (a : Nat) : (s.incReg a).freeIndex = s.freeIndex := rfl

/-! ### addReg -/

@[simp] theorem State.addReg_pending (a n : Nat) : (s.addReg a n).pending = s.pending := rfl
@[simp] theorem State.addReg_porLow (a n : Nat) : (s.addReg a n).porLow = s.porLow := rfl
@[simp] theorem State.addReg_rstLow (a n : Nat) : (s.addReg a n).rstLow = s.rstLow := rfl
@[simp] theorem State.addReg_firstEdge (a n : Nat) : (s.addReg a n).firstEdge = s.firstEdge := rfl
@[simp] theorem State.addReg_clkOk (a n : Nat) : (s.addReg a n).clkOk = s.clkOk := rfl
@[simp] theorem State.addReg_beatno (a n : Nat) : (s.addReg a n).beatno = s.beatno := rfl
@[simp] theorem State.addReg_fofs (a n : Nat) : (s.addReg a n).fofs = s.fofs := rfl
@[simp] theorem State.addReg_rsp (a n : Nat) : (s.addReg a n).rsp = s.rsp := rfl
@[simp] theorem State.addReg_hrpQ (a n : Nat) : (s.addReg a n).hrpQ = s.hrpQ := rfl
@[simp] theorem State.addReg_hrpOut (a n : Nat) : (s.addReg a n).hrpOut = s.hrpOut := rfl
@[simp] theorem State.addReg_hrpSeq (a n : Nat) : (s.addReg a n).hrpSeq = s.hrpSeq := rfl
@[simp] theorem State.addReg_islandQ (a n : Nat) : (s.addReg a n).islandQ = s.islandQ := rfl
@[simp] theorem State.addReg_clkLost (a n : Nat) : (s.addReg a n).clkLost = s.clkLost := rfl
@[simp] theorem State.addReg_pinLost (a n : Nat) : (s.addReg a n).pinLost = s.pinLost := rfl
@[simp] theorem State.addReg_callboard (a n : Nat) : (s.addReg a n).callboard = s.callboard := rfl
@[simp] theorem State.addReg_permit (a n : Nat) : (s.addReg a n).permit = s.permit := rfl
@[simp] theorem State.addReg_ringAhead (a n : Nat) : (s.addReg a n).ringAhead = s.ringAhead := rfl
@[simp] theorem State.addReg_ringRel (a n : Nat) : (s.addReg a n).ringRel = s.ringRel := rfl
@[simp] theorem State.addReg_ports (a n : Nat) : (s.addReg a n).ports = s.ports := rfl
@[simp] theorem State.addReg_frames (a n : Nat) : (s.addReg a n).frames = s.frames := rfl
@[simp] theorem State.addReg_fwdQ (a n : Nat) : (s.addReg a n).fwdQ = s.fwdQ := rfl
@[simp] theorem State.addReg_groups (a n : Nat) : (s.addReg a n).groups = s.groups := rfl
@[simp] theorem State.addReg_pipes (a n : Nat) : (s.addReg a n).pipes = s.pipes := rfl
@[simp] theorem State.addReg_nextChain (a n : Nat) : (s.addReg a n).nextChain = s.nextChain := rfl
@[simp] theorem State.addReg_curtain (a n : Nat) : (s.addReg a n).curtain = s.curtain := rfl
@[simp] theorem State.addReg_store (a n : Nat) : (s.addReg a n).store = s.store := rfl
@[simp] theorem State.addReg_posted (a n : Nat) : (s.addReg a n).posted = s.posted := rfl
@[simp] theorem State.addReg_logQ (a n : Nat) : (s.addReg a n).logQ = s.logQ := rfl
@[simp] theorem State.addReg_relNext (a n : Nat) : (s.addReg a n).relNext = s.relNext := rfl
@[simp] theorem State.addReg_slots (a n : Nat) : (s.addReg a n).slots = s.slots := rfl
@[simp] theorem State.addReg_engines (a n : Nat) : (s.addReg a n).engines = s.engines := rfl
@[simp] theorem State.addReg_shared (a n : Nat) : (s.addReg a n).shared = s.shared := rfl
@[simp] theorem State.addReg_walks (a n : Nat) : (s.addReg a n).walks = s.walks := rfl
@[simp] theorem State.addReg_cstore (a n : Nat) : (s.addReg a n).cstore = s.cstore := rfl
@[simp] theorem State.addReg_dispatch (a n : Nat) : (s.addReg a n).dispatch = s.dispatch := rfl
@[simp] theorem State.addReg_sstore (a n : Nat) : (s.addReg a n).sstore = s.sstore := rfl
@[simp] theorem State.addReg_csErr (a n : Nat) : (s.addReg a n).csErr = s.csErr := rfl
@[simp] theorem State.addReg_ssErr (a n : Nat) : (s.addReg a n).ssErr = s.ssErr := rfl
@[simp] theorem State.addReg_dispErr (a n : Nat) : (s.addReg a n).dispErr = s.dispErr := rfl
@[simp] theorem State.addReg_ssWait (a n : Nat) : (s.addReg a n).ssWait = s.ssWait := rfl
@[simp] theorem State.addReg_mem (a n : Nat) : (s.addReg a n).mem = s.mem := rfl
@[simp] theorem State.addReg_memErr (a n : Nat) : (s.addReg a n).memErr = s.memErr := rfl
@[simp] theorem State.addReg_retained (a n : Nat) : (s.addReg a n).retained = s.retained := rfl
@[simp] theorem State.addReg_entering (a n : Nat) : (s.addReg a n).entering = s.entering := rfl
@[simp] theorem State.addReg_waking (a n : Nat) : (s.addReg a n).waking = s.waking := rfl
@[simp] theorem State.addReg_wakeFor (a n : Nat) : (s.addReg a n).wakeFor = s.wakeFor := rfl
@[simp] theorem State.addReg_scrubs (a n : Nat) : (s.addReg a n).scrubs = s.scrubs := rfl
@[simp] theorem State.addReg_bists (a n : Nat) : (s.addReg a n).bists = s.bists := rfl
@[simp] theorem State.addReg_bulk (a n : Nat) : (s.addReg a n).bulk = s.bulk := rfl
@[simp] theorem State.addReg_wiping (a n : Nat) : (s.addReg a n).wiping = s.wiping := rfl
@[simp] theorem State.addReg_bursts (a n : Nat) : (s.addReg a n).bursts = s.bursts := rfl
@[simp] theorem State.addReg_lastGrant (a n : Nat) : (s.addReg a n).lastGrant = s.lastGrant := rfl
@[simp] theorem State.addReg_singles (a n : Nat) : (s.addReg a n).singles = s.singles := rfl
@[simp] theorem State.addReg_clash (a n : Nat) : (s.addReg a n).clash = s.clash := rfl
@[simp] theorem State.addReg_hostReqs (a n : Nat) : (s.addReg a n).hostReqs = s.hostReqs := rfl
@[simp] theorem State.addReg_inbound (a n : Nat) : (s.addReg a n).inbound = s.inbound := rfl
@[simp] theorem State.addReg_hfiRst (a n : Nat) : (s.addReg a n).hfiRst = s.hfiRst := rfl
@[simp] theorem State.addReg_hfiAck (a n : Nat) : (s.addReg a n).hfiAck = s.hfiAck := rfl
@[simp] theorem State.addReg_frz1 (a n : Nat) : (s.addReg a n).frz1 = s.frz1 := rfl
@[simp] theorem State.addReg_frzClk (a n : Nat) : (s.addReg a n).frzClk = s.frzClk := rfl
@[simp] theorem State.addReg_timers (a n : Nat) : (s.addReg a n).timers = s.timers := rfl
@[simp] theorem State.addReg_gsWait (a n : Nat) : (s.addReg a n).gsWait = s.gsWait := rfl
@[simp] theorem State.addReg_capRise (a n : Nat) : (s.addReg a n).capRise = s.capRise := rfl
@[simp] theorem State.addReg_pins (a n : Nat) : (s.addReg a n).pins = s.pins := rfl
@[simp] theorem State.addReg_align (a n : Nat) : (s.addReg a n).align = s.align := rfl
@[simp] theorem State.addReg_alignGood (a n : Nat) : (s.addReg a n).alignGood = s.alignGood := rfl
@[simp] theorem State.addReg_alignDue (a n : Nat) : (s.addReg a n).alignDue = s.alignDue := rfl
@[simp] theorem State.addReg_probe (a n : Nat) : (s.addReg a n).probe = s.probe := rfl
@[simp] theorem State.addReg_phyReq (a n : Nat) : (s.addReg a n).phyReq = s.phyReq := rfl
@[simp] theorem State.addReg_phyAck (a n : Nat) : (s.addReg a n).phyAck = s.phyAck := rfl
@[simp] theorem State.addReg_retReq (a n : Nat) : (s.addReg a n).retReq = s.retReq := rfl
@[simp] theorem State.addReg_retAck (a n : Nat) : (s.addReg a n).retAck = s.retAck := rfl
@[simp] theorem State.addReg_trust (a n : Nat) : (s.addReg a n).trust = s.trust := rfl
@[simp] theorem State.addReg_dbg (a n : Nat) : (s.addReg a n).dbg = s.dbg := rfl
@[simp] theorem State.addReg_freeIndex (a n : Nat) : (s.addReg a n).freeIndex = s.freeIndex := rfl

/-! ### orReg -/

@[simp] theorem State.orReg_pending (a : Nat) (m : Word) : (s.orReg a m).pending = s.pending := rfl
@[simp] theorem State.orReg_porLow (a : Nat) (m : Word) : (s.orReg a m).porLow = s.porLow := rfl
@[simp] theorem State.orReg_rstLow (a : Nat) (m : Word) : (s.orReg a m).rstLow = s.rstLow := rfl
@[simp] theorem State.orReg_firstEdge (a : Nat) (m : Word) : (s.orReg a m).firstEdge = s.firstEdge := rfl
@[simp] theorem State.orReg_clkOk (a : Nat) (m : Word) : (s.orReg a m).clkOk = s.clkOk := rfl
@[simp] theorem State.orReg_beatno (a : Nat) (m : Word) : (s.orReg a m).beatno = s.beatno := rfl
@[simp] theorem State.orReg_fofs (a : Nat) (m : Word) : (s.orReg a m).fofs = s.fofs := rfl
@[simp] theorem State.orReg_rsp (a : Nat) (m : Word) : (s.orReg a m).rsp = s.rsp := rfl
@[simp] theorem State.orReg_hrpQ (a : Nat) (m : Word) : (s.orReg a m).hrpQ = s.hrpQ := rfl
@[simp] theorem State.orReg_hrpOut (a : Nat) (m : Word) : (s.orReg a m).hrpOut = s.hrpOut := rfl
@[simp] theorem State.orReg_hrpSeq (a : Nat) (m : Word) : (s.orReg a m).hrpSeq = s.hrpSeq := rfl
@[simp] theorem State.orReg_islandQ (a : Nat) (m : Word) : (s.orReg a m).islandQ = s.islandQ := rfl
@[simp] theorem State.orReg_clkLost (a : Nat) (m : Word) : (s.orReg a m).clkLost = s.clkLost := rfl
@[simp] theorem State.orReg_pinLost (a : Nat) (m : Word) : (s.orReg a m).pinLost = s.pinLost := rfl
@[simp] theorem State.orReg_callboard (a : Nat) (m : Word) : (s.orReg a m).callboard = s.callboard := rfl
@[simp] theorem State.orReg_permit (a : Nat) (m : Word) : (s.orReg a m).permit = s.permit := rfl
@[simp] theorem State.orReg_ringAhead (a : Nat) (m : Word) : (s.orReg a m).ringAhead = s.ringAhead := rfl
@[simp] theorem State.orReg_ringRel (a : Nat) (m : Word) : (s.orReg a m).ringRel = s.ringRel := rfl
@[simp] theorem State.orReg_ports (a : Nat) (m : Word) : (s.orReg a m).ports = s.ports := rfl
@[simp] theorem State.orReg_frames (a : Nat) (m : Word) : (s.orReg a m).frames = s.frames := rfl
@[simp] theorem State.orReg_fwdQ (a : Nat) (m : Word) : (s.orReg a m).fwdQ = s.fwdQ := rfl
@[simp] theorem State.orReg_groups (a : Nat) (m : Word) : (s.orReg a m).groups = s.groups := rfl
@[simp] theorem State.orReg_pipes (a : Nat) (m : Word) : (s.orReg a m).pipes = s.pipes := rfl
@[simp] theorem State.orReg_nextChain (a : Nat) (m : Word) : (s.orReg a m).nextChain = s.nextChain := rfl
@[simp] theorem State.orReg_curtain (a : Nat) (m : Word) : (s.orReg a m).curtain = s.curtain := rfl
@[simp] theorem State.orReg_store (a : Nat) (m : Word) : (s.orReg a m).store = s.store := rfl
@[simp] theorem State.orReg_posted (a : Nat) (m : Word) : (s.orReg a m).posted = s.posted := rfl
@[simp] theorem State.orReg_logQ (a : Nat) (m : Word) : (s.orReg a m).logQ = s.logQ := rfl
@[simp] theorem State.orReg_relNext (a : Nat) (m : Word) : (s.orReg a m).relNext = s.relNext := rfl
@[simp] theorem State.orReg_slots (a : Nat) (m : Word) : (s.orReg a m).slots = s.slots := rfl
@[simp] theorem State.orReg_engines (a : Nat) (m : Word) : (s.orReg a m).engines = s.engines := rfl
@[simp] theorem State.orReg_shared (a : Nat) (m : Word) : (s.orReg a m).shared = s.shared := rfl
@[simp] theorem State.orReg_walks (a : Nat) (m : Word) : (s.orReg a m).walks = s.walks := rfl
@[simp] theorem State.orReg_cstore (a : Nat) (m : Word) : (s.orReg a m).cstore = s.cstore := rfl
@[simp] theorem State.orReg_dispatch (a : Nat) (m : Word) : (s.orReg a m).dispatch = s.dispatch := rfl
@[simp] theorem State.orReg_sstore (a : Nat) (m : Word) : (s.orReg a m).sstore = s.sstore := rfl
@[simp] theorem State.orReg_csErr (a : Nat) (m : Word) : (s.orReg a m).csErr = s.csErr := rfl
@[simp] theorem State.orReg_ssErr (a : Nat) (m : Word) : (s.orReg a m).ssErr = s.ssErr := rfl
@[simp] theorem State.orReg_dispErr (a : Nat) (m : Word) : (s.orReg a m).dispErr = s.dispErr := rfl
@[simp] theorem State.orReg_ssWait (a : Nat) (m : Word) : (s.orReg a m).ssWait = s.ssWait := rfl
@[simp] theorem State.orReg_mem (a : Nat) (m : Word) : (s.orReg a m).mem = s.mem := rfl
@[simp] theorem State.orReg_memErr (a : Nat) (m : Word) : (s.orReg a m).memErr = s.memErr := rfl
@[simp] theorem State.orReg_retained (a : Nat) (m : Word) : (s.orReg a m).retained = s.retained := rfl
@[simp] theorem State.orReg_entering (a : Nat) (m : Word) : (s.orReg a m).entering = s.entering := rfl
@[simp] theorem State.orReg_waking (a : Nat) (m : Word) : (s.orReg a m).waking = s.waking := rfl
@[simp] theorem State.orReg_wakeFor (a : Nat) (m : Word) : (s.orReg a m).wakeFor = s.wakeFor := rfl
@[simp] theorem State.orReg_scrubs (a : Nat) (m : Word) : (s.orReg a m).scrubs = s.scrubs := rfl
@[simp] theorem State.orReg_bists (a : Nat) (m : Word) : (s.orReg a m).bists = s.bists := rfl
@[simp] theorem State.orReg_bulk (a : Nat) (m : Word) : (s.orReg a m).bulk = s.bulk := rfl
@[simp] theorem State.orReg_wiping (a : Nat) (m : Word) : (s.orReg a m).wiping = s.wiping := rfl
@[simp] theorem State.orReg_bursts (a : Nat) (m : Word) : (s.orReg a m).bursts = s.bursts := rfl
@[simp] theorem State.orReg_lastGrant (a : Nat) (m : Word) : (s.orReg a m).lastGrant = s.lastGrant := rfl
@[simp] theorem State.orReg_singles (a : Nat) (m : Word) : (s.orReg a m).singles = s.singles := rfl
@[simp] theorem State.orReg_clash (a : Nat) (m : Word) : (s.orReg a m).clash = s.clash := rfl
@[simp] theorem State.orReg_hostReqs (a : Nat) (m : Word) : (s.orReg a m).hostReqs = s.hostReqs := rfl
@[simp] theorem State.orReg_inbound (a : Nat) (m : Word) : (s.orReg a m).inbound = s.inbound := rfl
@[simp] theorem State.orReg_hfiRst (a : Nat) (m : Word) : (s.orReg a m).hfiRst = s.hfiRst := rfl
@[simp] theorem State.orReg_hfiAck (a : Nat) (m : Word) : (s.orReg a m).hfiAck = s.hfiAck := rfl
@[simp] theorem State.orReg_frz1 (a : Nat) (m : Word) : (s.orReg a m).frz1 = s.frz1 := rfl
@[simp] theorem State.orReg_frzClk (a : Nat) (m : Word) : (s.orReg a m).frzClk = s.frzClk := rfl
@[simp] theorem State.orReg_timers (a : Nat) (m : Word) : (s.orReg a m).timers = s.timers := rfl
@[simp] theorem State.orReg_gsWait (a : Nat) (m : Word) : (s.orReg a m).gsWait = s.gsWait := rfl
@[simp] theorem State.orReg_capRise (a : Nat) (m : Word) : (s.orReg a m).capRise = s.capRise := rfl
@[simp] theorem State.orReg_pins (a : Nat) (m : Word) : (s.orReg a m).pins = s.pins := rfl
@[simp] theorem State.orReg_align (a : Nat) (m : Word) : (s.orReg a m).align = s.align := rfl
@[simp] theorem State.orReg_alignGood (a : Nat) (m : Word) : (s.orReg a m).alignGood = s.alignGood := rfl
@[simp] theorem State.orReg_alignDue (a : Nat) (m : Word) : (s.orReg a m).alignDue = s.alignDue := rfl
@[simp] theorem State.orReg_probe (a : Nat) (m : Word) : (s.orReg a m).probe = s.probe := rfl
@[simp] theorem State.orReg_phyReq (a : Nat) (m : Word) : (s.orReg a m).phyReq = s.phyReq := rfl
@[simp] theorem State.orReg_phyAck (a : Nat) (m : Word) : (s.orReg a m).phyAck = s.phyAck := rfl
@[simp] theorem State.orReg_retReq (a : Nat) (m : Word) : (s.orReg a m).retReq = s.retReq := rfl
@[simp] theorem State.orReg_retAck (a : Nat) (m : Word) : (s.orReg a m).retAck = s.retAck := rfl
@[simp] theorem State.orReg_trust (a : Nat) (m : Word) : (s.orReg a m).trust = s.trust := rfl
@[simp] theorem State.orReg_dbg (a : Nat) (m : Word) : (s.orReg a m).dbg = s.dbg := rfl
@[simp] theorem State.orReg_freeIndex (a : Nat) (m : Word) : (s.orReg a m).freeIndex = s.freeIndex := rfl

/-! ### irq -/

@[simp] theorem State.irq_pending (p : Page) (b : Nat) : (s.irq p b).pending = s.pending := rfl
@[simp] theorem State.irq_porLow (p : Page) (b : Nat) : (s.irq p b).porLow = s.porLow := rfl
@[simp] theorem State.irq_rstLow (p : Page) (b : Nat) : (s.irq p b).rstLow = s.rstLow := rfl
@[simp] theorem State.irq_firstEdge (p : Page) (b : Nat) : (s.irq p b).firstEdge = s.firstEdge := rfl
@[simp] theorem State.irq_clkOk (p : Page) (b : Nat) : (s.irq p b).clkOk = s.clkOk := rfl
@[simp] theorem State.irq_beatno (p : Page) (b : Nat) : (s.irq p b).beatno = s.beatno := rfl
@[simp] theorem State.irq_fofs (p : Page) (b : Nat) : (s.irq p b).fofs = s.fofs := rfl
@[simp] theorem State.irq_rsp (p : Page) (b : Nat) : (s.irq p b).rsp = s.rsp := rfl
@[simp] theorem State.irq_hrpQ (p : Page) (b : Nat) : (s.irq p b).hrpQ = s.hrpQ := rfl
@[simp] theorem State.irq_hrpOut (p : Page) (b : Nat) : (s.irq p b).hrpOut = s.hrpOut := rfl
@[simp] theorem State.irq_hrpSeq (p : Page) (b : Nat) : (s.irq p b).hrpSeq = s.hrpSeq := rfl
@[simp] theorem State.irq_islandQ (p : Page) (b : Nat) : (s.irq p b).islandQ = s.islandQ := rfl
@[simp] theorem State.irq_clkLost (p : Page) (b : Nat) : (s.irq p b).clkLost = s.clkLost := rfl
@[simp] theorem State.irq_pinLost (p : Page) (b : Nat) : (s.irq p b).pinLost = s.pinLost := rfl
@[simp] theorem State.irq_callboard (p : Page) (b : Nat) : (s.irq p b).callboard = s.callboard := rfl
@[simp] theorem State.irq_permit (p : Page) (b : Nat) : (s.irq p b).permit = s.permit := rfl
@[simp] theorem State.irq_ringAhead (p : Page) (b : Nat) : (s.irq p b).ringAhead = s.ringAhead := rfl
@[simp] theorem State.irq_ringRel (p : Page) (b : Nat) : (s.irq p b).ringRel = s.ringRel := rfl
@[simp] theorem State.irq_ports (p : Page) (b : Nat) : (s.irq p b).ports = s.ports := rfl
@[simp] theorem State.irq_frames (p : Page) (b : Nat) : (s.irq p b).frames = s.frames := rfl
@[simp] theorem State.irq_fwdQ (p : Page) (b : Nat) : (s.irq p b).fwdQ = s.fwdQ := rfl
@[simp] theorem State.irq_groups (p : Page) (b : Nat) : (s.irq p b).groups = s.groups := rfl
@[simp] theorem State.irq_pipes (p : Page) (b : Nat) : (s.irq p b).pipes = s.pipes := rfl
@[simp] theorem State.irq_nextChain (p : Page) (b : Nat) : (s.irq p b).nextChain = s.nextChain := rfl
@[simp] theorem State.irq_curtain (p : Page) (b : Nat) : (s.irq p b).curtain = s.curtain := rfl
@[simp] theorem State.irq_store (p : Page) (b : Nat) : (s.irq p b).store = s.store := rfl
@[simp] theorem State.irq_posted (p : Page) (b : Nat) : (s.irq p b).posted = s.posted := rfl
@[simp] theorem State.irq_logQ (p : Page) (b : Nat) : (s.irq p b).logQ = s.logQ := rfl
@[simp] theorem State.irq_relNext (p : Page) (b : Nat) : (s.irq p b).relNext = s.relNext := rfl
@[simp] theorem State.irq_slots (p : Page) (b : Nat) : (s.irq p b).slots = s.slots := rfl
@[simp] theorem State.irq_engines (p : Page) (b : Nat) : (s.irq p b).engines = s.engines := rfl
@[simp] theorem State.irq_shared (p : Page) (b : Nat) : (s.irq p b).shared = s.shared := rfl
@[simp] theorem State.irq_walks (p : Page) (b : Nat) : (s.irq p b).walks = s.walks := rfl
@[simp] theorem State.irq_cstore (p : Page) (b : Nat) : (s.irq p b).cstore = s.cstore := rfl
@[simp] theorem State.irq_dispatch (p : Page) (b : Nat) : (s.irq p b).dispatch = s.dispatch := rfl
@[simp] theorem State.irq_sstore (p : Page) (b : Nat) : (s.irq p b).sstore = s.sstore := rfl
@[simp] theorem State.irq_csErr (p : Page) (b : Nat) : (s.irq p b).csErr = s.csErr := rfl
@[simp] theorem State.irq_ssErr (p : Page) (b : Nat) : (s.irq p b).ssErr = s.ssErr := rfl
@[simp] theorem State.irq_dispErr (p : Page) (b : Nat) : (s.irq p b).dispErr = s.dispErr := rfl
@[simp] theorem State.irq_ssWait (p : Page) (b : Nat) : (s.irq p b).ssWait = s.ssWait := rfl
@[simp] theorem State.irq_mem (p : Page) (b : Nat) : (s.irq p b).mem = s.mem := rfl
@[simp] theorem State.irq_memErr (p : Page) (b : Nat) : (s.irq p b).memErr = s.memErr := rfl
@[simp] theorem State.irq_retained (p : Page) (b : Nat) : (s.irq p b).retained = s.retained := rfl
@[simp] theorem State.irq_entering (p : Page) (b : Nat) : (s.irq p b).entering = s.entering := rfl
@[simp] theorem State.irq_waking (p : Page) (b : Nat) : (s.irq p b).waking = s.waking := rfl
@[simp] theorem State.irq_wakeFor (p : Page) (b : Nat) : (s.irq p b).wakeFor = s.wakeFor := rfl
@[simp] theorem State.irq_scrubs (p : Page) (b : Nat) : (s.irq p b).scrubs = s.scrubs := rfl
@[simp] theorem State.irq_bists (p : Page) (b : Nat) : (s.irq p b).bists = s.bists := rfl
@[simp] theorem State.irq_bulk (p : Page) (b : Nat) : (s.irq p b).bulk = s.bulk := rfl
@[simp] theorem State.irq_wiping (p : Page) (b : Nat) : (s.irq p b).wiping = s.wiping := rfl
@[simp] theorem State.irq_bursts (p : Page) (b : Nat) : (s.irq p b).bursts = s.bursts := rfl
@[simp] theorem State.irq_lastGrant (p : Page) (b : Nat) : (s.irq p b).lastGrant = s.lastGrant := rfl
@[simp] theorem State.irq_singles (p : Page) (b : Nat) : (s.irq p b).singles = s.singles := rfl
@[simp] theorem State.irq_clash (p : Page) (b : Nat) : (s.irq p b).clash = s.clash := rfl
@[simp] theorem State.irq_hostReqs (p : Page) (b : Nat) : (s.irq p b).hostReqs = s.hostReqs := rfl
@[simp] theorem State.irq_inbound (p : Page) (b : Nat) : (s.irq p b).inbound = s.inbound := rfl
@[simp] theorem State.irq_hfiRst (p : Page) (b : Nat) : (s.irq p b).hfiRst = s.hfiRst := rfl
@[simp] theorem State.irq_hfiAck (p : Page) (b : Nat) : (s.irq p b).hfiAck = s.hfiAck := rfl
@[simp] theorem State.irq_frz1 (p : Page) (b : Nat) : (s.irq p b).frz1 = s.frz1 := rfl
@[simp] theorem State.irq_frzClk (p : Page) (b : Nat) : (s.irq p b).frzClk = s.frzClk := rfl
@[simp] theorem State.irq_timers (p : Page) (b : Nat) : (s.irq p b).timers = s.timers := rfl
@[simp] theorem State.irq_gsWait (p : Page) (b : Nat) : (s.irq p b).gsWait = s.gsWait := rfl
@[simp] theorem State.irq_capRise (p : Page) (b : Nat) : (s.irq p b).capRise = s.capRise := rfl
@[simp] theorem State.irq_pins (p : Page) (b : Nat) : (s.irq p b).pins = s.pins := rfl
@[simp] theorem State.irq_align (p : Page) (b : Nat) : (s.irq p b).align = s.align := rfl
@[simp] theorem State.irq_alignGood (p : Page) (b : Nat) : (s.irq p b).alignGood = s.alignGood := rfl
@[simp] theorem State.irq_alignDue (p : Page) (b : Nat) : (s.irq p b).alignDue = s.alignDue := rfl
@[simp] theorem State.irq_probe (p : Page) (b : Nat) : (s.irq p b).probe = s.probe := rfl
@[simp] theorem State.irq_phyReq (p : Page) (b : Nat) : (s.irq p b).phyReq = s.phyReq := rfl
@[simp] theorem State.irq_phyAck (p : Page) (b : Nat) : (s.irq p b).phyAck = s.phyAck := rfl
@[simp] theorem State.irq_retReq (p : Page) (b : Nat) : (s.irq p b).retReq = s.retReq := rfl
@[simp] theorem State.irq_retAck (p : Page) (b : Nat) : (s.irq p b).retAck = s.retAck := rfl
@[simp] theorem State.irq_trust (p : Page) (b : Nat) : (s.irq p b).trust = s.trust := rfl
@[simp] theorem State.irq_dbg (p : Page) (b : Nat) : (s.irq p b).dbg = s.dbg := rfl
@[simp] theorem State.irq_freeIndex (p : Page) (b : Nat) : (s.irq p b).freeIndex = s.freeIndex := rfl

/-! ### pageErr -/

@[simp] theorem State.pageErr_pending (p : Page) : (s.pageErr p).pending = s.pending := rfl
@[simp] theorem State.pageErr_porLow (p : Page) : (s.pageErr p).porLow = s.porLow := rfl
@[simp] theorem State.pageErr_rstLow (p : Page) : (s.pageErr p).rstLow = s.rstLow := rfl
@[simp] theorem State.pageErr_firstEdge (p : Page) : (s.pageErr p).firstEdge = s.firstEdge := rfl
@[simp] theorem State.pageErr_clkOk (p : Page) : (s.pageErr p).clkOk = s.clkOk := rfl
@[simp] theorem State.pageErr_beatno (p : Page) : (s.pageErr p).beatno = s.beatno := rfl
@[simp] theorem State.pageErr_fofs (p : Page) : (s.pageErr p).fofs = s.fofs := rfl
@[simp] theorem State.pageErr_rsp (p : Page) : (s.pageErr p).rsp = s.rsp := rfl
@[simp] theorem State.pageErr_hrpQ (p : Page) : (s.pageErr p).hrpQ = s.hrpQ := rfl
@[simp] theorem State.pageErr_hrpOut (p : Page) : (s.pageErr p).hrpOut = s.hrpOut := rfl
@[simp] theorem State.pageErr_hrpSeq (p : Page) : (s.pageErr p).hrpSeq = s.hrpSeq := rfl
@[simp] theorem State.pageErr_islandQ (p : Page) : (s.pageErr p).islandQ = s.islandQ := rfl
@[simp] theorem State.pageErr_clkLost (p : Page) : (s.pageErr p).clkLost = s.clkLost := rfl
@[simp] theorem State.pageErr_pinLost (p : Page) : (s.pageErr p).pinLost = s.pinLost := rfl
@[simp] theorem State.pageErr_callboard (p : Page) : (s.pageErr p).callboard = s.callboard := rfl
@[simp] theorem State.pageErr_permit (p : Page) : (s.pageErr p).permit = s.permit := rfl
@[simp] theorem State.pageErr_ringAhead (p : Page) : (s.pageErr p).ringAhead = s.ringAhead := rfl
@[simp] theorem State.pageErr_ringRel (p : Page) : (s.pageErr p).ringRel = s.ringRel := rfl
@[simp] theorem State.pageErr_ports (p : Page) : (s.pageErr p).ports = s.ports := rfl
@[simp] theorem State.pageErr_frames (p : Page) : (s.pageErr p).frames = s.frames := rfl
@[simp] theorem State.pageErr_fwdQ (p : Page) : (s.pageErr p).fwdQ = s.fwdQ := rfl
@[simp] theorem State.pageErr_groups (p : Page) : (s.pageErr p).groups = s.groups := rfl
@[simp] theorem State.pageErr_pipes (p : Page) : (s.pageErr p).pipes = s.pipes := rfl
@[simp] theorem State.pageErr_nextChain (p : Page) : (s.pageErr p).nextChain = s.nextChain := rfl
@[simp] theorem State.pageErr_curtain (p : Page) : (s.pageErr p).curtain = s.curtain := rfl
@[simp] theorem State.pageErr_store (p : Page) : (s.pageErr p).store = s.store := rfl
@[simp] theorem State.pageErr_posted (p : Page) : (s.pageErr p).posted = s.posted := rfl
@[simp] theorem State.pageErr_logQ (p : Page) : (s.pageErr p).logQ = s.logQ := rfl
@[simp] theorem State.pageErr_relNext (p : Page) : (s.pageErr p).relNext = s.relNext := rfl
@[simp] theorem State.pageErr_slots (p : Page) : (s.pageErr p).slots = s.slots := rfl
@[simp] theorem State.pageErr_engines (p : Page) : (s.pageErr p).engines = s.engines := rfl
@[simp] theorem State.pageErr_shared (p : Page) : (s.pageErr p).shared = s.shared := rfl
@[simp] theorem State.pageErr_walks (p : Page) : (s.pageErr p).walks = s.walks := rfl
@[simp] theorem State.pageErr_cstore (p : Page) : (s.pageErr p).cstore = s.cstore := rfl
@[simp] theorem State.pageErr_dispatch (p : Page) : (s.pageErr p).dispatch = s.dispatch := rfl
@[simp] theorem State.pageErr_sstore (p : Page) : (s.pageErr p).sstore = s.sstore := rfl
@[simp] theorem State.pageErr_csErr (p : Page) : (s.pageErr p).csErr = s.csErr := rfl
@[simp] theorem State.pageErr_ssErr (p : Page) : (s.pageErr p).ssErr = s.ssErr := rfl
@[simp] theorem State.pageErr_dispErr (p : Page) : (s.pageErr p).dispErr = s.dispErr := rfl
@[simp] theorem State.pageErr_ssWait (p : Page) : (s.pageErr p).ssWait = s.ssWait := rfl
@[simp] theorem State.pageErr_mem (p : Page) : (s.pageErr p).mem = s.mem := rfl
@[simp] theorem State.pageErr_memErr (p : Page) : (s.pageErr p).memErr = s.memErr := rfl
@[simp] theorem State.pageErr_retained (p : Page) : (s.pageErr p).retained = s.retained := rfl
@[simp] theorem State.pageErr_entering (p : Page) : (s.pageErr p).entering = s.entering := rfl
@[simp] theorem State.pageErr_waking (p : Page) : (s.pageErr p).waking = s.waking := rfl
@[simp] theorem State.pageErr_wakeFor (p : Page) : (s.pageErr p).wakeFor = s.wakeFor := rfl
@[simp] theorem State.pageErr_scrubs (p : Page) : (s.pageErr p).scrubs = s.scrubs := rfl
@[simp] theorem State.pageErr_bists (p : Page) : (s.pageErr p).bists = s.bists := rfl
@[simp] theorem State.pageErr_bulk (p : Page) : (s.pageErr p).bulk = s.bulk := rfl
@[simp] theorem State.pageErr_wiping (p : Page) : (s.pageErr p).wiping = s.wiping := rfl
@[simp] theorem State.pageErr_bursts (p : Page) : (s.pageErr p).bursts = s.bursts := rfl
@[simp] theorem State.pageErr_lastGrant (p : Page) : (s.pageErr p).lastGrant = s.lastGrant := rfl
@[simp] theorem State.pageErr_singles (p : Page) : (s.pageErr p).singles = s.singles := rfl
@[simp] theorem State.pageErr_clash (p : Page) : (s.pageErr p).clash = s.clash := rfl
@[simp] theorem State.pageErr_hostReqs (p : Page) : (s.pageErr p).hostReqs = s.hostReqs := rfl
@[simp] theorem State.pageErr_inbound (p : Page) : (s.pageErr p).inbound = s.inbound := rfl
@[simp] theorem State.pageErr_hfiRst (p : Page) : (s.pageErr p).hfiRst = s.hfiRst := rfl
@[simp] theorem State.pageErr_hfiAck (p : Page) : (s.pageErr p).hfiAck = s.hfiAck := rfl
@[simp] theorem State.pageErr_frz1 (p : Page) : (s.pageErr p).frz1 = s.frz1 := rfl
@[simp] theorem State.pageErr_frzClk (p : Page) : (s.pageErr p).frzClk = s.frzClk := rfl
@[simp] theorem State.pageErr_timers (p : Page) : (s.pageErr p).timers = s.timers := rfl
@[simp] theorem State.pageErr_gsWait (p : Page) : (s.pageErr p).gsWait = s.gsWait := rfl
@[simp] theorem State.pageErr_capRise (p : Page) : (s.pageErr p).capRise = s.capRise := rfl
@[simp] theorem State.pageErr_pins (p : Page) : (s.pageErr p).pins = s.pins := rfl
@[simp] theorem State.pageErr_align (p : Page) : (s.pageErr p).align = s.align := rfl
@[simp] theorem State.pageErr_alignGood (p : Page) : (s.pageErr p).alignGood = s.alignGood := rfl
@[simp] theorem State.pageErr_alignDue (p : Page) : (s.pageErr p).alignDue = s.alignDue := rfl
@[simp] theorem State.pageErr_probe (p : Page) : (s.pageErr p).probe = s.probe := rfl
@[simp] theorem State.pageErr_phyReq (p : Page) : (s.pageErr p).phyReq = s.phyReq := rfl
@[simp] theorem State.pageErr_phyAck (p : Page) : (s.pageErr p).phyAck = s.phyAck := rfl
@[simp] theorem State.pageErr_retReq (p : Page) : (s.pageErr p).retReq = s.retReq := rfl
@[simp] theorem State.pageErr_retAck (p : Page) : (s.pageErr p).retAck = s.retAck := rfl
@[simp] theorem State.pageErr_trust (p : Page) : (s.pageErr p).trust = s.trust := rfl
@[simp] theorem State.pageErr_dbg (p : Page) : (s.pageErr p).dbg = s.dbg := rfl
@[simp] theorem State.pageErr_freeIndex (p : Page) : (s.pageErr p).freeIndex = s.freeIndex := rfl

/-! ### countIrq -/

@[simp] theorem State.countIrq_pending (p : Page) (o b : Nat) : (s.countIrq p o b).pending = s.pending := rfl
@[simp] theorem State.countIrq_porLow (p : Page) (o b : Nat) : (s.countIrq p o b).porLow = s.porLow := rfl
@[simp] theorem State.countIrq_rstLow (p : Page) (o b : Nat) : (s.countIrq p o b).rstLow = s.rstLow := rfl
@[simp] theorem State.countIrq_firstEdge (p : Page) (o b : Nat) : (s.countIrq p o b).firstEdge = s.firstEdge := rfl
@[simp] theorem State.countIrq_clkOk (p : Page) (o b : Nat) : (s.countIrq p o b).clkOk = s.clkOk := rfl
@[simp] theorem State.countIrq_beatno (p : Page) (o b : Nat) : (s.countIrq p o b).beatno = s.beatno := rfl
@[simp] theorem State.countIrq_fofs (p : Page) (o b : Nat) : (s.countIrq p o b).fofs = s.fofs := rfl
@[simp] theorem State.countIrq_rsp (p : Page) (o b : Nat) : (s.countIrq p o b).rsp = s.rsp := rfl
@[simp] theorem State.countIrq_hrpQ (p : Page) (o b : Nat) : (s.countIrq p o b).hrpQ = s.hrpQ := rfl
@[simp] theorem State.countIrq_hrpOut (p : Page) (o b : Nat) : (s.countIrq p o b).hrpOut = s.hrpOut := rfl
@[simp] theorem State.countIrq_hrpSeq (p : Page) (o b : Nat) : (s.countIrq p o b).hrpSeq = s.hrpSeq := rfl
@[simp] theorem State.countIrq_islandQ (p : Page) (o b : Nat) : (s.countIrq p o b).islandQ = s.islandQ := rfl
@[simp] theorem State.countIrq_clkLost (p : Page) (o b : Nat) : (s.countIrq p o b).clkLost = s.clkLost := rfl
@[simp] theorem State.countIrq_pinLost (p : Page) (o b : Nat) : (s.countIrq p o b).pinLost = s.pinLost := rfl
@[simp] theorem State.countIrq_callboard (p : Page) (o b : Nat) : (s.countIrq p o b).callboard = s.callboard := rfl
@[simp] theorem State.countIrq_permit (p : Page) (o b : Nat) : (s.countIrq p o b).permit = s.permit := rfl
@[simp] theorem State.countIrq_ringAhead (p : Page) (o b : Nat) : (s.countIrq p o b).ringAhead = s.ringAhead := rfl
@[simp] theorem State.countIrq_ringRel (p : Page) (o b : Nat) : (s.countIrq p o b).ringRel = s.ringRel := rfl
@[simp] theorem State.countIrq_ports (p : Page) (o b : Nat) : (s.countIrq p o b).ports = s.ports := rfl
@[simp] theorem State.countIrq_frames (p : Page) (o b : Nat) : (s.countIrq p o b).frames = s.frames := rfl
@[simp] theorem State.countIrq_fwdQ (p : Page) (o b : Nat) : (s.countIrq p o b).fwdQ = s.fwdQ := rfl
@[simp] theorem State.countIrq_groups (p : Page) (o b : Nat) : (s.countIrq p o b).groups = s.groups := rfl
@[simp] theorem State.countIrq_pipes (p : Page) (o b : Nat) : (s.countIrq p o b).pipes = s.pipes := rfl
@[simp] theorem State.countIrq_nextChain (p : Page) (o b : Nat) : (s.countIrq p o b).nextChain = s.nextChain := rfl
@[simp] theorem State.countIrq_curtain (p : Page) (o b : Nat) : (s.countIrq p o b).curtain = s.curtain := rfl
@[simp] theorem State.countIrq_store (p : Page) (o b : Nat) : (s.countIrq p o b).store = s.store := rfl
@[simp] theorem State.countIrq_posted (p : Page) (o b : Nat) : (s.countIrq p o b).posted = s.posted := rfl
@[simp] theorem State.countIrq_logQ (p : Page) (o b : Nat) : (s.countIrq p o b).logQ = s.logQ := rfl
@[simp] theorem State.countIrq_relNext (p : Page) (o b : Nat) : (s.countIrq p o b).relNext = s.relNext := rfl
@[simp] theorem State.countIrq_slots (p : Page) (o b : Nat) : (s.countIrq p o b).slots = s.slots := rfl
@[simp] theorem State.countIrq_engines (p : Page) (o b : Nat) : (s.countIrq p o b).engines = s.engines := rfl
@[simp] theorem State.countIrq_shared (p : Page) (o b : Nat) : (s.countIrq p o b).shared = s.shared := rfl
@[simp] theorem State.countIrq_walks (p : Page) (o b : Nat) : (s.countIrq p o b).walks = s.walks := rfl
@[simp] theorem State.countIrq_cstore (p : Page) (o b : Nat) : (s.countIrq p o b).cstore = s.cstore := rfl
@[simp] theorem State.countIrq_dispatch (p : Page) (o b : Nat) : (s.countIrq p o b).dispatch = s.dispatch := rfl
@[simp] theorem State.countIrq_sstore (p : Page) (o b : Nat) : (s.countIrq p o b).sstore = s.sstore := rfl
@[simp] theorem State.countIrq_csErr (p : Page) (o b : Nat) : (s.countIrq p o b).csErr = s.csErr := rfl
@[simp] theorem State.countIrq_ssErr (p : Page) (o b : Nat) : (s.countIrq p o b).ssErr = s.ssErr := rfl
@[simp] theorem State.countIrq_dispErr (p : Page) (o b : Nat) : (s.countIrq p o b).dispErr = s.dispErr := rfl
@[simp] theorem State.countIrq_ssWait (p : Page) (o b : Nat) : (s.countIrq p o b).ssWait = s.ssWait := rfl
@[simp] theorem State.countIrq_mem (p : Page) (o b : Nat) : (s.countIrq p o b).mem = s.mem := rfl
@[simp] theorem State.countIrq_memErr (p : Page) (o b : Nat) : (s.countIrq p o b).memErr = s.memErr := rfl
@[simp] theorem State.countIrq_retained (p : Page) (o b : Nat) : (s.countIrq p o b).retained = s.retained := rfl
@[simp] theorem State.countIrq_entering (p : Page) (o b : Nat) : (s.countIrq p o b).entering = s.entering := rfl
@[simp] theorem State.countIrq_waking (p : Page) (o b : Nat) : (s.countIrq p o b).waking = s.waking := rfl
@[simp] theorem State.countIrq_wakeFor (p : Page) (o b : Nat) : (s.countIrq p o b).wakeFor = s.wakeFor := rfl
@[simp] theorem State.countIrq_scrubs (p : Page) (o b : Nat) : (s.countIrq p o b).scrubs = s.scrubs := rfl
@[simp] theorem State.countIrq_bists (p : Page) (o b : Nat) : (s.countIrq p o b).bists = s.bists := rfl
@[simp] theorem State.countIrq_bulk (p : Page) (o b : Nat) : (s.countIrq p o b).bulk = s.bulk := rfl
@[simp] theorem State.countIrq_wiping (p : Page) (o b : Nat) : (s.countIrq p o b).wiping = s.wiping := rfl
@[simp] theorem State.countIrq_bursts (p : Page) (o b : Nat) : (s.countIrq p o b).bursts = s.bursts := rfl
@[simp] theorem State.countIrq_lastGrant (p : Page) (o b : Nat) : (s.countIrq p o b).lastGrant = s.lastGrant := rfl
@[simp] theorem State.countIrq_singles (p : Page) (o b : Nat) : (s.countIrq p o b).singles = s.singles := rfl
@[simp] theorem State.countIrq_clash (p : Page) (o b : Nat) : (s.countIrq p o b).clash = s.clash := rfl
@[simp] theorem State.countIrq_hostReqs (p : Page) (o b : Nat) : (s.countIrq p o b).hostReqs = s.hostReqs := rfl
@[simp] theorem State.countIrq_inbound (p : Page) (o b : Nat) : (s.countIrq p o b).inbound = s.inbound := rfl
@[simp] theorem State.countIrq_hfiRst (p : Page) (o b : Nat) : (s.countIrq p o b).hfiRst = s.hfiRst := rfl
@[simp] theorem State.countIrq_hfiAck (p : Page) (o b : Nat) : (s.countIrq p o b).hfiAck = s.hfiAck := rfl
@[simp] theorem State.countIrq_frz1 (p : Page) (o b : Nat) : (s.countIrq p o b).frz1 = s.frz1 := rfl
@[simp] theorem State.countIrq_frzClk (p : Page) (o b : Nat) : (s.countIrq p o b).frzClk = s.frzClk := rfl
@[simp] theorem State.countIrq_timers (p : Page) (o b : Nat) : (s.countIrq p o b).timers = s.timers := rfl
@[simp] theorem State.countIrq_gsWait (p : Page) (o b : Nat) : (s.countIrq p o b).gsWait = s.gsWait := rfl
@[simp] theorem State.countIrq_capRise (p : Page) (o b : Nat) : (s.countIrq p o b).capRise = s.capRise := rfl
@[simp] theorem State.countIrq_pins (p : Page) (o b : Nat) : (s.countIrq p o b).pins = s.pins := rfl
@[simp] theorem State.countIrq_align (p : Page) (o b : Nat) : (s.countIrq p o b).align = s.align := rfl
@[simp] theorem State.countIrq_alignGood (p : Page) (o b : Nat) : (s.countIrq p o b).alignGood = s.alignGood := rfl
@[simp] theorem State.countIrq_alignDue (p : Page) (o b : Nat) : (s.countIrq p o b).alignDue = s.alignDue := rfl
@[simp] theorem State.countIrq_probe (p : Page) (o b : Nat) : (s.countIrq p o b).probe = s.probe := rfl
@[simp] theorem State.countIrq_phyReq (p : Page) (o b : Nat) : (s.countIrq p o b).phyReq = s.phyReq := rfl
@[simp] theorem State.countIrq_phyAck (p : Page) (o b : Nat) : (s.countIrq p o b).phyAck = s.phyAck := rfl
@[simp] theorem State.countIrq_retReq (p : Page) (o b : Nat) : (s.countIrq p o b).retReq = s.retReq := rfl
@[simp] theorem State.countIrq_retAck (p : Page) (o b : Nat) : (s.countIrq p o b).retAck = s.retAck := rfl
@[simp] theorem State.countIrq_trust (p : Page) (o b : Nat) : (s.countIrq p o b).trust = s.trust := rfl
@[simp] theorem State.countIrq_dbg (p : Page) (o b : Nat) : (s.countIrq p o b).dbg = s.dbg := rfl
@[simp] theorem State.countIrq_freeIndex (p : Page) (o b : Nat) : (s.countIrq p o b).freeIndex = s.freeIndex := rfl

/-! ### raiseSource -/

@[simp] theorem State.raiseSource_pending (e : Fin 257) (k : Nat) : (s.raiseSource e k).pending = s.pending := rfl
@[simp] theorem State.raiseSource_porLow (e : Fin 257) (k : Nat) : (s.raiseSource e k).porLow = s.porLow := rfl
@[simp] theorem State.raiseSource_rstLow (e : Fin 257) (k : Nat) : (s.raiseSource e k).rstLow = s.rstLow := rfl
@[simp] theorem State.raiseSource_firstEdge (e : Fin 257) (k : Nat) : (s.raiseSource e k).firstEdge = s.firstEdge := rfl
@[simp] theorem State.raiseSource_clkOk (e : Fin 257) (k : Nat) : (s.raiseSource e k).clkOk = s.clkOk := rfl
@[simp] theorem State.raiseSource_beatno (e : Fin 257) (k : Nat) : (s.raiseSource e k).beatno = s.beatno := rfl
@[simp] theorem State.raiseSource_fofs (e : Fin 257) (k : Nat) : (s.raiseSource e k).fofs = s.fofs := rfl
@[simp] theorem State.raiseSource_rsp (e : Fin 257) (k : Nat) : (s.raiseSource e k).rsp = s.rsp := rfl
@[simp] theorem State.raiseSource_hrpQ (e : Fin 257) (k : Nat) : (s.raiseSource e k).hrpQ = s.hrpQ := rfl
@[simp] theorem State.raiseSource_hrpOut (e : Fin 257) (k : Nat) : (s.raiseSource e k).hrpOut = s.hrpOut := rfl
@[simp] theorem State.raiseSource_hrpSeq (e : Fin 257) (k : Nat) : (s.raiseSource e k).hrpSeq = s.hrpSeq := rfl
@[simp] theorem State.raiseSource_islandQ (e : Fin 257) (k : Nat) : (s.raiseSource e k).islandQ = s.islandQ := rfl
@[simp] theorem State.raiseSource_clkLost (e : Fin 257) (k : Nat) : (s.raiseSource e k).clkLost = s.clkLost := rfl
@[simp] theorem State.raiseSource_pinLost (e : Fin 257) (k : Nat) : (s.raiseSource e k).pinLost = s.pinLost := rfl
@[simp] theorem State.raiseSource_callboard (e : Fin 257) (k : Nat) : (s.raiseSource e k).callboard = s.callboard := rfl
@[simp] theorem State.raiseSource_permit (e : Fin 257) (k : Nat) : (s.raiseSource e k).permit = s.permit := rfl
@[simp] theorem State.raiseSource_ringAhead (e : Fin 257) (k : Nat) : (s.raiseSource e k).ringAhead = s.ringAhead := rfl
@[simp] theorem State.raiseSource_ringRel (e : Fin 257) (k : Nat) : (s.raiseSource e k).ringRel = s.ringRel := rfl
@[simp] theorem State.raiseSource_ports (e : Fin 257) (k : Nat) : (s.raiseSource e k).ports = s.ports := rfl
@[simp] theorem State.raiseSource_frames (e : Fin 257) (k : Nat) : (s.raiseSource e k).frames = s.frames := rfl
@[simp] theorem State.raiseSource_fwdQ (e : Fin 257) (k : Nat) : (s.raiseSource e k).fwdQ = s.fwdQ := rfl
@[simp] theorem State.raiseSource_groups (e : Fin 257) (k : Nat) : (s.raiseSource e k).groups = s.groups := rfl
@[simp] theorem State.raiseSource_pipes (e : Fin 257) (k : Nat) : (s.raiseSource e k).pipes = s.pipes := rfl
@[simp] theorem State.raiseSource_nextChain (e : Fin 257) (k : Nat) : (s.raiseSource e k).nextChain = s.nextChain := rfl
@[simp] theorem State.raiseSource_curtain (e : Fin 257) (k : Nat) : (s.raiseSource e k).curtain = s.curtain := rfl
@[simp] theorem State.raiseSource_store (e : Fin 257) (k : Nat) : (s.raiseSource e k).store = s.store := rfl
@[simp] theorem State.raiseSource_posted (e : Fin 257) (k : Nat) : (s.raiseSource e k).posted = s.posted := rfl
@[simp] theorem State.raiseSource_logQ (e : Fin 257) (k : Nat) : (s.raiseSource e k).logQ = s.logQ := rfl
@[simp] theorem State.raiseSource_relNext (e : Fin 257) (k : Nat) : (s.raiseSource e k).relNext = s.relNext := rfl
@[simp] theorem State.raiseSource_slots (e : Fin 257) (k : Nat) : (s.raiseSource e k).slots = s.slots := rfl
@[simp] theorem State.raiseSource_engines (e : Fin 257) (k : Nat) : (s.raiseSource e k).engines = s.engines := rfl
@[simp] theorem State.raiseSource_shared (e : Fin 257) (k : Nat) : (s.raiseSource e k).shared = s.shared := rfl
@[simp] theorem State.raiseSource_walks (e : Fin 257) (k : Nat) : (s.raiseSource e k).walks = s.walks := rfl
@[simp] theorem State.raiseSource_cstore (e : Fin 257) (k : Nat) : (s.raiseSource e k).cstore = s.cstore := rfl
@[simp] theorem State.raiseSource_dispatch (e : Fin 257) (k : Nat) : (s.raiseSource e k).dispatch = s.dispatch := rfl
@[simp] theorem State.raiseSource_sstore (e : Fin 257) (k : Nat) : (s.raiseSource e k).sstore = s.sstore := rfl
@[simp] theorem State.raiseSource_csErr (e : Fin 257) (k : Nat) : (s.raiseSource e k).csErr = s.csErr := rfl
@[simp] theorem State.raiseSource_ssErr (e : Fin 257) (k : Nat) : (s.raiseSource e k).ssErr = s.ssErr := rfl
@[simp] theorem State.raiseSource_dispErr (e : Fin 257) (k : Nat) : (s.raiseSource e k).dispErr = s.dispErr := rfl
@[simp] theorem State.raiseSource_ssWait (e : Fin 257) (k : Nat) : (s.raiseSource e k).ssWait = s.ssWait := rfl
@[simp] theorem State.raiseSource_mem (e : Fin 257) (k : Nat) : (s.raiseSource e k).mem = s.mem := rfl
@[simp] theorem State.raiseSource_memErr (e : Fin 257) (k : Nat) : (s.raiseSource e k).memErr = s.memErr := rfl
@[simp] theorem State.raiseSource_retained (e : Fin 257) (k : Nat) : (s.raiseSource e k).retained = s.retained := rfl
@[simp] theorem State.raiseSource_entering (e : Fin 257) (k : Nat) : (s.raiseSource e k).entering = s.entering := rfl
@[simp] theorem State.raiseSource_waking (e : Fin 257) (k : Nat) : (s.raiseSource e k).waking = s.waking := rfl
@[simp] theorem State.raiseSource_wakeFor (e : Fin 257) (k : Nat) : (s.raiseSource e k).wakeFor = s.wakeFor := rfl
@[simp] theorem State.raiseSource_scrubs (e : Fin 257) (k : Nat) : (s.raiseSource e k).scrubs = s.scrubs := rfl
@[simp] theorem State.raiseSource_bists (e : Fin 257) (k : Nat) : (s.raiseSource e k).bists = s.bists := rfl
@[simp] theorem State.raiseSource_bulk (e : Fin 257) (k : Nat) : (s.raiseSource e k).bulk = s.bulk := rfl
@[simp] theorem State.raiseSource_wiping (e : Fin 257) (k : Nat) : (s.raiseSource e k).wiping = s.wiping := rfl
@[simp] theorem State.raiseSource_bursts (e : Fin 257) (k : Nat) : (s.raiseSource e k).bursts = s.bursts := rfl
@[simp] theorem State.raiseSource_lastGrant (e : Fin 257) (k : Nat) : (s.raiseSource e k).lastGrant = s.lastGrant := rfl
@[simp] theorem State.raiseSource_singles (e : Fin 257) (k : Nat) : (s.raiseSource e k).singles = s.singles := rfl
@[simp] theorem State.raiseSource_clash (e : Fin 257) (k : Nat) : (s.raiseSource e k).clash = s.clash := rfl
@[simp] theorem State.raiseSource_hostReqs (e : Fin 257) (k : Nat) : (s.raiseSource e k).hostReqs = s.hostReqs := rfl
@[simp] theorem State.raiseSource_inbound (e : Fin 257) (k : Nat) : (s.raiseSource e k).inbound = s.inbound := rfl
@[simp] theorem State.raiseSource_hfiRst (e : Fin 257) (k : Nat) : (s.raiseSource e k).hfiRst = s.hfiRst := rfl
@[simp] theorem State.raiseSource_hfiAck (e : Fin 257) (k : Nat) : (s.raiseSource e k).hfiAck = s.hfiAck := rfl
@[simp] theorem State.raiseSource_frz1 (e : Fin 257) (k : Nat) : (s.raiseSource e k).frz1 = s.frz1 := rfl
@[simp] theorem State.raiseSource_frzClk (e : Fin 257) (k : Nat) : (s.raiseSource e k).frzClk = s.frzClk := rfl
@[simp] theorem State.raiseSource_timers (e : Fin 257) (k : Nat) : (s.raiseSource e k).timers = s.timers := rfl
@[simp] theorem State.raiseSource_gsWait (e : Fin 257) (k : Nat) : (s.raiseSource e k).gsWait = s.gsWait := rfl
@[simp] theorem State.raiseSource_capRise (e : Fin 257) (k : Nat) : (s.raiseSource e k).capRise = s.capRise := rfl
@[simp] theorem State.raiseSource_pins (e : Fin 257) (k : Nat) : (s.raiseSource e k).pins = s.pins := rfl
@[simp] theorem State.raiseSource_align (e : Fin 257) (k : Nat) : (s.raiseSource e k).align = s.align := rfl
@[simp] theorem State.raiseSource_alignGood (e : Fin 257) (k : Nat) : (s.raiseSource e k).alignGood = s.alignGood := rfl
@[simp] theorem State.raiseSource_alignDue (e : Fin 257) (k : Nat) : (s.raiseSource e k).alignDue = s.alignDue := rfl
@[simp] theorem State.raiseSource_probe (e : Fin 257) (k : Nat) : (s.raiseSource e k).probe = s.probe := rfl
@[simp] theorem State.raiseSource_phyReq (e : Fin 257) (k : Nat) : (s.raiseSource e k).phyReq = s.phyReq := rfl
@[simp] theorem State.raiseSource_phyAck (e : Fin 257) (k : Nat) : (s.raiseSource e k).phyAck = s.phyAck := rfl
@[simp] theorem State.raiseSource_retReq (e : Fin 257) (k : Nat) : (s.raiseSource e k).retReq = s.retReq := rfl
@[simp] theorem State.raiseSource_retAck (e : Fin 257) (k : Nat) : (s.raiseSource e k).retAck = s.retAck := rfl
@[simp] theorem State.raiseSource_trust (e : Fin 257) (k : Nat) : (s.raiseSource e k).trust = s.trust := rfl
@[simp] theorem State.raiseSource_dbg (e : Fin 257) (k : Nat) : (s.raiseSource e k).dbg = s.dbg := rfl
@[simp] theorem State.raiseSource_freeIndex (e : Fin 257) (k : Nat) : (s.raiseSource e k).freeIndex = s.freeIndex := rfl

/-! ### modEng -/

@[simp] theorem State.modEng_pending (e : Fin 257) (f : Engine → Engine) : (s.modEng e f).pending = s.pending := rfl
@[simp] theorem State.modEng_porLow (e : Fin 257) (f : Engine → Engine) : (s.modEng e f).porLow = s.porLow := rfl
@[simp] theorem State.modEng_rstLow (e : Fin 257) (f : Engine → Engine) : (s.modEng e f).rstLow = s.rstLow := rfl
@[simp] theorem State.modEng_firstEdge (e : Fin 257) (f : Engine → Engine) : (s.modEng e f).firstEdge = s.firstEdge := rfl
@[simp] theorem State.modEng_clkOk (e : Fin 257) (f : Engine → Engine) : (s.modEng e f).clkOk = s.clkOk := rfl
@[simp] theorem State.modEng_beatno (e : Fin 257) (f : Engine → Engine) : (s.modEng e f).beatno = s.beatno := rfl
@[simp] theorem State.modEng_fofs (e : Fin 257) (f : Engine → Engine) : (s.modEng e f).fofs = s.fofs := rfl
@[simp] theorem State.modEng_regs (e : Fin 257) (f : Engine → Engine) : (s.modEng e f).regs = s.regs := rfl
@[simp] theorem State.modEng_rsp (e : Fin 257) (f : Engine → Engine) : (s.modEng e f).rsp = s.rsp := rfl
@[simp] theorem State.modEng_hrpQ (e : Fin 257) (f : Engine → Engine) : (s.modEng e f).hrpQ = s.hrpQ := rfl
@[simp] theorem State.modEng_hrpOut (e : Fin 257) (f : Engine → Engine) : (s.modEng e f).hrpOut = s.hrpOut := rfl
@[simp] theorem State.modEng_hrpSeq (e : Fin 257) (f : Engine → Engine) : (s.modEng e f).hrpSeq = s.hrpSeq := rfl
@[simp] theorem State.modEng_islandQ (e : Fin 257) (f : Engine → Engine) : (s.modEng e f).islandQ = s.islandQ := rfl
@[simp] theorem State.modEng_clkLost (e : Fin 257) (f : Engine → Engine) : (s.modEng e f).clkLost = s.clkLost := rfl
@[simp] theorem State.modEng_pinLost (e : Fin 257) (f : Engine → Engine) : (s.modEng e f).pinLost = s.pinLost := rfl
@[simp] theorem State.modEng_callboard (e : Fin 257) (f : Engine → Engine) : (s.modEng e f).callboard = s.callboard := rfl
@[simp] theorem State.modEng_permit (e : Fin 257) (f : Engine → Engine) : (s.modEng e f).permit = s.permit := rfl
@[simp] theorem State.modEng_ringAhead (e : Fin 257) (f : Engine → Engine) : (s.modEng e f).ringAhead = s.ringAhead := rfl
@[simp] theorem State.modEng_ringRel (e : Fin 257) (f : Engine → Engine) : (s.modEng e f).ringRel = s.ringRel := rfl
@[simp] theorem State.modEng_ports (e : Fin 257) (f : Engine → Engine) : (s.modEng e f).ports = s.ports := rfl
@[simp] theorem State.modEng_frames (e : Fin 257) (f : Engine → Engine) : (s.modEng e f).frames = s.frames := rfl
@[simp] theorem State.modEng_fwdQ (e : Fin 257) (f : Engine → Engine) : (s.modEng e f).fwdQ = s.fwdQ := rfl
@[simp] theorem State.modEng_groups (e : Fin 257) (f : Engine → Engine) : (s.modEng e f).groups = s.groups := rfl
@[simp] theorem State.modEng_pipes (e : Fin 257) (f : Engine → Engine) : (s.modEng e f).pipes = s.pipes := rfl
@[simp] theorem State.modEng_nextChain (e : Fin 257) (f : Engine → Engine) : (s.modEng e f).nextChain = s.nextChain := rfl
@[simp] theorem State.modEng_curtain (e : Fin 257) (f : Engine → Engine) : (s.modEng e f).curtain = s.curtain := rfl
@[simp] theorem State.modEng_store (e : Fin 257) (f : Engine → Engine) : (s.modEng e f).store = s.store := rfl
@[simp] theorem State.modEng_posted (e : Fin 257) (f : Engine → Engine) : (s.modEng e f).posted = s.posted := rfl
@[simp] theorem State.modEng_logQ (e : Fin 257) (f : Engine → Engine) : (s.modEng e f).logQ = s.logQ := rfl
@[simp] theorem State.modEng_relNext (e : Fin 257) (f : Engine → Engine) : (s.modEng e f).relNext = s.relNext := rfl
@[simp] theorem State.modEng_slots (e : Fin 257) (f : Engine → Engine) : (s.modEng e f).slots = s.slots := rfl
@[simp] theorem State.modEng_shared (e : Fin 257) (f : Engine → Engine) : (s.modEng e f).shared = s.shared := rfl
@[simp] theorem State.modEng_walks (e : Fin 257) (f : Engine → Engine) : (s.modEng e f).walks = s.walks := rfl
@[simp] theorem State.modEng_cstore (e : Fin 257) (f : Engine → Engine) : (s.modEng e f).cstore = s.cstore := rfl
@[simp] theorem State.modEng_dispatch (e : Fin 257) (f : Engine → Engine) : (s.modEng e f).dispatch = s.dispatch := rfl
@[simp] theorem State.modEng_sstore (e : Fin 257) (f : Engine → Engine) : (s.modEng e f).sstore = s.sstore := rfl
@[simp] theorem State.modEng_csErr (e : Fin 257) (f : Engine → Engine) : (s.modEng e f).csErr = s.csErr := rfl
@[simp] theorem State.modEng_ssErr (e : Fin 257) (f : Engine → Engine) : (s.modEng e f).ssErr = s.ssErr := rfl
@[simp] theorem State.modEng_dispErr (e : Fin 257) (f : Engine → Engine) : (s.modEng e f).dispErr = s.dispErr := rfl
@[simp] theorem State.modEng_ssWait (e : Fin 257) (f : Engine → Engine) : (s.modEng e f).ssWait = s.ssWait := rfl
@[simp] theorem State.modEng_mem (e : Fin 257) (f : Engine → Engine) : (s.modEng e f).mem = s.mem := rfl
@[simp] theorem State.modEng_memErr (e : Fin 257) (f : Engine → Engine) : (s.modEng e f).memErr = s.memErr := rfl
@[simp] theorem State.modEng_retained (e : Fin 257) (f : Engine → Engine) : (s.modEng e f).retained = s.retained := rfl
@[simp] theorem State.modEng_entering (e : Fin 257) (f : Engine → Engine) : (s.modEng e f).entering = s.entering := rfl
@[simp] theorem State.modEng_waking (e : Fin 257) (f : Engine → Engine) : (s.modEng e f).waking = s.waking := rfl
@[simp] theorem State.modEng_wakeFor (e : Fin 257) (f : Engine → Engine) : (s.modEng e f).wakeFor = s.wakeFor := rfl
@[simp] theorem State.modEng_scrubs (e : Fin 257) (f : Engine → Engine) : (s.modEng e f).scrubs = s.scrubs := rfl
@[simp] theorem State.modEng_bists (e : Fin 257) (f : Engine → Engine) : (s.modEng e f).bists = s.bists := rfl
@[simp] theorem State.modEng_bulk (e : Fin 257) (f : Engine → Engine) : (s.modEng e f).bulk = s.bulk := rfl
@[simp] theorem State.modEng_wiping (e : Fin 257) (f : Engine → Engine) : (s.modEng e f).wiping = s.wiping := rfl
@[simp] theorem State.modEng_bursts (e : Fin 257) (f : Engine → Engine) : (s.modEng e f).bursts = s.bursts := rfl
@[simp] theorem State.modEng_lastGrant (e : Fin 257) (f : Engine → Engine) : (s.modEng e f).lastGrant = s.lastGrant := rfl
@[simp] theorem State.modEng_singles (e : Fin 257) (f : Engine → Engine) : (s.modEng e f).singles = s.singles := rfl
@[simp] theorem State.modEng_clash (e : Fin 257) (f : Engine → Engine) : (s.modEng e f).clash = s.clash := rfl
@[simp] theorem State.modEng_hostReqs (e : Fin 257) (f : Engine → Engine) : (s.modEng e f).hostReqs = s.hostReqs := rfl
@[simp] theorem State.modEng_inbound (e : Fin 257) (f : Engine → Engine) : (s.modEng e f).inbound = s.inbound := rfl
@[simp] theorem State.modEng_hfiRst (e : Fin 257) (f : Engine → Engine) : (s.modEng e f).hfiRst = s.hfiRst := rfl
@[simp] theorem State.modEng_hfiAck (e : Fin 257) (f : Engine → Engine) : (s.modEng e f).hfiAck = s.hfiAck := rfl
@[simp] theorem State.modEng_frz1 (e : Fin 257) (f : Engine → Engine) : (s.modEng e f).frz1 = s.frz1 := rfl
@[simp] theorem State.modEng_frzClk (e : Fin 257) (f : Engine → Engine) : (s.modEng e f).frzClk = s.frzClk := rfl
@[simp] theorem State.modEng_timers (e : Fin 257) (f : Engine → Engine) : (s.modEng e f).timers = s.timers := rfl
@[simp] theorem State.modEng_gsWait (e : Fin 257) (f : Engine → Engine) : (s.modEng e f).gsWait = s.gsWait := rfl
@[simp] theorem State.modEng_capRise (e : Fin 257) (f : Engine → Engine) : (s.modEng e f).capRise = s.capRise := rfl
@[simp] theorem State.modEng_pins (e : Fin 257) (f : Engine → Engine) : (s.modEng e f).pins = s.pins := rfl
@[simp] theorem State.modEng_align (e : Fin 257) (f : Engine → Engine) : (s.modEng e f).align = s.align := rfl
@[simp] theorem State.modEng_alignGood (e : Fin 257) (f : Engine → Engine) : (s.modEng e f).alignGood = s.alignGood := rfl
@[simp] theorem State.modEng_alignDue (e : Fin 257) (f : Engine → Engine) : (s.modEng e f).alignDue = s.alignDue := rfl
@[simp] theorem State.modEng_probe (e : Fin 257) (f : Engine → Engine) : (s.modEng e f).probe = s.probe := rfl
@[simp] theorem State.modEng_phyReq (e : Fin 257) (f : Engine → Engine) : (s.modEng e f).phyReq = s.phyReq := rfl
@[simp] theorem State.modEng_phyAck (e : Fin 257) (f : Engine → Engine) : (s.modEng e f).phyAck = s.phyAck := rfl
@[simp] theorem State.modEng_retReq (e : Fin 257) (f : Engine → Engine) : (s.modEng e f).retReq = s.retReq := rfl
@[simp] theorem State.modEng_retAck (e : Fin 257) (f : Engine → Engine) : (s.modEng e f).retAck = s.retAck := rfl
@[simp] theorem State.modEng_trust (e : Fin 257) (f : Engine → Engine) : (s.modEng e f).trust = s.trust := rfl
@[simp] theorem State.modEng_dbg (e : Fin 257) (f : Engine → Engine) : (s.modEng e f).dbg = s.dbg := rfl
@[simp] theorem State.modEng_freeIndex (e : Fin 257) (f : Engine → Engine) : (s.modEng e f).freeIndex = s.freeIndex := rfl

/-! ### setEvl -/

@[simp] theorem State.setEvl_pending (e : Fin 257) (i : Nat) : (s.setEvl e i).pending = s.pending := rfl
@[simp] theorem State.setEvl_porLow (e : Fin 257) (i : Nat) : (s.setEvl e i).porLow = s.porLow := rfl
@[simp] theorem State.setEvl_rstLow (e : Fin 257) (i : Nat) : (s.setEvl e i).rstLow = s.rstLow := rfl
@[simp] theorem State.setEvl_firstEdge (e : Fin 257) (i : Nat) : (s.setEvl e i).firstEdge = s.firstEdge := rfl
@[simp] theorem State.setEvl_clkOk (e : Fin 257) (i : Nat) : (s.setEvl e i).clkOk = s.clkOk := rfl
@[simp] theorem State.setEvl_beatno (e : Fin 257) (i : Nat) : (s.setEvl e i).beatno = s.beatno := rfl
@[simp] theorem State.setEvl_fofs (e : Fin 257) (i : Nat) : (s.setEvl e i).fofs = s.fofs := rfl
@[simp] theorem State.setEvl_regs (e : Fin 257) (i : Nat) : (s.setEvl e i).regs = s.regs := rfl
@[simp] theorem State.setEvl_rsp (e : Fin 257) (i : Nat) : (s.setEvl e i).rsp = s.rsp := rfl
@[simp] theorem State.setEvl_hrpQ (e : Fin 257) (i : Nat) : (s.setEvl e i).hrpQ = s.hrpQ := rfl
@[simp] theorem State.setEvl_hrpOut (e : Fin 257) (i : Nat) : (s.setEvl e i).hrpOut = s.hrpOut := rfl
@[simp] theorem State.setEvl_hrpSeq (e : Fin 257) (i : Nat) : (s.setEvl e i).hrpSeq = s.hrpSeq := rfl
@[simp] theorem State.setEvl_islandQ (e : Fin 257) (i : Nat) : (s.setEvl e i).islandQ = s.islandQ := rfl
@[simp] theorem State.setEvl_clkLost (e : Fin 257) (i : Nat) : (s.setEvl e i).clkLost = s.clkLost := rfl
@[simp] theorem State.setEvl_pinLost (e : Fin 257) (i : Nat) : (s.setEvl e i).pinLost = s.pinLost := rfl
@[simp] theorem State.setEvl_callboard (e : Fin 257) (i : Nat) : (s.setEvl e i).callboard = s.callboard := rfl
@[simp] theorem State.setEvl_permit (e : Fin 257) (i : Nat) : (s.setEvl e i).permit = s.permit := rfl
@[simp] theorem State.setEvl_ringAhead (e : Fin 257) (i : Nat) : (s.setEvl e i).ringAhead = s.ringAhead := rfl
@[simp] theorem State.setEvl_ringRel (e : Fin 257) (i : Nat) : (s.setEvl e i).ringRel = s.ringRel := rfl
@[simp] theorem State.setEvl_ports (e : Fin 257) (i : Nat) : (s.setEvl e i).ports = s.ports := rfl
@[simp] theorem State.setEvl_frames (e : Fin 257) (i : Nat) : (s.setEvl e i).frames = s.frames := rfl
@[simp] theorem State.setEvl_fwdQ (e : Fin 257) (i : Nat) : (s.setEvl e i).fwdQ = s.fwdQ := rfl
@[simp] theorem State.setEvl_groups (e : Fin 257) (i : Nat) : (s.setEvl e i).groups = s.groups := rfl
@[simp] theorem State.setEvl_pipes (e : Fin 257) (i : Nat) : (s.setEvl e i).pipes = s.pipes := rfl
@[simp] theorem State.setEvl_nextChain (e : Fin 257) (i : Nat) : (s.setEvl e i).nextChain = s.nextChain := rfl
@[simp] theorem State.setEvl_curtain (e : Fin 257) (i : Nat) : (s.setEvl e i).curtain = s.curtain := rfl
@[simp] theorem State.setEvl_store (e : Fin 257) (i : Nat) : (s.setEvl e i).store = s.store := rfl
@[simp] theorem State.setEvl_posted (e : Fin 257) (i : Nat) : (s.setEvl e i).posted = s.posted := rfl
@[simp] theorem State.setEvl_logQ (e : Fin 257) (i : Nat) : (s.setEvl e i).logQ = s.logQ := rfl
@[simp] theorem State.setEvl_relNext (e : Fin 257) (i : Nat) : (s.setEvl e i).relNext = s.relNext := rfl
@[simp] theorem State.setEvl_slots (e : Fin 257) (i : Nat) : (s.setEvl e i).slots = s.slots := rfl
@[simp] theorem State.setEvl_shared (e : Fin 257) (i : Nat) : (s.setEvl e i).shared = s.shared := rfl
@[simp] theorem State.setEvl_walks (e : Fin 257) (i : Nat) : (s.setEvl e i).walks = s.walks := rfl
@[simp] theorem State.setEvl_cstore (e : Fin 257) (i : Nat) : (s.setEvl e i).cstore = s.cstore := rfl
@[simp] theorem State.setEvl_dispatch (e : Fin 257) (i : Nat) : (s.setEvl e i).dispatch = s.dispatch := rfl
@[simp] theorem State.setEvl_sstore (e : Fin 257) (i : Nat) : (s.setEvl e i).sstore = s.sstore := rfl
@[simp] theorem State.setEvl_csErr (e : Fin 257) (i : Nat) : (s.setEvl e i).csErr = s.csErr := rfl
@[simp] theorem State.setEvl_ssErr (e : Fin 257) (i : Nat) : (s.setEvl e i).ssErr = s.ssErr := rfl
@[simp] theorem State.setEvl_dispErr (e : Fin 257) (i : Nat) : (s.setEvl e i).dispErr = s.dispErr := rfl
@[simp] theorem State.setEvl_ssWait (e : Fin 257) (i : Nat) : (s.setEvl e i).ssWait = s.ssWait := rfl
@[simp] theorem State.setEvl_mem (e : Fin 257) (i : Nat) : (s.setEvl e i).mem = s.mem := rfl
@[simp] theorem State.setEvl_memErr (e : Fin 257) (i : Nat) : (s.setEvl e i).memErr = s.memErr := rfl
@[simp] theorem State.setEvl_retained (e : Fin 257) (i : Nat) : (s.setEvl e i).retained = s.retained := rfl
@[simp] theorem State.setEvl_entering (e : Fin 257) (i : Nat) : (s.setEvl e i).entering = s.entering := rfl
@[simp] theorem State.setEvl_waking (e : Fin 257) (i : Nat) : (s.setEvl e i).waking = s.waking := rfl
@[simp] theorem State.setEvl_wakeFor (e : Fin 257) (i : Nat) : (s.setEvl e i).wakeFor = s.wakeFor := rfl
@[simp] theorem State.setEvl_scrubs (e : Fin 257) (i : Nat) : (s.setEvl e i).scrubs = s.scrubs := rfl
@[simp] theorem State.setEvl_bists (e : Fin 257) (i : Nat) : (s.setEvl e i).bists = s.bists := rfl
@[simp] theorem State.setEvl_bulk (e : Fin 257) (i : Nat) : (s.setEvl e i).bulk = s.bulk := rfl
@[simp] theorem State.setEvl_wiping (e : Fin 257) (i : Nat) : (s.setEvl e i).wiping = s.wiping := rfl
@[simp] theorem State.setEvl_bursts (e : Fin 257) (i : Nat) : (s.setEvl e i).bursts = s.bursts := rfl
@[simp] theorem State.setEvl_lastGrant (e : Fin 257) (i : Nat) : (s.setEvl e i).lastGrant = s.lastGrant := rfl
@[simp] theorem State.setEvl_singles (e : Fin 257) (i : Nat) : (s.setEvl e i).singles = s.singles := rfl
@[simp] theorem State.setEvl_clash (e : Fin 257) (i : Nat) : (s.setEvl e i).clash = s.clash := rfl
@[simp] theorem State.setEvl_hostReqs (e : Fin 257) (i : Nat) : (s.setEvl e i).hostReqs = s.hostReqs := rfl
@[simp] theorem State.setEvl_inbound (e : Fin 257) (i : Nat) : (s.setEvl e i).inbound = s.inbound := rfl
@[simp] theorem State.setEvl_hfiRst (e : Fin 257) (i : Nat) : (s.setEvl e i).hfiRst = s.hfiRst := rfl
@[simp] theorem State.setEvl_hfiAck (e : Fin 257) (i : Nat) : (s.setEvl e i).hfiAck = s.hfiAck := rfl
@[simp] theorem State.setEvl_frz1 (e : Fin 257) (i : Nat) : (s.setEvl e i).frz1 = s.frz1 := rfl
@[simp] theorem State.setEvl_frzClk (e : Fin 257) (i : Nat) : (s.setEvl e i).frzClk = s.frzClk := rfl
@[simp] theorem State.setEvl_timers (e : Fin 257) (i : Nat) : (s.setEvl e i).timers = s.timers := rfl
@[simp] theorem State.setEvl_gsWait (e : Fin 257) (i : Nat) : (s.setEvl e i).gsWait = s.gsWait := rfl
@[simp] theorem State.setEvl_capRise (e : Fin 257) (i : Nat) : (s.setEvl e i).capRise = s.capRise := rfl
@[simp] theorem State.setEvl_pins (e : Fin 257) (i : Nat) : (s.setEvl e i).pins = s.pins := rfl
@[simp] theorem State.setEvl_align (e : Fin 257) (i : Nat) : (s.setEvl e i).align = s.align := rfl
@[simp] theorem State.setEvl_alignGood (e : Fin 257) (i : Nat) : (s.setEvl e i).alignGood = s.alignGood := rfl
@[simp] theorem State.setEvl_alignDue (e : Fin 257) (i : Nat) : (s.setEvl e i).alignDue = s.alignDue := rfl
@[simp] theorem State.setEvl_probe (e : Fin 257) (i : Nat) : (s.setEvl e i).probe = s.probe := rfl
@[simp] theorem State.setEvl_phyReq (e : Fin 257) (i : Nat) : (s.setEvl e i).phyReq = s.phyReq := rfl
@[simp] theorem State.setEvl_phyAck (e : Fin 257) (i : Nat) : (s.setEvl e i).phyAck = s.phyAck := rfl
@[simp] theorem State.setEvl_retReq (e : Fin 257) (i : Nat) : (s.setEvl e i).retReq = s.retReq := rfl
@[simp] theorem State.setEvl_retAck (e : Fin 257) (i : Nat) : (s.setEvl e i).retAck = s.retAck := rfl
@[simp] theorem State.setEvl_trust (e : Fin 257) (i : Nat) : (s.setEvl e i).trust = s.trust := rfl
@[simp] theorem State.setEvl_dbg (e : Fin 257) (i : Nat) : (s.setEvl e i).dbg = s.dbg := rfl
@[simp] theorem State.setEvl_freeIndex (e : Fin 257) (i : Nat) : (s.setEvl e i).freeIndex = s.freeIndex := rfl

/-! ### modPort -/

@[simp] theorem State.modPort_pending (n : Fin 128) (f : Port → Port) : (s.modPort n f).pending = s.pending := rfl
@[simp] theorem State.modPort_porLow (n : Fin 128) (f : Port → Port) : (s.modPort n f).porLow = s.porLow := rfl
@[simp] theorem State.modPort_rstLow (n : Fin 128) (f : Port → Port) : (s.modPort n f).rstLow = s.rstLow := rfl
@[simp] theorem State.modPort_firstEdge (n : Fin 128) (f : Port → Port) : (s.modPort n f).firstEdge = s.firstEdge := rfl
@[simp] theorem State.modPort_clkOk (n : Fin 128) (f : Port → Port) : (s.modPort n f).clkOk = s.clkOk := rfl
@[simp] theorem State.modPort_beatno (n : Fin 128) (f : Port → Port) : (s.modPort n f).beatno = s.beatno := rfl
@[simp] theorem State.modPort_fofs (n : Fin 128) (f : Port → Port) : (s.modPort n f).fofs = s.fofs := rfl
@[simp] theorem State.modPort_regs (n : Fin 128) (f : Port → Port) : (s.modPort n f).regs = s.regs := rfl
@[simp] theorem State.modPort_rsp (n : Fin 128) (f : Port → Port) : (s.modPort n f).rsp = s.rsp := rfl
@[simp] theorem State.modPort_hrpQ (n : Fin 128) (f : Port → Port) : (s.modPort n f).hrpQ = s.hrpQ := rfl
@[simp] theorem State.modPort_hrpOut (n : Fin 128) (f : Port → Port) : (s.modPort n f).hrpOut = s.hrpOut := rfl
@[simp] theorem State.modPort_hrpSeq (n : Fin 128) (f : Port → Port) : (s.modPort n f).hrpSeq = s.hrpSeq := rfl
@[simp] theorem State.modPort_islandQ (n : Fin 128) (f : Port → Port) : (s.modPort n f).islandQ = s.islandQ := rfl
@[simp] theorem State.modPort_clkLost (n : Fin 128) (f : Port → Port) : (s.modPort n f).clkLost = s.clkLost := rfl
@[simp] theorem State.modPort_pinLost (n : Fin 128) (f : Port → Port) : (s.modPort n f).pinLost = s.pinLost := rfl
@[simp] theorem State.modPort_callboard (n : Fin 128) (f : Port → Port) : (s.modPort n f).callboard = s.callboard := rfl
@[simp] theorem State.modPort_permit (n : Fin 128) (f : Port → Port) : (s.modPort n f).permit = s.permit := rfl
@[simp] theorem State.modPort_ringAhead (n : Fin 128) (f : Port → Port) : (s.modPort n f).ringAhead = s.ringAhead := rfl
@[simp] theorem State.modPort_ringRel (n : Fin 128) (f : Port → Port) : (s.modPort n f).ringRel = s.ringRel := rfl
@[simp] theorem State.modPort_frames (n : Fin 128) (f : Port → Port) : (s.modPort n f).frames = s.frames := rfl
@[simp] theorem State.modPort_fwdQ (n : Fin 128) (f : Port → Port) : (s.modPort n f).fwdQ = s.fwdQ := rfl
@[simp] theorem State.modPort_groups (n : Fin 128) (f : Port → Port) : (s.modPort n f).groups = s.groups := rfl
@[simp] theorem State.modPort_pipes (n : Fin 128) (f : Port → Port) : (s.modPort n f).pipes = s.pipes := rfl
@[simp] theorem State.modPort_nextChain (n : Fin 128) (f : Port → Port) : (s.modPort n f).nextChain = s.nextChain := rfl
@[simp] theorem State.modPort_curtain (n : Fin 128) (f : Port → Port) : (s.modPort n f).curtain = s.curtain := rfl
@[simp] theorem State.modPort_store (n : Fin 128) (f : Port → Port) : (s.modPort n f).store = s.store := rfl
@[simp] theorem State.modPort_posted (n : Fin 128) (f : Port → Port) : (s.modPort n f).posted = s.posted := rfl
@[simp] theorem State.modPort_logQ (n : Fin 128) (f : Port → Port) : (s.modPort n f).logQ = s.logQ := rfl
@[simp] theorem State.modPort_relNext (n : Fin 128) (f : Port → Port) : (s.modPort n f).relNext = s.relNext := rfl
@[simp] theorem State.modPort_slots (n : Fin 128) (f : Port → Port) : (s.modPort n f).slots = s.slots := rfl
@[simp] theorem State.modPort_engines (n : Fin 128) (f : Port → Port) : (s.modPort n f).engines = s.engines := rfl
@[simp] theorem State.modPort_shared (n : Fin 128) (f : Port → Port) : (s.modPort n f).shared = s.shared := rfl
@[simp] theorem State.modPort_walks (n : Fin 128) (f : Port → Port) : (s.modPort n f).walks = s.walks := rfl
@[simp] theorem State.modPort_cstore (n : Fin 128) (f : Port → Port) : (s.modPort n f).cstore = s.cstore := rfl
@[simp] theorem State.modPort_dispatch (n : Fin 128) (f : Port → Port) : (s.modPort n f).dispatch = s.dispatch := rfl
@[simp] theorem State.modPort_sstore (n : Fin 128) (f : Port → Port) : (s.modPort n f).sstore = s.sstore := rfl
@[simp] theorem State.modPort_csErr (n : Fin 128) (f : Port → Port) : (s.modPort n f).csErr = s.csErr := rfl
@[simp] theorem State.modPort_ssErr (n : Fin 128) (f : Port → Port) : (s.modPort n f).ssErr = s.ssErr := rfl
@[simp] theorem State.modPort_dispErr (n : Fin 128) (f : Port → Port) : (s.modPort n f).dispErr = s.dispErr := rfl
@[simp] theorem State.modPort_ssWait (n : Fin 128) (f : Port → Port) : (s.modPort n f).ssWait = s.ssWait := rfl
@[simp] theorem State.modPort_mem (n : Fin 128) (f : Port → Port) : (s.modPort n f).mem = s.mem := rfl
@[simp] theorem State.modPort_memErr (n : Fin 128) (f : Port → Port) : (s.modPort n f).memErr = s.memErr := rfl
@[simp] theorem State.modPort_retained (n : Fin 128) (f : Port → Port) : (s.modPort n f).retained = s.retained := rfl
@[simp] theorem State.modPort_entering (n : Fin 128) (f : Port → Port) : (s.modPort n f).entering = s.entering := rfl
@[simp] theorem State.modPort_waking (n : Fin 128) (f : Port → Port) : (s.modPort n f).waking = s.waking := rfl
@[simp] theorem State.modPort_wakeFor (n : Fin 128) (f : Port → Port) : (s.modPort n f).wakeFor = s.wakeFor := rfl
@[simp] theorem State.modPort_scrubs (n : Fin 128) (f : Port → Port) : (s.modPort n f).scrubs = s.scrubs := rfl
@[simp] theorem State.modPort_bists (n : Fin 128) (f : Port → Port) : (s.modPort n f).bists = s.bists := rfl
@[simp] theorem State.modPort_bulk (n : Fin 128) (f : Port → Port) : (s.modPort n f).bulk = s.bulk := rfl
@[simp] theorem State.modPort_wiping (n : Fin 128) (f : Port → Port) : (s.modPort n f).wiping = s.wiping := rfl
@[simp] theorem State.modPort_bursts (n : Fin 128) (f : Port → Port) : (s.modPort n f).bursts = s.bursts := rfl
@[simp] theorem State.modPort_lastGrant (n : Fin 128) (f : Port → Port) : (s.modPort n f).lastGrant = s.lastGrant := rfl
@[simp] theorem State.modPort_singles (n : Fin 128) (f : Port → Port) : (s.modPort n f).singles = s.singles := rfl
@[simp] theorem State.modPort_clash (n : Fin 128) (f : Port → Port) : (s.modPort n f).clash = s.clash := rfl
@[simp] theorem State.modPort_hostReqs (n : Fin 128) (f : Port → Port) : (s.modPort n f).hostReqs = s.hostReqs := rfl
@[simp] theorem State.modPort_inbound (n : Fin 128) (f : Port → Port) : (s.modPort n f).inbound = s.inbound := rfl
@[simp] theorem State.modPort_hfiRst (n : Fin 128) (f : Port → Port) : (s.modPort n f).hfiRst = s.hfiRst := rfl
@[simp] theorem State.modPort_hfiAck (n : Fin 128) (f : Port → Port) : (s.modPort n f).hfiAck = s.hfiAck := rfl
@[simp] theorem State.modPort_frz1 (n : Fin 128) (f : Port → Port) : (s.modPort n f).frz1 = s.frz1 := rfl
@[simp] theorem State.modPort_frzClk (n : Fin 128) (f : Port → Port) : (s.modPort n f).frzClk = s.frzClk := rfl
@[simp] theorem State.modPort_timers (n : Fin 128) (f : Port → Port) : (s.modPort n f).timers = s.timers := rfl
@[simp] theorem State.modPort_gsWait (n : Fin 128) (f : Port → Port) : (s.modPort n f).gsWait = s.gsWait := rfl
@[simp] theorem State.modPort_capRise (n : Fin 128) (f : Port → Port) : (s.modPort n f).capRise = s.capRise := rfl
@[simp] theorem State.modPort_pins (n : Fin 128) (f : Port → Port) : (s.modPort n f).pins = s.pins := rfl
@[simp] theorem State.modPort_align (n : Fin 128) (f : Port → Port) : (s.modPort n f).align = s.align := rfl
@[simp] theorem State.modPort_alignGood (n : Fin 128) (f : Port → Port) : (s.modPort n f).alignGood = s.alignGood := rfl
@[simp] theorem State.modPort_alignDue (n : Fin 128) (f : Port → Port) : (s.modPort n f).alignDue = s.alignDue := rfl
@[simp] theorem State.modPort_probe (n : Fin 128) (f : Port → Port) : (s.modPort n f).probe = s.probe := rfl
@[simp] theorem State.modPort_phyReq (n : Fin 128) (f : Port → Port) : (s.modPort n f).phyReq = s.phyReq := rfl
@[simp] theorem State.modPort_phyAck (n : Fin 128) (f : Port → Port) : (s.modPort n f).phyAck = s.phyAck := rfl
@[simp] theorem State.modPort_retReq (n : Fin 128) (f : Port → Port) : (s.modPort n f).retReq = s.retReq := rfl
@[simp] theorem State.modPort_retAck (n : Fin 128) (f : Port → Port) : (s.modPort n f).retAck = s.retAck := rfl
@[simp] theorem State.modPort_trust (n : Fin 128) (f : Port → Port) : (s.modPort n f).trust = s.trust := rfl
@[simp] theorem State.modPort_dbg (n : Fin 128) (f : Port → Port) : (s.modPort n f).dbg = s.dbg := rfl
@[simp] theorem State.modPort_freeIndex (n : Fin 128) (f : Port → Port) : (s.modPort n f).freeIndex = s.freeIndex := rfl

/-! ### modGroup -/

@[simp] theorem State.modGroup_pending (g : Fin 8) (f : Group → Group) : (s.modGroup g f).pending = s.pending := rfl
@[simp] theorem State.modGroup_porLow (g : Fin 8) (f : Group → Group) : (s.modGroup g f).porLow = s.porLow := rfl
@[simp] theorem State.modGroup_rstLow (g : Fin 8) (f : Group → Group) : (s.modGroup g f).rstLow = s.rstLow := rfl
@[simp] theorem State.modGroup_firstEdge (g : Fin 8) (f : Group → Group) : (s.modGroup g f).firstEdge = s.firstEdge := rfl
@[simp] theorem State.modGroup_clkOk (g : Fin 8) (f : Group → Group) : (s.modGroup g f).clkOk = s.clkOk := rfl
@[simp] theorem State.modGroup_beatno (g : Fin 8) (f : Group → Group) : (s.modGroup g f).beatno = s.beatno := rfl
@[simp] theorem State.modGroup_fofs (g : Fin 8) (f : Group → Group) : (s.modGroup g f).fofs = s.fofs := rfl
@[simp] theorem State.modGroup_regs (g : Fin 8) (f : Group → Group) : (s.modGroup g f).regs = s.regs := rfl
@[simp] theorem State.modGroup_rsp (g : Fin 8) (f : Group → Group) : (s.modGroup g f).rsp = s.rsp := rfl
@[simp] theorem State.modGroup_hrpQ (g : Fin 8) (f : Group → Group) : (s.modGroup g f).hrpQ = s.hrpQ := rfl
@[simp] theorem State.modGroup_hrpOut (g : Fin 8) (f : Group → Group) : (s.modGroup g f).hrpOut = s.hrpOut := rfl
@[simp] theorem State.modGroup_hrpSeq (g : Fin 8) (f : Group → Group) : (s.modGroup g f).hrpSeq = s.hrpSeq := rfl
@[simp] theorem State.modGroup_islandQ (g : Fin 8) (f : Group → Group) : (s.modGroup g f).islandQ = s.islandQ := rfl
@[simp] theorem State.modGroup_clkLost (g : Fin 8) (f : Group → Group) : (s.modGroup g f).clkLost = s.clkLost := rfl
@[simp] theorem State.modGroup_pinLost (g : Fin 8) (f : Group → Group) : (s.modGroup g f).pinLost = s.pinLost := rfl
@[simp] theorem State.modGroup_callboard (g : Fin 8) (f : Group → Group) : (s.modGroup g f).callboard = s.callboard := rfl
@[simp] theorem State.modGroup_permit (g : Fin 8) (f : Group → Group) : (s.modGroup g f).permit = s.permit := rfl
@[simp] theorem State.modGroup_ringAhead (g : Fin 8) (f : Group → Group) : (s.modGroup g f).ringAhead = s.ringAhead := rfl
@[simp] theorem State.modGroup_ringRel (g : Fin 8) (f : Group → Group) : (s.modGroup g f).ringRel = s.ringRel := rfl
@[simp] theorem State.modGroup_ports (g : Fin 8) (f : Group → Group) : (s.modGroup g f).ports = s.ports := rfl
@[simp] theorem State.modGroup_frames (g : Fin 8) (f : Group → Group) : (s.modGroup g f).frames = s.frames := rfl
@[simp] theorem State.modGroup_fwdQ (g : Fin 8) (f : Group → Group) : (s.modGroup g f).fwdQ = s.fwdQ := rfl
@[simp] theorem State.modGroup_pipes (g : Fin 8) (f : Group → Group) : (s.modGroup g f).pipes = s.pipes := rfl
@[simp] theorem State.modGroup_nextChain (g : Fin 8) (f : Group → Group) : (s.modGroup g f).nextChain = s.nextChain := rfl
@[simp] theorem State.modGroup_curtain (g : Fin 8) (f : Group → Group) : (s.modGroup g f).curtain = s.curtain := rfl
@[simp] theorem State.modGroup_store (g : Fin 8) (f : Group → Group) : (s.modGroup g f).store = s.store := rfl
@[simp] theorem State.modGroup_posted (g : Fin 8) (f : Group → Group) : (s.modGroup g f).posted = s.posted := rfl
@[simp] theorem State.modGroup_logQ (g : Fin 8) (f : Group → Group) : (s.modGroup g f).logQ = s.logQ := rfl
@[simp] theorem State.modGroup_relNext (g : Fin 8) (f : Group → Group) : (s.modGroup g f).relNext = s.relNext := rfl
@[simp] theorem State.modGroup_slots (g : Fin 8) (f : Group → Group) : (s.modGroup g f).slots = s.slots := rfl
@[simp] theorem State.modGroup_engines (g : Fin 8) (f : Group → Group) : (s.modGroup g f).engines = s.engines := rfl
@[simp] theorem State.modGroup_shared (g : Fin 8) (f : Group → Group) : (s.modGroup g f).shared = s.shared := rfl
@[simp] theorem State.modGroup_walks (g : Fin 8) (f : Group → Group) : (s.modGroup g f).walks = s.walks := rfl
@[simp] theorem State.modGroup_cstore (g : Fin 8) (f : Group → Group) : (s.modGroup g f).cstore = s.cstore := rfl
@[simp] theorem State.modGroup_dispatch (g : Fin 8) (f : Group → Group) : (s.modGroup g f).dispatch = s.dispatch := rfl
@[simp] theorem State.modGroup_sstore (g : Fin 8) (f : Group → Group) : (s.modGroup g f).sstore = s.sstore := rfl
@[simp] theorem State.modGroup_csErr (g : Fin 8) (f : Group → Group) : (s.modGroup g f).csErr = s.csErr := rfl
@[simp] theorem State.modGroup_ssErr (g : Fin 8) (f : Group → Group) : (s.modGroup g f).ssErr = s.ssErr := rfl
@[simp] theorem State.modGroup_dispErr (g : Fin 8) (f : Group → Group) : (s.modGroup g f).dispErr = s.dispErr := rfl
@[simp] theorem State.modGroup_ssWait (g : Fin 8) (f : Group → Group) : (s.modGroup g f).ssWait = s.ssWait := rfl
@[simp] theorem State.modGroup_mem (g : Fin 8) (f : Group → Group) : (s.modGroup g f).mem = s.mem := rfl
@[simp] theorem State.modGroup_memErr (g : Fin 8) (f : Group → Group) : (s.modGroup g f).memErr = s.memErr := rfl
@[simp] theorem State.modGroup_retained (g : Fin 8) (f : Group → Group) : (s.modGroup g f).retained = s.retained := rfl
@[simp] theorem State.modGroup_entering (g : Fin 8) (f : Group → Group) : (s.modGroup g f).entering = s.entering := rfl
@[simp] theorem State.modGroup_waking (g : Fin 8) (f : Group → Group) : (s.modGroup g f).waking = s.waking := rfl
@[simp] theorem State.modGroup_wakeFor (g : Fin 8) (f : Group → Group) : (s.modGroup g f).wakeFor = s.wakeFor := rfl
@[simp] theorem State.modGroup_scrubs (g : Fin 8) (f : Group → Group) : (s.modGroup g f).scrubs = s.scrubs := rfl
@[simp] theorem State.modGroup_bists (g : Fin 8) (f : Group → Group) : (s.modGroup g f).bists = s.bists := rfl
@[simp] theorem State.modGroup_bulk (g : Fin 8) (f : Group → Group) : (s.modGroup g f).bulk = s.bulk := rfl
@[simp] theorem State.modGroup_wiping (g : Fin 8) (f : Group → Group) : (s.modGroup g f).wiping = s.wiping := rfl
@[simp] theorem State.modGroup_bursts (g : Fin 8) (f : Group → Group) : (s.modGroup g f).bursts = s.bursts := rfl
@[simp] theorem State.modGroup_lastGrant (g : Fin 8) (f : Group → Group) : (s.modGroup g f).lastGrant = s.lastGrant := rfl
@[simp] theorem State.modGroup_singles (g : Fin 8) (f : Group → Group) : (s.modGroup g f).singles = s.singles := rfl
@[simp] theorem State.modGroup_clash (g : Fin 8) (f : Group → Group) : (s.modGroup g f).clash = s.clash := rfl
@[simp] theorem State.modGroup_hostReqs (g : Fin 8) (f : Group → Group) : (s.modGroup g f).hostReqs = s.hostReqs := rfl
@[simp] theorem State.modGroup_inbound (g : Fin 8) (f : Group → Group) : (s.modGroup g f).inbound = s.inbound := rfl
@[simp] theorem State.modGroup_hfiRst (g : Fin 8) (f : Group → Group) : (s.modGroup g f).hfiRst = s.hfiRst := rfl
@[simp] theorem State.modGroup_hfiAck (g : Fin 8) (f : Group → Group) : (s.modGroup g f).hfiAck = s.hfiAck := rfl
@[simp] theorem State.modGroup_frz1 (g : Fin 8) (f : Group → Group) : (s.modGroup g f).frz1 = s.frz1 := rfl
@[simp] theorem State.modGroup_frzClk (g : Fin 8) (f : Group → Group) : (s.modGroup g f).frzClk = s.frzClk := rfl
@[simp] theorem State.modGroup_timers (g : Fin 8) (f : Group → Group) : (s.modGroup g f).timers = s.timers := rfl
@[simp] theorem State.modGroup_gsWait (g : Fin 8) (f : Group → Group) : (s.modGroup g f).gsWait = s.gsWait := rfl
@[simp] theorem State.modGroup_capRise (g : Fin 8) (f : Group → Group) : (s.modGroup g f).capRise = s.capRise := rfl
@[simp] theorem State.modGroup_pins (g : Fin 8) (f : Group → Group) : (s.modGroup g f).pins = s.pins := rfl
@[simp] theorem State.modGroup_align (g : Fin 8) (f : Group → Group) : (s.modGroup g f).align = s.align := rfl
@[simp] theorem State.modGroup_alignGood (g : Fin 8) (f : Group → Group) : (s.modGroup g f).alignGood = s.alignGood := rfl
@[simp] theorem State.modGroup_alignDue (g : Fin 8) (f : Group → Group) : (s.modGroup g f).alignDue = s.alignDue := rfl
@[simp] theorem State.modGroup_probe (g : Fin 8) (f : Group → Group) : (s.modGroup g f).probe = s.probe := rfl
@[simp] theorem State.modGroup_phyReq (g : Fin 8) (f : Group → Group) : (s.modGroup g f).phyReq = s.phyReq := rfl
@[simp] theorem State.modGroup_phyAck (g : Fin 8) (f : Group → Group) : (s.modGroup g f).phyAck = s.phyAck := rfl
@[simp] theorem State.modGroup_retReq (g : Fin 8) (f : Group → Group) : (s.modGroup g f).retReq = s.retReq := rfl
@[simp] theorem State.modGroup_retAck (g : Fin 8) (f : Group → Group) : (s.modGroup g f).retAck = s.retAck := rfl
@[simp] theorem State.modGroup_trust (g : Fin 8) (f : Group → Group) : (s.modGroup g f).trust = s.trust := rfl
@[simp] theorem State.modGroup_dbg (g : Fin 8) (f : Group → Group) : (s.modGroup g f).dbg = s.dbg := rfl
@[simp] theorem State.modGroup_freeIndex (g : Fin 8) (f : Group → Group) : (s.modGroup g f).freeIndex = s.freeIndex := rfl

/-! ### setPipe -/

@[simp] theorem State.setPipe_pending (p : Fin 64) (r : Option PipeRun) : (s.setPipe p r).pending = s.pending := rfl
@[simp] theorem State.setPipe_porLow (p : Fin 64) (r : Option PipeRun) : (s.setPipe p r).porLow = s.porLow := rfl
@[simp] theorem State.setPipe_rstLow (p : Fin 64) (r : Option PipeRun) : (s.setPipe p r).rstLow = s.rstLow := rfl
@[simp] theorem State.setPipe_firstEdge (p : Fin 64) (r : Option PipeRun) : (s.setPipe p r).firstEdge = s.firstEdge := rfl
@[simp] theorem State.setPipe_clkOk (p : Fin 64) (r : Option PipeRun) : (s.setPipe p r).clkOk = s.clkOk := rfl
@[simp] theorem State.setPipe_beatno (p : Fin 64) (r : Option PipeRun) : (s.setPipe p r).beatno = s.beatno := rfl
@[simp] theorem State.setPipe_fofs (p : Fin 64) (r : Option PipeRun) : (s.setPipe p r).fofs = s.fofs := rfl
@[simp] theorem State.setPipe_regs (p : Fin 64) (r : Option PipeRun) : (s.setPipe p r).regs = s.regs := rfl
@[simp] theorem State.setPipe_rsp (p : Fin 64) (r : Option PipeRun) : (s.setPipe p r).rsp = s.rsp := rfl
@[simp] theorem State.setPipe_hrpQ (p : Fin 64) (r : Option PipeRun) : (s.setPipe p r).hrpQ = s.hrpQ := rfl
@[simp] theorem State.setPipe_hrpOut (p : Fin 64) (r : Option PipeRun) : (s.setPipe p r).hrpOut = s.hrpOut := rfl
@[simp] theorem State.setPipe_hrpSeq (p : Fin 64) (r : Option PipeRun) : (s.setPipe p r).hrpSeq = s.hrpSeq := rfl
@[simp] theorem State.setPipe_islandQ (p : Fin 64) (r : Option PipeRun) : (s.setPipe p r).islandQ = s.islandQ := rfl
@[simp] theorem State.setPipe_clkLost (p : Fin 64) (r : Option PipeRun) : (s.setPipe p r).clkLost = s.clkLost := rfl
@[simp] theorem State.setPipe_pinLost (p : Fin 64) (r : Option PipeRun) : (s.setPipe p r).pinLost = s.pinLost := rfl
@[simp] theorem State.setPipe_callboard (p : Fin 64) (r : Option PipeRun) : (s.setPipe p r).callboard = s.callboard := rfl
@[simp] theorem State.setPipe_permit (p : Fin 64) (r : Option PipeRun) : (s.setPipe p r).permit = s.permit := rfl
@[simp] theorem State.setPipe_ringAhead (p : Fin 64) (r : Option PipeRun) : (s.setPipe p r).ringAhead = s.ringAhead := rfl
@[simp] theorem State.setPipe_ringRel (p : Fin 64) (r : Option PipeRun) : (s.setPipe p r).ringRel = s.ringRel := rfl
@[simp] theorem State.setPipe_ports (p : Fin 64) (r : Option PipeRun) : (s.setPipe p r).ports = s.ports := rfl
@[simp] theorem State.setPipe_frames (p : Fin 64) (r : Option PipeRun) : (s.setPipe p r).frames = s.frames := rfl
@[simp] theorem State.setPipe_fwdQ (p : Fin 64) (r : Option PipeRun) : (s.setPipe p r).fwdQ = s.fwdQ := rfl
@[simp] theorem State.setPipe_groups (p : Fin 64) (r : Option PipeRun) : (s.setPipe p r).groups = s.groups := rfl
@[simp] theorem State.setPipe_nextChain (p : Fin 64) (r : Option PipeRun) : (s.setPipe p r).nextChain = s.nextChain := rfl
@[simp] theorem State.setPipe_curtain (p : Fin 64) (r : Option PipeRun) : (s.setPipe p r).curtain = s.curtain := rfl
@[simp] theorem State.setPipe_store (p : Fin 64) (r : Option PipeRun) : (s.setPipe p r).store = s.store := rfl
@[simp] theorem State.setPipe_posted (p : Fin 64) (r : Option PipeRun) : (s.setPipe p r).posted = s.posted := rfl
@[simp] theorem State.setPipe_logQ (p : Fin 64) (r : Option PipeRun) : (s.setPipe p r).logQ = s.logQ := rfl
@[simp] theorem State.setPipe_relNext (p : Fin 64) (r : Option PipeRun) : (s.setPipe p r).relNext = s.relNext := rfl
@[simp] theorem State.setPipe_slots (p : Fin 64) (r : Option PipeRun) : (s.setPipe p r).slots = s.slots := rfl
@[simp] theorem State.setPipe_engines (p : Fin 64) (r : Option PipeRun) : (s.setPipe p r).engines = s.engines := rfl
@[simp] theorem State.setPipe_shared (p : Fin 64) (r : Option PipeRun) : (s.setPipe p r).shared = s.shared := rfl
@[simp] theorem State.setPipe_walks (p : Fin 64) (r : Option PipeRun) : (s.setPipe p r).walks = s.walks := rfl
@[simp] theorem State.setPipe_cstore (p : Fin 64) (r : Option PipeRun) : (s.setPipe p r).cstore = s.cstore := rfl
@[simp] theorem State.setPipe_dispatch (p : Fin 64) (r : Option PipeRun) : (s.setPipe p r).dispatch = s.dispatch := rfl
@[simp] theorem State.setPipe_sstore (p : Fin 64) (r : Option PipeRun) : (s.setPipe p r).sstore = s.sstore := rfl
@[simp] theorem State.setPipe_csErr (p : Fin 64) (r : Option PipeRun) : (s.setPipe p r).csErr = s.csErr := rfl
@[simp] theorem State.setPipe_ssErr (p : Fin 64) (r : Option PipeRun) : (s.setPipe p r).ssErr = s.ssErr := rfl
@[simp] theorem State.setPipe_dispErr (p : Fin 64) (r : Option PipeRun) : (s.setPipe p r).dispErr = s.dispErr := rfl
@[simp] theorem State.setPipe_ssWait (p : Fin 64) (r : Option PipeRun) : (s.setPipe p r).ssWait = s.ssWait := rfl
@[simp] theorem State.setPipe_mem (p : Fin 64) (r : Option PipeRun) : (s.setPipe p r).mem = s.mem := rfl
@[simp] theorem State.setPipe_memErr (p : Fin 64) (r : Option PipeRun) : (s.setPipe p r).memErr = s.memErr := rfl
@[simp] theorem State.setPipe_retained (p : Fin 64) (r : Option PipeRun) : (s.setPipe p r).retained = s.retained := rfl
@[simp] theorem State.setPipe_entering (p : Fin 64) (r : Option PipeRun) : (s.setPipe p r).entering = s.entering := rfl
@[simp] theorem State.setPipe_waking (p : Fin 64) (r : Option PipeRun) : (s.setPipe p r).waking = s.waking := rfl
@[simp] theorem State.setPipe_wakeFor (p : Fin 64) (r : Option PipeRun) : (s.setPipe p r).wakeFor = s.wakeFor := rfl
@[simp] theorem State.setPipe_scrubs (p : Fin 64) (r : Option PipeRun) : (s.setPipe p r).scrubs = s.scrubs := rfl
@[simp] theorem State.setPipe_bists (p : Fin 64) (r : Option PipeRun) : (s.setPipe p r).bists = s.bists := rfl
@[simp] theorem State.setPipe_bulk (p : Fin 64) (r : Option PipeRun) : (s.setPipe p r).bulk = s.bulk := rfl
@[simp] theorem State.setPipe_wiping (p : Fin 64) (r : Option PipeRun) : (s.setPipe p r).wiping = s.wiping := rfl
@[simp] theorem State.setPipe_bursts (p : Fin 64) (r : Option PipeRun) : (s.setPipe p r).bursts = s.bursts := rfl
@[simp] theorem State.setPipe_lastGrant (p : Fin 64) (r : Option PipeRun) : (s.setPipe p r).lastGrant = s.lastGrant := rfl
@[simp] theorem State.setPipe_singles (p : Fin 64) (r : Option PipeRun) : (s.setPipe p r).singles = s.singles := rfl
@[simp] theorem State.setPipe_clash (p : Fin 64) (r : Option PipeRun) : (s.setPipe p r).clash = s.clash := rfl
@[simp] theorem State.setPipe_hostReqs (p : Fin 64) (r : Option PipeRun) : (s.setPipe p r).hostReqs = s.hostReqs := rfl
@[simp] theorem State.setPipe_inbound (p : Fin 64) (r : Option PipeRun) : (s.setPipe p r).inbound = s.inbound := rfl
@[simp] theorem State.setPipe_hfiRst (p : Fin 64) (r : Option PipeRun) : (s.setPipe p r).hfiRst = s.hfiRst := rfl
@[simp] theorem State.setPipe_hfiAck (p : Fin 64) (r : Option PipeRun) : (s.setPipe p r).hfiAck = s.hfiAck := rfl
@[simp] theorem State.setPipe_frz1 (p : Fin 64) (r : Option PipeRun) : (s.setPipe p r).frz1 = s.frz1 := rfl
@[simp] theorem State.setPipe_frzClk (p : Fin 64) (r : Option PipeRun) : (s.setPipe p r).frzClk = s.frzClk := rfl
@[simp] theorem State.setPipe_timers (p : Fin 64) (r : Option PipeRun) : (s.setPipe p r).timers = s.timers := rfl
@[simp] theorem State.setPipe_gsWait (p : Fin 64) (r : Option PipeRun) : (s.setPipe p r).gsWait = s.gsWait := rfl
@[simp] theorem State.setPipe_capRise (p : Fin 64) (r : Option PipeRun) : (s.setPipe p r).capRise = s.capRise := rfl
@[simp] theorem State.setPipe_pins (p : Fin 64) (r : Option PipeRun) : (s.setPipe p r).pins = s.pins := rfl
@[simp] theorem State.setPipe_align (p : Fin 64) (r : Option PipeRun) : (s.setPipe p r).align = s.align := rfl
@[simp] theorem State.setPipe_alignGood (p : Fin 64) (r : Option PipeRun) : (s.setPipe p r).alignGood = s.alignGood := rfl
@[simp] theorem State.setPipe_alignDue (p : Fin 64) (r : Option PipeRun) : (s.setPipe p r).alignDue = s.alignDue := rfl
@[simp] theorem State.setPipe_probe (p : Fin 64) (r : Option PipeRun) : (s.setPipe p r).probe = s.probe := rfl
@[simp] theorem State.setPipe_phyReq (p : Fin 64) (r : Option PipeRun) : (s.setPipe p r).phyReq = s.phyReq := rfl
@[simp] theorem State.setPipe_phyAck (p : Fin 64) (r : Option PipeRun) : (s.setPipe p r).phyAck = s.phyAck := rfl
@[simp] theorem State.setPipe_retReq (p : Fin 64) (r : Option PipeRun) : (s.setPipe p r).retReq = s.retReq := rfl
@[simp] theorem State.setPipe_retAck (p : Fin 64) (r : Option PipeRun) : (s.setPipe p r).retAck = s.retAck := rfl
@[simp] theorem State.setPipe_trust (p : Fin 64) (r : Option PipeRun) : (s.setPipe p r).trust = s.trust := rfl
@[simp] theorem State.setPipe_dbg (p : Fin 64) (r : Option PipeRun) : (s.setPipe p r).dbg = s.dbg := rfl
@[simp] theorem State.setPipe_freeIndex (p : Fin 64) (r : Option PipeRun) : (s.setPipe p r).freeIndex = s.freeIndex := rfl

/-! ### modStream -/

@[simp] theorem State.modStream_pending (d : Fin 64) (f : CurStream → CurStream) : (s.modStream d f).pending = s.pending := rfl
@[simp] theorem State.modStream_porLow (d : Fin 64) (f : CurStream → CurStream) : (s.modStream d f).porLow = s.porLow := rfl
@[simp] theorem State.modStream_rstLow (d : Fin 64) (f : CurStream → CurStream) : (s.modStream d f).rstLow = s.rstLow := rfl
@[simp] theorem State.modStream_firstEdge (d : Fin 64) (f : CurStream → CurStream) : (s.modStream d f).firstEdge = s.firstEdge := rfl
@[simp] theorem State.modStream_clkOk (d : Fin 64) (f : CurStream → CurStream) : (s.modStream d f).clkOk = s.clkOk := rfl
@[simp] theorem State.modStream_beatno (d : Fin 64) (f : CurStream → CurStream) : (s.modStream d f).beatno = s.beatno := rfl
@[simp] theorem State.modStream_fofs (d : Fin 64) (f : CurStream → CurStream) : (s.modStream d f).fofs = s.fofs := rfl
@[simp] theorem State.modStream_regs (d : Fin 64) (f : CurStream → CurStream) : (s.modStream d f).regs = s.regs := rfl
@[simp] theorem State.modStream_rsp (d : Fin 64) (f : CurStream → CurStream) : (s.modStream d f).rsp = s.rsp := rfl
@[simp] theorem State.modStream_hrpQ (d : Fin 64) (f : CurStream → CurStream) : (s.modStream d f).hrpQ = s.hrpQ := rfl
@[simp] theorem State.modStream_hrpOut (d : Fin 64) (f : CurStream → CurStream) : (s.modStream d f).hrpOut = s.hrpOut := rfl
@[simp] theorem State.modStream_hrpSeq (d : Fin 64) (f : CurStream → CurStream) : (s.modStream d f).hrpSeq = s.hrpSeq := rfl
@[simp] theorem State.modStream_islandQ (d : Fin 64) (f : CurStream → CurStream) : (s.modStream d f).islandQ = s.islandQ := rfl
@[simp] theorem State.modStream_clkLost (d : Fin 64) (f : CurStream → CurStream) : (s.modStream d f).clkLost = s.clkLost := rfl
@[simp] theorem State.modStream_pinLost (d : Fin 64) (f : CurStream → CurStream) : (s.modStream d f).pinLost = s.pinLost := rfl
@[simp] theorem State.modStream_callboard (d : Fin 64) (f : CurStream → CurStream) : (s.modStream d f).callboard = s.callboard := rfl
@[simp] theorem State.modStream_permit (d : Fin 64) (f : CurStream → CurStream) : (s.modStream d f).permit = s.permit := rfl
@[simp] theorem State.modStream_ringAhead (d : Fin 64) (f : CurStream → CurStream) : (s.modStream d f).ringAhead = s.ringAhead := rfl
@[simp] theorem State.modStream_ringRel (d : Fin 64) (f : CurStream → CurStream) : (s.modStream d f).ringRel = s.ringRel := rfl
@[simp] theorem State.modStream_ports (d : Fin 64) (f : CurStream → CurStream) : (s.modStream d f).ports = s.ports := rfl
@[simp] theorem State.modStream_frames (d : Fin 64) (f : CurStream → CurStream) : (s.modStream d f).frames = s.frames := rfl
@[simp] theorem State.modStream_fwdQ (d : Fin 64) (f : CurStream → CurStream) : (s.modStream d f).fwdQ = s.fwdQ := rfl
@[simp] theorem State.modStream_groups (d : Fin 64) (f : CurStream → CurStream) : (s.modStream d f).groups = s.groups := rfl
@[simp] theorem State.modStream_pipes (d : Fin 64) (f : CurStream → CurStream) : (s.modStream d f).pipes = s.pipes := rfl
@[simp] theorem State.modStream_nextChain (d : Fin 64) (f : CurStream → CurStream) : (s.modStream d f).nextChain = s.nextChain := rfl
@[simp] theorem State.modStream_store (d : Fin 64) (f : CurStream → CurStream) : (s.modStream d f).store = s.store := rfl
@[simp] theorem State.modStream_posted (d : Fin 64) (f : CurStream → CurStream) : (s.modStream d f).posted = s.posted := rfl
@[simp] theorem State.modStream_logQ (d : Fin 64) (f : CurStream → CurStream) : (s.modStream d f).logQ = s.logQ := rfl
@[simp] theorem State.modStream_relNext (d : Fin 64) (f : CurStream → CurStream) : (s.modStream d f).relNext = s.relNext := rfl
@[simp] theorem State.modStream_slots (d : Fin 64) (f : CurStream → CurStream) : (s.modStream d f).slots = s.slots := rfl
@[simp] theorem State.modStream_engines (d : Fin 64) (f : CurStream → CurStream) : (s.modStream d f).engines = s.engines := rfl
@[simp] theorem State.modStream_shared (d : Fin 64) (f : CurStream → CurStream) : (s.modStream d f).shared = s.shared := rfl
@[simp] theorem State.modStream_walks (d : Fin 64) (f : CurStream → CurStream) : (s.modStream d f).walks = s.walks := rfl
@[simp] theorem State.modStream_cstore (d : Fin 64) (f : CurStream → CurStream) : (s.modStream d f).cstore = s.cstore := rfl
@[simp] theorem State.modStream_dispatch (d : Fin 64) (f : CurStream → CurStream) : (s.modStream d f).dispatch = s.dispatch := rfl
@[simp] theorem State.modStream_sstore (d : Fin 64) (f : CurStream → CurStream) : (s.modStream d f).sstore = s.sstore := rfl
@[simp] theorem State.modStream_csErr (d : Fin 64) (f : CurStream → CurStream) : (s.modStream d f).csErr = s.csErr := rfl
@[simp] theorem State.modStream_ssErr (d : Fin 64) (f : CurStream → CurStream) : (s.modStream d f).ssErr = s.ssErr := rfl
@[simp] theorem State.modStream_dispErr (d : Fin 64) (f : CurStream → CurStream) : (s.modStream d f).dispErr = s.dispErr := rfl
@[simp] theorem State.modStream_ssWait (d : Fin 64) (f : CurStream → CurStream) : (s.modStream d f).ssWait = s.ssWait := rfl
@[simp] theorem State.modStream_mem (d : Fin 64) (f : CurStream → CurStream) : (s.modStream d f).mem = s.mem := rfl
@[simp] theorem State.modStream_memErr (d : Fin 64) (f : CurStream → CurStream) : (s.modStream d f).memErr = s.memErr := rfl
@[simp] theorem State.modStream_retained (d : Fin 64) (f : CurStream → CurStream) : (s.modStream d f).retained = s.retained := rfl
@[simp] theorem State.modStream_entering (d : Fin 64) (f : CurStream → CurStream) : (s.modStream d f).entering = s.entering := rfl
@[simp] theorem State.modStream_waking (d : Fin 64) (f : CurStream → CurStream) : (s.modStream d f).waking = s.waking := rfl
@[simp] theorem State.modStream_wakeFor (d : Fin 64) (f : CurStream → CurStream) : (s.modStream d f).wakeFor = s.wakeFor := rfl
@[simp] theorem State.modStream_scrubs (d : Fin 64) (f : CurStream → CurStream) : (s.modStream d f).scrubs = s.scrubs := rfl
@[simp] theorem State.modStream_bists (d : Fin 64) (f : CurStream → CurStream) : (s.modStream d f).bists = s.bists := rfl
@[simp] theorem State.modStream_bulk (d : Fin 64) (f : CurStream → CurStream) : (s.modStream d f).bulk = s.bulk := rfl
@[simp] theorem State.modStream_wiping (d : Fin 64) (f : CurStream → CurStream) : (s.modStream d f).wiping = s.wiping := rfl
@[simp] theorem State.modStream_bursts (d : Fin 64) (f : CurStream → CurStream) : (s.modStream d f).bursts = s.bursts := rfl
@[simp] theorem State.modStream_lastGrant (d : Fin 64) (f : CurStream → CurStream) : (s.modStream d f).lastGrant = s.lastGrant := rfl
@[simp] theorem State.modStream_singles (d : Fin 64) (f : CurStream → CurStream) : (s.modStream d f).singles = s.singles := rfl
@[simp] theorem State.modStream_clash (d : Fin 64) (f : CurStream → CurStream) : (s.modStream d f).clash = s.clash := rfl
@[simp] theorem State.modStream_hostReqs (d : Fin 64) (f : CurStream → CurStream) : (s.modStream d f).hostReqs = s.hostReqs := rfl
@[simp] theorem State.modStream_inbound (d : Fin 64) (f : CurStream → CurStream) : (s.modStream d f).inbound = s.inbound := rfl
@[simp] theorem State.modStream_hfiRst (d : Fin 64) (f : CurStream → CurStream) : (s.modStream d f).hfiRst = s.hfiRst := rfl
@[simp] theorem State.modStream_hfiAck (d : Fin 64) (f : CurStream → CurStream) : (s.modStream d f).hfiAck = s.hfiAck := rfl
@[simp] theorem State.modStream_frz1 (d : Fin 64) (f : CurStream → CurStream) : (s.modStream d f).frz1 = s.frz1 := rfl
@[simp] theorem State.modStream_frzClk (d : Fin 64) (f : CurStream → CurStream) : (s.modStream d f).frzClk = s.frzClk := rfl
@[simp] theorem State.modStream_timers (d : Fin 64) (f : CurStream → CurStream) : (s.modStream d f).timers = s.timers := rfl
@[simp] theorem State.modStream_gsWait (d : Fin 64) (f : CurStream → CurStream) : (s.modStream d f).gsWait = s.gsWait := rfl
@[simp] theorem State.modStream_capRise (d : Fin 64) (f : CurStream → CurStream) : (s.modStream d f).capRise = s.capRise := rfl
@[simp] theorem State.modStream_pins (d : Fin 64) (f : CurStream → CurStream) : (s.modStream d f).pins = s.pins := rfl
@[simp] theorem State.modStream_align (d : Fin 64) (f : CurStream → CurStream) : (s.modStream d f).align = s.align := rfl
@[simp] theorem State.modStream_alignGood (d : Fin 64) (f : CurStream → CurStream) : (s.modStream d f).alignGood = s.alignGood := rfl
@[simp] theorem State.modStream_alignDue (d : Fin 64) (f : CurStream → CurStream) : (s.modStream d f).alignDue = s.alignDue := rfl
@[simp] theorem State.modStream_probe (d : Fin 64) (f : CurStream → CurStream) : (s.modStream d f).probe = s.probe := rfl
@[simp] theorem State.modStream_phyReq (d : Fin 64) (f : CurStream → CurStream) : (s.modStream d f).phyReq = s.phyReq := rfl
@[simp] theorem State.modStream_phyAck (d : Fin 64) (f : CurStream → CurStream) : (s.modStream d f).phyAck = s.phyAck := rfl
@[simp] theorem State.modStream_retReq (d : Fin 64) (f : CurStream → CurStream) : (s.modStream d f).retReq = s.retReq := rfl
@[simp] theorem State.modStream_retAck (d : Fin 64) (f : CurStream → CurStream) : (s.modStream d f).retAck = s.retAck := rfl
@[simp] theorem State.modStream_trust (d : Fin 64) (f : CurStream → CurStream) : (s.modStream d f).trust = s.trust := rfl
@[simp] theorem State.modStream_dbg (d : Fin 64) (f : CurStream → CurStream) : (s.modStream d f).dbg = s.dbg := rfl
@[simp] theorem State.modStream_freeIndex (d : Fin 64) (f : CurStream → CurStream) : (s.modStream d f).freeIndex = s.freeIndex := rfl

/-! ### modSlot -/

@[simp] theorem State.modSlot_pending (t : Fin 8) (f : WSlot → WSlot) : (s.modSlot t f).pending = s.pending := rfl
@[simp] theorem State.modSlot_porLow (t : Fin 8) (f : WSlot → WSlot) : (s.modSlot t f).porLow = s.porLow := rfl
@[simp] theorem State.modSlot_rstLow (t : Fin 8) (f : WSlot → WSlot) : (s.modSlot t f).rstLow = s.rstLow := rfl
@[simp] theorem State.modSlot_firstEdge (t : Fin 8) (f : WSlot → WSlot) : (s.modSlot t f).firstEdge = s.firstEdge := rfl
@[simp] theorem State.modSlot_clkOk (t : Fin 8) (f : WSlot → WSlot) : (s.modSlot t f).clkOk = s.clkOk := rfl
@[simp] theorem State.modSlot_beatno (t : Fin 8) (f : WSlot → WSlot) : (s.modSlot t f).beatno = s.beatno := rfl
@[simp] theorem State.modSlot_fofs (t : Fin 8) (f : WSlot → WSlot) : (s.modSlot t f).fofs = s.fofs := rfl
@[simp] theorem State.modSlot_regs (t : Fin 8) (f : WSlot → WSlot) : (s.modSlot t f).regs = s.regs := rfl
@[simp] theorem State.modSlot_rsp (t : Fin 8) (f : WSlot → WSlot) : (s.modSlot t f).rsp = s.rsp := rfl
@[simp] theorem State.modSlot_hrpQ (t : Fin 8) (f : WSlot → WSlot) : (s.modSlot t f).hrpQ = s.hrpQ := rfl
@[simp] theorem State.modSlot_hrpOut (t : Fin 8) (f : WSlot → WSlot) : (s.modSlot t f).hrpOut = s.hrpOut := rfl
@[simp] theorem State.modSlot_hrpSeq (t : Fin 8) (f : WSlot → WSlot) : (s.modSlot t f).hrpSeq = s.hrpSeq := rfl
@[simp] theorem State.modSlot_islandQ (t : Fin 8) (f : WSlot → WSlot) : (s.modSlot t f).islandQ = s.islandQ := rfl
@[simp] theorem State.modSlot_clkLost (t : Fin 8) (f : WSlot → WSlot) : (s.modSlot t f).clkLost = s.clkLost := rfl
@[simp] theorem State.modSlot_pinLost (t : Fin 8) (f : WSlot → WSlot) : (s.modSlot t f).pinLost = s.pinLost := rfl
@[simp] theorem State.modSlot_callboard (t : Fin 8) (f : WSlot → WSlot) : (s.modSlot t f).callboard = s.callboard := rfl
@[simp] theorem State.modSlot_permit (t : Fin 8) (f : WSlot → WSlot) : (s.modSlot t f).permit = s.permit := rfl
@[simp] theorem State.modSlot_ringAhead (t : Fin 8) (f : WSlot → WSlot) : (s.modSlot t f).ringAhead = s.ringAhead := rfl
@[simp] theorem State.modSlot_ringRel (t : Fin 8) (f : WSlot → WSlot) : (s.modSlot t f).ringRel = s.ringRel := rfl
@[simp] theorem State.modSlot_ports (t : Fin 8) (f : WSlot → WSlot) : (s.modSlot t f).ports = s.ports := rfl
@[simp] theorem State.modSlot_frames (t : Fin 8) (f : WSlot → WSlot) : (s.modSlot t f).frames = s.frames := rfl
@[simp] theorem State.modSlot_fwdQ (t : Fin 8) (f : WSlot → WSlot) : (s.modSlot t f).fwdQ = s.fwdQ := rfl
@[simp] theorem State.modSlot_groups (t : Fin 8) (f : WSlot → WSlot) : (s.modSlot t f).groups = s.groups := rfl
@[simp] theorem State.modSlot_pipes (t : Fin 8) (f : WSlot → WSlot) : (s.modSlot t f).pipes = s.pipes := rfl
@[simp] theorem State.modSlot_nextChain (t : Fin 8) (f : WSlot → WSlot) : (s.modSlot t f).nextChain = s.nextChain := rfl
@[simp] theorem State.modSlot_curtain (t : Fin 8) (f : WSlot → WSlot) : (s.modSlot t f).curtain = s.curtain := rfl
@[simp] theorem State.modSlot_store (t : Fin 8) (f : WSlot → WSlot) : (s.modSlot t f).store = s.store := rfl
@[simp] theorem State.modSlot_posted (t : Fin 8) (f : WSlot → WSlot) : (s.modSlot t f).posted = s.posted := rfl
@[simp] theorem State.modSlot_logQ (t : Fin 8) (f : WSlot → WSlot) : (s.modSlot t f).logQ = s.logQ := rfl
@[simp] theorem State.modSlot_relNext (t : Fin 8) (f : WSlot → WSlot) : (s.modSlot t f).relNext = s.relNext := rfl
@[simp] theorem State.modSlot_engines (t : Fin 8) (f : WSlot → WSlot) : (s.modSlot t f).engines = s.engines := rfl
@[simp] theorem State.modSlot_shared (t : Fin 8) (f : WSlot → WSlot) : (s.modSlot t f).shared = s.shared := rfl
@[simp] theorem State.modSlot_walks (t : Fin 8) (f : WSlot → WSlot) : (s.modSlot t f).walks = s.walks := rfl
@[simp] theorem State.modSlot_cstore (t : Fin 8) (f : WSlot → WSlot) : (s.modSlot t f).cstore = s.cstore := rfl
@[simp] theorem State.modSlot_dispatch (t : Fin 8) (f : WSlot → WSlot) : (s.modSlot t f).dispatch = s.dispatch := rfl
@[simp] theorem State.modSlot_sstore (t : Fin 8) (f : WSlot → WSlot) : (s.modSlot t f).sstore = s.sstore := rfl
@[simp] theorem State.modSlot_csErr (t : Fin 8) (f : WSlot → WSlot) : (s.modSlot t f).csErr = s.csErr := rfl
@[simp] theorem State.modSlot_ssErr (t : Fin 8) (f : WSlot → WSlot) : (s.modSlot t f).ssErr = s.ssErr := rfl
@[simp] theorem State.modSlot_dispErr (t : Fin 8) (f : WSlot → WSlot) : (s.modSlot t f).dispErr = s.dispErr := rfl
@[simp] theorem State.modSlot_ssWait (t : Fin 8) (f : WSlot → WSlot) : (s.modSlot t f).ssWait = s.ssWait := rfl
@[simp] theorem State.modSlot_mem (t : Fin 8) (f : WSlot → WSlot) : (s.modSlot t f).mem = s.mem := rfl
@[simp] theorem State.modSlot_memErr (t : Fin 8) (f : WSlot → WSlot) : (s.modSlot t f).memErr = s.memErr := rfl
@[simp] theorem State.modSlot_retained (t : Fin 8) (f : WSlot → WSlot) : (s.modSlot t f).retained = s.retained := rfl
@[simp] theorem State.modSlot_entering (t : Fin 8) (f : WSlot → WSlot) : (s.modSlot t f).entering = s.entering := rfl
@[simp] theorem State.modSlot_waking (t : Fin 8) (f : WSlot → WSlot) : (s.modSlot t f).waking = s.waking := rfl
@[simp] theorem State.modSlot_wakeFor (t : Fin 8) (f : WSlot → WSlot) : (s.modSlot t f).wakeFor = s.wakeFor := rfl
@[simp] theorem State.modSlot_scrubs (t : Fin 8) (f : WSlot → WSlot) : (s.modSlot t f).scrubs = s.scrubs := rfl
@[simp] theorem State.modSlot_bists (t : Fin 8) (f : WSlot → WSlot) : (s.modSlot t f).bists = s.bists := rfl
@[simp] theorem State.modSlot_bulk (t : Fin 8) (f : WSlot → WSlot) : (s.modSlot t f).bulk = s.bulk := rfl
@[simp] theorem State.modSlot_wiping (t : Fin 8) (f : WSlot → WSlot) : (s.modSlot t f).wiping = s.wiping := rfl
@[simp] theorem State.modSlot_bursts (t : Fin 8) (f : WSlot → WSlot) : (s.modSlot t f).bursts = s.bursts := rfl
@[simp] theorem State.modSlot_lastGrant (t : Fin 8) (f : WSlot → WSlot) : (s.modSlot t f).lastGrant = s.lastGrant := rfl
@[simp] theorem State.modSlot_singles (t : Fin 8) (f : WSlot → WSlot) : (s.modSlot t f).singles = s.singles := rfl
@[simp] theorem State.modSlot_clash (t : Fin 8) (f : WSlot → WSlot) : (s.modSlot t f).clash = s.clash := rfl
@[simp] theorem State.modSlot_hostReqs (t : Fin 8) (f : WSlot → WSlot) : (s.modSlot t f).hostReqs = s.hostReqs := rfl
@[simp] theorem State.modSlot_inbound (t : Fin 8) (f : WSlot → WSlot) : (s.modSlot t f).inbound = s.inbound := rfl
@[simp] theorem State.modSlot_hfiRst (t : Fin 8) (f : WSlot → WSlot) : (s.modSlot t f).hfiRst = s.hfiRst := rfl
@[simp] theorem State.modSlot_hfiAck (t : Fin 8) (f : WSlot → WSlot) : (s.modSlot t f).hfiAck = s.hfiAck := rfl
@[simp] theorem State.modSlot_frz1 (t : Fin 8) (f : WSlot → WSlot) : (s.modSlot t f).frz1 = s.frz1 := rfl
@[simp] theorem State.modSlot_frzClk (t : Fin 8) (f : WSlot → WSlot) : (s.modSlot t f).frzClk = s.frzClk := rfl
@[simp] theorem State.modSlot_timers (t : Fin 8) (f : WSlot → WSlot) : (s.modSlot t f).timers = s.timers := rfl
@[simp] theorem State.modSlot_gsWait (t : Fin 8) (f : WSlot → WSlot) : (s.modSlot t f).gsWait = s.gsWait := rfl
@[simp] theorem State.modSlot_capRise (t : Fin 8) (f : WSlot → WSlot) : (s.modSlot t f).capRise = s.capRise := rfl
@[simp] theorem State.modSlot_pins (t : Fin 8) (f : WSlot → WSlot) : (s.modSlot t f).pins = s.pins := rfl
@[simp] theorem State.modSlot_align (t : Fin 8) (f : WSlot → WSlot) : (s.modSlot t f).align = s.align := rfl
@[simp] theorem State.modSlot_alignGood (t : Fin 8) (f : WSlot → WSlot) : (s.modSlot t f).alignGood = s.alignGood := rfl
@[simp] theorem State.modSlot_alignDue (t : Fin 8) (f : WSlot → WSlot) : (s.modSlot t f).alignDue = s.alignDue := rfl
@[simp] theorem State.modSlot_probe (t : Fin 8) (f : WSlot → WSlot) : (s.modSlot t f).probe = s.probe := rfl
@[simp] theorem State.modSlot_phyReq (t : Fin 8) (f : WSlot → WSlot) : (s.modSlot t f).phyReq = s.phyReq := rfl
@[simp] theorem State.modSlot_phyAck (t : Fin 8) (f : WSlot → WSlot) : (s.modSlot t f).phyAck = s.phyAck := rfl
@[simp] theorem State.modSlot_retReq (t : Fin 8) (f : WSlot → WSlot) : (s.modSlot t f).retReq = s.retReq := rfl
@[simp] theorem State.modSlot_retAck (t : Fin 8) (f : WSlot → WSlot) : (s.modSlot t f).retAck = s.retAck := rfl
@[simp] theorem State.modSlot_trust (t : Fin 8) (f : WSlot → WSlot) : (s.modSlot t f).trust = s.trust := rfl
@[simp] theorem State.modSlot_dbg (t : Fin 8) (f : WSlot → WSlot) : (s.modSlot t f).dbg = s.dbg := rfl
@[simp] theorem State.modSlot_freeIndex (t : Fin 8) (f : WSlot → WSlot) : (s.modSlot t f).freeIndex = s.freeIndex := rfl

/-! ### modTimer -/

@[simp] theorem State.modTimer_pending (n : Fin 64) (f : Timer → Timer) : (s.modTimer n f).pending = s.pending := rfl
@[simp] theorem State.modTimer_porLow (n : Fin 64) (f : Timer → Timer) : (s.modTimer n f).porLow = s.porLow := rfl
@[simp] theorem State.modTimer_rstLow (n : Fin 64) (f : Timer → Timer) : (s.modTimer n f).rstLow = s.rstLow := rfl
@[simp] theorem State.modTimer_firstEdge (n : Fin 64) (f : Timer → Timer) : (s.modTimer n f).firstEdge = s.firstEdge := rfl
@[simp] theorem State.modTimer_clkOk (n : Fin 64) (f : Timer → Timer) : (s.modTimer n f).clkOk = s.clkOk := rfl
@[simp] theorem State.modTimer_beatno (n : Fin 64) (f : Timer → Timer) : (s.modTimer n f).beatno = s.beatno := rfl
@[simp] theorem State.modTimer_fofs (n : Fin 64) (f : Timer → Timer) : (s.modTimer n f).fofs = s.fofs := rfl
@[simp] theorem State.modTimer_regs (n : Fin 64) (f : Timer → Timer) : (s.modTimer n f).regs = s.regs := rfl
@[simp] theorem State.modTimer_rsp (n : Fin 64) (f : Timer → Timer) : (s.modTimer n f).rsp = s.rsp := rfl
@[simp] theorem State.modTimer_hrpQ (n : Fin 64) (f : Timer → Timer) : (s.modTimer n f).hrpQ = s.hrpQ := rfl
@[simp] theorem State.modTimer_hrpOut (n : Fin 64) (f : Timer → Timer) : (s.modTimer n f).hrpOut = s.hrpOut := rfl
@[simp] theorem State.modTimer_hrpSeq (n : Fin 64) (f : Timer → Timer) : (s.modTimer n f).hrpSeq = s.hrpSeq := rfl
@[simp] theorem State.modTimer_islandQ (n : Fin 64) (f : Timer → Timer) : (s.modTimer n f).islandQ = s.islandQ := rfl
@[simp] theorem State.modTimer_clkLost (n : Fin 64) (f : Timer → Timer) : (s.modTimer n f).clkLost = s.clkLost := rfl
@[simp] theorem State.modTimer_pinLost (n : Fin 64) (f : Timer → Timer) : (s.modTimer n f).pinLost = s.pinLost := rfl
@[simp] theorem State.modTimer_callboard (n : Fin 64) (f : Timer → Timer) : (s.modTimer n f).callboard = s.callboard := rfl
@[simp] theorem State.modTimer_permit (n : Fin 64) (f : Timer → Timer) : (s.modTimer n f).permit = s.permit := rfl
@[simp] theorem State.modTimer_ringAhead (n : Fin 64) (f : Timer → Timer) : (s.modTimer n f).ringAhead = s.ringAhead := rfl
@[simp] theorem State.modTimer_ringRel (n : Fin 64) (f : Timer → Timer) : (s.modTimer n f).ringRel = s.ringRel := rfl
@[simp] theorem State.modTimer_ports (n : Fin 64) (f : Timer → Timer) : (s.modTimer n f).ports = s.ports := rfl
@[simp] theorem State.modTimer_frames (n : Fin 64) (f : Timer → Timer) : (s.modTimer n f).frames = s.frames := rfl
@[simp] theorem State.modTimer_fwdQ (n : Fin 64) (f : Timer → Timer) : (s.modTimer n f).fwdQ = s.fwdQ := rfl
@[simp] theorem State.modTimer_groups (n : Fin 64) (f : Timer → Timer) : (s.modTimer n f).groups = s.groups := rfl
@[simp] theorem State.modTimer_pipes (n : Fin 64) (f : Timer → Timer) : (s.modTimer n f).pipes = s.pipes := rfl
@[simp] theorem State.modTimer_nextChain (n : Fin 64) (f : Timer → Timer) : (s.modTimer n f).nextChain = s.nextChain := rfl
@[simp] theorem State.modTimer_curtain (n : Fin 64) (f : Timer → Timer) : (s.modTimer n f).curtain = s.curtain := rfl
@[simp] theorem State.modTimer_store (n : Fin 64) (f : Timer → Timer) : (s.modTimer n f).store = s.store := rfl
@[simp] theorem State.modTimer_posted (n : Fin 64) (f : Timer → Timer) : (s.modTimer n f).posted = s.posted := rfl
@[simp] theorem State.modTimer_logQ (n : Fin 64) (f : Timer → Timer) : (s.modTimer n f).logQ = s.logQ := rfl
@[simp] theorem State.modTimer_relNext (n : Fin 64) (f : Timer → Timer) : (s.modTimer n f).relNext = s.relNext := rfl
@[simp] theorem State.modTimer_slots (n : Fin 64) (f : Timer → Timer) : (s.modTimer n f).slots = s.slots := rfl
@[simp] theorem State.modTimer_engines (n : Fin 64) (f : Timer → Timer) : (s.modTimer n f).engines = s.engines := rfl
@[simp] theorem State.modTimer_shared (n : Fin 64) (f : Timer → Timer) : (s.modTimer n f).shared = s.shared := rfl
@[simp] theorem State.modTimer_walks (n : Fin 64) (f : Timer → Timer) : (s.modTimer n f).walks = s.walks := rfl
@[simp] theorem State.modTimer_cstore (n : Fin 64) (f : Timer → Timer) : (s.modTimer n f).cstore = s.cstore := rfl
@[simp] theorem State.modTimer_dispatch (n : Fin 64) (f : Timer → Timer) : (s.modTimer n f).dispatch = s.dispatch := rfl
@[simp] theorem State.modTimer_sstore (n : Fin 64) (f : Timer → Timer) : (s.modTimer n f).sstore = s.sstore := rfl
@[simp] theorem State.modTimer_csErr (n : Fin 64) (f : Timer → Timer) : (s.modTimer n f).csErr = s.csErr := rfl
@[simp] theorem State.modTimer_ssErr (n : Fin 64) (f : Timer → Timer) : (s.modTimer n f).ssErr = s.ssErr := rfl
@[simp] theorem State.modTimer_dispErr (n : Fin 64) (f : Timer → Timer) : (s.modTimer n f).dispErr = s.dispErr := rfl
@[simp] theorem State.modTimer_ssWait (n : Fin 64) (f : Timer → Timer) : (s.modTimer n f).ssWait = s.ssWait := rfl
@[simp] theorem State.modTimer_mem (n : Fin 64) (f : Timer → Timer) : (s.modTimer n f).mem = s.mem := rfl
@[simp] theorem State.modTimer_memErr (n : Fin 64) (f : Timer → Timer) : (s.modTimer n f).memErr = s.memErr := rfl
@[simp] theorem State.modTimer_retained (n : Fin 64) (f : Timer → Timer) : (s.modTimer n f).retained = s.retained := rfl
@[simp] theorem State.modTimer_entering (n : Fin 64) (f : Timer → Timer) : (s.modTimer n f).entering = s.entering := rfl
@[simp] theorem State.modTimer_waking (n : Fin 64) (f : Timer → Timer) : (s.modTimer n f).waking = s.waking := rfl
@[simp] theorem State.modTimer_wakeFor (n : Fin 64) (f : Timer → Timer) : (s.modTimer n f).wakeFor = s.wakeFor := rfl
@[simp] theorem State.modTimer_scrubs (n : Fin 64) (f : Timer → Timer) : (s.modTimer n f).scrubs = s.scrubs := rfl
@[simp] theorem State.modTimer_bists (n : Fin 64) (f : Timer → Timer) : (s.modTimer n f).bists = s.bists := rfl
@[simp] theorem State.modTimer_bulk (n : Fin 64) (f : Timer → Timer) : (s.modTimer n f).bulk = s.bulk := rfl
@[simp] theorem State.modTimer_wiping (n : Fin 64) (f : Timer → Timer) : (s.modTimer n f).wiping = s.wiping := rfl
@[simp] theorem State.modTimer_bursts (n : Fin 64) (f : Timer → Timer) : (s.modTimer n f).bursts = s.bursts := rfl
@[simp] theorem State.modTimer_lastGrant (n : Fin 64) (f : Timer → Timer) : (s.modTimer n f).lastGrant = s.lastGrant := rfl
@[simp] theorem State.modTimer_singles (n : Fin 64) (f : Timer → Timer) : (s.modTimer n f).singles = s.singles := rfl
@[simp] theorem State.modTimer_clash (n : Fin 64) (f : Timer → Timer) : (s.modTimer n f).clash = s.clash := rfl
@[simp] theorem State.modTimer_hostReqs (n : Fin 64) (f : Timer → Timer) : (s.modTimer n f).hostReqs = s.hostReqs := rfl
@[simp] theorem State.modTimer_inbound (n : Fin 64) (f : Timer → Timer) : (s.modTimer n f).inbound = s.inbound := rfl
@[simp] theorem State.modTimer_hfiRst (n : Fin 64) (f : Timer → Timer) : (s.modTimer n f).hfiRst = s.hfiRst := rfl
@[simp] theorem State.modTimer_hfiAck (n : Fin 64) (f : Timer → Timer) : (s.modTimer n f).hfiAck = s.hfiAck := rfl
@[simp] theorem State.modTimer_frz1 (n : Fin 64) (f : Timer → Timer) : (s.modTimer n f).frz1 = s.frz1 := rfl
@[simp] theorem State.modTimer_frzClk (n : Fin 64) (f : Timer → Timer) : (s.modTimer n f).frzClk = s.frzClk := rfl
@[simp] theorem State.modTimer_gsWait (n : Fin 64) (f : Timer → Timer) : (s.modTimer n f).gsWait = s.gsWait := rfl
@[simp] theorem State.modTimer_capRise (n : Fin 64) (f : Timer → Timer) : (s.modTimer n f).capRise = s.capRise := rfl
@[simp] theorem State.modTimer_pins (n : Fin 64) (f : Timer → Timer) : (s.modTimer n f).pins = s.pins := rfl
@[simp] theorem State.modTimer_align (n : Fin 64) (f : Timer → Timer) : (s.modTimer n f).align = s.align := rfl
@[simp] theorem State.modTimer_alignGood (n : Fin 64) (f : Timer → Timer) : (s.modTimer n f).alignGood = s.alignGood := rfl
@[simp] theorem State.modTimer_alignDue (n : Fin 64) (f : Timer → Timer) : (s.modTimer n f).alignDue = s.alignDue := rfl
@[simp] theorem State.modTimer_probe (n : Fin 64) (f : Timer → Timer) : (s.modTimer n f).probe = s.probe := rfl
@[simp] theorem State.modTimer_phyReq (n : Fin 64) (f : Timer → Timer) : (s.modTimer n f).phyReq = s.phyReq := rfl
@[simp] theorem State.modTimer_phyAck (n : Fin 64) (f : Timer → Timer) : (s.modTimer n f).phyAck = s.phyAck := rfl
@[simp] theorem State.modTimer_retReq (n : Fin 64) (f : Timer → Timer) : (s.modTimer n f).retReq = s.retReq := rfl
@[simp] theorem State.modTimer_retAck (n : Fin 64) (f : Timer → Timer) : (s.modTimer n f).retAck = s.retAck := rfl
@[simp] theorem State.modTimer_trust (n : Fin 64) (f : Timer → Timer) : (s.modTimer n f).trust = s.trust := rfl
@[simp] theorem State.modTimer_dbg (n : Fin 64) (f : Timer → Timer) : (s.modTimer n f).dbg = s.dbg := rfl
@[simp] theorem State.modTimer_freeIndex (n : Fin 64) (f : Timer → Timer) : (s.modTimer n f).freeIndex = s.freeIndex := rfl

/-! ### modPin -/

@[simp] theorem State.modPin_pending (k : Fin 32) (f : PinEng → PinEng) : (s.modPin k f).pending = s.pending := rfl
@[simp] theorem State.modPin_porLow (k : Fin 32) (f : PinEng → PinEng) : (s.modPin k f).porLow = s.porLow := rfl
@[simp] theorem State.modPin_rstLow (k : Fin 32) (f : PinEng → PinEng) : (s.modPin k f).rstLow = s.rstLow := rfl
@[simp] theorem State.modPin_firstEdge (k : Fin 32) (f : PinEng → PinEng) : (s.modPin k f).firstEdge = s.firstEdge := rfl
@[simp] theorem State.modPin_clkOk (k : Fin 32) (f : PinEng → PinEng) : (s.modPin k f).clkOk = s.clkOk := rfl
@[simp] theorem State.modPin_beatno (k : Fin 32) (f : PinEng → PinEng) : (s.modPin k f).beatno = s.beatno := rfl
@[simp] theorem State.modPin_fofs (k : Fin 32) (f : PinEng → PinEng) : (s.modPin k f).fofs = s.fofs := rfl
@[simp] theorem State.modPin_regs (k : Fin 32) (f : PinEng → PinEng) : (s.modPin k f).regs = s.regs := rfl
@[simp] theorem State.modPin_rsp (k : Fin 32) (f : PinEng → PinEng) : (s.modPin k f).rsp = s.rsp := rfl
@[simp] theorem State.modPin_hrpQ (k : Fin 32) (f : PinEng → PinEng) : (s.modPin k f).hrpQ = s.hrpQ := rfl
@[simp] theorem State.modPin_hrpOut (k : Fin 32) (f : PinEng → PinEng) : (s.modPin k f).hrpOut = s.hrpOut := rfl
@[simp] theorem State.modPin_hrpSeq (k : Fin 32) (f : PinEng → PinEng) : (s.modPin k f).hrpSeq = s.hrpSeq := rfl
@[simp] theorem State.modPin_islandQ (k : Fin 32) (f : PinEng → PinEng) : (s.modPin k f).islandQ = s.islandQ := rfl
@[simp] theorem State.modPin_clkLost (k : Fin 32) (f : PinEng → PinEng) : (s.modPin k f).clkLost = s.clkLost := rfl
@[simp] theorem State.modPin_pinLost (k : Fin 32) (f : PinEng → PinEng) : (s.modPin k f).pinLost = s.pinLost := rfl
@[simp] theorem State.modPin_callboard (k : Fin 32) (f : PinEng → PinEng) : (s.modPin k f).callboard = s.callboard := rfl
@[simp] theorem State.modPin_permit (k : Fin 32) (f : PinEng → PinEng) : (s.modPin k f).permit = s.permit := rfl
@[simp] theorem State.modPin_ringAhead (k : Fin 32) (f : PinEng → PinEng) : (s.modPin k f).ringAhead = s.ringAhead := rfl
@[simp] theorem State.modPin_ringRel (k : Fin 32) (f : PinEng → PinEng) : (s.modPin k f).ringRel = s.ringRel := rfl
@[simp] theorem State.modPin_ports (k : Fin 32) (f : PinEng → PinEng) : (s.modPin k f).ports = s.ports := rfl
@[simp] theorem State.modPin_frames (k : Fin 32) (f : PinEng → PinEng) : (s.modPin k f).frames = s.frames := rfl
@[simp] theorem State.modPin_fwdQ (k : Fin 32) (f : PinEng → PinEng) : (s.modPin k f).fwdQ = s.fwdQ := rfl
@[simp] theorem State.modPin_groups (k : Fin 32) (f : PinEng → PinEng) : (s.modPin k f).groups = s.groups := rfl
@[simp] theorem State.modPin_pipes (k : Fin 32) (f : PinEng → PinEng) : (s.modPin k f).pipes = s.pipes := rfl
@[simp] theorem State.modPin_nextChain (k : Fin 32) (f : PinEng → PinEng) : (s.modPin k f).nextChain = s.nextChain := rfl
@[simp] theorem State.modPin_curtain (k : Fin 32) (f : PinEng → PinEng) : (s.modPin k f).curtain = s.curtain := rfl
@[simp] theorem State.modPin_store (k : Fin 32) (f : PinEng → PinEng) : (s.modPin k f).store = s.store := rfl
@[simp] theorem State.modPin_posted (k : Fin 32) (f : PinEng → PinEng) : (s.modPin k f).posted = s.posted := rfl
@[simp] theorem State.modPin_logQ (k : Fin 32) (f : PinEng → PinEng) : (s.modPin k f).logQ = s.logQ := rfl
@[simp] theorem State.modPin_relNext (k : Fin 32) (f : PinEng → PinEng) : (s.modPin k f).relNext = s.relNext := rfl
@[simp] theorem State.modPin_slots (k : Fin 32) (f : PinEng → PinEng) : (s.modPin k f).slots = s.slots := rfl
@[simp] theorem State.modPin_engines (k : Fin 32) (f : PinEng → PinEng) : (s.modPin k f).engines = s.engines := rfl
@[simp] theorem State.modPin_shared (k : Fin 32) (f : PinEng → PinEng) : (s.modPin k f).shared = s.shared := rfl
@[simp] theorem State.modPin_walks (k : Fin 32) (f : PinEng → PinEng) : (s.modPin k f).walks = s.walks := rfl
@[simp] theorem State.modPin_cstore (k : Fin 32) (f : PinEng → PinEng) : (s.modPin k f).cstore = s.cstore := rfl
@[simp] theorem State.modPin_dispatch (k : Fin 32) (f : PinEng → PinEng) : (s.modPin k f).dispatch = s.dispatch := rfl
@[simp] theorem State.modPin_sstore (k : Fin 32) (f : PinEng → PinEng) : (s.modPin k f).sstore = s.sstore := rfl
@[simp] theorem State.modPin_csErr (k : Fin 32) (f : PinEng → PinEng) : (s.modPin k f).csErr = s.csErr := rfl
@[simp] theorem State.modPin_ssErr (k : Fin 32) (f : PinEng → PinEng) : (s.modPin k f).ssErr = s.ssErr := rfl
@[simp] theorem State.modPin_dispErr (k : Fin 32) (f : PinEng → PinEng) : (s.modPin k f).dispErr = s.dispErr := rfl
@[simp] theorem State.modPin_ssWait (k : Fin 32) (f : PinEng → PinEng) : (s.modPin k f).ssWait = s.ssWait := rfl
@[simp] theorem State.modPin_mem (k : Fin 32) (f : PinEng → PinEng) : (s.modPin k f).mem = s.mem := rfl
@[simp] theorem State.modPin_memErr (k : Fin 32) (f : PinEng → PinEng) : (s.modPin k f).memErr = s.memErr := rfl
@[simp] theorem State.modPin_retained (k : Fin 32) (f : PinEng → PinEng) : (s.modPin k f).retained = s.retained := rfl
@[simp] theorem State.modPin_entering (k : Fin 32) (f : PinEng → PinEng) : (s.modPin k f).entering = s.entering := rfl
@[simp] theorem State.modPin_waking (k : Fin 32) (f : PinEng → PinEng) : (s.modPin k f).waking = s.waking := rfl
@[simp] theorem State.modPin_wakeFor (k : Fin 32) (f : PinEng → PinEng) : (s.modPin k f).wakeFor = s.wakeFor := rfl
@[simp] theorem State.modPin_scrubs (k : Fin 32) (f : PinEng → PinEng) : (s.modPin k f).scrubs = s.scrubs := rfl
@[simp] theorem State.modPin_bists (k : Fin 32) (f : PinEng → PinEng) : (s.modPin k f).bists = s.bists := rfl
@[simp] theorem State.modPin_bulk (k : Fin 32) (f : PinEng → PinEng) : (s.modPin k f).bulk = s.bulk := rfl
@[simp] theorem State.modPin_wiping (k : Fin 32) (f : PinEng → PinEng) : (s.modPin k f).wiping = s.wiping := rfl
@[simp] theorem State.modPin_bursts (k : Fin 32) (f : PinEng → PinEng) : (s.modPin k f).bursts = s.bursts := rfl
@[simp] theorem State.modPin_lastGrant (k : Fin 32) (f : PinEng → PinEng) : (s.modPin k f).lastGrant = s.lastGrant := rfl
@[simp] theorem State.modPin_singles (k : Fin 32) (f : PinEng → PinEng) : (s.modPin k f).singles = s.singles := rfl
@[simp] theorem State.modPin_clash (k : Fin 32) (f : PinEng → PinEng) : (s.modPin k f).clash = s.clash := rfl
@[simp] theorem State.modPin_hostReqs (k : Fin 32) (f : PinEng → PinEng) : (s.modPin k f).hostReqs = s.hostReqs := rfl
@[simp] theorem State.modPin_inbound (k : Fin 32) (f : PinEng → PinEng) : (s.modPin k f).inbound = s.inbound := rfl
@[simp] theorem State.modPin_hfiRst (k : Fin 32) (f : PinEng → PinEng) : (s.modPin k f).hfiRst = s.hfiRst := rfl
@[simp] theorem State.modPin_hfiAck (k : Fin 32) (f : PinEng → PinEng) : (s.modPin k f).hfiAck = s.hfiAck := rfl
@[simp] theorem State.modPin_frz1 (k : Fin 32) (f : PinEng → PinEng) : (s.modPin k f).frz1 = s.frz1 := rfl
@[simp] theorem State.modPin_frzClk (k : Fin 32) (f : PinEng → PinEng) : (s.modPin k f).frzClk = s.frzClk := rfl
@[simp] theorem State.modPin_timers (k : Fin 32) (f : PinEng → PinEng) : (s.modPin k f).timers = s.timers := rfl
@[simp] theorem State.modPin_gsWait (k : Fin 32) (f : PinEng → PinEng) : (s.modPin k f).gsWait = s.gsWait := rfl
@[simp] theorem State.modPin_capRise (k : Fin 32) (f : PinEng → PinEng) : (s.modPin k f).capRise = s.capRise := rfl
@[simp] theorem State.modPin_align (k : Fin 32) (f : PinEng → PinEng) : (s.modPin k f).align = s.align := rfl
@[simp] theorem State.modPin_alignGood (k : Fin 32) (f : PinEng → PinEng) : (s.modPin k f).alignGood = s.alignGood := rfl
@[simp] theorem State.modPin_alignDue (k : Fin 32) (f : PinEng → PinEng) : (s.modPin k f).alignDue = s.alignDue := rfl
@[simp] theorem State.modPin_probe (k : Fin 32) (f : PinEng → PinEng) : (s.modPin k f).probe = s.probe := rfl
@[simp] theorem State.modPin_phyReq (k : Fin 32) (f : PinEng → PinEng) : (s.modPin k f).phyReq = s.phyReq := rfl
@[simp] theorem State.modPin_phyAck (k : Fin 32) (f : PinEng → PinEng) : (s.modPin k f).phyAck = s.phyAck := rfl
@[simp] theorem State.modPin_retReq (k : Fin 32) (f : PinEng → PinEng) : (s.modPin k f).retReq = s.retReq := rfl
@[simp] theorem State.modPin_retAck (k : Fin 32) (f : PinEng → PinEng) : (s.modPin k f).retAck = s.retAck := rfl
@[simp] theorem State.modPin_trust (k : Fin 32) (f : PinEng → PinEng) : (s.modPin k f).trust = s.trust := rfl
@[simp] theorem State.modPin_dbg (k : Fin 32) (f : PinEng → PinEng) : (s.modPin k f).dbg = s.dbg := rfl
@[simp] theorem State.modPin_freeIndex (k : Fin 32) (f : PinEng → PinEng) : (s.modPin k f).freeIndex = s.freeIndex := rfl

/-! ### modCb -/

@[simp] theorem State.modCb_pending (r : Fin 64) (f : CbRec → CbRec) : (s.modCb r f).pending = s.pending := rfl
@[simp] theorem State.modCb_porLow (r : Fin 64) (f : CbRec → CbRec) : (s.modCb r f).porLow = s.porLow := rfl
@[simp] theorem State.modCb_rstLow (r : Fin 64) (f : CbRec → CbRec) : (s.modCb r f).rstLow = s.rstLow := rfl
@[simp] theorem State.modCb_firstEdge (r : Fin 64) (f : CbRec → CbRec) : (s.modCb r f).firstEdge = s.firstEdge := rfl
@[simp] theorem State.modCb_clkOk (r : Fin 64) (f : CbRec → CbRec) : (s.modCb r f).clkOk = s.clkOk := rfl
@[simp] theorem State.modCb_beatno (r : Fin 64) (f : CbRec → CbRec) : (s.modCb r f).beatno = s.beatno := rfl
@[simp] theorem State.modCb_fofs (r : Fin 64) (f : CbRec → CbRec) : (s.modCb r f).fofs = s.fofs := rfl
@[simp] theorem State.modCb_regs (r : Fin 64) (f : CbRec → CbRec) : (s.modCb r f).regs = s.regs := rfl
@[simp] theorem State.modCb_rsp (r : Fin 64) (f : CbRec → CbRec) : (s.modCb r f).rsp = s.rsp := rfl
@[simp] theorem State.modCb_hrpQ (r : Fin 64) (f : CbRec → CbRec) : (s.modCb r f).hrpQ = s.hrpQ := rfl
@[simp] theorem State.modCb_hrpOut (r : Fin 64) (f : CbRec → CbRec) : (s.modCb r f).hrpOut = s.hrpOut := rfl
@[simp] theorem State.modCb_hrpSeq (r : Fin 64) (f : CbRec → CbRec) : (s.modCb r f).hrpSeq = s.hrpSeq := rfl
@[simp] theorem State.modCb_islandQ (r : Fin 64) (f : CbRec → CbRec) : (s.modCb r f).islandQ = s.islandQ := rfl
@[simp] theorem State.modCb_clkLost (r : Fin 64) (f : CbRec → CbRec) : (s.modCb r f).clkLost = s.clkLost := rfl
@[simp] theorem State.modCb_pinLost (r : Fin 64) (f : CbRec → CbRec) : (s.modCb r f).pinLost = s.pinLost := rfl
@[simp] theorem State.modCb_permit (r : Fin 64) (f : CbRec → CbRec) : (s.modCb r f).permit = s.permit := rfl
@[simp] theorem State.modCb_ringAhead (r : Fin 64) (f : CbRec → CbRec) : (s.modCb r f).ringAhead = s.ringAhead := rfl
@[simp] theorem State.modCb_ringRel (r : Fin 64) (f : CbRec → CbRec) : (s.modCb r f).ringRel = s.ringRel := rfl
@[simp] theorem State.modCb_ports (r : Fin 64) (f : CbRec → CbRec) : (s.modCb r f).ports = s.ports := rfl
@[simp] theorem State.modCb_frames (r : Fin 64) (f : CbRec → CbRec) : (s.modCb r f).frames = s.frames := rfl
@[simp] theorem State.modCb_fwdQ (r : Fin 64) (f : CbRec → CbRec) : (s.modCb r f).fwdQ = s.fwdQ := rfl
@[simp] theorem State.modCb_groups (r : Fin 64) (f : CbRec → CbRec) : (s.modCb r f).groups = s.groups := rfl
@[simp] theorem State.modCb_pipes (r : Fin 64) (f : CbRec → CbRec) : (s.modCb r f).pipes = s.pipes := rfl
@[simp] theorem State.modCb_nextChain (r : Fin 64) (f : CbRec → CbRec) : (s.modCb r f).nextChain = s.nextChain := rfl
@[simp] theorem State.modCb_curtain (r : Fin 64) (f : CbRec → CbRec) : (s.modCb r f).curtain = s.curtain := rfl
@[simp] theorem State.modCb_store (r : Fin 64) (f : CbRec → CbRec) : (s.modCb r f).store = s.store := rfl
@[simp] theorem State.modCb_posted (r : Fin 64) (f : CbRec → CbRec) : (s.modCb r f).posted = s.posted := rfl
@[simp] theorem State.modCb_logQ (r : Fin 64) (f : CbRec → CbRec) : (s.modCb r f).logQ = s.logQ := rfl
@[simp] theorem State.modCb_relNext (r : Fin 64) (f : CbRec → CbRec) : (s.modCb r f).relNext = s.relNext := rfl
@[simp] theorem State.modCb_slots (r : Fin 64) (f : CbRec → CbRec) : (s.modCb r f).slots = s.slots := rfl
@[simp] theorem State.modCb_engines (r : Fin 64) (f : CbRec → CbRec) : (s.modCb r f).engines = s.engines := rfl
@[simp] theorem State.modCb_shared (r : Fin 64) (f : CbRec → CbRec) : (s.modCb r f).shared = s.shared := rfl
@[simp] theorem State.modCb_walks (r : Fin 64) (f : CbRec → CbRec) : (s.modCb r f).walks = s.walks := rfl
@[simp] theorem State.modCb_cstore (r : Fin 64) (f : CbRec → CbRec) : (s.modCb r f).cstore = s.cstore := rfl
@[simp] theorem State.modCb_dispatch (r : Fin 64) (f : CbRec → CbRec) : (s.modCb r f).dispatch = s.dispatch := rfl
@[simp] theorem State.modCb_sstore (r : Fin 64) (f : CbRec → CbRec) : (s.modCb r f).sstore = s.sstore := rfl
@[simp] theorem State.modCb_csErr (r : Fin 64) (f : CbRec → CbRec) : (s.modCb r f).csErr = s.csErr := rfl
@[simp] theorem State.modCb_ssErr (r : Fin 64) (f : CbRec → CbRec) : (s.modCb r f).ssErr = s.ssErr := rfl
@[simp] theorem State.modCb_dispErr (r : Fin 64) (f : CbRec → CbRec) : (s.modCb r f).dispErr = s.dispErr := rfl
@[simp] theorem State.modCb_ssWait (r : Fin 64) (f : CbRec → CbRec) : (s.modCb r f).ssWait = s.ssWait := rfl
@[simp] theorem State.modCb_mem (r : Fin 64) (f : CbRec → CbRec) : (s.modCb r f).mem = s.mem := rfl
@[simp] theorem State.modCb_memErr (r : Fin 64) (f : CbRec → CbRec) : (s.modCb r f).memErr = s.memErr := rfl
@[simp] theorem State.modCb_retained (r : Fin 64) (f : CbRec → CbRec) : (s.modCb r f).retained = s.retained := rfl
@[simp] theorem State.modCb_entering (r : Fin 64) (f : CbRec → CbRec) : (s.modCb r f).entering = s.entering := rfl
@[simp] theorem State.modCb_waking (r : Fin 64) (f : CbRec → CbRec) : (s.modCb r f).waking = s.waking := rfl
@[simp] theorem State.modCb_wakeFor (r : Fin 64) (f : CbRec → CbRec) : (s.modCb r f).wakeFor = s.wakeFor := rfl
@[simp] theorem State.modCb_scrubs (r : Fin 64) (f : CbRec → CbRec) : (s.modCb r f).scrubs = s.scrubs := rfl
@[simp] theorem State.modCb_bists (r : Fin 64) (f : CbRec → CbRec) : (s.modCb r f).bists = s.bists := rfl
@[simp] theorem State.modCb_bulk (r : Fin 64) (f : CbRec → CbRec) : (s.modCb r f).bulk = s.bulk := rfl
@[simp] theorem State.modCb_wiping (r : Fin 64) (f : CbRec → CbRec) : (s.modCb r f).wiping = s.wiping := rfl
@[simp] theorem State.modCb_bursts (r : Fin 64) (f : CbRec → CbRec) : (s.modCb r f).bursts = s.bursts := rfl
@[simp] theorem State.modCb_lastGrant (r : Fin 64) (f : CbRec → CbRec) : (s.modCb r f).lastGrant = s.lastGrant := rfl
@[simp] theorem State.modCb_singles (r : Fin 64) (f : CbRec → CbRec) : (s.modCb r f).singles = s.singles := rfl
@[simp] theorem State.modCb_clash (r : Fin 64) (f : CbRec → CbRec) : (s.modCb r f).clash = s.clash := rfl
@[simp] theorem State.modCb_hostReqs (r : Fin 64) (f : CbRec → CbRec) : (s.modCb r f).hostReqs = s.hostReqs := rfl
@[simp] theorem State.modCb_inbound (r : Fin 64) (f : CbRec → CbRec) : (s.modCb r f).inbound = s.inbound := rfl
@[simp] theorem State.modCb_hfiRst (r : Fin 64) (f : CbRec → CbRec) : (s.modCb r f).hfiRst = s.hfiRst := rfl
@[simp] theorem State.modCb_hfiAck (r : Fin 64) (f : CbRec → CbRec) : (s.modCb r f).hfiAck = s.hfiAck := rfl
@[simp] theorem State.modCb_frz1 (r : Fin 64) (f : CbRec → CbRec) : (s.modCb r f).frz1 = s.frz1 := rfl
@[simp] theorem State.modCb_frzClk (r : Fin 64) (f : CbRec → CbRec) : (s.modCb r f).frzClk = s.frzClk := rfl
@[simp] theorem State.modCb_timers (r : Fin 64) (f : CbRec → CbRec) : (s.modCb r f).timers = s.timers := rfl
@[simp] theorem State.modCb_gsWait (r : Fin 64) (f : CbRec → CbRec) : (s.modCb r f).gsWait = s.gsWait := rfl
@[simp] theorem State.modCb_capRise (r : Fin 64) (f : CbRec → CbRec) : (s.modCb r f).capRise = s.capRise := rfl
@[simp] theorem State.modCb_pins (r : Fin 64) (f : CbRec → CbRec) : (s.modCb r f).pins = s.pins := rfl
@[simp] theorem State.modCb_align (r : Fin 64) (f : CbRec → CbRec) : (s.modCb r f).align = s.align := rfl
@[simp] theorem State.modCb_alignGood (r : Fin 64) (f : CbRec → CbRec) : (s.modCb r f).alignGood = s.alignGood := rfl
@[simp] theorem State.modCb_alignDue (r : Fin 64) (f : CbRec → CbRec) : (s.modCb r f).alignDue = s.alignDue := rfl
@[simp] theorem State.modCb_probe (r : Fin 64) (f : CbRec → CbRec) : (s.modCb r f).probe = s.probe := rfl
@[simp] theorem State.modCb_phyReq (r : Fin 64) (f : CbRec → CbRec) : (s.modCb r f).phyReq = s.phyReq := rfl
@[simp] theorem State.modCb_phyAck (r : Fin 64) (f : CbRec → CbRec) : (s.modCb r f).phyAck = s.phyAck := rfl
@[simp] theorem State.modCb_retReq (r : Fin 64) (f : CbRec → CbRec) : (s.modCb r f).retReq = s.retReq := rfl
@[simp] theorem State.modCb_retAck (r : Fin 64) (f : CbRec → CbRec) : (s.modCb r f).retAck = s.retAck := rfl
@[simp] theorem State.modCb_trust (r : Fin 64) (f : CbRec → CbRec) : (s.modCb r f).trust = s.trust := rfl
@[simp] theorem State.modCb_dbg (r : Fin 64) (f : CbRec → CbRec) : (s.modCb r f).dbg = s.dbg := rfl
@[simp] theorem State.modCb_freeIndex (r : Fin 64) (f : CbRec → CbRec) : (s.modCb r f).freeIndex = s.freeIndex := rfl

/-! ### cbReport -/

@[simp] theorem State.cbReport_pending (r : Fin 64) (f : CbVals → CbVals) : (s.cbReport r f).pending = s.pending := rfl
@[simp] theorem State.cbReport_porLow (r : Fin 64) (f : CbVals → CbVals) : (s.cbReport r f).porLow = s.porLow := rfl
@[simp] theorem State.cbReport_rstLow (r : Fin 64) (f : CbVals → CbVals) : (s.cbReport r f).rstLow = s.rstLow := rfl
@[simp] theorem State.cbReport_firstEdge (r : Fin 64) (f : CbVals → CbVals) : (s.cbReport r f).firstEdge = s.firstEdge := rfl
@[simp] theorem State.cbReport_clkOk (r : Fin 64) (f : CbVals → CbVals) : (s.cbReport r f).clkOk = s.clkOk := rfl
@[simp] theorem State.cbReport_beatno (r : Fin 64) (f : CbVals → CbVals) : (s.cbReport r f).beatno = s.beatno := rfl
@[simp] theorem State.cbReport_fofs (r : Fin 64) (f : CbVals → CbVals) : (s.cbReport r f).fofs = s.fofs := rfl
@[simp] theorem State.cbReport_regs (r : Fin 64) (f : CbVals → CbVals) : (s.cbReport r f).regs = s.regs := rfl
@[simp] theorem State.cbReport_rsp (r : Fin 64) (f : CbVals → CbVals) : (s.cbReport r f).rsp = s.rsp := rfl
@[simp] theorem State.cbReport_hrpQ (r : Fin 64) (f : CbVals → CbVals) : (s.cbReport r f).hrpQ = s.hrpQ := rfl
@[simp] theorem State.cbReport_hrpOut (r : Fin 64) (f : CbVals → CbVals) : (s.cbReport r f).hrpOut = s.hrpOut := rfl
@[simp] theorem State.cbReport_hrpSeq (r : Fin 64) (f : CbVals → CbVals) : (s.cbReport r f).hrpSeq = s.hrpSeq := rfl
@[simp] theorem State.cbReport_islandQ (r : Fin 64) (f : CbVals → CbVals) : (s.cbReport r f).islandQ = s.islandQ := rfl
@[simp] theorem State.cbReport_clkLost (r : Fin 64) (f : CbVals → CbVals) : (s.cbReport r f).clkLost = s.clkLost := rfl
@[simp] theorem State.cbReport_pinLost (r : Fin 64) (f : CbVals → CbVals) : (s.cbReport r f).pinLost = s.pinLost := rfl
@[simp] theorem State.cbReport_permit (r : Fin 64) (f : CbVals → CbVals) : (s.cbReport r f).permit = s.permit := rfl
@[simp] theorem State.cbReport_ringAhead (r : Fin 64) (f : CbVals → CbVals) : (s.cbReport r f).ringAhead = s.ringAhead := rfl
@[simp] theorem State.cbReport_ringRel (r : Fin 64) (f : CbVals → CbVals) : (s.cbReport r f).ringRel = s.ringRel := rfl
@[simp] theorem State.cbReport_ports (r : Fin 64) (f : CbVals → CbVals) : (s.cbReport r f).ports = s.ports := rfl
@[simp] theorem State.cbReport_frames (r : Fin 64) (f : CbVals → CbVals) : (s.cbReport r f).frames = s.frames := rfl
@[simp] theorem State.cbReport_fwdQ (r : Fin 64) (f : CbVals → CbVals) : (s.cbReport r f).fwdQ = s.fwdQ := rfl
@[simp] theorem State.cbReport_groups (r : Fin 64) (f : CbVals → CbVals) : (s.cbReport r f).groups = s.groups := rfl
@[simp] theorem State.cbReport_pipes (r : Fin 64) (f : CbVals → CbVals) : (s.cbReport r f).pipes = s.pipes := rfl
@[simp] theorem State.cbReport_nextChain (r : Fin 64) (f : CbVals → CbVals) : (s.cbReport r f).nextChain = s.nextChain := rfl
@[simp] theorem State.cbReport_curtain (r : Fin 64) (f : CbVals → CbVals) : (s.cbReport r f).curtain = s.curtain := rfl
@[simp] theorem State.cbReport_store (r : Fin 64) (f : CbVals → CbVals) : (s.cbReport r f).store = s.store := rfl
@[simp] theorem State.cbReport_posted (r : Fin 64) (f : CbVals → CbVals) : (s.cbReport r f).posted = s.posted := rfl
@[simp] theorem State.cbReport_logQ (r : Fin 64) (f : CbVals → CbVals) : (s.cbReport r f).logQ = s.logQ := rfl
@[simp] theorem State.cbReport_relNext (r : Fin 64) (f : CbVals → CbVals) : (s.cbReport r f).relNext = s.relNext := rfl
@[simp] theorem State.cbReport_slots (r : Fin 64) (f : CbVals → CbVals) : (s.cbReport r f).slots = s.slots := rfl
@[simp] theorem State.cbReport_engines (r : Fin 64) (f : CbVals → CbVals) : (s.cbReport r f).engines = s.engines := rfl
@[simp] theorem State.cbReport_shared (r : Fin 64) (f : CbVals → CbVals) : (s.cbReport r f).shared = s.shared := rfl
@[simp] theorem State.cbReport_walks (r : Fin 64) (f : CbVals → CbVals) : (s.cbReport r f).walks = s.walks := rfl
@[simp] theorem State.cbReport_cstore (r : Fin 64) (f : CbVals → CbVals) : (s.cbReport r f).cstore = s.cstore := rfl
@[simp] theorem State.cbReport_dispatch (r : Fin 64) (f : CbVals → CbVals) : (s.cbReport r f).dispatch = s.dispatch := rfl
@[simp] theorem State.cbReport_sstore (r : Fin 64) (f : CbVals → CbVals) : (s.cbReport r f).sstore = s.sstore := rfl
@[simp] theorem State.cbReport_csErr (r : Fin 64) (f : CbVals → CbVals) : (s.cbReport r f).csErr = s.csErr := rfl
@[simp] theorem State.cbReport_ssErr (r : Fin 64) (f : CbVals → CbVals) : (s.cbReport r f).ssErr = s.ssErr := rfl
@[simp] theorem State.cbReport_dispErr (r : Fin 64) (f : CbVals → CbVals) : (s.cbReport r f).dispErr = s.dispErr := rfl
@[simp] theorem State.cbReport_ssWait (r : Fin 64) (f : CbVals → CbVals) : (s.cbReport r f).ssWait = s.ssWait := rfl
@[simp] theorem State.cbReport_mem (r : Fin 64) (f : CbVals → CbVals) : (s.cbReport r f).mem = s.mem := rfl
@[simp] theorem State.cbReport_memErr (r : Fin 64) (f : CbVals → CbVals) : (s.cbReport r f).memErr = s.memErr := rfl
@[simp] theorem State.cbReport_retained (r : Fin 64) (f : CbVals → CbVals) : (s.cbReport r f).retained = s.retained := rfl
@[simp] theorem State.cbReport_entering (r : Fin 64) (f : CbVals → CbVals) : (s.cbReport r f).entering = s.entering := rfl
@[simp] theorem State.cbReport_waking (r : Fin 64) (f : CbVals → CbVals) : (s.cbReport r f).waking = s.waking := rfl
@[simp] theorem State.cbReport_wakeFor (r : Fin 64) (f : CbVals → CbVals) : (s.cbReport r f).wakeFor = s.wakeFor := rfl
@[simp] theorem State.cbReport_scrubs (r : Fin 64) (f : CbVals → CbVals) : (s.cbReport r f).scrubs = s.scrubs := rfl
@[simp] theorem State.cbReport_bists (r : Fin 64) (f : CbVals → CbVals) : (s.cbReport r f).bists = s.bists := rfl
@[simp] theorem State.cbReport_bulk (r : Fin 64) (f : CbVals → CbVals) : (s.cbReport r f).bulk = s.bulk := rfl
@[simp] theorem State.cbReport_wiping (r : Fin 64) (f : CbVals → CbVals) : (s.cbReport r f).wiping = s.wiping := rfl
@[simp] theorem State.cbReport_bursts (r : Fin 64) (f : CbVals → CbVals) : (s.cbReport r f).bursts = s.bursts := rfl
@[simp] theorem State.cbReport_lastGrant (r : Fin 64) (f : CbVals → CbVals) : (s.cbReport r f).lastGrant = s.lastGrant := rfl
@[simp] theorem State.cbReport_singles (r : Fin 64) (f : CbVals → CbVals) : (s.cbReport r f).singles = s.singles := rfl
@[simp] theorem State.cbReport_clash (r : Fin 64) (f : CbVals → CbVals) : (s.cbReport r f).clash = s.clash := rfl
@[simp] theorem State.cbReport_hostReqs (r : Fin 64) (f : CbVals → CbVals) : (s.cbReport r f).hostReqs = s.hostReqs := rfl
@[simp] theorem State.cbReport_inbound (r : Fin 64) (f : CbVals → CbVals) : (s.cbReport r f).inbound = s.inbound := rfl
@[simp] theorem State.cbReport_hfiRst (r : Fin 64) (f : CbVals → CbVals) : (s.cbReport r f).hfiRst = s.hfiRst := rfl
@[simp] theorem State.cbReport_hfiAck (r : Fin 64) (f : CbVals → CbVals) : (s.cbReport r f).hfiAck = s.hfiAck := rfl
@[simp] theorem State.cbReport_frz1 (r : Fin 64) (f : CbVals → CbVals) : (s.cbReport r f).frz1 = s.frz1 := rfl
@[simp] theorem State.cbReport_frzClk (r : Fin 64) (f : CbVals → CbVals) : (s.cbReport r f).frzClk = s.frzClk := rfl
@[simp] theorem State.cbReport_timers (r : Fin 64) (f : CbVals → CbVals) : (s.cbReport r f).timers = s.timers := rfl
@[simp] theorem State.cbReport_gsWait (r : Fin 64) (f : CbVals → CbVals) : (s.cbReport r f).gsWait = s.gsWait := rfl
@[simp] theorem State.cbReport_capRise (r : Fin 64) (f : CbVals → CbVals) : (s.cbReport r f).capRise = s.capRise := rfl
@[simp] theorem State.cbReport_pins (r : Fin 64) (f : CbVals → CbVals) : (s.cbReport r f).pins = s.pins := rfl
@[simp] theorem State.cbReport_align (r : Fin 64) (f : CbVals → CbVals) : (s.cbReport r f).align = s.align := rfl
@[simp] theorem State.cbReport_alignGood (r : Fin 64) (f : CbVals → CbVals) : (s.cbReport r f).alignGood = s.alignGood := rfl
@[simp] theorem State.cbReport_alignDue (r : Fin 64) (f : CbVals → CbVals) : (s.cbReport r f).alignDue = s.alignDue := rfl
@[simp] theorem State.cbReport_probe (r : Fin 64) (f : CbVals → CbVals) : (s.cbReport r f).probe = s.probe := rfl
@[simp] theorem State.cbReport_phyReq (r : Fin 64) (f : CbVals → CbVals) : (s.cbReport r f).phyReq = s.phyReq := rfl
@[simp] theorem State.cbReport_phyAck (r : Fin 64) (f : CbVals → CbVals) : (s.cbReport r f).phyAck = s.phyAck := rfl
@[simp] theorem State.cbReport_retReq (r : Fin 64) (f : CbVals → CbVals) : (s.cbReport r f).retReq = s.retReq := rfl
@[simp] theorem State.cbReport_retAck (r : Fin 64) (f : CbVals → CbVals) : (s.cbReport r f).retAck = s.retAck := rfl
@[simp] theorem State.cbReport_trust (r : Fin 64) (f : CbVals → CbVals) : (s.cbReport r f).trust = s.trust := rfl
@[simp] theorem State.cbReport_dbg (r : Fin 64) (f : CbVals → CbVals) : (s.cbReport r f).dbg = s.dbg := rfl
@[simp] theorem State.cbReport_freeIndex (r : Fin 64) (f : CbVals → CbVals) : (s.cbReport r f).freeIndex = s.freeIndex := rfl

/-! ### modShared -/

@[simp] theorem State.modShared_pending (c : Fin 17) (f : Shared → Shared) : (s.modShared c f).pending = s.pending := rfl
@[simp] theorem State.modShared_porLow (c : Fin 17) (f : Shared → Shared) : (s.modShared c f).porLow = s.porLow := rfl
@[simp] theorem State.modShared_rstLow (c : Fin 17) (f : Shared → Shared) : (s.modShared c f).rstLow = s.rstLow := rfl
@[simp] theorem State.modShared_firstEdge (c : Fin 17) (f : Shared → Shared) : (s.modShared c f).firstEdge = s.firstEdge := rfl
@[simp] theorem State.modShared_clkOk (c : Fin 17) (f : Shared → Shared) : (s.modShared c f).clkOk = s.clkOk := rfl
@[simp] theorem State.modShared_beatno (c : Fin 17) (f : Shared → Shared) : (s.modShared c f).beatno = s.beatno := rfl
@[simp] theorem State.modShared_fofs (c : Fin 17) (f : Shared → Shared) : (s.modShared c f).fofs = s.fofs := rfl
@[simp] theorem State.modShared_regs (c : Fin 17) (f : Shared → Shared) : (s.modShared c f).regs = s.regs := rfl
@[simp] theorem State.modShared_rsp (c : Fin 17) (f : Shared → Shared) : (s.modShared c f).rsp = s.rsp := rfl
@[simp] theorem State.modShared_hrpQ (c : Fin 17) (f : Shared → Shared) : (s.modShared c f).hrpQ = s.hrpQ := rfl
@[simp] theorem State.modShared_hrpOut (c : Fin 17) (f : Shared → Shared) : (s.modShared c f).hrpOut = s.hrpOut := rfl
@[simp] theorem State.modShared_hrpSeq (c : Fin 17) (f : Shared → Shared) : (s.modShared c f).hrpSeq = s.hrpSeq := rfl
@[simp] theorem State.modShared_islandQ (c : Fin 17) (f : Shared → Shared) : (s.modShared c f).islandQ = s.islandQ := rfl
@[simp] theorem State.modShared_clkLost (c : Fin 17) (f : Shared → Shared) : (s.modShared c f).clkLost = s.clkLost := rfl
@[simp] theorem State.modShared_pinLost (c : Fin 17) (f : Shared → Shared) : (s.modShared c f).pinLost = s.pinLost := rfl
@[simp] theorem State.modShared_callboard (c : Fin 17) (f : Shared → Shared) : (s.modShared c f).callboard = s.callboard := rfl
@[simp] theorem State.modShared_permit (c : Fin 17) (f : Shared → Shared) : (s.modShared c f).permit = s.permit := rfl
@[simp] theorem State.modShared_ringAhead (c : Fin 17) (f : Shared → Shared) : (s.modShared c f).ringAhead = s.ringAhead := rfl
@[simp] theorem State.modShared_ringRel (c : Fin 17) (f : Shared → Shared) : (s.modShared c f).ringRel = s.ringRel := rfl
@[simp] theorem State.modShared_ports (c : Fin 17) (f : Shared → Shared) : (s.modShared c f).ports = s.ports := rfl
@[simp] theorem State.modShared_frames (c : Fin 17) (f : Shared → Shared) : (s.modShared c f).frames = s.frames := rfl
@[simp] theorem State.modShared_fwdQ (c : Fin 17) (f : Shared → Shared) : (s.modShared c f).fwdQ = s.fwdQ := rfl
@[simp] theorem State.modShared_groups (c : Fin 17) (f : Shared → Shared) : (s.modShared c f).groups = s.groups := rfl
@[simp] theorem State.modShared_pipes (c : Fin 17) (f : Shared → Shared) : (s.modShared c f).pipes = s.pipes := rfl
@[simp] theorem State.modShared_nextChain (c : Fin 17) (f : Shared → Shared) : (s.modShared c f).nextChain = s.nextChain := rfl
@[simp] theorem State.modShared_curtain (c : Fin 17) (f : Shared → Shared) : (s.modShared c f).curtain = s.curtain := rfl
@[simp] theorem State.modShared_store (c : Fin 17) (f : Shared → Shared) : (s.modShared c f).store = s.store := rfl
@[simp] theorem State.modShared_posted (c : Fin 17) (f : Shared → Shared) : (s.modShared c f).posted = s.posted := rfl
@[simp] theorem State.modShared_logQ (c : Fin 17) (f : Shared → Shared) : (s.modShared c f).logQ = s.logQ := rfl
@[simp] theorem State.modShared_relNext (c : Fin 17) (f : Shared → Shared) : (s.modShared c f).relNext = s.relNext := rfl
@[simp] theorem State.modShared_slots (c : Fin 17) (f : Shared → Shared) : (s.modShared c f).slots = s.slots := rfl
@[simp] theorem State.modShared_engines (c : Fin 17) (f : Shared → Shared) : (s.modShared c f).engines = s.engines := rfl
@[simp] theorem State.modShared_walks (c : Fin 17) (f : Shared → Shared) : (s.modShared c f).walks = s.walks := rfl
@[simp] theorem State.modShared_cstore (c : Fin 17) (f : Shared → Shared) : (s.modShared c f).cstore = s.cstore := rfl
@[simp] theorem State.modShared_dispatch (c : Fin 17) (f : Shared → Shared) : (s.modShared c f).dispatch = s.dispatch := rfl
@[simp] theorem State.modShared_sstore (c : Fin 17) (f : Shared → Shared) : (s.modShared c f).sstore = s.sstore := rfl
@[simp] theorem State.modShared_csErr (c : Fin 17) (f : Shared → Shared) : (s.modShared c f).csErr = s.csErr := rfl
@[simp] theorem State.modShared_ssErr (c : Fin 17) (f : Shared → Shared) : (s.modShared c f).ssErr = s.ssErr := rfl
@[simp] theorem State.modShared_dispErr (c : Fin 17) (f : Shared → Shared) : (s.modShared c f).dispErr = s.dispErr := rfl
@[simp] theorem State.modShared_ssWait (c : Fin 17) (f : Shared → Shared) : (s.modShared c f).ssWait = s.ssWait := rfl
@[simp] theorem State.modShared_mem (c : Fin 17) (f : Shared → Shared) : (s.modShared c f).mem = s.mem := rfl
@[simp] theorem State.modShared_memErr (c : Fin 17) (f : Shared → Shared) : (s.modShared c f).memErr = s.memErr := rfl
@[simp] theorem State.modShared_retained (c : Fin 17) (f : Shared → Shared) : (s.modShared c f).retained = s.retained := rfl
@[simp] theorem State.modShared_entering (c : Fin 17) (f : Shared → Shared) : (s.modShared c f).entering = s.entering := rfl
@[simp] theorem State.modShared_waking (c : Fin 17) (f : Shared → Shared) : (s.modShared c f).waking = s.waking := rfl
@[simp] theorem State.modShared_wakeFor (c : Fin 17) (f : Shared → Shared) : (s.modShared c f).wakeFor = s.wakeFor := rfl
@[simp] theorem State.modShared_scrubs (c : Fin 17) (f : Shared → Shared) : (s.modShared c f).scrubs = s.scrubs := rfl
@[simp] theorem State.modShared_bists (c : Fin 17) (f : Shared → Shared) : (s.modShared c f).bists = s.bists := rfl
@[simp] theorem State.modShared_bulk (c : Fin 17) (f : Shared → Shared) : (s.modShared c f).bulk = s.bulk := rfl
@[simp] theorem State.modShared_wiping (c : Fin 17) (f : Shared → Shared) : (s.modShared c f).wiping = s.wiping := rfl
@[simp] theorem State.modShared_bursts (c : Fin 17) (f : Shared → Shared) : (s.modShared c f).bursts = s.bursts := rfl
@[simp] theorem State.modShared_lastGrant (c : Fin 17) (f : Shared → Shared) : (s.modShared c f).lastGrant = s.lastGrant := rfl
@[simp] theorem State.modShared_singles (c : Fin 17) (f : Shared → Shared) : (s.modShared c f).singles = s.singles := rfl
@[simp] theorem State.modShared_clash (c : Fin 17) (f : Shared → Shared) : (s.modShared c f).clash = s.clash := rfl
@[simp] theorem State.modShared_hostReqs (c : Fin 17) (f : Shared → Shared) : (s.modShared c f).hostReqs = s.hostReqs := rfl
@[simp] theorem State.modShared_inbound (c : Fin 17) (f : Shared → Shared) : (s.modShared c f).inbound = s.inbound := rfl
@[simp] theorem State.modShared_hfiRst (c : Fin 17) (f : Shared → Shared) : (s.modShared c f).hfiRst = s.hfiRst := rfl
@[simp] theorem State.modShared_hfiAck (c : Fin 17) (f : Shared → Shared) : (s.modShared c f).hfiAck = s.hfiAck := rfl
@[simp] theorem State.modShared_frz1 (c : Fin 17) (f : Shared → Shared) : (s.modShared c f).frz1 = s.frz1 := rfl
@[simp] theorem State.modShared_frzClk (c : Fin 17) (f : Shared → Shared) : (s.modShared c f).frzClk = s.frzClk := rfl
@[simp] theorem State.modShared_timers (c : Fin 17) (f : Shared → Shared) : (s.modShared c f).timers = s.timers := rfl
@[simp] theorem State.modShared_gsWait (c : Fin 17) (f : Shared → Shared) : (s.modShared c f).gsWait = s.gsWait := rfl
@[simp] theorem State.modShared_capRise (c : Fin 17) (f : Shared → Shared) : (s.modShared c f).capRise = s.capRise := rfl
@[simp] theorem State.modShared_pins (c : Fin 17) (f : Shared → Shared) : (s.modShared c f).pins = s.pins := rfl
@[simp] theorem State.modShared_align (c : Fin 17) (f : Shared → Shared) : (s.modShared c f).align = s.align := rfl
@[simp] theorem State.modShared_alignGood (c : Fin 17) (f : Shared → Shared) : (s.modShared c f).alignGood = s.alignGood := rfl
@[simp] theorem State.modShared_alignDue (c : Fin 17) (f : Shared → Shared) : (s.modShared c f).alignDue = s.alignDue := rfl
@[simp] theorem State.modShared_probe (c : Fin 17) (f : Shared → Shared) : (s.modShared c f).probe = s.probe := rfl
@[simp] theorem State.modShared_phyReq (c : Fin 17) (f : Shared → Shared) : (s.modShared c f).phyReq = s.phyReq := rfl
@[simp] theorem State.modShared_phyAck (c : Fin 17) (f : Shared → Shared) : (s.modShared c f).phyAck = s.phyAck := rfl
@[simp] theorem State.modShared_retReq (c : Fin 17) (f : Shared → Shared) : (s.modShared c f).retReq = s.retReq := rfl
@[simp] theorem State.modShared_retAck (c : Fin 17) (f : Shared → Shared) : (s.modShared c f).retAck = s.retAck := rfl
@[simp] theorem State.modShared_trust (c : Fin 17) (f : Shared → Shared) : (s.modShared c f).trust = s.trust := rfl
@[simp] theorem State.modShared_dbg (c : Fin 17) (f : Shared → Shared) : (s.modShared c f).dbg = s.dbg := rfl
@[simp] theorem State.modShared_freeIndex (c : Fin 17) (f : Shared → Shared) : (s.modShared c f).freeIndex = s.freeIndex := rfl

/-! ### modPermit -/

@[simp] theorem State.modPermit_pending (f : Permit → Permit) : (s.modPermit f).pending = s.pending := rfl
@[simp] theorem State.modPermit_porLow (f : Permit → Permit) : (s.modPermit f).porLow = s.porLow := rfl
@[simp] theorem State.modPermit_rstLow (f : Permit → Permit) : (s.modPermit f).rstLow = s.rstLow := rfl
@[simp] theorem State.modPermit_firstEdge (f : Permit → Permit) : (s.modPermit f).firstEdge = s.firstEdge := rfl
@[simp] theorem State.modPermit_clkOk (f : Permit → Permit) : (s.modPermit f).clkOk = s.clkOk := rfl
@[simp] theorem State.modPermit_beatno (f : Permit → Permit) : (s.modPermit f).beatno = s.beatno := rfl
@[simp] theorem State.modPermit_fofs (f : Permit → Permit) : (s.modPermit f).fofs = s.fofs := rfl
@[simp] theorem State.modPermit_regs (f : Permit → Permit) : (s.modPermit f).regs = s.regs := rfl
@[simp] theorem State.modPermit_rsp (f : Permit → Permit) : (s.modPermit f).rsp = s.rsp := rfl
@[simp] theorem State.modPermit_hrpQ (f : Permit → Permit) : (s.modPermit f).hrpQ = s.hrpQ := rfl
@[simp] theorem State.modPermit_hrpOut (f : Permit → Permit) : (s.modPermit f).hrpOut = s.hrpOut := rfl
@[simp] theorem State.modPermit_hrpSeq (f : Permit → Permit) : (s.modPermit f).hrpSeq = s.hrpSeq := rfl
@[simp] theorem State.modPermit_islandQ (f : Permit → Permit) : (s.modPermit f).islandQ = s.islandQ := rfl
@[simp] theorem State.modPermit_clkLost (f : Permit → Permit) : (s.modPermit f).clkLost = s.clkLost := rfl
@[simp] theorem State.modPermit_pinLost (f : Permit → Permit) : (s.modPermit f).pinLost = s.pinLost := rfl
@[simp] theorem State.modPermit_callboard (f : Permit → Permit) : (s.modPermit f).callboard = s.callboard := rfl
@[simp] theorem State.modPermit_ringAhead (f : Permit → Permit) : (s.modPermit f).ringAhead = s.ringAhead := rfl
@[simp] theorem State.modPermit_ringRel (f : Permit → Permit) : (s.modPermit f).ringRel = s.ringRel := rfl
@[simp] theorem State.modPermit_ports (f : Permit → Permit) : (s.modPermit f).ports = s.ports := rfl
@[simp] theorem State.modPermit_frames (f : Permit → Permit) : (s.modPermit f).frames = s.frames := rfl
@[simp] theorem State.modPermit_fwdQ (f : Permit → Permit) : (s.modPermit f).fwdQ = s.fwdQ := rfl
@[simp] theorem State.modPermit_groups (f : Permit → Permit) : (s.modPermit f).groups = s.groups := rfl
@[simp] theorem State.modPermit_pipes (f : Permit → Permit) : (s.modPermit f).pipes = s.pipes := rfl
@[simp] theorem State.modPermit_nextChain (f : Permit → Permit) : (s.modPermit f).nextChain = s.nextChain := rfl
@[simp] theorem State.modPermit_curtain (f : Permit → Permit) : (s.modPermit f).curtain = s.curtain := rfl
@[simp] theorem State.modPermit_store (f : Permit → Permit) : (s.modPermit f).store = s.store := rfl
@[simp] theorem State.modPermit_posted (f : Permit → Permit) : (s.modPermit f).posted = s.posted := rfl
@[simp] theorem State.modPermit_logQ (f : Permit → Permit) : (s.modPermit f).logQ = s.logQ := rfl
@[simp] theorem State.modPermit_relNext (f : Permit → Permit) : (s.modPermit f).relNext = s.relNext := rfl
@[simp] theorem State.modPermit_slots (f : Permit → Permit) : (s.modPermit f).slots = s.slots := rfl
@[simp] theorem State.modPermit_engines (f : Permit → Permit) : (s.modPermit f).engines = s.engines := rfl
@[simp] theorem State.modPermit_shared (f : Permit → Permit) : (s.modPermit f).shared = s.shared := rfl
@[simp] theorem State.modPermit_walks (f : Permit → Permit) : (s.modPermit f).walks = s.walks := rfl
@[simp] theorem State.modPermit_cstore (f : Permit → Permit) : (s.modPermit f).cstore = s.cstore := rfl
@[simp] theorem State.modPermit_dispatch (f : Permit → Permit) : (s.modPermit f).dispatch = s.dispatch := rfl
@[simp] theorem State.modPermit_sstore (f : Permit → Permit) : (s.modPermit f).sstore = s.sstore := rfl
@[simp] theorem State.modPermit_csErr (f : Permit → Permit) : (s.modPermit f).csErr = s.csErr := rfl
@[simp] theorem State.modPermit_ssErr (f : Permit → Permit) : (s.modPermit f).ssErr = s.ssErr := rfl
@[simp] theorem State.modPermit_dispErr (f : Permit → Permit) : (s.modPermit f).dispErr = s.dispErr := rfl
@[simp] theorem State.modPermit_ssWait (f : Permit → Permit) : (s.modPermit f).ssWait = s.ssWait := rfl
@[simp] theorem State.modPermit_mem (f : Permit → Permit) : (s.modPermit f).mem = s.mem := rfl
@[simp] theorem State.modPermit_memErr (f : Permit → Permit) : (s.modPermit f).memErr = s.memErr := rfl
@[simp] theorem State.modPermit_retained (f : Permit → Permit) : (s.modPermit f).retained = s.retained := rfl
@[simp] theorem State.modPermit_entering (f : Permit → Permit) : (s.modPermit f).entering = s.entering := rfl
@[simp] theorem State.modPermit_waking (f : Permit → Permit) : (s.modPermit f).waking = s.waking := rfl
@[simp] theorem State.modPermit_wakeFor (f : Permit → Permit) : (s.modPermit f).wakeFor = s.wakeFor := rfl
@[simp] theorem State.modPermit_scrubs (f : Permit → Permit) : (s.modPermit f).scrubs = s.scrubs := rfl
@[simp] theorem State.modPermit_bists (f : Permit → Permit) : (s.modPermit f).bists = s.bists := rfl
@[simp] theorem State.modPermit_bulk (f : Permit → Permit) : (s.modPermit f).bulk = s.bulk := rfl
@[simp] theorem State.modPermit_wiping (f : Permit → Permit) : (s.modPermit f).wiping = s.wiping := rfl
@[simp] theorem State.modPermit_bursts (f : Permit → Permit) : (s.modPermit f).bursts = s.bursts := rfl
@[simp] theorem State.modPermit_lastGrant (f : Permit → Permit) : (s.modPermit f).lastGrant = s.lastGrant := rfl
@[simp] theorem State.modPermit_singles (f : Permit → Permit) : (s.modPermit f).singles = s.singles := rfl
@[simp] theorem State.modPermit_clash (f : Permit → Permit) : (s.modPermit f).clash = s.clash := rfl
@[simp] theorem State.modPermit_hostReqs (f : Permit → Permit) : (s.modPermit f).hostReqs = s.hostReqs := rfl
@[simp] theorem State.modPermit_inbound (f : Permit → Permit) : (s.modPermit f).inbound = s.inbound := rfl
@[simp] theorem State.modPermit_hfiRst (f : Permit → Permit) : (s.modPermit f).hfiRst = s.hfiRst := rfl
@[simp] theorem State.modPermit_hfiAck (f : Permit → Permit) : (s.modPermit f).hfiAck = s.hfiAck := rfl
@[simp] theorem State.modPermit_frz1 (f : Permit → Permit) : (s.modPermit f).frz1 = s.frz1 := rfl
@[simp] theorem State.modPermit_frzClk (f : Permit → Permit) : (s.modPermit f).frzClk = s.frzClk := rfl
@[simp] theorem State.modPermit_timers (f : Permit → Permit) : (s.modPermit f).timers = s.timers := rfl
@[simp] theorem State.modPermit_gsWait (f : Permit → Permit) : (s.modPermit f).gsWait = s.gsWait := rfl
@[simp] theorem State.modPermit_capRise (f : Permit → Permit) : (s.modPermit f).capRise = s.capRise := rfl
@[simp] theorem State.modPermit_pins (f : Permit → Permit) : (s.modPermit f).pins = s.pins := rfl
@[simp] theorem State.modPermit_align (f : Permit → Permit) : (s.modPermit f).align = s.align := rfl
@[simp] theorem State.modPermit_alignGood (f : Permit → Permit) : (s.modPermit f).alignGood = s.alignGood := rfl
@[simp] theorem State.modPermit_alignDue (f : Permit → Permit) : (s.modPermit f).alignDue = s.alignDue := rfl
@[simp] theorem State.modPermit_probe (f : Permit → Permit) : (s.modPermit f).probe = s.probe := rfl
@[simp] theorem State.modPermit_phyReq (f : Permit → Permit) : (s.modPermit f).phyReq = s.phyReq := rfl
@[simp] theorem State.modPermit_phyAck (f : Permit → Permit) : (s.modPermit f).phyAck = s.phyAck := rfl
@[simp] theorem State.modPermit_retReq (f : Permit → Permit) : (s.modPermit f).retReq = s.retReq := rfl
@[simp] theorem State.modPermit_retAck (f : Permit → Permit) : (s.modPermit f).retAck = s.retAck := rfl
@[simp] theorem State.modPermit_trust (f : Permit → Permit) : (s.modPermit f).trust = s.trust := rfl
@[simp] theorem State.modPermit_dbg (f : Permit → Permit) : (s.modPermit f).dbg = s.dbg := rfl
@[simp] theorem State.modPermit_freeIndex (f : Permit → Permit) : (s.modPermit f).freeIndex = s.freeIndex := rfl

/-! ### modTrust -/

@[simp] theorem State.modTrust_pending (f : Trust → Trust) : (s.modTrust f).pending = s.pending := rfl
@[simp] theorem State.modTrust_porLow (f : Trust → Trust) : (s.modTrust f).porLow = s.porLow := rfl
@[simp] theorem State.modTrust_rstLow (f : Trust → Trust) : (s.modTrust f).rstLow = s.rstLow := rfl
@[simp] theorem State.modTrust_firstEdge (f : Trust → Trust) : (s.modTrust f).firstEdge = s.firstEdge := rfl
@[simp] theorem State.modTrust_clkOk (f : Trust → Trust) : (s.modTrust f).clkOk = s.clkOk := rfl
@[simp] theorem State.modTrust_beatno (f : Trust → Trust) : (s.modTrust f).beatno = s.beatno := rfl
@[simp] theorem State.modTrust_fofs (f : Trust → Trust) : (s.modTrust f).fofs = s.fofs := rfl
@[simp] theorem State.modTrust_regs (f : Trust → Trust) : (s.modTrust f).regs = s.regs := rfl
@[simp] theorem State.modTrust_rsp (f : Trust → Trust) : (s.modTrust f).rsp = s.rsp := rfl
@[simp] theorem State.modTrust_hrpQ (f : Trust → Trust) : (s.modTrust f).hrpQ = s.hrpQ := rfl
@[simp] theorem State.modTrust_hrpOut (f : Trust → Trust) : (s.modTrust f).hrpOut = s.hrpOut := rfl
@[simp] theorem State.modTrust_hrpSeq (f : Trust → Trust) : (s.modTrust f).hrpSeq = s.hrpSeq := rfl
@[simp] theorem State.modTrust_islandQ (f : Trust → Trust) : (s.modTrust f).islandQ = s.islandQ := rfl
@[simp] theorem State.modTrust_clkLost (f : Trust → Trust) : (s.modTrust f).clkLost = s.clkLost := rfl
@[simp] theorem State.modTrust_pinLost (f : Trust → Trust) : (s.modTrust f).pinLost = s.pinLost := rfl
@[simp] theorem State.modTrust_callboard (f : Trust → Trust) : (s.modTrust f).callboard = s.callboard := rfl
@[simp] theorem State.modTrust_permit (f : Trust → Trust) : (s.modTrust f).permit = s.permit := rfl
@[simp] theorem State.modTrust_ringAhead (f : Trust → Trust) : (s.modTrust f).ringAhead = s.ringAhead := rfl
@[simp] theorem State.modTrust_ringRel (f : Trust → Trust) : (s.modTrust f).ringRel = s.ringRel := rfl
@[simp] theorem State.modTrust_ports (f : Trust → Trust) : (s.modTrust f).ports = s.ports := rfl
@[simp] theorem State.modTrust_frames (f : Trust → Trust) : (s.modTrust f).frames = s.frames := rfl
@[simp] theorem State.modTrust_fwdQ (f : Trust → Trust) : (s.modTrust f).fwdQ = s.fwdQ := rfl
@[simp] theorem State.modTrust_groups (f : Trust → Trust) : (s.modTrust f).groups = s.groups := rfl
@[simp] theorem State.modTrust_pipes (f : Trust → Trust) : (s.modTrust f).pipes = s.pipes := rfl
@[simp] theorem State.modTrust_nextChain (f : Trust → Trust) : (s.modTrust f).nextChain = s.nextChain := rfl
@[simp] theorem State.modTrust_curtain (f : Trust → Trust) : (s.modTrust f).curtain = s.curtain := rfl
@[simp] theorem State.modTrust_store (f : Trust → Trust) : (s.modTrust f).store = s.store := rfl
@[simp] theorem State.modTrust_posted (f : Trust → Trust) : (s.modTrust f).posted = s.posted := rfl
@[simp] theorem State.modTrust_logQ (f : Trust → Trust) : (s.modTrust f).logQ = s.logQ := rfl
@[simp] theorem State.modTrust_relNext (f : Trust → Trust) : (s.modTrust f).relNext = s.relNext := rfl
@[simp] theorem State.modTrust_slots (f : Trust → Trust) : (s.modTrust f).slots = s.slots := rfl
@[simp] theorem State.modTrust_engines (f : Trust → Trust) : (s.modTrust f).engines = s.engines := rfl
@[simp] theorem State.modTrust_shared (f : Trust → Trust) : (s.modTrust f).shared = s.shared := rfl
@[simp] theorem State.modTrust_walks (f : Trust → Trust) : (s.modTrust f).walks = s.walks := rfl
@[simp] theorem State.modTrust_cstore (f : Trust → Trust) : (s.modTrust f).cstore = s.cstore := rfl
@[simp] theorem State.modTrust_dispatch (f : Trust → Trust) : (s.modTrust f).dispatch = s.dispatch := rfl
@[simp] theorem State.modTrust_sstore (f : Trust → Trust) : (s.modTrust f).sstore = s.sstore := rfl
@[simp] theorem State.modTrust_csErr (f : Trust → Trust) : (s.modTrust f).csErr = s.csErr := rfl
@[simp] theorem State.modTrust_ssErr (f : Trust → Trust) : (s.modTrust f).ssErr = s.ssErr := rfl
@[simp] theorem State.modTrust_dispErr (f : Trust → Trust) : (s.modTrust f).dispErr = s.dispErr := rfl
@[simp] theorem State.modTrust_ssWait (f : Trust → Trust) : (s.modTrust f).ssWait = s.ssWait := rfl
@[simp] theorem State.modTrust_mem (f : Trust → Trust) : (s.modTrust f).mem = s.mem := rfl
@[simp] theorem State.modTrust_memErr (f : Trust → Trust) : (s.modTrust f).memErr = s.memErr := rfl
@[simp] theorem State.modTrust_retained (f : Trust → Trust) : (s.modTrust f).retained = s.retained := rfl
@[simp] theorem State.modTrust_entering (f : Trust → Trust) : (s.modTrust f).entering = s.entering := rfl
@[simp] theorem State.modTrust_waking (f : Trust → Trust) : (s.modTrust f).waking = s.waking := rfl
@[simp] theorem State.modTrust_wakeFor (f : Trust → Trust) : (s.modTrust f).wakeFor = s.wakeFor := rfl
@[simp] theorem State.modTrust_scrubs (f : Trust → Trust) : (s.modTrust f).scrubs = s.scrubs := rfl
@[simp] theorem State.modTrust_bists (f : Trust → Trust) : (s.modTrust f).bists = s.bists := rfl
@[simp] theorem State.modTrust_bulk (f : Trust → Trust) : (s.modTrust f).bulk = s.bulk := rfl
@[simp] theorem State.modTrust_wiping (f : Trust → Trust) : (s.modTrust f).wiping = s.wiping := rfl
@[simp] theorem State.modTrust_bursts (f : Trust → Trust) : (s.modTrust f).bursts = s.bursts := rfl
@[simp] theorem State.modTrust_lastGrant (f : Trust → Trust) : (s.modTrust f).lastGrant = s.lastGrant := rfl
@[simp] theorem State.modTrust_singles (f : Trust → Trust) : (s.modTrust f).singles = s.singles := rfl
@[simp] theorem State.modTrust_clash (f : Trust → Trust) : (s.modTrust f).clash = s.clash := rfl
@[simp] theorem State.modTrust_hostReqs (f : Trust → Trust) : (s.modTrust f).hostReqs = s.hostReqs := rfl
@[simp] theorem State.modTrust_inbound (f : Trust → Trust) : (s.modTrust f).inbound = s.inbound := rfl
@[simp] theorem State.modTrust_hfiRst (f : Trust → Trust) : (s.modTrust f).hfiRst = s.hfiRst := rfl
@[simp] theorem State.modTrust_hfiAck (f : Trust → Trust) : (s.modTrust f).hfiAck = s.hfiAck := rfl
@[simp] theorem State.modTrust_frz1 (f : Trust → Trust) : (s.modTrust f).frz1 = s.frz1 := rfl
@[simp] theorem State.modTrust_frzClk (f : Trust → Trust) : (s.modTrust f).frzClk = s.frzClk := rfl
@[simp] theorem State.modTrust_timers (f : Trust → Trust) : (s.modTrust f).timers = s.timers := rfl
@[simp] theorem State.modTrust_gsWait (f : Trust → Trust) : (s.modTrust f).gsWait = s.gsWait := rfl
@[simp] theorem State.modTrust_capRise (f : Trust → Trust) : (s.modTrust f).capRise = s.capRise := rfl
@[simp] theorem State.modTrust_pins (f : Trust → Trust) : (s.modTrust f).pins = s.pins := rfl
@[simp] theorem State.modTrust_align (f : Trust → Trust) : (s.modTrust f).align = s.align := rfl
@[simp] theorem State.modTrust_alignGood (f : Trust → Trust) : (s.modTrust f).alignGood = s.alignGood := rfl
@[simp] theorem State.modTrust_alignDue (f : Trust → Trust) : (s.modTrust f).alignDue = s.alignDue := rfl
@[simp] theorem State.modTrust_probe (f : Trust → Trust) : (s.modTrust f).probe = s.probe := rfl
@[simp] theorem State.modTrust_phyReq (f : Trust → Trust) : (s.modTrust f).phyReq = s.phyReq := rfl
@[simp] theorem State.modTrust_phyAck (f : Trust → Trust) : (s.modTrust f).phyAck = s.phyAck := rfl
@[simp] theorem State.modTrust_retReq (f : Trust → Trust) : (s.modTrust f).retReq = s.retReq := rfl
@[simp] theorem State.modTrust_retAck (f : Trust → Trust) : (s.modTrust f).retAck = s.retAck := rfl
@[simp] theorem State.modTrust_dbg (f : Trust → Trust) : (s.modTrust f).dbg = s.dbg := rfl
@[simp] theorem State.modTrust_freeIndex (f : Trust → Trust) : (s.modTrust f).freeIndex = s.freeIndex := rfl

/-! ### modDebug -/

@[simp] theorem State.modDebug_pending (f : Debug → Debug) : (s.modDebug f).pending = s.pending := rfl
@[simp] theorem State.modDebug_porLow (f : Debug → Debug) : (s.modDebug f).porLow = s.porLow := rfl
@[simp] theorem State.modDebug_rstLow (f : Debug → Debug) : (s.modDebug f).rstLow = s.rstLow := rfl
@[simp] theorem State.modDebug_firstEdge (f : Debug → Debug) : (s.modDebug f).firstEdge = s.firstEdge := rfl
@[simp] theorem State.modDebug_clkOk (f : Debug → Debug) : (s.modDebug f).clkOk = s.clkOk := rfl
@[simp] theorem State.modDebug_beatno (f : Debug → Debug) : (s.modDebug f).beatno = s.beatno := rfl
@[simp] theorem State.modDebug_fofs (f : Debug → Debug) : (s.modDebug f).fofs = s.fofs := rfl
@[simp] theorem State.modDebug_regs (f : Debug → Debug) : (s.modDebug f).regs = s.regs := rfl
@[simp] theorem State.modDebug_rsp (f : Debug → Debug) : (s.modDebug f).rsp = s.rsp := rfl
@[simp] theorem State.modDebug_hrpQ (f : Debug → Debug) : (s.modDebug f).hrpQ = s.hrpQ := rfl
@[simp] theorem State.modDebug_hrpOut (f : Debug → Debug) : (s.modDebug f).hrpOut = s.hrpOut := rfl
@[simp] theorem State.modDebug_hrpSeq (f : Debug → Debug) : (s.modDebug f).hrpSeq = s.hrpSeq := rfl
@[simp] theorem State.modDebug_islandQ (f : Debug → Debug) : (s.modDebug f).islandQ = s.islandQ := rfl
@[simp] theorem State.modDebug_clkLost (f : Debug → Debug) : (s.modDebug f).clkLost = s.clkLost := rfl
@[simp] theorem State.modDebug_pinLost (f : Debug → Debug) : (s.modDebug f).pinLost = s.pinLost := rfl
@[simp] theorem State.modDebug_callboard (f : Debug → Debug) : (s.modDebug f).callboard = s.callboard := rfl
@[simp] theorem State.modDebug_permit (f : Debug → Debug) : (s.modDebug f).permit = s.permit := rfl
@[simp] theorem State.modDebug_ringAhead (f : Debug → Debug) : (s.modDebug f).ringAhead = s.ringAhead := rfl
@[simp] theorem State.modDebug_ringRel (f : Debug → Debug) : (s.modDebug f).ringRel = s.ringRel := rfl
@[simp] theorem State.modDebug_ports (f : Debug → Debug) : (s.modDebug f).ports = s.ports := rfl
@[simp] theorem State.modDebug_frames (f : Debug → Debug) : (s.modDebug f).frames = s.frames := rfl
@[simp] theorem State.modDebug_fwdQ (f : Debug → Debug) : (s.modDebug f).fwdQ = s.fwdQ := rfl
@[simp] theorem State.modDebug_groups (f : Debug → Debug) : (s.modDebug f).groups = s.groups := rfl
@[simp] theorem State.modDebug_pipes (f : Debug → Debug) : (s.modDebug f).pipes = s.pipes := rfl
@[simp] theorem State.modDebug_nextChain (f : Debug → Debug) : (s.modDebug f).nextChain = s.nextChain := rfl
@[simp] theorem State.modDebug_curtain (f : Debug → Debug) : (s.modDebug f).curtain = s.curtain := rfl
@[simp] theorem State.modDebug_store (f : Debug → Debug) : (s.modDebug f).store = s.store := rfl
@[simp] theorem State.modDebug_posted (f : Debug → Debug) : (s.modDebug f).posted = s.posted := rfl
@[simp] theorem State.modDebug_logQ (f : Debug → Debug) : (s.modDebug f).logQ = s.logQ := rfl
@[simp] theorem State.modDebug_relNext (f : Debug → Debug) : (s.modDebug f).relNext = s.relNext := rfl
@[simp] theorem State.modDebug_slots (f : Debug → Debug) : (s.modDebug f).slots = s.slots := rfl
@[simp] theorem State.modDebug_engines (f : Debug → Debug) : (s.modDebug f).engines = s.engines := rfl
@[simp] theorem State.modDebug_shared (f : Debug → Debug) : (s.modDebug f).shared = s.shared := rfl
@[simp] theorem State.modDebug_walks (f : Debug → Debug) : (s.modDebug f).walks = s.walks := rfl
@[simp] theorem State.modDebug_cstore (f : Debug → Debug) : (s.modDebug f).cstore = s.cstore := rfl
@[simp] theorem State.modDebug_dispatch (f : Debug → Debug) : (s.modDebug f).dispatch = s.dispatch := rfl
@[simp] theorem State.modDebug_sstore (f : Debug → Debug) : (s.modDebug f).sstore = s.sstore := rfl
@[simp] theorem State.modDebug_csErr (f : Debug → Debug) : (s.modDebug f).csErr = s.csErr := rfl
@[simp] theorem State.modDebug_ssErr (f : Debug → Debug) : (s.modDebug f).ssErr = s.ssErr := rfl
@[simp] theorem State.modDebug_dispErr (f : Debug → Debug) : (s.modDebug f).dispErr = s.dispErr := rfl
@[simp] theorem State.modDebug_ssWait (f : Debug → Debug) : (s.modDebug f).ssWait = s.ssWait := rfl
@[simp] theorem State.modDebug_mem (f : Debug → Debug) : (s.modDebug f).mem = s.mem := rfl
@[simp] theorem State.modDebug_memErr (f : Debug → Debug) : (s.modDebug f).memErr = s.memErr := rfl
@[simp] theorem State.modDebug_retained (f : Debug → Debug) : (s.modDebug f).retained = s.retained := rfl
@[simp] theorem State.modDebug_entering (f : Debug → Debug) : (s.modDebug f).entering = s.entering := rfl
@[simp] theorem State.modDebug_waking (f : Debug → Debug) : (s.modDebug f).waking = s.waking := rfl
@[simp] theorem State.modDebug_wakeFor (f : Debug → Debug) : (s.modDebug f).wakeFor = s.wakeFor := rfl
@[simp] theorem State.modDebug_scrubs (f : Debug → Debug) : (s.modDebug f).scrubs = s.scrubs := rfl
@[simp] theorem State.modDebug_bists (f : Debug → Debug) : (s.modDebug f).bists = s.bists := rfl
@[simp] theorem State.modDebug_bulk (f : Debug → Debug) : (s.modDebug f).bulk = s.bulk := rfl
@[simp] theorem State.modDebug_wiping (f : Debug → Debug) : (s.modDebug f).wiping = s.wiping := rfl
@[simp] theorem State.modDebug_bursts (f : Debug → Debug) : (s.modDebug f).bursts = s.bursts := rfl
@[simp] theorem State.modDebug_lastGrant (f : Debug → Debug) : (s.modDebug f).lastGrant = s.lastGrant := rfl
@[simp] theorem State.modDebug_singles (f : Debug → Debug) : (s.modDebug f).singles = s.singles := rfl
@[simp] theorem State.modDebug_clash (f : Debug → Debug) : (s.modDebug f).clash = s.clash := rfl
@[simp] theorem State.modDebug_hostReqs (f : Debug → Debug) : (s.modDebug f).hostReqs = s.hostReqs := rfl
@[simp] theorem State.modDebug_inbound (f : Debug → Debug) : (s.modDebug f).inbound = s.inbound := rfl
@[simp] theorem State.modDebug_hfiRst (f : Debug → Debug) : (s.modDebug f).hfiRst = s.hfiRst := rfl
@[simp] theorem State.modDebug_hfiAck (f : Debug → Debug) : (s.modDebug f).hfiAck = s.hfiAck := rfl
@[simp] theorem State.modDebug_frz1 (f : Debug → Debug) : (s.modDebug f).frz1 = s.frz1 := rfl
@[simp] theorem State.modDebug_frzClk (f : Debug → Debug) : (s.modDebug f).frzClk = s.frzClk := rfl
@[simp] theorem State.modDebug_timers (f : Debug → Debug) : (s.modDebug f).timers = s.timers := rfl
@[simp] theorem State.modDebug_gsWait (f : Debug → Debug) : (s.modDebug f).gsWait = s.gsWait := rfl
@[simp] theorem State.modDebug_capRise (f : Debug → Debug) : (s.modDebug f).capRise = s.capRise := rfl
@[simp] theorem State.modDebug_pins (f : Debug → Debug) : (s.modDebug f).pins = s.pins := rfl
@[simp] theorem State.modDebug_align (f : Debug → Debug) : (s.modDebug f).align = s.align := rfl
@[simp] theorem State.modDebug_alignGood (f : Debug → Debug) : (s.modDebug f).alignGood = s.alignGood := rfl
@[simp] theorem State.modDebug_alignDue (f : Debug → Debug) : (s.modDebug f).alignDue = s.alignDue := rfl
@[simp] theorem State.modDebug_probe (f : Debug → Debug) : (s.modDebug f).probe = s.probe := rfl
@[simp] theorem State.modDebug_phyReq (f : Debug → Debug) : (s.modDebug f).phyReq = s.phyReq := rfl
@[simp] theorem State.modDebug_phyAck (f : Debug → Debug) : (s.modDebug f).phyAck = s.phyAck := rfl
@[simp] theorem State.modDebug_retReq (f : Debug → Debug) : (s.modDebug f).retReq = s.retReq := rfl
@[simp] theorem State.modDebug_retAck (f : Debug → Debug) : (s.modDebug f).retAck = s.retAck := rfl
@[simp] theorem State.modDebug_trust (f : Debug → Debug) : (s.modDebug f).trust = s.trust := rfl
@[simp] theorem State.modDebug_freeIndex (f : Debug → Debug) : (s.modDebug f).freeIndex = s.freeIndex := rfl

/-! ### modFrames -/

@[simp] theorem State.modFrames_pending (f : Frames → Frames) : (s.modFrames f).pending = s.pending := rfl
@[simp] theorem State.modFrames_porLow (f : Frames → Frames) : (s.modFrames f).porLow = s.porLow := rfl
@[simp] theorem State.modFrames_rstLow (f : Frames → Frames) : (s.modFrames f).rstLow = s.rstLow := rfl
@[simp] theorem State.modFrames_firstEdge (f : Frames → Frames) : (s.modFrames f).firstEdge = s.firstEdge := rfl
@[simp] theorem State.modFrames_clkOk (f : Frames → Frames) : (s.modFrames f).clkOk = s.clkOk := rfl
@[simp] theorem State.modFrames_beatno (f : Frames → Frames) : (s.modFrames f).beatno = s.beatno := rfl
@[simp] theorem State.modFrames_fofs (f : Frames → Frames) : (s.modFrames f).fofs = s.fofs := rfl
@[simp] theorem State.modFrames_regs (f : Frames → Frames) : (s.modFrames f).regs = s.regs := rfl
@[simp] theorem State.modFrames_rsp (f : Frames → Frames) : (s.modFrames f).rsp = s.rsp := rfl
@[simp] theorem State.modFrames_hrpQ (f : Frames → Frames) : (s.modFrames f).hrpQ = s.hrpQ := rfl
@[simp] theorem State.modFrames_hrpOut (f : Frames → Frames) : (s.modFrames f).hrpOut = s.hrpOut := rfl
@[simp] theorem State.modFrames_hrpSeq (f : Frames → Frames) : (s.modFrames f).hrpSeq = s.hrpSeq := rfl
@[simp] theorem State.modFrames_islandQ (f : Frames → Frames) : (s.modFrames f).islandQ = s.islandQ := rfl
@[simp] theorem State.modFrames_clkLost (f : Frames → Frames) : (s.modFrames f).clkLost = s.clkLost := rfl
@[simp] theorem State.modFrames_pinLost (f : Frames → Frames) : (s.modFrames f).pinLost = s.pinLost := rfl
@[simp] theorem State.modFrames_callboard (f : Frames → Frames) : (s.modFrames f).callboard = s.callboard := rfl
@[simp] theorem State.modFrames_permit (f : Frames → Frames) : (s.modFrames f).permit = s.permit := rfl
@[simp] theorem State.modFrames_ringAhead (f : Frames → Frames) : (s.modFrames f).ringAhead = s.ringAhead := rfl
@[simp] theorem State.modFrames_ringRel (f : Frames → Frames) : (s.modFrames f).ringRel = s.ringRel := rfl
@[simp] theorem State.modFrames_ports (f : Frames → Frames) : (s.modFrames f).ports = s.ports := rfl
@[simp] theorem State.modFrames_fwdQ (f : Frames → Frames) : (s.modFrames f).fwdQ = s.fwdQ := rfl
@[simp] theorem State.modFrames_groups (f : Frames → Frames) : (s.modFrames f).groups = s.groups := rfl
@[simp] theorem State.modFrames_pipes (f : Frames → Frames) : (s.modFrames f).pipes = s.pipes := rfl
@[simp] theorem State.modFrames_nextChain (f : Frames → Frames) : (s.modFrames f).nextChain = s.nextChain := rfl
@[simp] theorem State.modFrames_curtain (f : Frames → Frames) : (s.modFrames f).curtain = s.curtain := rfl
@[simp] theorem State.modFrames_store (f : Frames → Frames) : (s.modFrames f).store = s.store := rfl
@[simp] theorem State.modFrames_posted (f : Frames → Frames) : (s.modFrames f).posted = s.posted := rfl
@[simp] theorem State.modFrames_logQ (f : Frames → Frames) : (s.modFrames f).logQ = s.logQ := rfl
@[simp] theorem State.modFrames_relNext (f : Frames → Frames) : (s.modFrames f).relNext = s.relNext := rfl
@[simp] theorem State.modFrames_slots (f : Frames → Frames) : (s.modFrames f).slots = s.slots := rfl
@[simp] theorem State.modFrames_engines (f : Frames → Frames) : (s.modFrames f).engines = s.engines := rfl
@[simp] theorem State.modFrames_shared (f : Frames → Frames) : (s.modFrames f).shared = s.shared := rfl
@[simp] theorem State.modFrames_walks (f : Frames → Frames) : (s.modFrames f).walks = s.walks := rfl
@[simp] theorem State.modFrames_cstore (f : Frames → Frames) : (s.modFrames f).cstore = s.cstore := rfl
@[simp] theorem State.modFrames_dispatch (f : Frames → Frames) : (s.modFrames f).dispatch = s.dispatch := rfl
@[simp] theorem State.modFrames_sstore (f : Frames → Frames) : (s.modFrames f).sstore = s.sstore := rfl
@[simp] theorem State.modFrames_csErr (f : Frames → Frames) : (s.modFrames f).csErr = s.csErr := rfl
@[simp] theorem State.modFrames_ssErr (f : Frames → Frames) : (s.modFrames f).ssErr = s.ssErr := rfl
@[simp] theorem State.modFrames_dispErr (f : Frames → Frames) : (s.modFrames f).dispErr = s.dispErr := rfl
@[simp] theorem State.modFrames_ssWait (f : Frames → Frames) : (s.modFrames f).ssWait = s.ssWait := rfl
@[simp] theorem State.modFrames_mem (f : Frames → Frames) : (s.modFrames f).mem = s.mem := rfl
@[simp] theorem State.modFrames_memErr (f : Frames → Frames) : (s.modFrames f).memErr = s.memErr := rfl
@[simp] theorem State.modFrames_retained (f : Frames → Frames) : (s.modFrames f).retained = s.retained := rfl
@[simp] theorem State.modFrames_entering (f : Frames → Frames) : (s.modFrames f).entering = s.entering := rfl
@[simp] theorem State.modFrames_waking (f : Frames → Frames) : (s.modFrames f).waking = s.waking := rfl
@[simp] theorem State.modFrames_wakeFor (f : Frames → Frames) : (s.modFrames f).wakeFor = s.wakeFor := rfl
@[simp] theorem State.modFrames_scrubs (f : Frames → Frames) : (s.modFrames f).scrubs = s.scrubs := rfl
@[simp] theorem State.modFrames_bists (f : Frames → Frames) : (s.modFrames f).bists = s.bists := rfl
@[simp] theorem State.modFrames_bulk (f : Frames → Frames) : (s.modFrames f).bulk = s.bulk := rfl
@[simp] theorem State.modFrames_wiping (f : Frames → Frames) : (s.modFrames f).wiping = s.wiping := rfl
@[simp] theorem State.modFrames_bursts (f : Frames → Frames) : (s.modFrames f).bursts = s.bursts := rfl
@[simp] theorem State.modFrames_lastGrant (f : Frames → Frames) : (s.modFrames f).lastGrant = s.lastGrant := rfl
@[simp] theorem State.modFrames_singles (f : Frames → Frames) : (s.modFrames f).singles = s.singles := rfl
@[simp] theorem State.modFrames_clash (f : Frames → Frames) : (s.modFrames f).clash = s.clash := rfl
@[simp] theorem State.modFrames_hostReqs (f : Frames → Frames) : (s.modFrames f).hostReqs = s.hostReqs := rfl
@[simp] theorem State.modFrames_inbound (f : Frames → Frames) : (s.modFrames f).inbound = s.inbound := rfl
@[simp] theorem State.modFrames_hfiRst (f : Frames → Frames) : (s.modFrames f).hfiRst = s.hfiRst := rfl
@[simp] theorem State.modFrames_hfiAck (f : Frames → Frames) : (s.modFrames f).hfiAck = s.hfiAck := rfl
@[simp] theorem State.modFrames_frz1 (f : Frames → Frames) : (s.modFrames f).frz1 = s.frz1 := rfl
@[simp] theorem State.modFrames_frzClk (f : Frames → Frames) : (s.modFrames f).frzClk = s.frzClk := rfl
@[simp] theorem State.modFrames_timers (f : Frames → Frames) : (s.modFrames f).timers = s.timers := rfl
@[simp] theorem State.modFrames_gsWait (f : Frames → Frames) : (s.modFrames f).gsWait = s.gsWait := rfl
@[simp] theorem State.modFrames_capRise (f : Frames → Frames) : (s.modFrames f).capRise = s.capRise := rfl
@[simp] theorem State.modFrames_pins (f : Frames → Frames) : (s.modFrames f).pins = s.pins := rfl
@[simp] theorem State.modFrames_align (f : Frames → Frames) : (s.modFrames f).align = s.align := rfl
@[simp] theorem State.modFrames_alignGood (f : Frames → Frames) : (s.modFrames f).alignGood = s.alignGood := rfl
@[simp] theorem State.modFrames_alignDue (f : Frames → Frames) : (s.modFrames f).alignDue = s.alignDue := rfl
@[simp] theorem State.modFrames_probe (f : Frames → Frames) : (s.modFrames f).probe = s.probe := rfl
@[simp] theorem State.modFrames_phyReq (f : Frames → Frames) : (s.modFrames f).phyReq = s.phyReq := rfl
@[simp] theorem State.modFrames_phyAck (f : Frames → Frames) : (s.modFrames f).phyAck = s.phyAck := rfl
@[simp] theorem State.modFrames_retReq (f : Frames → Frames) : (s.modFrames f).retReq = s.retReq := rfl
@[simp] theorem State.modFrames_retAck (f : Frames → Frames) : (s.modFrames f).retAck = s.retAck := rfl
@[simp] theorem State.modFrames_trust (f : Frames → Frames) : (s.modFrames f).trust = s.trust := rfl
@[simp] theorem State.modFrames_dbg (f : Frames → Frames) : (s.modFrames f).dbg = s.dbg := rfl
@[simp] theorem State.modFrames_freeIndex (f : Frames → Frames) : (s.modFrames f).freeIndex = s.freeIndex := rfl

/-! ### respond -/

@[simp] theorem State.respond_pending (r : Rsp) : (s.respond r).pending = s.pending := rfl
@[simp] theorem State.respond_porLow (r : Rsp) : (s.respond r).porLow = s.porLow := rfl
@[simp] theorem State.respond_rstLow (r : Rsp) : (s.respond r).rstLow = s.rstLow := rfl
@[simp] theorem State.respond_firstEdge (r : Rsp) : (s.respond r).firstEdge = s.firstEdge := rfl
@[simp] theorem State.respond_clkOk (r : Rsp) : (s.respond r).clkOk = s.clkOk := rfl
@[simp] theorem State.respond_beatno (r : Rsp) : (s.respond r).beatno = s.beatno := rfl
@[simp] theorem State.respond_fofs (r : Rsp) : (s.respond r).fofs = s.fofs := rfl
@[simp] theorem State.respond_regs (r : Rsp) : (s.respond r).regs = s.regs := rfl
@[simp] theorem State.respond_hrpQ (r : Rsp) : (s.respond r).hrpQ = s.hrpQ := rfl
@[simp] theorem State.respond_hrpOut (r : Rsp) : (s.respond r).hrpOut = s.hrpOut := rfl
@[simp] theorem State.respond_hrpSeq (r : Rsp) : (s.respond r).hrpSeq = s.hrpSeq := rfl
@[simp] theorem State.respond_islandQ (r : Rsp) : (s.respond r).islandQ = s.islandQ := rfl
@[simp] theorem State.respond_clkLost (r : Rsp) : (s.respond r).clkLost = s.clkLost := rfl
@[simp] theorem State.respond_pinLost (r : Rsp) : (s.respond r).pinLost = s.pinLost := rfl
@[simp] theorem State.respond_callboard (r : Rsp) : (s.respond r).callboard = s.callboard := rfl
@[simp] theorem State.respond_permit (r : Rsp) : (s.respond r).permit = s.permit := rfl
@[simp] theorem State.respond_ringAhead (r : Rsp) : (s.respond r).ringAhead = s.ringAhead := rfl
@[simp] theorem State.respond_ringRel (r : Rsp) : (s.respond r).ringRel = s.ringRel := rfl
@[simp] theorem State.respond_ports (r : Rsp) : (s.respond r).ports = s.ports := rfl
@[simp] theorem State.respond_frames (r : Rsp) : (s.respond r).frames = s.frames := rfl
@[simp] theorem State.respond_fwdQ (r : Rsp) : (s.respond r).fwdQ = s.fwdQ := rfl
@[simp] theorem State.respond_groups (r : Rsp) : (s.respond r).groups = s.groups := rfl
@[simp] theorem State.respond_pipes (r : Rsp) : (s.respond r).pipes = s.pipes := rfl
@[simp] theorem State.respond_nextChain (r : Rsp) : (s.respond r).nextChain = s.nextChain := rfl
@[simp] theorem State.respond_curtain (r : Rsp) : (s.respond r).curtain = s.curtain := rfl
@[simp] theorem State.respond_store (r : Rsp) : (s.respond r).store = s.store := rfl
@[simp] theorem State.respond_posted (r : Rsp) : (s.respond r).posted = s.posted := rfl
@[simp] theorem State.respond_logQ (r : Rsp) : (s.respond r).logQ = s.logQ := rfl
@[simp] theorem State.respond_relNext (r : Rsp) : (s.respond r).relNext = s.relNext := rfl
@[simp] theorem State.respond_slots (r : Rsp) : (s.respond r).slots = s.slots := rfl
@[simp] theorem State.respond_engines (r : Rsp) : (s.respond r).engines = s.engines := rfl
@[simp] theorem State.respond_shared (r : Rsp) : (s.respond r).shared = s.shared := rfl
@[simp] theorem State.respond_walks (r : Rsp) : (s.respond r).walks = s.walks := rfl
@[simp] theorem State.respond_cstore (r : Rsp) : (s.respond r).cstore = s.cstore := rfl
@[simp] theorem State.respond_dispatch (r : Rsp) : (s.respond r).dispatch = s.dispatch := rfl
@[simp] theorem State.respond_sstore (r : Rsp) : (s.respond r).sstore = s.sstore := rfl
@[simp] theorem State.respond_csErr (r : Rsp) : (s.respond r).csErr = s.csErr := rfl
@[simp] theorem State.respond_ssErr (r : Rsp) : (s.respond r).ssErr = s.ssErr := rfl
@[simp] theorem State.respond_dispErr (r : Rsp) : (s.respond r).dispErr = s.dispErr := rfl
@[simp] theorem State.respond_ssWait (r : Rsp) : (s.respond r).ssWait = s.ssWait := rfl
@[simp] theorem State.respond_mem (r : Rsp) : (s.respond r).mem = s.mem := rfl
@[simp] theorem State.respond_memErr (r : Rsp) : (s.respond r).memErr = s.memErr := rfl
@[simp] theorem State.respond_retained (r : Rsp) : (s.respond r).retained = s.retained := rfl
@[simp] theorem State.respond_entering (r : Rsp) : (s.respond r).entering = s.entering := rfl
@[simp] theorem State.respond_waking (r : Rsp) : (s.respond r).waking = s.waking := rfl
@[simp] theorem State.respond_wakeFor (r : Rsp) : (s.respond r).wakeFor = s.wakeFor := rfl
@[simp] theorem State.respond_scrubs (r : Rsp) : (s.respond r).scrubs = s.scrubs := rfl
@[simp] theorem State.respond_bists (r : Rsp) : (s.respond r).bists = s.bists := rfl
@[simp] theorem State.respond_bulk (r : Rsp) : (s.respond r).bulk = s.bulk := rfl
@[simp] theorem State.respond_wiping (r : Rsp) : (s.respond r).wiping = s.wiping := rfl
@[simp] theorem State.respond_bursts (r : Rsp) : (s.respond r).bursts = s.bursts := rfl
@[simp] theorem State.respond_lastGrant (r : Rsp) : (s.respond r).lastGrant = s.lastGrant := rfl
@[simp] theorem State.respond_singles (r : Rsp) : (s.respond r).singles = s.singles := rfl
@[simp] theorem State.respond_clash (r : Rsp) : (s.respond r).clash = s.clash := rfl
@[simp] theorem State.respond_hostReqs (r : Rsp) : (s.respond r).hostReqs = s.hostReqs := rfl
@[simp] theorem State.respond_inbound (r : Rsp) : (s.respond r).inbound = s.inbound := rfl
@[simp] theorem State.respond_hfiRst (r : Rsp) : (s.respond r).hfiRst = s.hfiRst := rfl
@[simp] theorem State.respond_hfiAck (r : Rsp) : (s.respond r).hfiAck = s.hfiAck := rfl
@[simp] theorem State.respond_frz1 (r : Rsp) : (s.respond r).frz1 = s.frz1 := rfl
@[simp] theorem State.respond_frzClk (r : Rsp) : (s.respond r).frzClk = s.frzClk := rfl
@[simp] theorem State.respond_timers (r : Rsp) : (s.respond r).timers = s.timers := rfl
@[simp] theorem State.respond_gsWait (r : Rsp) : (s.respond r).gsWait = s.gsWait := rfl
@[simp] theorem State.respond_capRise (r : Rsp) : (s.respond r).capRise = s.capRise := rfl
@[simp] theorem State.respond_pins (r : Rsp) : (s.respond r).pins = s.pins := rfl
@[simp] theorem State.respond_align (r : Rsp) : (s.respond r).align = s.align := rfl
@[simp] theorem State.respond_alignGood (r : Rsp) : (s.respond r).alignGood = s.alignGood := rfl
@[simp] theorem State.respond_alignDue (r : Rsp) : (s.respond r).alignDue = s.alignDue := rfl
@[simp] theorem State.respond_probe (r : Rsp) : (s.respond r).probe = s.probe := rfl
@[simp] theorem State.respond_phyReq (r : Rsp) : (s.respond r).phyReq = s.phyReq := rfl
@[simp] theorem State.respond_phyAck (r : Rsp) : (s.respond r).phyAck = s.phyAck := rfl
@[simp] theorem State.respond_retReq (r : Rsp) : (s.respond r).retReq = s.retReq := rfl
@[simp] theorem State.respond_retAck (r : Rsp) : (s.respond r).retAck = s.retAck := rfl
@[simp] theorem State.respond_trust (r : Rsp) : (s.respond r).trust = s.trust := rfl
@[simp] theorem State.respond_dbg (r : Rsp) : (s.respond r).dbg = s.dbg := rfl
@[simp] theorem State.respond_freeIndex (r : Rsp) : (s.respond r).freeIndex = s.freeIndex := rfl

/-! ### drew -/

@[simp] theorem State.drew_pending (n : Nat) : (s.drew n).pending = s.pending := rfl
@[simp] theorem State.drew_porLow (n : Nat) : (s.drew n).porLow = s.porLow := rfl
@[simp] theorem State.drew_rstLow (n : Nat) : (s.drew n).rstLow = s.rstLow := rfl
@[simp] theorem State.drew_firstEdge (n : Nat) : (s.drew n).firstEdge = s.firstEdge := rfl
@[simp] theorem State.drew_clkOk (n : Nat) : (s.drew n).clkOk = s.clkOk := rfl
@[simp] theorem State.drew_beatno (n : Nat) : (s.drew n).beatno = s.beatno := rfl
@[simp] theorem State.drew_fofs (n : Nat) : (s.drew n).fofs = s.fofs := rfl
@[simp] theorem State.drew_regs (n : Nat) : (s.drew n).regs = s.regs := rfl
@[simp] theorem State.drew_rsp (n : Nat) : (s.drew n).rsp = s.rsp := rfl
@[simp] theorem State.drew_hrpQ (n : Nat) : (s.drew n).hrpQ = s.hrpQ := rfl
@[simp] theorem State.drew_hrpOut (n : Nat) : (s.drew n).hrpOut = s.hrpOut := rfl
@[simp] theorem State.drew_hrpSeq (n : Nat) : (s.drew n).hrpSeq = s.hrpSeq := rfl
@[simp] theorem State.drew_islandQ (n : Nat) : (s.drew n).islandQ = s.islandQ := rfl
@[simp] theorem State.drew_clkLost (n : Nat) : (s.drew n).clkLost = s.clkLost := rfl
@[simp] theorem State.drew_pinLost (n : Nat) : (s.drew n).pinLost = s.pinLost := rfl
@[simp] theorem State.drew_callboard (n : Nat) : (s.drew n).callboard = s.callboard := rfl
@[simp] theorem State.drew_permit (n : Nat) : (s.drew n).permit = s.permit := rfl
@[simp] theorem State.drew_ringAhead (n : Nat) : (s.drew n).ringAhead = s.ringAhead := rfl
@[simp] theorem State.drew_ringRel (n : Nat) : (s.drew n).ringRel = s.ringRel := rfl
@[simp] theorem State.drew_ports (n : Nat) : (s.drew n).ports = s.ports := rfl
@[simp] theorem State.drew_frames (n : Nat) : (s.drew n).frames = s.frames := rfl
@[simp] theorem State.drew_fwdQ (n : Nat) : (s.drew n).fwdQ = s.fwdQ := rfl
@[simp] theorem State.drew_groups (n : Nat) : (s.drew n).groups = s.groups := rfl
@[simp] theorem State.drew_pipes (n : Nat) : (s.drew n).pipes = s.pipes := rfl
@[simp] theorem State.drew_nextChain (n : Nat) : (s.drew n).nextChain = s.nextChain := rfl
@[simp] theorem State.drew_curtain (n : Nat) : (s.drew n).curtain = s.curtain := rfl
@[simp] theorem State.drew_store (n : Nat) : (s.drew n).store = s.store := rfl
@[simp] theorem State.drew_posted (n : Nat) : (s.drew n).posted = s.posted := rfl
@[simp] theorem State.drew_logQ (n : Nat) : (s.drew n).logQ = s.logQ := rfl
@[simp] theorem State.drew_relNext (n : Nat) : (s.drew n).relNext = s.relNext := rfl
@[simp] theorem State.drew_slots (n : Nat) : (s.drew n).slots = s.slots := rfl
@[simp] theorem State.drew_engines (n : Nat) : (s.drew n).engines = s.engines := rfl
@[simp] theorem State.drew_shared (n : Nat) : (s.drew n).shared = s.shared := rfl
@[simp] theorem State.drew_walks (n : Nat) : (s.drew n).walks = s.walks := rfl
@[simp] theorem State.drew_cstore (n : Nat) : (s.drew n).cstore = s.cstore := rfl
@[simp] theorem State.drew_dispatch (n : Nat) : (s.drew n).dispatch = s.dispatch := rfl
@[simp] theorem State.drew_sstore (n : Nat) : (s.drew n).sstore = s.sstore := rfl
@[simp] theorem State.drew_csErr (n : Nat) : (s.drew n).csErr = s.csErr := rfl
@[simp] theorem State.drew_ssErr (n : Nat) : (s.drew n).ssErr = s.ssErr := rfl
@[simp] theorem State.drew_dispErr (n : Nat) : (s.drew n).dispErr = s.dispErr := rfl
@[simp] theorem State.drew_ssWait (n : Nat) : (s.drew n).ssWait = s.ssWait := rfl
@[simp] theorem State.drew_mem (n : Nat) : (s.drew n).mem = s.mem := rfl
@[simp] theorem State.drew_memErr (n : Nat) : (s.drew n).memErr = s.memErr := rfl
@[simp] theorem State.drew_retained (n : Nat) : (s.drew n).retained = s.retained := rfl
@[simp] theorem State.drew_entering (n : Nat) : (s.drew n).entering = s.entering := rfl
@[simp] theorem State.drew_waking (n : Nat) : (s.drew n).waking = s.waking := rfl
@[simp] theorem State.drew_wakeFor (n : Nat) : (s.drew n).wakeFor = s.wakeFor := rfl
@[simp] theorem State.drew_scrubs (n : Nat) : (s.drew n).scrubs = s.scrubs := rfl
@[simp] theorem State.drew_bists (n : Nat) : (s.drew n).bists = s.bists := rfl
@[simp] theorem State.drew_bulk (n : Nat) : (s.drew n).bulk = s.bulk := rfl
@[simp] theorem State.drew_wiping (n : Nat) : (s.drew n).wiping = s.wiping := rfl
@[simp] theorem State.drew_bursts (n : Nat) : (s.drew n).bursts = s.bursts := rfl
@[simp] theorem State.drew_lastGrant (n : Nat) : (s.drew n).lastGrant = s.lastGrant := rfl
@[simp] theorem State.drew_singles (n : Nat) : (s.drew n).singles = s.singles := rfl
@[simp] theorem State.drew_clash (n : Nat) : (s.drew n).clash = s.clash := rfl
@[simp] theorem State.drew_hostReqs (n : Nat) : (s.drew n).hostReqs = s.hostReqs := rfl
@[simp] theorem State.drew_inbound (n : Nat) : (s.drew n).inbound = s.inbound := rfl
@[simp] theorem State.drew_hfiRst (n : Nat) : (s.drew n).hfiRst = s.hfiRst := rfl
@[simp] theorem State.drew_hfiAck (n : Nat) : (s.drew n).hfiAck = s.hfiAck := rfl
@[simp] theorem State.drew_frz1 (n : Nat) : (s.drew n).frz1 = s.frz1 := rfl
@[simp] theorem State.drew_frzClk (n : Nat) : (s.drew n).frzClk = s.frzClk := rfl
@[simp] theorem State.drew_timers (n : Nat) : (s.drew n).timers = s.timers := rfl
@[simp] theorem State.drew_gsWait (n : Nat) : (s.drew n).gsWait = s.gsWait := rfl
@[simp] theorem State.drew_capRise (n : Nat) : (s.drew n).capRise = s.capRise := rfl
@[simp] theorem State.drew_pins (n : Nat) : (s.drew n).pins = s.pins := rfl
@[simp] theorem State.drew_align (n : Nat) : (s.drew n).align = s.align := rfl
@[simp] theorem State.drew_alignGood (n : Nat) : (s.drew n).alignGood = s.alignGood := rfl
@[simp] theorem State.drew_alignDue (n : Nat) : (s.drew n).alignDue = s.alignDue := rfl
@[simp] theorem State.drew_probe (n : Nat) : (s.drew n).probe = s.probe := rfl
@[simp] theorem State.drew_phyReq (n : Nat) : (s.drew n).phyReq = s.phyReq := rfl
@[simp] theorem State.drew_phyAck (n : Nat) : (s.drew n).phyAck = s.phyAck := rfl
@[simp] theorem State.drew_retReq (n : Nat) : (s.drew n).retReq = s.retReq := rfl
@[simp] theorem State.drew_retAck (n : Nat) : (s.drew n).retAck = s.retAck := rfl
@[simp] theorem State.drew_trust (n : Nat) : (s.drew n).trust = s.trust := rfl
@[simp] theorem State.drew_dbg (n : Nat) : (s.drew n).dbg = s.dbg := rfl

/-! ### setByte -/

@[simp] theorem State.setByte_pending (a : Nat) (b : Byte) : (s.setByte a b).pending = s.pending := rfl
@[simp] theorem State.setByte_porLow (a : Nat) (b : Byte) : (s.setByte a b).porLow = s.porLow := rfl
@[simp] theorem State.setByte_rstLow (a : Nat) (b : Byte) : (s.setByte a b).rstLow = s.rstLow := rfl
@[simp] theorem State.setByte_firstEdge (a : Nat) (b : Byte) : (s.setByte a b).firstEdge = s.firstEdge := rfl
@[simp] theorem State.setByte_clkOk (a : Nat) (b : Byte) : (s.setByte a b).clkOk = s.clkOk := rfl
@[simp] theorem State.setByte_beatno (a : Nat) (b : Byte) : (s.setByte a b).beatno = s.beatno := rfl
@[simp] theorem State.setByte_fofs (a : Nat) (b : Byte) : (s.setByte a b).fofs = s.fofs := rfl
@[simp] theorem State.setByte_regs (a : Nat) (b : Byte) : (s.setByte a b).regs = s.regs := rfl
@[simp] theorem State.setByte_rsp (a : Nat) (b : Byte) : (s.setByte a b).rsp = s.rsp := rfl
@[simp] theorem State.setByte_hrpQ (a : Nat) (b : Byte) : (s.setByte a b).hrpQ = s.hrpQ := rfl
@[simp] theorem State.setByte_hrpOut (a : Nat) (b : Byte) : (s.setByte a b).hrpOut = s.hrpOut := rfl
@[simp] theorem State.setByte_hrpSeq (a : Nat) (b : Byte) : (s.setByte a b).hrpSeq = s.hrpSeq := rfl
@[simp] theorem State.setByte_islandQ (a : Nat) (b : Byte) : (s.setByte a b).islandQ = s.islandQ := rfl
@[simp] theorem State.setByte_clkLost (a : Nat) (b : Byte) : (s.setByte a b).clkLost = s.clkLost := rfl
@[simp] theorem State.setByte_pinLost (a : Nat) (b : Byte) : (s.setByte a b).pinLost = s.pinLost := rfl
@[simp] theorem State.setByte_callboard (a : Nat) (b : Byte) : (s.setByte a b).callboard = s.callboard := rfl
@[simp] theorem State.setByte_permit (a : Nat) (b : Byte) : (s.setByte a b).permit = s.permit := rfl
@[simp] theorem State.setByte_ringAhead (a : Nat) (b : Byte) : (s.setByte a b).ringAhead = s.ringAhead := rfl
@[simp] theorem State.setByte_ringRel (a : Nat) (b : Byte) : (s.setByte a b).ringRel = s.ringRel := rfl
@[simp] theorem State.setByte_ports (a : Nat) (b : Byte) : (s.setByte a b).ports = s.ports := rfl
@[simp] theorem State.setByte_frames (a : Nat) (b : Byte) : (s.setByte a b).frames = s.frames := rfl
@[simp] theorem State.setByte_fwdQ (a : Nat) (b : Byte) : (s.setByte a b).fwdQ = s.fwdQ := rfl
@[simp] theorem State.setByte_groups (a : Nat) (b : Byte) : (s.setByte a b).groups = s.groups := rfl
@[simp] theorem State.setByte_pipes (a : Nat) (b : Byte) : (s.setByte a b).pipes = s.pipes := rfl
@[simp] theorem State.setByte_nextChain (a : Nat) (b : Byte) : (s.setByte a b).nextChain = s.nextChain := rfl
@[simp] theorem State.setByte_curtain (a : Nat) (b : Byte) : (s.setByte a b).curtain = s.curtain := rfl
@[simp] theorem State.setByte_store (a : Nat) (b : Byte) : (s.setByte a b).store = s.store := rfl
@[simp] theorem State.setByte_posted (a : Nat) (b : Byte) : (s.setByte a b).posted = s.posted := rfl
@[simp] theorem State.setByte_logQ (a : Nat) (b : Byte) : (s.setByte a b).logQ = s.logQ := rfl
@[simp] theorem State.setByte_relNext (a : Nat) (b : Byte) : (s.setByte a b).relNext = s.relNext := rfl
@[simp] theorem State.setByte_slots (a : Nat) (b : Byte) : (s.setByte a b).slots = s.slots := rfl
@[simp] theorem State.setByte_engines (a : Nat) (b : Byte) : (s.setByte a b).engines = s.engines := rfl
@[simp] theorem State.setByte_shared (a : Nat) (b : Byte) : (s.setByte a b).shared = s.shared := rfl
@[simp] theorem State.setByte_walks (a : Nat) (b : Byte) : (s.setByte a b).walks = s.walks := rfl
@[simp] theorem State.setByte_cstore (a : Nat) (b : Byte) : (s.setByte a b).cstore = s.cstore := rfl
@[simp] theorem State.setByte_dispatch (a : Nat) (b : Byte) : (s.setByte a b).dispatch = s.dispatch := rfl
@[simp] theorem State.setByte_sstore (a : Nat) (b : Byte) : (s.setByte a b).sstore = s.sstore := rfl
@[simp] theorem State.setByte_csErr (a : Nat) (b : Byte) : (s.setByte a b).csErr = s.csErr := rfl
@[simp] theorem State.setByte_ssErr (a : Nat) (b : Byte) : (s.setByte a b).ssErr = s.ssErr := rfl
@[simp] theorem State.setByte_dispErr (a : Nat) (b : Byte) : (s.setByte a b).dispErr = s.dispErr := rfl
@[simp] theorem State.setByte_ssWait (a : Nat) (b : Byte) : (s.setByte a b).ssWait = s.ssWait := rfl
@[simp] theorem State.setByte_memErr (a : Nat) (b : Byte) : (s.setByte a b).memErr = s.memErr := rfl
@[simp] theorem State.setByte_retained (a : Nat) (b : Byte) : (s.setByte a b).retained = s.retained := rfl
@[simp] theorem State.setByte_entering (a : Nat) (b : Byte) : (s.setByte a b).entering = s.entering := rfl
@[simp] theorem State.setByte_waking (a : Nat) (b : Byte) : (s.setByte a b).waking = s.waking := rfl
@[simp] theorem State.setByte_wakeFor (a : Nat) (b : Byte) : (s.setByte a b).wakeFor = s.wakeFor := rfl
@[simp] theorem State.setByte_scrubs (a : Nat) (b : Byte) : (s.setByte a b).scrubs = s.scrubs := rfl
@[simp] theorem State.setByte_bists (a : Nat) (b : Byte) : (s.setByte a b).bists = s.bists := rfl
@[simp] theorem State.setByte_bulk (a : Nat) (b : Byte) : (s.setByte a b).bulk = s.bulk := rfl
@[simp] theorem State.setByte_wiping (a : Nat) (b : Byte) : (s.setByte a b).wiping = s.wiping := rfl
@[simp] theorem State.setByte_bursts (a : Nat) (b : Byte) : (s.setByte a b).bursts = s.bursts := rfl
@[simp] theorem State.setByte_lastGrant (a : Nat) (b : Byte) : (s.setByte a b).lastGrant = s.lastGrant := rfl
@[simp] theorem State.setByte_singles (a : Nat) (b : Byte) : (s.setByte a b).singles = s.singles := rfl
@[simp] theorem State.setByte_clash (a : Nat) (b : Byte) : (s.setByte a b).clash = s.clash := rfl
@[simp] theorem State.setByte_hostReqs (a : Nat) (b : Byte) : (s.setByte a b).hostReqs = s.hostReqs := rfl
@[simp] theorem State.setByte_inbound (a : Nat) (b : Byte) : (s.setByte a b).inbound = s.inbound := rfl
@[simp] theorem State.setByte_hfiRst (a : Nat) (b : Byte) : (s.setByte a b).hfiRst = s.hfiRst := rfl
@[simp] theorem State.setByte_hfiAck (a : Nat) (b : Byte) : (s.setByte a b).hfiAck = s.hfiAck := rfl
@[simp] theorem State.setByte_frz1 (a : Nat) (b : Byte) : (s.setByte a b).frz1 = s.frz1 := rfl
@[simp] theorem State.setByte_frzClk (a : Nat) (b : Byte) : (s.setByte a b).frzClk = s.frzClk := rfl
@[simp] theorem State.setByte_timers (a : Nat) (b : Byte) : (s.setByte a b).timers = s.timers := rfl
@[simp] theorem State.setByte_gsWait (a : Nat) (b : Byte) : (s.setByte a b).gsWait = s.gsWait := rfl
@[simp] theorem State.setByte_capRise (a : Nat) (b : Byte) : (s.setByte a b).capRise = s.capRise := rfl
@[simp] theorem State.setByte_pins (a : Nat) (b : Byte) : (s.setByte a b).pins = s.pins := rfl
@[simp] theorem State.setByte_align (a : Nat) (b : Byte) : (s.setByte a b).align = s.align := rfl
@[simp] theorem State.setByte_alignGood (a : Nat) (b : Byte) : (s.setByte a b).alignGood = s.alignGood := rfl
@[simp] theorem State.setByte_alignDue (a : Nat) (b : Byte) : (s.setByte a b).alignDue = s.alignDue := rfl
@[simp] theorem State.setByte_probe (a : Nat) (b : Byte) : (s.setByte a b).probe = s.probe := rfl
@[simp] theorem State.setByte_phyReq (a : Nat) (b : Byte) : (s.setByte a b).phyReq = s.phyReq := rfl
@[simp] theorem State.setByte_phyAck (a : Nat) (b : Byte) : (s.setByte a b).phyAck = s.phyAck := rfl
@[simp] theorem State.setByte_retReq (a : Nat) (b : Byte) : (s.setByte a b).retReq = s.retReq := rfl
@[simp] theorem State.setByte_retAck (a : Nat) (b : Byte) : (s.setByte a b).retAck = s.retAck := rfl
@[simp] theorem State.setByte_trust (a : Nat) (b : Byte) : (s.setByte a b).trust = s.trust := rfl
@[simp] theorem State.setByte_dbg (a : Nat) (b : Byte) : (s.setByte a b).dbg = s.dbg := rfl
@[simp] theorem State.setByte_freeIndex (a : Nat) (b : Byte) : (s.setByte a b).freeIndex = s.freeIndex := rfl

/-! ### setErr -/

@[simp] theorem State.setErr_pending (w : Nat) (x : Option Bool) : (s.setErr w x).pending = s.pending := rfl
@[simp] theorem State.setErr_porLow (w : Nat) (x : Option Bool) : (s.setErr w x).porLow = s.porLow := rfl
@[simp] theorem State.setErr_rstLow (w : Nat) (x : Option Bool) : (s.setErr w x).rstLow = s.rstLow := rfl
@[simp] theorem State.setErr_firstEdge (w : Nat) (x : Option Bool) : (s.setErr w x).firstEdge = s.firstEdge := rfl
@[simp] theorem State.setErr_clkOk (w : Nat) (x : Option Bool) : (s.setErr w x).clkOk = s.clkOk := rfl
@[simp] theorem State.setErr_beatno (w : Nat) (x : Option Bool) : (s.setErr w x).beatno = s.beatno := rfl
@[simp] theorem State.setErr_fofs (w : Nat) (x : Option Bool) : (s.setErr w x).fofs = s.fofs := rfl
@[simp] theorem State.setErr_regs (w : Nat) (x : Option Bool) : (s.setErr w x).regs = s.regs := rfl
@[simp] theorem State.setErr_rsp (w : Nat) (x : Option Bool) : (s.setErr w x).rsp = s.rsp := rfl
@[simp] theorem State.setErr_hrpQ (w : Nat) (x : Option Bool) : (s.setErr w x).hrpQ = s.hrpQ := rfl
@[simp] theorem State.setErr_hrpOut (w : Nat) (x : Option Bool) : (s.setErr w x).hrpOut = s.hrpOut := rfl
@[simp] theorem State.setErr_hrpSeq (w : Nat) (x : Option Bool) : (s.setErr w x).hrpSeq = s.hrpSeq := rfl
@[simp] theorem State.setErr_islandQ (w : Nat) (x : Option Bool) : (s.setErr w x).islandQ = s.islandQ := rfl
@[simp] theorem State.setErr_clkLost (w : Nat) (x : Option Bool) : (s.setErr w x).clkLost = s.clkLost := rfl
@[simp] theorem State.setErr_pinLost (w : Nat) (x : Option Bool) : (s.setErr w x).pinLost = s.pinLost := rfl
@[simp] theorem State.setErr_callboard (w : Nat) (x : Option Bool) : (s.setErr w x).callboard = s.callboard := rfl
@[simp] theorem State.setErr_permit (w : Nat) (x : Option Bool) : (s.setErr w x).permit = s.permit := rfl
@[simp] theorem State.setErr_ringAhead (w : Nat) (x : Option Bool) : (s.setErr w x).ringAhead = s.ringAhead := rfl
@[simp] theorem State.setErr_ringRel (w : Nat) (x : Option Bool) : (s.setErr w x).ringRel = s.ringRel := rfl
@[simp] theorem State.setErr_ports (w : Nat) (x : Option Bool) : (s.setErr w x).ports = s.ports := rfl
@[simp] theorem State.setErr_frames (w : Nat) (x : Option Bool) : (s.setErr w x).frames = s.frames := rfl
@[simp] theorem State.setErr_fwdQ (w : Nat) (x : Option Bool) : (s.setErr w x).fwdQ = s.fwdQ := rfl
@[simp] theorem State.setErr_groups (w : Nat) (x : Option Bool) : (s.setErr w x).groups = s.groups := rfl
@[simp] theorem State.setErr_pipes (w : Nat) (x : Option Bool) : (s.setErr w x).pipes = s.pipes := rfl
@[simp] theorem State.setErr_nextChain (w : Nat) (x : Option Bool) : (s.setErr w x).nextChain = s.nextChain := rfl
@[simp] theorem State.setErr_curtain (w : Nat) (x : Option Bool) : (s.setErr w x).curtain = s.curtain := rfl
@[simp] theorem State.setErr_store (w : Nat) (x : Option Bool) : (s.setErr w x).store = s.store := rfl
@[simp] theorem State.setErr_posted (w : Nat) (x : Option Bool) : (s.setErr w x).posted = s.posted := rfl
@[simp] theorem State.setErr_logQ (w : Nat) (x : Option Bool) : (s.setErr w x).logQ = s.logQ := rfl
@[simp] theorem State.setErr_relNext (w : Nat) (x : Option Bool) : (s.setErr w x).relNext = s.relNext := rfl
@[simp] theorem State.setErr_slots (w : Nat) (x : Option Bool) : (s.setErr w x).slots = s.slots := rfl
@[simp] theorem State.setErr_engines (w : Nat) (x : Option Bool) : (s.setErr w x).engines = s.engines := rfl
@[simp] theorem State.setErr_shared (w : Nat) (x : Option Bool) : (s.setErr w x).shared = s.shared := rfl
@[simp] theorem State.setErr_walks (w : Nat) (x : Option Bool) : (s.setErr w x).walks = s.walks := rfl
@[simp] theorem State.setErr_cstore (w : Nat) (x : Option Bool) : (s.setErr w x).cstore = s.cstore := rfl
@[simp] theorem State.setErr_dispatch (w : Nat) (x : Option Bool) : (s.setErr w x).dispatch = s.dispatch := rfl
@[simp] theorem State.setErr_sstore (w : Nat) (x : Option Bool) : (s.setErr w x).sstore = s.sstore := rfl
@[simp] theorem State.setErr_csErr (w : Nat) (x : Option Bool) : (s.setErr w x).csErr = s.csErr := rfl
@[simp] theorem State.setErr_ssErr (w : Nat) (x : Option Bool) : (s.setErr w x).ssErr = s.ssErr := rfl
@[simp] theorem State.setErr_dispErr (w : Nat) (x : Option Bool) : (s.setErr w x).dispErr = s.dispErr := rfl
@[simp] theorem State.setErr_ssWait (w : Nat) (x : Option Bool) : (s.setErr w x).ssWait = s.ssWait := rfl
@[simp] theorem State.setErr_mem (w : Nat) (x : Option Bool) : (s.setErr w x).mem = s.mem := rfl
@[simp] theorem State.setErr_retained (w : Nat) (x : Option Bool) : (s.setErr w x).retained = s.retained := rfl
@[simp] theorem State.setErr_entering (w : Nat) (x : Option Bool) : (s.setErr w x).entering = s.entering := rfl
@[simp] theorem State.setErr_waking (w : Nat) (x : Option Bool) : (s.setErr w x).waking = s.waking := rfl
@[simp] theorem State.setErr_wakeFor (w : Nat) (x : Option Bool) : (s.setErr w x).wakeFor = s.wakeFor := rfl
@[simp] theorem State.setErr_scrubs (w : Nat) (x : Option Bool) : (s.setErr w x).scrubs = s.scrubs := rfl
@[simp] theorem State.setErr_bists (w : Nat) (x : Option Bool) : (s.setErr w x).bists = s.bists := rfl
@[simp] theorem State.setErr_bulk (w : Nat) (x : Option Bool) : (s.setErr w x).bulk = s.bulk := rfl
@[simp] theorem State.setErr_wiping (w : Nat) (x : Option Bool) : (s.setErr w x).wiping = s.wiping := rfl
@[simp] theorem State.setErr_bursts (w : Nat) (x : Option Bool) : (s.setErr w x).bursts = s.bursts := rfl
@[simp] theorem State.setErr_lastGrant (w : Nat) (x : Option Bool) : (s.setErr w x).lastGrant = s.lastGrant := rfl
@[simp] theorem State.setErr_singles (w : Nat) (x : Option Bool) : (s.setErr w x).singles = s.singles := rfl
@[simp] theorem State.setErr_clash (w : Nat) (x : Option Bool) : (s.setErr w x).clash = s.clash := rfl
@[simp] theorem State.setErr_hostReqs (w : Nat) (x : Option Bool) : (s.setErr w x).hostReqs = s.hostReqs := rfl
@[simp] theorem State.setErr_inbound (w : Nat) (x : Option Bool) : (s.setErr w x).inbound = s.inbound := rfl
@[simp] theorem State.setErr_hfiRst (w : Nat) (x : Option Bool) : (s.setErr w x).hfiRst = s.hfiRst := rfl
@[simp] theorem State.setErr_hfiAck (w : Nat) (x : Option Bool) : (s.setErr w x).hfiAck = s.hfiAck := rfl
@[simp] theorem State.setErr_frz1 (w : Nat) (x : Option Bool) : (s.setErr w x).frz1 = s.frz1 := rfl
@[simp] theorem State.setErr_frzClk (w : Nat) (x : Option Bool) : (s.setErr w x).frzClk = s.frzClk := rfl
@[simp] theorem State.setErr_timers (w : Nat) (x : Option Bool) : (s.setErr w x).timers = s.timers := rfl
@[simp] theorem State.setErr_gsWait (w : Nat) (x : Option Bool) : (s.setErr w x).gsWait = s.gsWait := rfl
@[simp] theorem State.setErr_capRise (w : Nat) (x : Option Bool) : (s.setErr w x).capRise = s.capRise := rfl
@[simp] theorem State.setErr_pins (w : Nat) (x : Option Bool) : (s.setErr w x).pins = s.pins := rfl
@[simp] theorem State.setErr_align (w : Nat) (x : Option Bool) : (s.setErr w x).align = s.align := rfl
@[simp] theorem State.setErr_alignGood (w : Nat) (x : Option Bool) : (s.setErr w x).alignGood = s.alignGood := rfl
@[simp] theorem State.setErr_alignDue (w : Nat) (x : Option Bool) : (s.setErr w x).alignDue = s.alignDue := rfl
@[simp] theorem State.setErr_probe (w : Nat) (x : Option Bool) : (s.setErr w x).probe = s.probe := rfl
@[simp] theorem State.setErr_phyReq (w : Nat) (x : Option Bool) : (s.setErr w x).phyReq = s.phyReq := rfl
@[simp] theorem State.setErr_phyAck (w : Nat) (x : Option Bool) : (s.setErr w x).phyAck = s.phyAck := rfl
@[simp] theorem State.setErr_retReq (w : Nat) (x : Option Bool) : (s.setErr w x).retReq = s.retReq := rfl
@[simp] theorem State.setErr_retAck (w : Nat) (x : Option Bool) : (s.setErr w x).retAck = s.retAck := rfl
@[simp] theorem State.setErr_trust (w : Nat) (x : Option Bool) : (s.setErr w x).trust = s.trust := rfl
@[simp] theorem State.setErr_dbg (w : Nat) (x : Option Bool) : (s.setErr w x).dbg = s.dbg := rfl
@[simp] theorem State.setErr_freeIndex (w : Nat) (x : Option Bool) : (s.setErr w x).freeIndex = s.freeIndex := rfl

end Sys2Proof.Machine
end

