-- ==== Sys2Proof/Laws/Access.lean ====
section
/-!
SUPPORT. What taking a register access and answering it leave: every field but those of the arbiters and of the port's responses (R306, R424).
-/
namespace Sys2Proof.Machine

variable (s : State)

/-! ### An access is taken -/

@[simp] theorem State.taken_pending (m : Master) (a : Nat) : (s.taken m a).pending = s.pending := rfl
@[simp] theorem State.taken_porLow (m : Master) (a : Nat) : (s.taken m a).porLow = s.porLow := rfl
@[simp] theorem State.taken_rstLow (m : Master) (a : Nat) : (s.taken m a).rstLow = s.rstLow := rfl
@[simp] theorem State.taken_firstEdge (m : Master) (a : Nat) : (s.taken m a).firstEdge = s.firstEdge := rfl
@[simp] theorem State.taken_clkOk (m : Master) (a : Nat) : (s.taken m a).clkOk = s.clkOk := rfl
@[simp] theorem State.taken_beatno (m : Master) (a : Nat) : (s.taken m a).beatno = s.beatno := rfl
@[simp] theorem State.taken_fofs (m : Master) (a : Nat) : (s.taken m a).fofs = s.fofs := rfl
@[simp] theorem State.taken_regs (m : Master) (a : Nat) : (s.taken m a).regs = s.regs := rfl
@[simp] theorem State.taken_rsp (m : Master) (a : Nat) : (s.taken m a).rsp = s.rsp := rfl
@[simp] theorem State.taken_hrpOut (m : Master) (a : Nat) : (s.taken m a).hrpOut = s.hrpOut := rfl
@[simp] theorem State.taken_islandQ (m : Master) (a : Nat) : (s.taken m a).islandQ = s.islandQ := rfl
@[simp] theorem State.taken_clkLost (m : Master) (a : Nat) : (s.taken m a).clkLost = s.clkLost := rfl
@[simp] theorem State.taken_pinLost (m : Master) (a : Nat) : (s.taken m a).pinLost = s.pinLost := rfl
@[simp] theorem State.taken_callboard (m : Master) (a : Nat) : (s.taken m a).callboard = s.callboard := rfl
@[simp] theorem State.taken_permit (m : Master) (a : Nat) : (s.taken m a).permit = s.permit := rfl
@[simp] theorem State.taken_ringAhead (m : Master) (a : Nat) : (s.taken m a).ringAhead = s.ringAhead := rfl
@[simp] theorem State.taken_ringRel (m : Master) (a : Nat) : (s.taken m a).ringRel = s.ringRel := rfl
@[simp] theorem State.taken_ports (m : Master) (a : Nat) : (s.taken m a).ports = s.ports := rfl
@[simp] theorem State.taken_frames (m : Master) (a : Nat) : (s.taken m a).frames = s.frames := rfl
@[simp] theorem State.taken_fwdQ (m : Master) (a : Nat) : (s.taken m a).fwdQ = s.fwdQ := rfl
@[simp] theorem State.taken_groups (m : Master) (a : Nat) : (s.taken m a).groups = s.groups := rfl
@[simp] theorem State.taken_pipes (m : Master) (a : Nat) : (s.taken m a).pipes = s.pipes := rfl
@[simp] theorem State.taken_nextChain (m : Master) (a : Nat) : (s.taken m a).nextChain = s.nextChain := rfl
@[simp] theorem State.taken_curtain (m : Master) (a : Nat) : (s.taken m a).curtain = s.curtain := rfl
@[simp] theorem State.taken_store (m : Master) (a : Nat) : (s.taken m a).store = s.store := rfl
@[simp] theorem State.taken_posted (m : Master) (a : Nat) : (s.taken m a).posted = s.posted := rfl
@[simp] theorem State.taken_logQ (m : Master) (a : Nat) : (s.taken m a).logQ = s.logQ := rfl
@[simp] theorem State.taken_relNext (m : Master) (a : Nat) : (s.taken m a).relNext = s.relNext := rfl
@[simp] theorem State.taken_slots (m : Master) (a : Nat) : (s.taken m a).slots = s.slots := rfl
@[simp] theorem State.taken_engines (m : Master) (a : Nat) : (s.taken m a).engines = s.engines := rfl
@[simp] theorem State.taken_shared (m : Master) (a : Nat) : (s.taken m a).shared = s.shared := rfl
@[simp] theorem State.taken_walks (m : Master) (a : Nat) : (s.taken m a).walks = s.walks := rfl
@[simp] theorem State.taken_cstore (m : Master) (a : Nat) : (s.taken m a).cstore = s.cstore := rfl
@[simp] theorem State.taken_dispatch (m : Master) (a : Nat) : (s.taken m a).dispatch = s.dispatch := rfl
@[simp] theorem State.taken_sstore (m : Master) (a : Nat) : (s.taken m a).sstore = s.sstore := rfl
@[simp] theorem State.taken_csErr (m : Master) (a : Nat) : (s.taken m a).csErr = s.csErr := rfl
@[simp] theorem State.taken_ssErr (m : Master) (a : Nat) : (s.taken m a).ssErr = s.ssErr := rfl
@[simp] theorem State.taken_dispErr (m : Master) (a : Nat) : (s.taken m a).dispErr = s.dispErr := rfl
@[simp] theorem State.taken_ssWait (m : Master) (a : Nat) : (s.taken m a).ssWait = s.ssWait := rfl
@[simp] theorem State.taken_mem (m : Master) (a : Nat) : (s.taken m a).mem = s.mem := rfl
@[simp] theorem State.taken_memErr (m : Master) (a : Nat) : (s.taken m a).memErr = s.memErr := rfl
@[simp] theorem State.taken_retained (m : Master) (a : Nat) : (s.taken m a).retained = s.retained := rfl
@[simp] theorem State.taken_entering (m : Master) (a : Nat) : (s.taken m a).entering = s.entering := rfl
@[simp] theorem State.taken_waking (m : Master) (a : Nat) : (s.taken m a).waking = s.waking := rfl
@[simp] theorem State.taken_wakeFor (m : Master) (a : Nat) : (s.taken m a).wakeFor = s.wakeFor := rfl
@[simp] theorem State.taken_scrubs (m : Master) (a : Nat) : (s.taken m a).scrubs = s.scrubs := rfl
@[simp] theorem State.taken_bists (m : Master) (a : Nat) : (s.taken m a).bists = s.bists := rfl
@[simp] theorem State.taken_bulk (m : Master) (a : Nat) : (s.taken m a).bulk = s.bulk := rfl
@[simp] theorem State.taken_wiping (m : Master) (a : Nat) : (s.taken m a).wiping = s.wiping := rfl
@[simp] theorem State.taken_bursts (m : Master) (a : Nat) : (s.taken m a).bursts = s.bursts := rfl
@[simp] theorem State.taken_clash (m : Master) (a : Nat) : (s.taken m a).clash = s.clash := rfl
@[simp] theorem State.taken_hostReqs (m : Master) (a : Nat) : (s.taken m a).hostReqs = s.hostReqs := rfl
@[simp] theorem State.taken_inbound (m : Master) (a : Nat) : (s.taken m a).inbound = s.inbound := rfl
@[simp] theorem State.taken_hfiRst (m : Master) (a : Nat) : (s.taken m a).hfiRst = s.hfiRst := rfl
@[simp] theorem State.taken_hfiAck (m : Master) (a : Nat) : (s.taken m a).hfiAck = s.hfiAck := rfl
@[simp] theorem State.taken_frz1 (m : Master) (a : Nat) : (s.taken m a).frz1 = s.frz1 := rfl
@[simp] theorem State.taken_frzClk (m : Master) (a : Nat) : (s.taken m a).frzClk = s.frzClk := rfl
@[simp] theorem State.taken_timers (m : Master) (a : Nat) : (s.taken m a).timers = s.timers := rfl
@[simp] theorem State.taken_gsWait (m : Master) (a : Nat) : (s.taken m a).gsWait = s.gsWait := rfl
@[simp] theorem State.taken_capRise (m : Master) (a : Nat) : (s.taken m a).capRise = s.capRise := rfl
@[simp] theorem State.taken_pins (m : Master) (a : Nat) : (s.taken m a).pins = s.pins := rfl
@[simp] theorem State.taken_align (m : Master) (a : Nat) : (s.taken m a).align = s.align := rfl
@[simp] theorem State.taken_alignGood (m : Master) (a : Nat) : (s.taken m a).alignGood = s.alignGood := rfl
@[simp] theorem State.taken_alignDue (m : Master) (a : Nat) : (s.taken m a).alignDue = s.alignDue := rfl
@[simp] theorem State.taken_probe (m : Master) (a : Nat) : (s.taken m a).probe = s.probe := rfl
@[simp] theorem State.taken_phyReq (m : Master) (a : Nat) : (s.taken m a).phyReq = s.phyReq := rfl
@[simp] theorem State.taken_phyAck (m : Master) (a : Nat) : (s.taken m a).phyAck = s.phyAck := rfl
@[simp] theorem State.taken_retReq (m : Master) (a : Nat) : (s.taken m a).retReq = s.retReq := rfl
@[simp] theorem State.taken_retAck (m : Master) (a : Nat) : (s.taken m a).retAck = s.retAck := rfl
@[simp] theorem State.taken_trust (m : Master) (a : Nat) : (s.taken m a).trust = s.trust := rfl
@[simp] theorem State.taken_dbg (m : Master) (a : Nat) : (s.taken m a).dbg = s.dbg := rfl
@[simp] theorem State.taken_freeIndex (m : Master) (a : Nat) : (s.taken m a).freeIndex = s.freeIndex := rfl

/-! ### It is answered -/

@[simp] theorem State.answer_pending (x : State) (m : Master) (r : Rsp) : (s.answer (x.originOf m) r).pending = s.pending := by
  cases m <;> rfl
@[simp] theorem State.answer_porLow (x : State) (m : Master) (r : Rsp) : (s.answer (x.originOf m) r).porLow = s.porLow := by
  cases m <;> rfl
@[simp] theorem State.answer_rstLow (x : State) (m : Master) (r : Rsp) : (s.answer (x.originOf m) r).rstLow = s.rstLow := by
  cases m <;> rfl
@[simp] theorem State.answer_firstEdge (x : State) (m : Master) (r : Rsp) : (s.answer (x.originOf m) r).firstEdge = s.firstEdge := by
  cases m <;> rfl
@[simp] theorem State.answer_clkOk (x : State) (m : Master) (r : Rsp) : (s.answer (x.originOf m) r).clkOk = s.clkOk := by
  cases m <;> rfl
@[simp] theorem State.answer_beatno (x : State) (m : Master) (r : Rsp) : (s.answer (x.originOf m) r).beatno = s.beatno := by
  cases m <;> rfl
@[simp] theorem State.answer_fofs (x : State) (m : Master) (r : Rsp) : (s.answer (x.originOf m) r).fofs = s.fofs := by
  cases m <;> rfl
@[simp] theorem State.answer_regs (x : State) (m : Master) (r : Rsp) : (s.answer (x.originOf m) r).regs = s.regs := by
  cases m <;> rfl
@[simp] theorem State.answer_hrpSeq (x : State) (m : Master) (r : Rsp) : (s.answer (x.originOf m) r).hrpSeq = s.hrpSeq := by
  cases m <;> rfl
@[simp] theorem State.answer_islandQ (x : State) (m : Master) (r : Rsp) : (s.answer (x.originOf m) r).islandQ = s.islandQ := by
  cases m <;> rfl
@[simp] theorem State.answer_clkLost (x : State) (m : Master) (r : Rsp) : (s.answer (x.originOf m) r).clkLost = s.clkLost := by
  cases m <;> rfl
@[simp] theorem State.answer_pinLost (x : State) (m : Master) (r : Rsp) : (s.answer (x.originOf m) r).pinLost = s.pinLost := by
  cases m <;> rfl
@[simp] theorem State.answer_callboard (x : State) (m : Master) (r : Rsp) : (s.answer (x.originOf m) r).callboard = s.callboard := by
  cases m <;> rfl
@[simp] theorem State.answer_permit (x : State) (m : Master) (r : Rsp) : (s.answer (x.originOf m) r).permit = s.permit := by
  cases m <;> rfl
@[simp] theorem State.answer_ringAhead (x : State) (m : Master) (r : Rsp) : (s.answer (x.originOf m) r).ringAhead = s.ringAhead := by
  cases m <;> rfl
@[simp] theorem State.answer_ringRel (x : State) (m : Master) (r : Rsp) : (s.answer (x.originOf m) r).ringRel = s.ringRel := by
  cases m <;> rfl
@[simp] theorem State.answer_ports (x : State) (m : Master) (r : Rsp) : (s.answer (x.originOf m) r).ports = s.ports := by
  cases m <;> rfl
@[simp] theorem State.answer_frames (x : State) (m : Master) (r : Rsp) : (s.answer (x.originOf m) r).frames = s.frames := by
  cases m <;> rfl
@[simp] theorem State.answer_fwdQ (x : State) (m : Master) (r : Rsp) : (s.answer (x.originOf m) r).fwdQ = s.fwdQ := by
  cases m <;> rfl
@[simp] theorem State.answer_groups (x : State) (m : Master) (r : Rsp) : (s.answer (x.originOf m) r).groups = s.groups := by
  cases m <;> rfl
@[simp] theorem State.answer_pipes (x : State) (m : Master) (r : Rsp) : (s.answer (x.originOf m) r).pipes = s.pipes := by
  cases m <;> rfl
@[simp] theorem State.answer_nextChain (x : State) (m : Master) (r : Rsp) : (s.answer (x.originOf m) r).nextChain = s.nextChain := by
  cases m <;> rfl
@[simp] theorem State.answer_curtain (x : State) (m : Master) (r : Rsp) : (s.answer (x.originOf m) r).curtain = s.curtain := by
  cases m <;> rfl
@[simp] theorem State.answer_store (x : State) (m : Master) (r : Rsp) : (s.answer (x.originOf m) r).store = s.store := by
  cases m <;> rfl
@[simp] theorem State.answer_posted (x : State) (m : Master) (r : Rsp) : (s.answer (x.originOf m) r).posted = s.posted := by
  cases m <;> rfl
@[simp] theorem State.answer_logQ (x : State) (m : Master) (r : Rsp) : (s.answer (x.originOf m) r).logQ = s.logQ := by
  cases m <;> rfl
@[simp] theorem State.answer_relNext (x : State) (m : Master) (r : Rsp) : (s.answer (x.originOf m) r).relNext = s.relNext := by
  cases m <;> rfl
@[simp] theorem State.answer_slots (x : State) (m : Master) (r : Rsp) : (s.answer (x.originOf m) r).slots = s.slots := by
  cases m <;> rfl
@[simp] theorem State.answer_engines (x : State) (m : Master) (r : Rsp) : (s.answer (x.originOf m) r).engines = s.engines := by
  cases m <;> rfl
@[simp] theorem State.answer_shared (x : State) (m : Master) (r : Rsp) : (s.answer (x.originOf m) r).shared = s.shared := by
  cases m <;> rfl
@[simp] theorem State.answer_walks (x : State) (m : Master) (r : Rsp) : (s.answer (x.originOf m) r).walks = s.walks := by
  cases m <;> rfl
@[simp] theorem State.answer_cstore (x : State) (m : Master) (r : Rsp) : (s.answer (x.originOf m) r).cstore = s.cstore := by
  cases m <;> rfl
@[simp] theorem State.answer_dispatch (x : State) (m : Master) (r : Rsp) : (s.answer (x.originOf m) r).dispatch = s.dispatch := by
  cases m <;> rfl
@[simp] theorem State.answer_sstore (x : State) (m : Master) (r : Rsp) : (s.answer (x.originOf m) r).sstore = s.sstore := by
  cases m <;> rfl
@[simp] theorem State.answer_csErr (x : State) (m : Master) (r : Rsp) : (s.answer (x.originOf m) r).csErr = s.csErr := by
  cases m <;> rfl
@[simp] theorem State.answer_ssErr (x : State) (m : Master) (r : Rsp) : (s.answer (x.originOf m) r).ssErr = s.ssErr := by
  cases m <;> rfl
@[simp] theorem State.answer_dispErr (x : State) (m : Master) (r : Rsp) : (s.answer (x.originOf m) r).dispErr = s.dispErr := by
  cases m <;> rfl
@[simp] theorem State.answer_ssWait (x : State) (m : Master) (r : Rsp) : (s.answer (x.originOf m) r).ssWait = s.ssWait := by
  cases m <;> rfl
@[simp] theorem State.answer_mem (x : State) (m : Master) (r : Rsp) : (s.answer (x.originOf m) r).mem = s.mem := by
  cases m <;> rfl
@[simp] theorem State.answer_memErr (x : State) (m : Master) (r : Rsp) : (s.answer (x.originOf m) r).memErr = s.memErr := by
  cases m <;> rfl
@[simp] theorem State.answer_retained (x : State) (m : Master) (r : Rsp) : (s.answer (x.originOf m) r).retained = s.retained := by
  cases m <;> rfl
@[simp] theorem State.answer_entering (x : State) (m : Master) (r : Rsp) : (s.answer (x.originOf m) r).entering = s.entering := by
  cases m <;> rfl
@[simp] theorem State.answer_waking (x : State) (m : Master) (r : Rsp) : (s.answer (x.originOf m) r).waking = s.waking := by
  cases m <;> rfl
@[simp] theorem State.answer_wakeFor (x : State) (m : Master) (r : Rsp) : (s.answer (x.originOf m) r).wakeFor = s.wakeFor := by
  cases m <;> rfl
@[simp] theorem State.answer_scrubs (x : State) (m : Master) (r : Rsp) : (s.answer (x.originOf m) r).scrubs = s.scrubs := by
  cases m <;> rfl
@[simp] theorem State.answer_bists (x : State) (m : Master) (r : Rsp) : (s.answer (x.originOf m) r).bists = s.bists := by
  cases m <;> rfl
@[simp] theorem State.answer_bulk (x : State) (m : Master) (r : Rsp) : (s.answer (x.originOf m) r).bulk = s.bulk := by
  cases m <;> rfl
@[simp] theorem State.answer_wiping (x : State) (m : Master) (r : Rsp) : (s.answer (x.originOf m) r).wiping = s.wiping := by
  cases m <;> rfl
@[simp] theorem State.answer_bursts (x : State) (m : Master) (r : Rsp) : (s.answer (x.originOf m) r).bursts = s.bursts := by
  cases m <;> rfl
@[simp] theorem State.answer_lastGrant (x : State) (m : Master) (r : Rsp) : (s.answer (x.originOf m) r).lastGrant = s.lastGrant := by
  cases m <;> rfl
@[simp] theorem State.answer_singles (x : State) (m : Master) (r : Rsp) : (s.answer (x.originOf m) r).singles = s.singles := by
  cases m <;> rfl
@[simp] theorem State.answer_clash (x : State) (m : Master) (r : Rsp) : (s.answer (x.originOf m) r).clash = s.clash := by
  cases m <;> rfl
@[simp] theorem State.answer_hostReqs (x : State) (m : Master) (r : Rsp) : (s.answer (x.originOf m) r).hostReqs = s.hostReqs := by
  cases m <;> rfl
@[simp] theorem State.answer_inbound (x : State) (m : Master) (r : Rsp) : (s.answer (x.originOf m) r).inbound = s.inbound := by
  cases m <;> rfl
@[simp] theorem State.answer_hfiRst (x : State) (m : Master) (r : Rsp) : (s.answer (x.originOf m) r).hfiRst = s.hfiRst := by
  cases m <;> rfl
@[simp] theorem State.answer_hfiAck (x : State) (m : Master) (r : Rsp) : (s.answer (x.originOf m) r).hfiAck = s.hfiAck := by
  cases m <;> rfl
@[simp] theorem State.answer_frz1 (x : State) (m : Master) (r : Rsp) : (s.answer (x.originOf m) r).frz1 = s.frz1 := by
  cases m <;> rfl
@[simp] theorem State.answer_frzClk (x : State) (m : Master) (r : Rsp) : (s.answer (x.originOf m) r).frzClk = s.frzClk := by
  cases m <;> rfl
@[simp] theorem State.answer_timers (x : State) (m : Master) (r : Rsp) : (s.answer (x.originOf m) r).timers = s.timers := by
  cases m <;> rfl
@[simp] theorem State.answer_gsWait (x : State) (m : Master) (r : Rsp) : (s.answer (x.originOf m) r).gsWait = s.gsWait := by
  cases m <;> rfl
@[simp] theorem State.answer_capRise (x : State) (m : Master) (r : Rsp) : (s.answer (x.originOf m) r).capRise = s.capRise := by
  cases m <;> rfl
@[simp] theorem State.answer_pins (x : State) (m : Master) (r : Rsp) : (s.answer (x.originOf m) r).pins = s.pins := by
  cases m <;> rfl
@[simp] theorem State.answer_align (x : State) (m : Master) (r : Rsp) : (s.answer (x.originOf m) r).align = s.align := by
  cases m <;> rfl
@[simp] theorem State.answer_alignGood (x : State) (m : Master) (r : Rsp) : (s.answer (x.originOf m) r).alignGood = s.alignGood := by
  cases m <;> rfl
@[simp] theorem State.answer_alignDue (x : State) (m : Master) (r : Rsp) : (s.answer (x.originOf m) r).alignDue = s.alignDue := by
  cases m <;> rfl
@[simp] theorem State.answer_probe (x : State) (m : Master) (r : Rsp) : (s.answer (x.originOf m) r).probe = s.probe := by
  cases m <;> rfl
@[simp] theorem State.answer_phyReq (x : State) (m : Master) (r : Rsp) : (s.answer (x.originOf m) r).phyReq = s.phyReq := by
  cases m <;> rfl
@[simp] theorem State.answer_phyAck (x : State) (m : Master) (r : Rsp) : (s.answer (x.originOf m) r).phyAck = s.phyAck := by
  cases m <;> rfl
@[simp] theorem State.answer_retReq (x : State) (m : Master) (r : Rsp) : (s.answer (x.originOf m) r).retReq = s.retReq := by
  cases m <;> rfl
@[simp] theorem State.answer_retAck (x : State) (m : Master) (r : Rsp) : (s.answer (x.originOf m) r).retAck = s.retAck := by
  cases m <;> rfl
@[simp] theorem State.answer_trust (x : State) (m : Master) (r : Rsp) : (s.answer (x.originOf m) r).trust = s.trust := by
  cases m <;> rfl
@[simp] theorem State.answer_dbg (x : State) (m : Master) (r : Rsp) : (s.answer (x.originOf m) r).dbg = s.dbg := by
  cases m <;> rfl
@[simp] theorem State.answer_freeIndex (x : State) (m : Master) (r : Rsp) : (s.answer (x.originOf m) r).freeIndex = s.freeIndex := by
  cases m <;> rfl

end Sys2Proof.Machine
end

