-- ==== Sys2Proof/Laws/Sparse.lean ====
section
/-!
SUPPORT. The laws of sparse tables: a write is read back, other keys keep their values, every operation keeps the canonical form, and
canonical tables with equal contents are equal.
-/
namespace Sys2Proof.Machine

variable {α : Type} {d : Nat → α}

@[simp] theorem spGet_nil (d : Nat → α) (k : Nat) : spGet d [] k = d k := rfl

@[simp] theorem spGet_cons (d : Nat → α) (k' : Nat) (v : α) (m : List (Nat × α)) (k : Nat) :
    spGet d ((k', v) :: m) k = if k = k' then v else spGet d m k := rfl

variable [DecidableEq α]

@[simp] theorem spWf_nil (d : Nat → α) : spWf d [] = true := rfl

theorem spWfFrom_cons {lo k : Nat} {v : α} {m : List (Nat × α)} :
    spWfFrom d lo ((k, v) :: m) = true ↔ lo ≤ k ∧ v ≠ d k ∧ spWfFrom d (k + 1) m = true := by
  simp [spWfFrom, and_assoc]

theorem spWfFrom_mono {lo lo' : Nat} {m : List (Nat × α)} (h : lo' ≤ lo) (hm : spWfFrom d lo m = true) :
    spWfFrom d lo' m = true := by
  cases m with
  | nil => rfl
  | cons e m => rw [spWfFrom_cons] at hm ⊢; exact ⟨h.trans hm.1, hm.2⟩

/-- A key below every listed key is unlisted. -/
theorem spGet_below {m : List (Nat × α)} {lo k : Nat} (hm : spWfFrom d lo m = true) (hk : k < lo) : spGet d m k = d k := by
  induction m generalizing lo with
  | nil => rfl
  | cons e m ih =>
    obtain ⟨hlo, -, hm⟩ := spWfFrom_cons.mp hm
    rw [spGet_cons, if_neg (by omega), ih hm (by omega)]

theorem spSet_wfFrom {m : List (Nat × α)} {lo k : Nat} {v : α} (hm : spWfFrom d lo m = true) (hk : lo ≤ k) :
    spWfFrom d lo (spSet d m k v) = true := by
  induction m generalizing lo with
  | nil =>
    rw [spSet]; split
    · rfl
    · next h => exact spWfFrom_cons.mpr ⟨hk, h, rfl⟩
  | cons e m ih =>
    obtain ⟨k', v'⟩ := e
    obtain ⟨hlo, hv, hm'⟩ := spWfFrom_cons.mp hm
    rw [spSet]
    split
    · split
      · exact hm
      · next hlt h => exact spWfFrom_cons.mpr ⟨hk, h, spWfFrom_cons.mpr ⟨by omega, hv, hm'⟩⟩
    · split
      · next heq =>
        subst heq
        split
        · exact spWfFrom_mono (by omega) hm'
        · next h => exact spWfFrom_cons.mpr ⟨hlo, h, hm'⟩
      · exact spWfFrom_cons.mpr ⟨hlo, hv, ih hm' (by omega)⟩

/-- A write keeps the canonical form. -/
theorem spSet_wf {m : List (Nat × α)} (k : Nat) (v : α) (hm : spWf d m = true) : spWf d (spSet d m k v) = true :=
  spSet_wfFrom hm (Nat.zero_le k)

theorem spClear_wfFrom {p : Nat → Bool} {m : List (Nat × α)} {lo : Nat} (hm : spWfFrom d lo m = true) :
    spWfFrom d lo (spClear p m) = true := by
  induction m generalizing lo with
  | nil => rfl
  | cons e m ih =>
    obtain ⟨k', v'⟩ := e
    obtain ⟨hlo, hv, hm'⟩ := spWfFrom_cons.mp hm
    rw [spClear, List.filter_cons]
    split
    · exact spWfFrom_cons.mpr ⟨hlo, hv, ih hm'⟩
    · exact spWfFrom_mono (by omega) (ih hm')

/-- Dropping entries keeps the canonical form. -/
theorem spClear_wf (p : Nat → Bool) {m : List (Nat × α)} (hm : spWf d m = true) : spWf d (spClear p m) = true :=
  spClear_wfFrom hm

/-- A write leaves every other key alone. -/
theorem spGet_spSet_ne {m : List (Nat × α)} {k k' : Nat} (v : α) (h : k' ≠ k) : spGet d (spSet d m k v) k' = spGet d m k' := by
  induction m with
  | nil => rw [spSet]; split <;> simp [h]
  | cons e m ih =>
    obtain ⟨a, w⟩ := e
    rw [spSet]
    split
    · split <;> simp [h]
    · split
      · next heq => split <;> simp_all
      · simp [ih]

theorem spGet_spSet_self_from {m : List (Nat × α)} {lo k : Nat} (v : α) (hm : spWfFrom d lo m = true) :
    spGet d (spSet d m k v) k = v := by
  induction m generalizing lo with
  | nil => rw [spSet]; split <;> simp_all
  | cons e m ih =>
    obtain ⟨k', v'⟩ := e
    obtain ⟨hlo, hv, hm'⟩ := spWfFrom_cons.mp hm
    rw [spSet]
    split
    · next hlt =>
      split
      · next h => rw [spGet_cons, if_neg (by omega), spGet_below hm' (by omega), h]
      · simp
    · split
      · next heq =>
        split
        · next h => rw [heq] at h ⊢; rw [spGet_below hm' (by omega), h]
        · simp [heq]
      · next hne => rw [spGet_cons, if_neg hne, ih hm']

/-- What is written is read back from a canonical table. -/
theorem spGet_spSet_self {m : List (Nat × α)} (k : Nat) (v : α) (hm : spWf d m = true) : spGet d (spSet d m k v) k = v :=
  spGet_spSet_self_from v hm

omit [DecidableEq α] in
/-- A dropped key reads as unlisted, any other as before. -/
theorem spGet_spClear (p : Nat → Bool) (m : List (Nat × α)) (k : Nat) :
    spGet d (spClear p m) k = if p k then d k else spGet d m k := by
  induction m with
  | nil => simp [spClear]
  | cons e m ih =>
    obtain ⟨k', v'⟩ := e
    rw [spClear] at ih ⊢
    rw [List.filter_cons]
    by_cases hk : k = k'
    · subst hk; by_cases hp : p k <;> simp_all
    · by_cases hp : p k' <;> simp_all

/-- Canonical tables that read alike everywhere are equal lists. -/
theorem spWf_ext_from {m n : List (Nat × α)} {lo : Nat} (hm : spWfFrom d lo m = true) (hn : spWfFrom d lo n = true)
    (h : ∀ k, spGet d m k = spGet d n k) : m = n := by
  induction m generalizing n lo with
  | nil =>
    cases n with
    | nil => rfl
    | cons e n =>
      obtain ⟨k', v'⟩ := e
      obtain ⟨-, hv, -⟩ := spWfFrom_cons.mp hn
      exact absurd (by simpa using (h k').symm) hv
  | cons e m ih =>
    obtain ⟨a, v⟩ := e
    obtain ⟨hlo, hv, hm'⟩ := spWfFrom_cons.mp hm
    cases n with
    | nil => exact absurd (by simpa using h a) hv
    | cons f n =>
      obtain ⟨b, w⟩ := f
      obtain ⟨hlo', hv', hn'⟩ := spWfFrom_cons.mp hn
      have hk : a = b := by
        rcases Nat.lt_trichotomy a b with hlt | heq | hgt
        · have := h a
          rw [spGet_cons, if_pos rfl, spGet_cons, if_neg (by omega), spGet_below hn' (by omega)] at this
          exact absurd this hv
        · exact heq
        · have := h b
          rw [spGet_cons, if_neg (by omega), spGet_below hm' (by omega), spGet_cons, if_pos rfl] at this
          exact absurd this.symm hv'
      subst hk
      have hval : v = w := by simpa using h a
      have hrest : m = n := ih hm' hn' (fun k => by
        by_cases hke : k = a
        · subst hke; rw [spGet_below hm' (by omega), spGet_below hn' (by omega)]
        · simpa [hke] using h k)
      rw [hval, hrest]

/-- Canonical tables that read alike everywhere are equal lists. -/
theorem spWf_ext {m n : List (Nat × α)} (hm : spWf d m = true) (hn : spWf d n = true) (h : ∀ k, spGet d m k = spGet d n k) : m = n :=
  spWf_ext_from hm hn h

end Sys2Proof.Machine
end

