-- ==== Sys2Proof/Laws/Ops.lean ====
section
/-!
SUPPORT. What the named operations read after they write: registers, bytes, the units' records.
-/
namespace Sys2Proof.Machine

variable (s : State)

/-! ### Registers -/

@[simp] theorem State.getReg_mk_regs (a : Nat) : spGet regReset s.regs a = s.getReg a := rfl

theorem State.getReg_setReg_self (a : Nat) (v : Word) (h : spWf regReset s.regs = true) : (s.setReg a v).getReg a = v :=
  spGet_spSet_self a v h

theorem State.getReg_setReg_ne {a b : Nat} (v : Word) (h : b ≠ a) : (s.setReg a v).getReg b = s.getReg b :=
  spGet_spSet_ne v h

theorem State.setReg_wf (a : Nat) (v : Word) (h : spWf regReset s.regs = true) : spWf regReset (s.setReg a v).regs = true :=
  spSet_wf a v h

theorem State.getReg_modReg_self (a : Nat) (f : Word → Word) (h : spWf regReset s.regs = true) :
    (s.modReg a f).getReg a = f (s.getReg a) := s.getReg_setReg_self a _ h

theorem State.getReg_modReg_ne {a b : Nat} (f : Word → Word) (h : b ≠ a) : (s.modReg a f).getReg b = s.getReg b :=
  s.getReg_setReg_ne _ h

theorem State.modReg_wf (a : Nat) (f : Word → Word) (h : spWf regReset s.regs = true) : spWf regReset (s.modReg a f).regs = true :=
  s.setReg_wf a _ h

theorem State.getReg_orReg_self (a : Nat) (m : Word) (h : spWf regReset s.regs = true) :
    (s.orReg a m).getReg a = s.getReg a ||| m := s.getReg_modReg_self a _ h

theorem State.getReg_orReg_ne {a b : Nat} (m : Word) (h : b ≠ a) : (s.orReg a m).getReg b = s.getReg b :=
  s.getReg_modReg_ne _ h

theorem State.getReg_incReg_self (a : Nat) (h : spWf regReset s.regs = true) : (s.incReg a).getReg a = s.getReg a + 1 :=
  s.getReg_modReg_self a _ h

theorem State.getReg_incReg_ne {a b : Nat} (h : b ≠ a) : (s.incReg a).getReg b = s.getReg b := s.getReg_modReg_ne _ h

theorem State.getReg_irq_ne {b : Nat} (p : Page) (i : Nat) (h : b ≠ pageBase p + 0x18) : (s.irq p i).getReg b = s.getReg b :=
  s.getReg_orReg_ne _ h

/-! ### Bytes -/

theorem State.byteAt_setByte_self (a : Nat) (b : Byte) (h : Memory.wf s.mem = true) : (s.setByte a b).byteAt a = b :=
  spGet_spSet_self a b h

theorem State.byteAt_setByte_ne {a c : Nat} (b : Byte) (h : c ≠ a) : (s.setByte a b).byteAt c = s.byteAt c :=
  spGet_spSet_ne b h

theorem State.setByte_wf (a : Nat) (b : Byte) (h : Memory.wf s.mem = true) : Memory.wf (s.setByte a b).mem = true :=
  spSet_wf a b h

/-- Storing bytes keeps memory's form. -/
theorem State.setBytes_wf (a : Nat) (l : List (Option Byte)) (h : Memory.wf s.mem = true) : Memory.wf (s.setBytes a l).mem = true := by
  induction l generalizing s a with
  | nil => exact h
  | cons x l ih =>
    cases x with
    | none => exact ih s (a + 1) h
    | some b => exact ih _ (a + 1) (s.setByte_wf a b h)

/-- Storing bytes leaves every byte outside them alone. -/
theorem State.byteAt_setBytes_outside (a : Nat) (l : List (Option Byte)) (c : Nat) (h : c < a ∨ a + l.length ≤ c) :
    (s.setBytes a l).byteAt c = s.byteAt c := by
  induction l generalizing s a with
  | nil => rfl
  | cons x l ih =>
    simp only [List.length_cons] at h
    have h' : c < a + 1 ∨ a + 1 + l.length ≤ c := by omega
    cases x with
    | none => exact ih s (a + 1) h'
    | some b => exact (ih _ (a + 1) h').trans (s.byteAt_setByte_ne b (by omega))

/-- A stored byte reads back. -/
theorem State.byteAt_setBytes (a : Nat) (l : List (Option Byte)) (i : Nat) (b : Byte) (hl : l[i]? = some (some b))
    (h : Memory.wf s.mem = true) : (s.setBytes a l).byteAt (a + i) = b := by
  induction l generalizing s a i with
  | nil => simp at hl
  | cons x l ih =>
    cases i with
    | zero =>
      obtain rfl : x = some b := by simpa using hl
      rw [State.setBytes, State.byteAt_setBytes_outside _ _ _ _ (by omega)]
      exact s.byteAt_setByte_self a b h
    | succ i =>
      have hl' : l[i]? = some (some b) := by simpa using hl
      cases x with
      | none => rw [State.setBytes, show a + (i + 1) = a + 1 + i by omega]; exact ih s (a + 1) i hl' h
      | some c =>
        rw [State.setBytes, show a + (i + 1) = a + 1 + i by omega]
        exact ih _ (a + 1) i hl' (s.setByte_wf a c h)

/-! ### The units' records -/

@[simp] theorem State.modEng_self (e : Fin 257) (f : Engine → Engine) : (s.modEng e f).engines[e] = f s.engines[e] := by
  simp [State.modEng]

theorem State.modEng_ne {e e' : Fin 257} (f : Engine → Engine) (h : e' ≠ e) : (s.modEng e f).engines[e'] = s.engines[e'] := by
  have h' : e.val ≠ e'.val := fun x => h (Fin.ext x.symm)
  simp [State.modEng, Vector.getElem_set_ne, h']

@[simp] theorem State.modPort_self (n : Fin 128) (f : Port → Port) : (s.modPort n f).ports[n] = f s.ports[n] := by
  simp [State.modPort]

theorem State.modPort_ne {n n' : Fin 128} (f : Port → Port) (h : n' ≠ n) : (s.modPort n f).ports[n'] = s.ports[n'] := by
  have h' : n.val ≠ n'.val := fun x => h (Fin.ext x.symm)
  simp [State.modPort, Vector.getElem_set_ne, h']

@[simp] theorem State.modGroup_self (g : Fin 8) (f : Group → Group) : (s.modGroup g f).groups[g] = f s.groups[g] := by
  simp [State.modGroup]

theorem State.modGroup_ne {g g' : Fin 8} (f : Group → Group) (h : g' ≠ g) : (s.modGroup g f).groups[g'] = s.groups[g'] := by
  have h' : g.val ≠ g'.val := fun x => h (Fin.ext x.symm)
  simp [State.modGroup, Vector.getElem_set_ne, h']

@[simp] theorem State.modStream_self (d : Fin 64) (f : CurStream → CurStream) : (s.modStream d f).curtain[d] = f s.curtain[d] := by
  simp [State.modStream]

theorem State.modStream_ne {d d' : Fin 64} (f : CurStream → CurStream) (h : d' ≠ d) : (s.modStream d f).curtain[d'] = s.curtain[d'] := by
  have h' : d.val ≠ d'.val := fun x => h (Fin.ext x.symm)
  simp [State.modStream, Vector.getElem_set_ne, h']

@[simp] theorem State.modSlot_self (t : Fin 8) (f : WSlot → WSlot) : (s.modSlot t f).slots[t] = f s.slots[t] := by
  simp [State.modSlot]

theorem State.modSlot_ne {t t' : Fin 8} (f : WSlot → WSlot) (h : t' ≠ t) : (s.modSlot t f).slots[t'] = s.slots[t'] := by
  have h' : t.val ≠ t'.val := fun x => h (Fin.ext x.symm)
  simp [State.modSlot, Vector.getElem_set_ne, h']

@[simp] theorem State.modTimer_self (n : Fin 64) (f : Timer → Timer) : (s.modTimer n f).timers[n] = f s.timers[n] := by
  simp [State.modTimer]

theorem State.modTimer_ne {n n' : Fin 64} (f : Timer → Timer) (h : n' ≠ n) : (s.modTimer n f).timers[n'] = s.timers[n'] := by
  have h' : n.val ≠ n'.val := fun x => h (Fin.ext x.symm)
  simp [State.modTimer, Vector.getElem_set_ne, h']

@[simp] theorem State.modPin_self (k : Fin 32) (f : PinEng → PinEng) : (s.modPin k f).pins[k] = f s.pins[k] := by
  simp [State.modPin]

theorem State.modPin_ne {k k' : Fin 32} (f : PinEng → PinEng) (h : k' ≠ k) : (s.modPin k f).pins[k'] = s.pins[k'] := by
  have h' : k.val ≠ k'.val := fun x => h (Fin.ext x.symm)
  simp [State.modPin, Vector.getElem_set_ne, h']

@[simp] theorem State.modCb_self (r : Fin 64) (f : CbRec → CbRec) : (s.modCb r f).callboard[r] = f s.callboard[r] := by
  simp [State.modCb]

theorem State.modCb_ne {r r' : Fin 64} (f : CbRec → CbRec) (h : r' ≠ r) : (s.modCb r f).callboard[r'] = s.callboard[r'] := by
  have h' : r.val ≠ r'.val := fun x => h (Fin.ext x.symm)
  simp [State.modCb, Vector.getElem_set_ne, h']

@[simp] theorem State.modShared_self (c : Fin 17) (f : Shared → Shared) : (s.modShared c f).shared[c] = f s.shared[c] := by
  simp [State.modShared]

theorem State.modShared_ne {c c' : Fin 17} (f : Shared → Shared) (h : c' ≠ c) : (s.modShared c f).shared[c'] = s.shared[c'] := by
  have h' : c.val ≠ c'.val := fun x => h (Fin.ext x.symm)
  simp [State.modShared, Vector.getElem_set_ne, h']

end Sys2Proof.Machine
end

