-- ==== Sys2Proof/Laws/Bus.lean ====
section
/-!
SUPPORT. Where a register lies, and what an accepted and a refused write do: the lemmas that every row which names a register write
cites.
-/
namespace Sys2Proof.Machine

/-! ### Addresses (R20, R21) -/

theorem pageBase_mod (p : Page) : pageBase p % 0x1000 = 0 := by
  cases p <;> simp only [pageBase] <;> omega

theorem pageBase_lt (p : Page) : pageBase p < 0x400000 := by
  cases p <;> simp only [pageBase] <;> omega

/-- A register of a page lies in that page. -/
theorem pageAt_pageBase (p : Page) {off : Nat} (h : off < 0x1000) : pageAt (pageBase p + off) = some p := by
  have hq : (pageBase p + off) / 0x1000 = pageBase p / 0x1000 := by have := pageBase_mod p; omega
  unfold pageAt
  dsimp only
  cases p with
  | link n =>
    have := n.isLt
    replace hq : (pageBase (.link n) + off) / 0x1000 = 256 + n.val := by rw [hq]; simp only [pageBase]; omega
    rw [if_neg (by omega), dif_pos (by omega)]
    exact congrArg some (congrArg Page.link (Fin.ext (by simp only [hq]; omega)))
  | cue n =>
    have := n.isLt
    replace hq : (pageBase (.cue n) + off) / 0x1000 = 512 + n.val := by rw [hq]; simp only [pageBase]; omega
    rw [if_neg (by omega), dif_neg (by omega), dif_pos (by omega)]
    exact congrArg some (congrArg Page.cue (Fin.ext (by simp only [hq]; omega)))
  | cluster n =>
    have := n.isLt
    replace hq : (pageBase (.cluster n) + off) / 0x1000 = 784 + n.val := by rw [hq]; simp only [pageBase]; omega
    rw [if_neg (by omega), dif_neg (by omega), dif_neg (by omega), if_neg (by omega), dif_pos (by omega)]
    exact congrArg some (congrArg Page.cluster (Fin.ext (by simp only [hq]; omega)))
  | pipe n =>
    have := n.isLt
    replace hq : (pageBase (.pipe n) + off) / 0x1000 = 832 + n.val := by rw [hq]; simp only [pageBase]; omega
    rw [if_neg (by omega), dif_neg (by omega), dif_neg (by omega), if_neg (by omega), dif_neg (by omega),
      dif_pos (by omega)]
    exact congrArg some (congrArg Page.pipe (Fin.ext (by simp only [hq]; omega)))
  | timer n =>
    have := n.isLt
    replace hq : (pageBase (.timer n) + off) / 0x1000 = 896 + n.val := by rw [hq]; simp only [pageBase]; omega
    rw [if_neg (by omega), dif_neg (by omega), dif_neg (by omega), if_neg (by omega), dif_neg (by omega),
      dif_neg (by omega), dif_pos (by omega)]
    exact congrArg some (congrArg Page.timer (Fin.ext (by simp only [hq]; omega)))
  | capture n =>
    have := n.isLt
    replace hq : (pageBase (.capture n) + off) / 0x1000 = 912 + n.val := by rw [hq]; simp only [pageBase]; omega
    rw [if_neg (by omega), dif_neg (by omega), dif_neg (by omega), if_neg (by omega), dif_neg (by omega),
      dif_neg (by omega), dif_neg (by omega), dif_pos (by omega)]
    exact congrArg some (congrArg Page.capture (Fin.ext (by simp only [hq]; omega)))
  | pin n =>
    have := n.isLt
    replace hq : (pageBase (.pin n) + off) / 0x1000 = 928 + n.val := by rw [hq]; simp only [pageBase]; omega
    rw [if_neg (by omega), dif_neg (by omega), dif_neg (by omega), if_neg (by omega), dif_neg (by omega),
      dif_neg (by omega), dif_neg (by omega), dif_neg (by omega), dif_pos (by omega)]
    exact congrArg some (congrArg Page.pin (Fin.ext (by simp only [hq]; omega)))
  | memctl n =>
    have := n.isLt
    replace hq : (pageBase (.memctl n) + off) / 0x1000 = 960 + n.val := by rw [hq]; simp only [pageBase]; omega
    rw [if_neg (by omega), dif_neg (by omega), dif_neg (by omega), if_neg (by omega), dif_neg (by omega),
      dif_neg (by omega), dif_neg (by omega), dif_neg (by omega), dif_neg (by omega), dif_pos (by omega)]
    exact congrArg some (congrArg Page.memctl (Fin.ext (by simp only [hq]; omega)))
  | house =>
    replace hq : (pageBase (.house) + off) / 0x1000 = 768 := by rw [hq]; rfl
    rw [if_neg (by omega), dif_neg (by omega), dif_neg (by omega), if_pos (by omega)]
  | _ =>
    rw [if_pos (by rw [hq]; decide), hq]
    rfl

theorem regAlign_pageBase (p : Page) {off : Nat} (h : off < 0x1000) (h4 : off % 4 = 0) : regAlign (pageBase p + off) = pageBase p + off := by
  have := pageBase_lt p
  have := pageBase_mod p
  unfold regAlign
  omega

theorem inRings_pageBase (p : Page) {off : Nat} (h : off < 0x1000) : inRings (pageBase p + off) = false := by
  have := pageBase_lt p
  have := pageBase_mod p
  simp only [inRings, decide_eq_false_iff_not]
  omega

theorem regOff_pageBase {p : Page} (hp : p ≠ .debug) {off : Nat} (h : off < 0x1000) : regOff p (pageBase p + off) = off := by
  have := pageBase_mod p
  unfold regOff
  rw [if_neg hp]
  omega

/-! ### Writes -/

/-- Whether a write is refused does not depend on the arbiters and the port's responses. -/
theorem State.refuseCause_taken (s : State) (m' m : Master) (a addr : Nat) (strb : BitVec 4) :
    (s.taken m' a).refuseCause m addr strb = s.refuseCause m addr strb := by
  simp only [State.refuseCause, State.nonOwner, State.pageLocked, State.slotForeign, State.pageStaged, State.regHeld, State.unitHeld,
    State.getReg, State.taken_regs, State.taken_slots, State.taken_ssWait]
  rfl

/-- An accepted write to a register of a page that is taken, at its acceptance edge, has the page's effect and a normal response. -/
theorem State.busWrite_accepted {s : State} {m : Master} {p : Page} {off : Nat} {d : RegDesc} (data : Word)
    (hp : p ≠ .debug) (h : off < 0x1000) (h4 : off % 4 = 0) (hd : regDesc p off = some d)
    (ht : s.takes m (pageBase p + off) = true) (ha : s.refuseCause m (pageBase p + off) 0xF = none) :
    s.busWrite m (pageBase p + off) data 0xF true =
      ((s.taken m (pageBase p + off)).pageWrite m (masterNo m) p off data s.beatno).answer (s.originOf m) {} := by
  simp only [State.busWrite, State.wrSpace, regAlign_pageBase p h h4, State.refuseCause_taken, ha, inRings_pageBase p h, pageAt_pageBase p h,
    regOff_pageBase hp h, hd, ht]
  simp

theorem State.record_islandQ (s : State) (addr cause : Nat) (m : Master) : (s.record addr cause m).islandQ = s.islandQ := by
  unfold State.record
  split <;> rfl

/-- A refused write that is taken changes nothing but the record of it, and gets an error response (R30). -/
theorem State.busWrite_refused {s : State} {m : Master} {addr : Nat} {c : Nat} (data : Word) (strb : BitVec 4) (now : Bool)
    (ht : s.takes m addr = true) (ha : s.refuseCause m (regAlign addr) strb = some c) :
    s.busWrite m addr data strb now = ((s.taken m addr).record (regAlign addr) c m).answer (s.originOf m) { err := true } := by
  simp only [State.busWrite, State.wrSpace, State.refuseCause_taken, ha, ht, State.record_islandQ, State.taken_islandQ]
  simp

/-- An access that is not taken waits, at the arbiter at most. -/
theorem State.busWrite_barred {s : State} {m : Master} {addr : Nat} (data : Word) (strb : BitVec 4) (now : Bool)
    (ht : s.takes m addr = false) : s.busWrite m addr data strb now = s.barred m addr := by
  simp [State.busWrite, ht]

end Sys2Proof.Machine
end

