-- ==== Sys2Proof/Laws/Keep.lean ====
section
/-!
SUPPORT. What every command keeps: the queue of commands that wait, and the canonical form of memory and registers. `Keep s0 s` says it
of a state that a command has come to from `s0`; the closure lemmas here carry it through the ways states are made.
-/
namespace Sys2Proof.Machine

/-- From `s0` a command has come to `s` without touching the queue or spoiling the tables' form. -/
def Keep (s0 s : State) : Prop := s.pending = s0.pending ∧ (s0.Canonical → s.Canonical)

/-- `Keep` of a result, whatever it is. -/
def KeepR (s0 : State) {ε α : Type} : EStateM.Result ε State α → Prop
  | .ok _ t => Keep s0 t
  | .error _ t => Keep s0 t
/-- `Keep` of a computation. -/
def KeepM (s0 : State) {ε α : Type} (m : EStateM ε State α) : Prop := ∀ s, Keep s0 s → KeepR s0 (m s)
/-- `Keep` of a state that may be. -/
def KeepO (s0 : State) (o : Option State) : Prop := ∀ t, o = some t → Keep s0 t
/-- `Keep` of a pair that may be. -/
def KeepOP (s0 : State) {α : Type} (o : Option (α × State)) : Prop := ∀ k t, o = some (k, t) → Keep s0 t
/-- `Keep` of an outcome. -/
def KeepX (s0 : State) (o : Out) : Prop := IfGoes o (Keep s0)

variable {s0 s t : State} {α β ε : Type}

theorem Keep.rfl : Keep s s := ⟨Eq.refl _, id⟩

theorem Keep.upd {x1 x2 x3 x4 x5 x6 x8 x9 x10 x11 x12 x13 x14 x15 x16 x17 x18 x19 x20 x21 x22 x23 x24 x25 x26 x27 x28 x29 x30 x31 x32 x33 x34 x35 x36
    x37 x38 x39 x40 x42 x43 x44 x45 x46 x47 x48 x49 x50 x51 x52 x53 x54 x55 x56 x57 x58 x59 x60 x61 x62 x63 x64 x65 x66 x67 x68 x69 x70 x71 x72 x73
    x74 x75} (h : Keep s0 s) :
    Keep s0 (State.mk s.pending x1 x2 x3 x4 x5 x6 s.regs x8 x9 x10 x11 x12 x13 x14 x15 x16 x17 x18 x19 x20 x21 x22 x23 x24 x25 x26 x27 x28 x29 x30 x31 x32
    x33 x34 x35 x36 x37 x38 x39 x40 s.mem x42 x43 x44 x45 x46 x47 x48 x49 x50 x51 x52 x53 x54 x55 x56 x57 x58 x59 x60 x61 x62 x63 x64 x65 x66 x67 x68
    x69 x70 x71 x72 x73 x74 x75) := h

theorem Keep.setReg (a : Nat) (v : Word) (h : Keep s0 s) : Keep s0 (s.setReg a v) :=
  ⟨h.1, fun hc => ⟨(h.2 hc).1, s.setReg_wf a v (h.2 hc).2⟩⟩

theorem Keep.setByte (a : Nat) (b : Byte) (h : Keep s0 s) : Keep s0 (s.setByte a b) :=
  ⟨h.1, fun hc => ⟨s.setByte_wf a b (h.2 hc).1, (h.2 hc).2⟩⟩

theorem Keep.setBytes (a : Nat) (l : List (Option Byte)) (h : Keep s0 s) : Keep s0 (s.setBytes a l) := by
  induction l generalizing s a with
  | nil => exact h
  | cons x l ih => cases x with
    | none => exact ih _ h
    | some b => exact ih _ (h.setByte a b)

theorem Keep.pair {x : α × State} {k : α} (e : x = (k, t)) (h : Keep s0 x.2) : Keep s0 t := by rw [e] at h; exact h
theorem Keep.some {x : Option State} (e : x = Option.some t) (h : KeepO s0 x) : Keep s0 t := h t e
theorem Keep.somePair {x : Option (α × State)} {k : α} (e : x = Option.some (k, t)) (h : KeepOP s0 x) : Keep s0 t := h k t e
theorem Keep.ok {m : EStateM ε State α} {a : α} (e : m s = .ok a t) (hm : KeepM s0 m) (hs : Keep s0 s) : Keep s0 t := by
  have := hm s hs; rw [e] at this; exact this
theorem Keep.error {m : EStateM ε State α} {x : ε} (e : m s = .error x t) (hm : KeepM s0 m) (hs : Keep s0 s) : Keep s0 t := by
  have := hm s hs; rw [e] at this; exact this

theorem Keep.foldl {l : List α} {f : State → α → State} (hf : ∀ s x, Keep s0 s → Keep s0 (f s x)) (h : Keep s0 s) :
    Keep s0 (l.foldl f s) := by
  induction l generalizing s with
  | nil => exact h
  | cons a l ih => exact ih (hf s a h)

theorem KeepO.none : KeepO s0 Option.none := fun _ e => nomatch e
theorem KeepO.some (h : Keep s0 t) : KeepO s0 (Option.some t) := fun _ e => by cases e; exact h
theorem KeepOP.none : KeepOP (α := α) s0 Option.none := fun _ _ e => nomatch e
theorem KeepOP.some {k : α} (h : Keep s0 t) : KeepOP s0 (Option.some (k, t)) := fun _ _ e => by cases e; exact h

theorem KeepX.next (h : Keep s0 t) : KeepX s0 (.next t) := fun _ e => by cases e; exact h
theorem KeepX.refused (r : Refusal) : KeepX s0 (.refused r) := fun _ e => nomatch e
theorem KeepX.fault (r : Fault) : KeepX s0 (.fault r) := fun _ e => nomatch e

theorem KeepR.okI {a : α} (h : Keep s0 t) : KeepR s0 (.ok a t : EStateM.Result ε State α) := h
theorem KeepR.errorI {e : ε} (h : Keep s0 t) : KeepR s0 (.error e t : EStateM.Result ε State α) := h
theorem KeepM.app {m : EStateM ε State α} (hm : KeepM s0 m) (h : Keep s0 s) : KeepR s0 (m s) := hm s h
theorem KeepR.of_eq {r r' : EStateM.Result ε State α} (e : r = r') (h : KeepR s0 r) : KeepR s0 r' := e ▸ h

theorem KeepR.bind {m : EStateM ε State α} {f : α → EStateM ε State β} (hm : KeepR s0 (m s))
    (hf : ∀ a t, Keep s0 t → KeepR s0 (f a t)) : KeepR s0 ((m >>= f) s) := by
  show KeepR s0 (EStateM.bind m f s)
  unfold EStateM.bind
  split
  · next a t e => exact hf a t (by rw [e] at hm; exact hm)
  · next x t e => rw [e] at hm; exact hm

theorem KeepR.getBind {f : State → EStateM ε State β} (h : KeepR s0 (f s s)) : KeepR s0 ((get >>= f) s) := h
theorem KeepR.setBind {f : PUnit → EStateM ε State β} (h : KeepR s0 (f ⟨⟩ t)) : KeepR s0 ((set t >>= f) s) := h
theorem KeepR.pureBind {a : α} {f : α → EStateM ε State β} (h : KeepR s0 (f a s)) : KeepR s0 ((pure a >>= f) s) := h
theorem KeepR.get (h : Keep s0 s) : KeepR s0 ((get : EStateM ε State State) s) := h
theorem KeepR.pure {a : α} (h : Keep s0 s) : KeepR s0 ((pure a : EStateM ε State α) s) := h
theorem KeepR.throw {e : ε} (h : Keep s0 s) : KeepR s0 ((throw e : EStateM ε State α) s) := h
theorem KeepR.set (h : Keep s0 t) : KeepR s0 ((set t : EStateM ε State PUnit) s) := h
theorem KeepR.modify {f : State → State} (h : Keep s0 (f s)) : KeepR s0 ((modify f : EStateM ε State PUnit) s) := h
theorem KeepR.act {f : State → State} (h : Keep s0 (f s)) : KeepR s0 (act f s) := h
theorem KeepR.map {m : EStateM ε State α} {f : α → β} (h : KeepR s0 (m s)) : KeepR s0 ((f <$> m) s) := by
  show KeepR s0 (EStateM.map f m s)
  unfold EStateM.map
  split <;> next e => rw [e] at h; exact h

theorem KeepR.forM {l : List α} {f : α → EStateM ε State PUnit} (hf : ∀ a t, Keep s0 t → KeepR s0 (f a t)) (h : Keep s0 s) :
    KeepR s0 (l.forM f s) := by
  induction l generalizing s with
  | nil => exact h
  | cons a l ih => exact KeepR.bind (hf a s h) (fun _ t ht => ih ht)

theorem KeepR.seq {m : EStateM ε State α} {n : EStateM ε State β} (hm : KeepR s0 (m s)) (hn : ∀ t, Keep s0 t → KeepR s0 (n t)) :
    KeepR s0 ((m *> n) s) := by
  show KeepR s0 (EStateM.seqRight m (fun _ => n) s)
  unfold EStateM.seqRight
  split
  · next a t e => exact hn t (by rw [e] at hm; exact hm)
  · next x t e => rw [e] at hm; exact hm

theorem KeepM.intro {m : EStateM ε State α} (h : ∀ s, Keep s0 s → KeepR s0 (m s)) : KeepM s0 m := h

/-- A step of a proof: what has been kept so far. -/
theorem Keep.cut {P : Prop} (h : Keep s0 s) (k : Keep s0 s → P) : P := k h

end Sys2Proof.Machine
end

