-- ==== Sys2Proof/Laws/Opcodes.lean ====
section
/-!
SUPPORT. The opcode map of R233 in its two forms: the reserved values that a command may name, and the entries that the base image leaves
invalid.
-/
namespace Sys2Proof.Machine

/-- The reserved values of the map are the base opcodes whose entry has VALID = 0 (R233, R234). -/
theorem reservedOpcode_eq_baseReserved : ∀ x : Fin 256, reservedOpcode x.val = baseReserved x.val := by
  decide +kernel

end Sys2Proof.Machine
end

