-- ==== Sys2Proof/Tests/Samples.lean ====
section
/-!
SUPPORT. Helpers of the witnesses: what holds of a call's result, and small states.
-/
namespace Sys2Proof.Tests
open Sys2Proof Sys2Proof.Machine

/-- A list that is not empty meets `p`. -/
def consAnd {α : Type} (l : List α) (p : α → List α → Bool) : Bool := match l with | x :: r => p x r | [] => false
/-- A call that answers meets `p`. -/
def okAnd {ε σ α : Type} (r : EStateM.Result ε σ α) (p : α → σ → Bool) : Bool := match r with | .ok a s => p a s | _ => false
/-- A call that fails meets `p`. -/
def errAnd {ε σ α : Type} (r : EStateM.Result ε σ α) (p : ε → σ → Bool) : Bool := match r with | .error a s => p a s | _ => false
/-- A ring write that is done meets `p`. -/
def doneAnd (r : Put) (p : Word → Bool) : Bool := match r with | .done a => p a | _ => false
/-- A memory access that waits meets `p`. -/
def waitAnd (r : MErr) (p : Wait → Bool) : Bool := match r with | .wait a => p a | _ => false

/-- A running clock. -/
def b0 : State := { State.reset with clkOk := true, beatno := 0x1234567 }
/-- Page p enabled. -/
def en (p : Page) (s : State) : State := s.modReg (pageBase p + 8) (fun w => w ||| 1)
/-- Window i of engine e. -/
def win (e : Fin 257) (i : Nat) (va sz pa attr : Nat) (s : State) : State :=
  let a := pageBase (enginePage e) + 0x100 + 16*i
  (((s.setReg a (BitVec.ofNat 32 va)).setReg (a+4) (BitVec.ofNat 32 sz)).setReg (a+8) (BitVec.ofNat 32 pa)).setReg (a+12) (BitVec.ofNat 32 attr)
/-- A running engine with a stack. -/
def g0 : Engine := { run := .running, pc := 0x14000, cells := [10, 3, 0x80000000, 0xFFFFFFFF], dsp := 0x1EE0, dsl := 0xF0F, rsp := 0x3000, rsl := 0x2000, vbase := 0x8000, stat := 0x4000 }
/-- Engine e as given, with two windows, its page enabled and RUN set. -/
def engS (e : Fin 257) (g : Engine) (s : State := b0) : State :=
  (win e 1 0 0x100 0 0x80000103 (win e 0 1 1 1 0x80000005 ((en (enginePage e) s).setReg (engBase e + 0x40) 1))).modEng e (fun _ => g)
/-- The state a command goes on to. -/
def nx (o : Out) : State := match o with | .next t => t | _ => State.reset

/-- The prediction of a control-flow instruction answers, whatever the predictor says (a free value), and leaves the engines. -/
theorem predicted_ok (e : Fin 257) (s : State) : ∃ t, predicted e s = .ok () t ∧ t.engines = s.engines := by
  by_cases h : (Config.mispredict s.freeIndex && decide (e.val < 256)) = true
  · by_cases hc : (s.drew 1).engines[e].cached = true
    · exact ⟨(s.drew 1).incReg (engBase e + 0x074),
        by simp_all [predicted, act, modify, modifyGet, MonadStateOf.modifyGet, EStateM.modifyGet], rfl⟩
    · exact ⟨s.drew 1, by simp_all [predicted, act, modify, modifyGet, MonadStateOf.modifyGet, EStateM.modifyGet], rfl⟩
  · exact ⟨s.drew 1, by simp [predicted, act, h, modify, modifyGet, MonadStateOf.modifyGet, EStateM.modifyGet], rfl⟩

/-- A body that ends in a prediction is found when what comes before it answers and no delayed load is pending. -/
theorem found_predicted {α β : Type} {s : State} {e : Fin 257} {opc len : Nat} {imm : Word} {body : EngM β} (x : EngM α) (f : α → β)
    (h : (s.canRun e && !s.entryMoved e.val opc && okAnd ((dispatchBase e opc len imm >>= fun _ => x) s) (fun _ t => t.engines[e].load.isNone)) = true)
    (hb : body = x >>= fun a => predicted e >>= fun _ => pure (f a)) :
    Option.any (fun _ => true) (s.found e opc len imm body) = true := by
  subst hb
  simp only [Bool.and_eq_true] at h
  obtain ⟨⟨hc, hm⟩, h⟩ := h
  cases hd : dispatchBase e opc len imm s with
  | error err t => simp [okAnd, bind, EStateM.bind, hd] at h
  | ok u t =>
    cases hx : x t with
    | error err t2 => simp [okAnd, bind, EStateM.bind, hd, hx] at h
    | ok a t2 =>
      obtain ⟨t3, hp, he⟩ := predicted_ok e t2
      simp [okAnd, bind, EStateM.bind, hd, hx] at h
      rw [← he] at h
      have hl : completeLoad e t3 = .ok () t3 := by
        simp [completeLoad, bind, EStateM.bind, pure, EStateM.pure, get, getThe, MonadStateOf.get, EStateM.get, h]
      simp at hm
      simp [State.found, hc, hm, bind, EStateM.bind, hd, hx, hp, pure, EStateM.pure, get, getThe, MonadStateOf.get, EStateM.get, hl]


/-- The beat a posted record names. -/
def postBeat (p : Posted) : Word64 := p.words.getD 1 0 ++ p.words.getD 0 0
/-- The stream a posted record names. -/
def postStream (p : Posted) : Fin 64 := Fin.ofNat 64 (fld (p.words.getD 2 0) 24 6)

end Sys2Proof.Tests
end

