-- ==== Sys2Proof/Tests/Slice0.lean ====
section
/-!
SUPPORT. Tests: the smoke test of well-formedness, and worked examples of the spec. Expected values are the spec's own, named with each
test.
-/
namespace Sys2Proof.Tests
set_option Elab.async false
open Sys2Proof Sys2Proof.Machine

/-! ### WellFormed: an ill-formed command for each check, and a well-formed one beside it -/

theorem test_wf_frame : (Instr.lienoFrameReceive 0 0 [] .good).wf = false ∧ (Instr.lienoFrameReceive 0 0 [1] .good).wf = true := by decide
theorem test_wf_frame_long : (Instr.lienoFrameReceive 0 0 (List.replicate 4097 0) .good).wf = false := by decide +kernel
theorem test_wf_message : (Instr.routedMessage 0 10 []).wf = false ∧ (Instr.routedMessage 0 10 [1]).wf = true := by decide
theorem test_wf_message_class : (Instr.routedMessage 0 9 [1]).wf = false := by decide
theorem test_wf_codeword : (Instr.codewordDecode 0 [] 0).wf = false ∧ (Instr.codewordDecode 0 (List.replicate 22 0) 0).wf = true := by decide
theorem test_wf_entry : (Instr.exceptionEntry 3 (some 0x20)).wf = false ∧ (Instr.exceptionEntry 3 (some 0x14)).wf = true := by decide
theorem test_wf_rep : (Instr.rep 3 (.other 0x81) 0).wf = false ∧ (Instr.rep 3 (.other 0x20) 0).wf = true := by decide
theorem test_wf_qreq : (Instr.qreq 0 [1]).wf = false ∧ (Instr.qreq 0 [1, 2]).wf = true := by decide
theorem test_wf_qresp : (Instr.qresp false [1]).wf = false ∧ (Instr.qresp false (List.replicate 16 0)).wf = true := by decide
theorem test_wf_inbound : (Instr.hostFabricInbound { write := true, addr := 0, nm1 := 0, tag := 0, data := [] }).wf = false ∧
    (Instr.hostFabricInbound { write := false, addr := 0, nm1 := 0, tag := 0, data := [] }).wf = true := by decide
theorem test_wf_response : (Instr.hostFabricResponse 0 (List.replicate 2049 0) []).wf = false ∧
    (Instr.hostFabricResponse 0 [] (List.replicate 65 false)).wf = false ∧ (Instr.hostFabricResponse 0 [] [false]).wf = true := by
  decide +kernel
theorem test_wf_hello : (Instr.hello 0 0 6).wf = false ∧ (Instr.hello 0 0 5).wf = true := by decide

/-! ### The queue (the block takes the front command; no word spells one) -/

theorem test_step_front : (nx (step { b0 with pending := [.ownerClaim (.hrp 3), .nop 0] })).pending = [.nop 0] := by decide +kernel
theorem test_step_idle : step b0 = .next b0 := rfl
theorem test_no_word : decodeTableWord 32 0 = none := rfl

/-! ### Registers -/

/-- R3: BLOCK.IDENT at 0x40 reads 0x4739_0902. -/
theorem test_ident : (nx (exec (.registerWrite (.hrp 0) 0x40 5 0xF) b0)).getReg 0x40 = 0x47390902 := by decide +kernel
/-- R34: a claim through the port takes the folded identifier. -/
theorem test_owner_claim : (nx (exec (.ownerClaim (.hrp 3)) b0)).getReg 0x44 = 0x80000003 := by decide +kernel

/-! ### Cue Code: the table of edges of "Cue Code instruction reference" -/

theorem test_neg_edge : aluNeg 0x80000000 = { r := 0x80000000, v := some true } := by decide
theorem test_add_edge : aluAdd 0xFFFFFFFF 1 false = { r := 0, c := some true, v := some false } := by decide
theorem test_sub_edge : aluSub 0 1 false = { r := 0xFFFFFFFF, c := some false, v := some false } := by decide
theorem test_adds_edge : aluAdds 0x7FFFFFFF 1 = { r := 0x7FFFFFFF, v := some true } := by decide
theorem test_divs_edge : aluDivs 0x80000000 0xFFFFFFFF = { r := 0x80000000, v := some true } := by decide
theorem test_divs_toward_zero : (aluDivs 0xFFFFFFF9 2).r = 0xFFFFFFFD ∧ (aluRems 0xFFFFFFF9 2).r = 0xFFFFFFFF := by decide
theorem test_rems_edge : aluRems 0x80000000 0xFFFFFFFF = { r := 0, v := some true } := by decide
theorem test_divu_zero : aluDivu 7 0 = { r := 0xFFFFFFFF, v := some true, dz := true } := by decide
theorem test_rems_zero : aluRems 0xFFFFFFF9 0 = { r := 0xFFFFFFF9, v := some true, dz := true } := by decide
theorem test_shl_edge : aluShl 0x80000001 1 = { r := 2, c := some true } := by decide
theorem test_shr_32 : aluShr 0x80000001 32 = { r := 0, c := some true } := by decide
theorem test_shr_33 : aluShr 0x80000001 33 = { r := 0, c := some false } := by decide
theorem test_sar_edge : aluSar 0x80000000 0xFFFFFFFF = { r := 0xFFFFFFFF, c := some false } := by decide +kernel
theorem test_rol_edge : aluRol 0x80000001 0x21 = { r := 3, c := some true } := by decide
/-- ADD's row of the table, as the command: the result on the stack, N Z C V = 0 1 1 0. -/
theorem test_add_command :
    (nx (exec (.add 3) (engS 3 { g0 with cells := [1, 0xFFFFFFFF] }))).engines[(3 : Fin 257)].cells = [0] ∧
    fld (nx (exec (.add 3) (engS 3 { g0 with cells := [1, 0xFFFFFFFF] }))).engines[(3 : Fin 257)].stat 28 4 = 6 := by
  decide +kernel

/-! ### Microwords: the user instruction MAC of "The Cue microengine" -/

/-- Word 0x8400: MULL of TS1 and TS0 to TS0, POP, PX 2. -/
theorem test_mac_first : microOf 0x00000010100020000000000000000200#128 =
    { seq := 0, csel := 0, cpol := false, next := 0, alu := 0x10, asrc := 1, bsrc := 0, dst := 0, shf := 0, stk := 2, mem := 0, flg := 0, ksel := 0,
      imm := 0, xcmd := 0, sreg := 0, haltd := false, px := 2 } := by decide
/-- Word 0x8401: DISPATCH with ADD, POP, all flags, PX 2. -/
theorem test_mac_second : (microOf 0x50000002100020F00000000000000200#128).seq = 5 ∧ (microOf 0x50000002100020F00000000000000200#128).alu = 2 ∧
    (microOf 0x50000002100020F00000000000000200#128).stk = 2 ∧ (microOf 0x50000002100020F00000000000000200#128).flg = 15 := by decide

/-! ### Vector streams and operations -/

/-- R77's MODULO example: indices 3, 1, 4, 2, 0, 3. -/
theorem test_modulo_stream :
    ((List.range 6).map (Desc.addr { base := 0, etype := 0, mode := 2, fill := false, param := 5 + 3 * 2 ^ 20 + (2 ^ 20 - 2) * 2 ^ 40 })) =
      [3, 1, 4, 2, 0, 3] := by decide +kernel
/-- R77's BITREV example with NB = 3. -/
theorem test_bitrev_stream :
    ((List.range 16).map (Desc.addr { base := 0, etype := 0, mode := 3, fill := false, param := 3 })) =
      [0, 4, 2, 6, 1, 5, 3, 7, 8, 12, 10, 14, 9, 13, 11, 15] := by decide +kernel
/-- R99's example: 200 mW is class 3, 110 mW class 2, 70 mW class 1. -/
theorem test_cost_class : costClass 200 = 3 ∧ costClass 110 = 2 ∧ costClass 70 = 1 ∧ costClass 50 = 0 := by decide

/-! ### Timers and capture inputs -/

/-- R322's table of Free-run compares: count 1,000 against 1,000, 999, 1,001 and 0. -/
def compareAt (c : Word) : Bool :=
  ((en (.timer 0) b0).modTimer 0 (fun t => { t with st := .running, carmed := true, count := 1000, cmpact := c })).timerFires 0
theorem test_free_run_compare : compareAt 1000 = true ∧ compareAt 999 = true ∧ compareAt 1001 = false ∧ compareAt 0 = true := by decide +kernel

/-- R329's example: a pulse from beat 0x12_3456 fine 0x40 to beat 0x12_3458 fine 0x10 is 464 fine units wide. -/
def captured : State :=
  let s := ((en (.capture 0) { b0 with beatno := 0x123456 }).setReg (capAddr 0 0) 0xE0000000)
  { s.captureEdge 0 true 0x123456 0x40 with beatno := 0x123458 }.captureEdge 0 false 0x123458 0x10
theorem test_capture_stamps : captured.getReg (capAddr 0 0x08) = 0x12345640 ∧ captured.getReg (capAddr 0 0x10) = 0x12345810 := by decide +kernel

/-! ### Pin engines: the program of "Pin engines", a command on a named beat -/

theorem test_pin_decode : pinDecode 0x5000 = .take ∧ pinDecode 0x7C00 = .awaitBeat ∧ pinDecode 0x3067 = .sho ∧ pinDecode 0x1003 = .drive ∧
    pinDecode 0x8000 = .br := by decide
/-- Pin engine 5 with the word 0x5A in SR at SHO, PC 2: the first bit, 0, leaves on pin 3; seven are left. -/
def shifting : State :=
  ((en (.pin 5) b0).modPin 5 (fun p => { p with st := .running, pc := 2, sr := 0x5A000000, bc := 32, order := true })).setReg (pinBase 5 + 0x100 + 8) 0x3067
theorem test_sho_first : bitAt (nx (exec (.sho 5 0) shifting)).pins[(5 : Fin 32)].pout 3 = false ∧
    (nx (exec (.sho 5 0) shifting)).pins[(5 : Fin 32)].nrem = 7 ∧ (nx (exec (.sho 5 0) shifting)).pins[(5 : Fin 32)].sr = 0xB4000000 := by decide +kernel

/-! ### Systems of many devices: the torus of 8 x 8 x 2 -/

/-- Device 100 is (4, 4, 1); the route from device 0 starts in X. -/
def torus : State := (b0.setReg 0x84 0x30000177).setReg 0x80 0x80000000
theorem test_torus_shape : torus.coord 100 0 = 4 ∧ torus.coord 100 1 = 4 ∧ torus.coord 100 2 = 1 ∧ torus.maxHops = 9 := by decide +kernel

/-! ### Hashes: published vectors (FIPS 180-4's example "abc") -/

theorem test_sha384_abc : (sha384 (ascii "abc")).take 8 = [0xCB, 0x00, 0x75, 0x3F, 0x45, 0xA3, 0x5E, 0x8B] := by decide +kernel

end Sys2Proof.Tests
end

