-- ==== Sys2Proof/Tests/Witness01.lean ====
section
/-!
SUPPORT. Witnesses for the statements on steps, the register space, the Callboard and permits.
-/
namespace Sys2Proof.Tests.W01
set_option Elab.async false
open Sys2Proof Sys2Proof.Machine Sys2Proof.Tests

/-- Meets the hypothesis of the second clause of `Obligations.StepRunsFrontCommand`. -/
theorem witness_StepRunsFrontCommand : b0.pending = [] := by decide +kernel

/-- Two commands that wait. -/
def two : State := { b0 with pending := [.ownerClaim (.hrp 3), .timebaseLoad (.hrp 3)] }
/-- Meets the hypothesis of `Obligations.StepKeepsCanonical`, with commands in front that go on. -/
theorem witness_StepKeepsCanonical :
    two.Canonical ∧ step two = exec (.ownerClaim (.hrp 3)) { b0 with pending := [.timebaseLoad (.hrp 3)] } :=
  ⟨by decide +kernel, rfl⟩

/-- Meets the hypotheses of `Obligations.RefusedWrites`: a write with a clear strobe after no error and after one; then one state for
each ground of refusal; and a write held back by the reset. -/
theorem witness_RefusedWrites :
    (b0.Canonical ∧ b0.takes (.hrp 3) 0x44 = true ∧ (b0.refuseCause (.hrp 3) (regAlign 0x44) 0).isSome = true ∧ bitAt (b0.getReg 0x4C) 31 = false) ∧
    ((b0.setReg 0x4C 0x80000002).Canonical ∧ (b0.setReg 0x4C 0x80000002).takes (.hrp 3) 0x44 = true ∧
      ((b0.setReg 0x4C 0x80000002).refuseCause (.hrp 3) (regAlign 0x44) 0).isSome = true ∧ bitAt ((b0.setReg 0x4C 0x80000002).getReg 0x4C) 31 = true) ∧
    ((regDesc .block 0x44).isSome = true ∧ regOff .block (pageBase .block + 0x44) = 0x44 ∧ (b0.setReg 0x44 0x80000009).nonOwner (.hrp 3) = true) ∧
    ((regDesc .block 0x44).isSome = true ∧ (b0.setReg 0x1C 1).pageLocked .block = true ∧ isHouse (.hrp 3) = false) ∧
    (((regDesc (.cue 3) 0x100).map (·.staged)) = some true ∧ regOff (.cue 3) (pageBase (.cue 3) + 0x100) = 0x100 ∧
      (b0.setReg (pageBase (.cue 3) + 8) 8).pageStaged (.cue 3) = true) ∧
    ((regDesc .block 0x44).isSome = true ∧ (0 : BitVec 4) ≠ 0xF) ∧
    ({ b0 with rstLow := true }.takes (.hrp 3) 0x44 = false) := by
  refine ⟨?_, ?_, ?_, ?_, ?_, ?_, ?_⟩ <;> decide +kernel

/-- Meets the hypotheses of `Obligations.RegisterWriteStores`: a plain register, IRQ_STAT, one that may be staged, and one of a clocked
island with its clock and without it. -/
theorem witness_RegisterWriteStores :
    (b0.Canonical ∧ regOff (.cue 3) (pageBase (.cue 3) + 0x7C) = 0x7C ∧ ((regDesc (.cue 3) 0x7C).map (·.staged)) = some false ∧
      b0.Accepts (.hrp 3) (pageBase (.cue 3) + 0x7C) ∧ islandOf (.cue 3) 0x7C = none ∧ b0.srstBusy (.cue 3) = false ∧
      ((b0.taken (.hrp 3) (pageBase (.cue 3) + 0x7C)).unitWrite (.hrp 3) (masterNo (.hrp 3)) (.cue 3) 0x7C 5 b0.beatno).isNone = true) ∧
    (regOff .permit (pageBase .permit + 0x18) = 0x18 ∧ (regDesc .permit 0x18).isSome = true ∧ b0.Accepts (.hrp 3) (pageBase .permit + 0x18) ∧
      islandOf .permit 0x18 = none ∧ b0.srstBusy .permit = false) ∧
    (((regDesc .wings 0x80).map (·.staged)) = some true ∧ regOff .wings (pageBase .wings + 0x80) = 0x80 ∧
      b0.Accepts (.hrp 3) (pageBase .wings + 0x80) ∧
      (((b0.taken (.hrp 3) (pageBase .wings + 0x80)).touch 0 (pageBase .wings + 0x80) (pageBase .wings + 0x80) none).unitWrite
        (.hrp 3) (masterNo (.hrp 3)) .wings 0x80 5 b0.beatno).isNone = true) ∧
    (regOff .timebase (pageBase .timebase + 0x58) = 0x58 ∧ (regDesc .timebase 0x58).isSome = true ∧ b0.Accepts (.hrp 3) (pageBase .timebase + 0x58) ∧
      (islandOf .timebase 0x58).any (fun i => !b0.islandLost i && !(i.1.isSome && 0x58 == 0x060)) = true) ∧
    ({ b0 with clkLost := true }.Accepts (.hrp 3) (pageBase .timebase + 0x58) ∧
      (islandOf .timebase 0x58).any (fun i => { b0 with clkLost := true }.islandLost i) = true) := by
  refine ⟨?_, ?_, ?_, ?_, ?_⟩ <;> decide +kernel

/-- Meets the hypotheses of `Obligations.ReadRows`. -/
theorem witness_ReadRows :
    (b0.Canonical ∧ reservedAddr (0x9000 : BitVec 24).toNat = true ∧ isStagehand (.hrp 3) = false ∧ b0.takes (.hrp 3) 0x9000 = true ∧
      b0.Accepts (.hrp 3) (regAlign 0x9000) ∧ bitAt (b0.getReg 0x4C) 31 = false ∧ bitAt ((b0.setReg 0x4C 0x80000002).getReg 0x4C) 31 = true) ∧
    (regOff (.link 3) (pageBase (.link 3) + 0x50) = 0x50 ∧ ((regDesc (.link 3) 0x50).map (·.rc)) = some true ∧
      b0.srstBusy (.link 3) = false ∧ b0.takes (.hrp 3) (pageBase (.link 3) + 0x50) = true ∧
      ((b0.taken (.hrp 3) (pageBase (.link 3) + 0x50)).unitRead (.link 3) 0x50).isNone = true ∧ islandOf (.link 3) 0x50 = none) ∧
    (b0.srstBusy .permit = false ∧ b0.takes (.hrp 3) 0x2068 = true) := by
  refine ⟨?_, ?_, ?_⟩ <;> decide +kernel

/-- Page control holds at `s` on page `p` by register `off`, with what the row's turn makes of it. -/
def rowMeets (s : State) (p : Page) (off : Nat) : Bool :=
  (p != .curtain || s.curtainTurn) && decide (s.Accepts (.hrp 3) (pageBase p + off)) &&
    decide ((s.rowReady (pageBase p + off)).Canonical) && decide ((s.rowReady (pageBase p + off)).Accepts (.hrp 3) (pageBase p + off)) &&
    !(s.rowReady (pageBase p + off)).srstBusy p
/-- Meets the hypotheses of `Obligations.PageControl`: a LINK page, the CURTAIN page, pages of clocked islands; the owner's rows. -/
theorem witness_PageControl :
    ((enFixed (.link 3) = false ∧ rowMeets b0 (.link 3) 0x08 = true ∧ bitAt ((b0.rowReady (pageBase (.link 3) + 0x08)).ctrlNow (.link 3)) 2 = false) ∧
      (enFixed .curtain = false ∧ rowMeets b0 .curtain 0x08 = true ∧ bitAt ((b0.rowReady (pageBase .curtain + 0x08)).ctrlNow .curtain) 2 = false) ∧
      (enFixed (.pin 3) = false ∧ rowMeets b0 (.pin 3) 0x08 = true ∧ bitAt ((b0.rowReady (pageBase (.pin 3) + 0x08)).ctrlNow (.pin 3)) 2 = false)) ∧
    (rowMeets b0 .permit 0x1C = true ∧ rowMeets b0 .curtain 0x1C = true ∧ rowMeets b0 .timebase 0x1C = true) ∧
    (srstOk (.link 3) = true ∧ srstOk (.pin 3) = true ∧ rowMeets b0 (.pin 3) 0x08 = true) ∧
    (b0.Canonical ∧ b0.Accepts (.hrp 3) 0x44 ∧ b0.srstBusy .block = false ∧ b0.Accepts (.xbar 3) 0x44 ∧ b0.Accepts (.hrp 3) 0x4C) := by
  refine ⟨?_, ?_, ?_, ?_⟩ <;> decide +kernel

/-- A record of a training that is done, and one that runs. -/
def cbDone : State := b0.modCb 3 (fun c => { c with cur := { c.cur with st := .done, kind := 7 } })
/-- A record that shows its final state. -/
def cbShown : State := cbDone.modCb 3 (fun c => { c with vis := c.cur })
/-- A record of a training that runs. -/
def cbRun : State := b0.modCb 3 (fun c => { c with cur := { c.cur with st := .running, kind := 7 } })
/-- Meets the hypotheses of `Obligations.CallboardRows`. -/
theorem witness_CallboardRows :
    (cbDone.callboard[(3 : Fin 64)].cur ≠ cbDone.callboard[(3 : Fin 64)].vis) ∧
    (cbDone.Accepts (.hrp 3) (opCtrlAddr 3) ∧ cbDone.srstBusy .callboard = false ∧ cbDone.callboard[(3 : Fin 64)].cur.st.final = true ∧
      cbDone.callboard[(3 : Fin 64)].vis.st.final = false) ∧
    (cbShown.Accepts (.hrp 3) (opCtrlAddr 3) ∧ cbShown.srstBusy .callboard = false ∧ cbShown.callboard[(3 : Fin 64)].vis.st.final = true) ∧
    (cbRun.Accepts (.hrp 3) (opCtrlAddr 3) ∧ cbRun.srstBusy .callboard = false ∧ cbRun.callboard[(3 : Fin 64)].cur.st.final = false ∧
      cbRun.callboard[(3 : Fin 64)].cur.st ≠ .idle ∧ cbRun.callboard[(3 : Fin 64)].cur.kind = 7 ∧
      (∀ n : Fin 128, cbRun.ports[n].training = none)) := by
  refine ⟨?_, ?_, ?_, ?_⟩ <;> decide +kernel

end Sys2Proof.Tests.W01
end

