-- ==== Sys2Proof/Tests/Witness02.lean ====
section
/-!
SUPPORT. Witnesses: for each statement of part 02 of the obligations, states and operands that meet the hypotheses of each of its clauses.
-/
namespace Sys2Proof.Tests.W02
set_option linter.unusedVariables false
set_option Elab.async false
open Sys2Proof Sys2Proof.Machine Sys2Proof.Tests

def up (n : Fin 128) (role : Nat) (s : State) : State := s.setReg (linkAddr n 0x44) (BitVec.ofNat 32 (1 + role*16))
def b0 : State := { State.reset with clkOk := true, beatno := 0x1234567 }
def Sring (s : State) : State := -- ring 4096+13 (rx port0 class13), ESIZE 2, LOG2N 3
  let a := ringBase (4096+13)
  ((s.setReg a 0x1000).setReg (a+8) (0x80000083#32)).setReg (a+4) 0
def Stx (s : State) : State := -- ring 4096+16+13 with an entry of length 1 at 0x2000
  let a := ringBase (4096+29)
  let s := (((s.setReg a 0x2000).setReg (a+8) (0x80000083#32)).setReg (a+0x10) 1).setReg (a+0x14) 1
  s.setBytes 0x2000 ([1,0,13,0,0,0,0,0,9].map some)
def cred (n : Fin 128) (s : State) : State := s.modPort n (fun p => { p with txKnown := Vector.replicate 16 true, txLimit := Vector.replicate 16 100 })
def en (p : Page) (s : State) : State := s.modReg (pageBase p + 8) (fun w => w ||| 1)
def rx13 (k : Nat) (sent : Nat := 0) (s : State := b0) : State := s.modPort 0 (fun p => {p with rx := [{cls := 13, words := (List.range k).map (BitVec.ofNat 128), len := k, beat := 3, sent}]})
def samples : List State :=
 [ en (.link 0) (b0.modPort 0 (fun p => {p with lockTry := true})), en (.link 0) (b0.modPort 0 (fun p => {p with lockTry := true, goodMarks := 1})),
   (en (.link 0) ((b0.setReg 0x80 0x80000002).setReg (linkAddr 0 0x80) 5)).setReg (linkAddr 0 0x44) 0x20 |>.modPort 0 (fun p => {p with lockTry := true, goodMarks := 1, owed := Vector.replicate 16 9}),
   (en (.link 0) ((b0.setReg (linkAddr 0 0x84) 5).setReg (linkAddr 0 0x80) 0xFFFF)).modPort 0 (fun p => {p with lockTry := true, goodMarks := 1}),
   (Sring (rx13 2)), Sring (rx13 9), Sring (rx13 9 1), Sring (rx13 9 2), (Sring (rx13 9)).setReg (ringBase (4096+13) + 0x14) 8, (Sring (rx13 9)).setReg (ringBase (4096+13) + 4) 0x60, 
   cred 0 { (en (.link 0) (up 0 2 ((b0.setReg 0x80 0x80000002).setReg (linkAddr 0 0x38C) 0x80000000))).setReg (linkAddr 0 0x380) 2 with fwdQ := [{dir := 0, cls := 10, port := 0, frame := .msg {cls := 10, kind := 1, dest := 3}}], fofs := 0xF0 },
   cred 0 { (en (.link 0) (up 0 2 (b0.setReg 0x80 0x80000002))).setReg (linkAddr 0 0x380) 2 with fwdQ := [{dir := 0, cls := 11, port := 0, frame := .msg {cls := 11, kind := 2, dest := 3}}], fofs := 0xF0, align := some (0, none, 3) },
   cred 0 { (en (.link 0) (up 0 2 ((b0.setReg 0x80 0x80000002).setReg (linkAddr 0 0x38C) 0x80000000))).setReg (linkAddr 0 0x380) 2 with fwdQ := [{dir := 0, cls := 11, port := 0, frame := .msg {cls := 11, kind := 2, dest := 3}}], fofs := 0xF0, align := some (0, none, 3) },
   cred 0 { (en (.link 0) (up 0 2 ((b0.setReg 0x80 0x80000002).setReg (linkAddr 0 0x38C) 0x80000000))).setReg (linkAddr 0 0x380) 2 with fwdQ := [{dir := 0, cls := 11, port := 0, frame := .msg {cls := 11, kind := 3, dest := 3, fields := [5]}}], fofs := 0x10 },
   ({ (b0.modPort 0 (fun p => {p with phyEn := true, phyRdy := true, training := some {cb := 3, rate := 2, auto := false, step := 3, granted := true, total := 8}})) with permit := {grants := [(.train 0, 250), (.train 1,3)]}}).setReg (linkAddr 0 0x40) 0x35,
 b0,
   (up 0 0 b0).setReg (linkAddr 0 0x40) 0x205,
   ((up 0 0 b0).setReg (linkAddr 0 0x40) 0x205).modPort 0 (fun p => {p with owed := Vector.replicate 16 3, badMarks := 2, txKnown := Vector.replicate 16 true}),
   (((up 0 2 b0).setReg (linkAddr 0 0x80) 0x7ff).setReg (linkAddr 0 0x84) 0x7ff).modPort 0 (fun p => {p with owed := Vector.replicate 16 3, badMarks := 1}),
   b0.modPort 0 (fun p => {p with lockTry := true}),
   b0.modPort 0 (fun p => {p with lockTry := true, goodMarks := 1}),
   (b0.modPort 0 (fun p => {p with rx := [{cls := 13, words := [5], len := 1, beat := 3},{cls := 15, words := [5], len := 1, beat := 3}]})),
   Sring (b0.modPort 0 (fun p => {p with rx := [{cls := 15, words := [5], len := 1, beat := 3},{cls := 13, words := [5,6,7,8,9], len := 5, beat := 3}]})),
   (Sring (b0.modPort 0 (fun p => {p with rx := [{cls := 13, words := List.replicate 40 5, len := 40, beat := 3}]}))),
   en (.link 0) (up 0 2 b0),
   cred 0 (en (.link 0) (up 0 2 b0)),
   Stx (en (.link 0) (up 0 2 b0)),
   cred 0 (Stx (en (.link 0) (up 0 2 b0))),
   cred 0 { (en (.link 0) (up 0 2 (b0.setReg 0x80 0x80000000))) with fwdQ := [{dir := 0, cls := 10, port := 0, frame := .msg {cls := 10, kind := 1, dest := 3}}] },
   (cred 0 { (en (.link 0) (up 0 2 (b0.setReg 0x80 0x80000000))) with fwdQ := [] }).modPort 0 (fun p => {p with relQ := [.data 3 [1,2]]}),
   ({ (en (.link 0) (up 0 2 (b0.setReg 0x80 0x80000000))) with fwdQ := [] }).modPort 0 (fun p => {p with relQ := [.data 3 [1,2]]}),
   (en (.link 0) b0).setReg (linkAddr 0 0x40) 0x125,
   (en (.link 0) (up 0 1 b0)).setReg (linkAddr 0 0x40) 0x25,
   { (b0.modPort 0 (fun p => {p with phyEn := true, phyRdy := true, training := some {cb := 3, rate := 2, auto := true, step := 1, granted := true, total := 8}})) with phyReq := Vector.replicate 8 true },
   { (b0.modPort 0 (fun p => {p with phyEn := true, phyRdy := true, training := some {cb := 3, rate := 2, auto := false, step := 3, granted := true, total := 8}})) with permit := {grants := [(.train 0, 250), (.train 1,3)]}},
   (up 0 2 ({ (b0.modPort 0 (fun p => {p with phyEn := true, phyRdy := true, training := some {cb := 3, rate := 2, auto := false, step := 3, granted := true, total := 8}})) with permit := {grants := [(.train 0, 250), (.train 1,3)]}}.setReg 0x80 0x80000002)).setReg (linkAddr 0 0x40) 0x125,
   { (b0.modPort 0 (fun p => {p with phyEn := false, phyRdy := false, training := some {cb := 3, rate := 2, auto := false, step := 3, granted := true, total := 8}})) with permit := {grants := [(.train 0, 250), (.train 1,3)]}, phyReq := Vector.replicate 8 true },
   { (b0.modPort 0 (fun p => {p with phyEn := false, phyRdy := true, training := some {cb := 3, rate := 2, auto := false, step := 3, granted := true, total := 8}})) with permit := {grants := [(.train 0, 250), (.train 1,3)]}, phyReq := Vector.replicate 8 true, phyAck := Vector.replicate 8 true }
 ]
def extra : List State := [Sring (rx13 2), Sring (rx13 9), Sring (rx13 9 1), (Sring (rx13 9)).setReg (ringBase (4096+13) + 0x14) 8, (Sring (rx13 9)).setReg (ringBase (4096+13) + 4) 0x60, rx13 2, (Sring (rx13 9)).setReg (ringBase (4096+13)) 0xFFFF000,
  {(Sring (rx13 2)) with retained := [.eventBank 1, .eventBank 4]}, {(Sring (rx13 2)) with retained := (List.finRange 1024).map .eventBank}, (Sring (rx13 2)).setErr 0x1000 (some true),
  (cred 0 { (up 0 1 b0) with fwdQ := [] }).modPort 0 (fun p => {p with relQ := [.data 3 [1,2]]}), (up 0 1 b0).modPort 0 (fun p => {p with relQ := [.data 3 [1,2]]}),
  (cred 0 (up 0 2 ((b0.setReg 0x80 0x80000002).setReg (linkAddr 0 0x38C) 0x80000000) |>.setReg (linkAddr 0 0x380) 2)).modPort 0 (fun p => {p with relQ := [.data 9 [1,2]]})].map (en (.link 0))
def s02a (i : Nat) : State := (samples ++ extra).getD i State.reset

/-- Meets the hypotheses of `Obligations.LinkReceive`, clause by clause. -/
theorem witness_LinkReceive :
    ((s02a 0).Canonical ∧ (s02a 0).portUp (0 : Fin 128) = false) ∧
    ((s02a 16).Canonical ∧ (s02a 16).portUp (0 : Fin 128) = true ∧ (s02a 16).pageEn (Page.link (0 : Fin 128)) = false) ∧
    ((s02a 10).Canonical ∧ (s02a 10).portUp (0 : Fin 128) = true ∧ (s02a 10).pageEn (Page.link (0 : Fin 128)) = true ∧ FrameCheck.good =
      FrameCheck.good ∧ ((s02a 10).rxRoute (0 : Fin 128) (13 : Fin 16).val [(1 : Word128)] = RxRoute.parse ∨ (s02a 10).rxRoute (0 : Fin 128) (13 :
      Fin 16).val [(1 : Word128)] = RxRoute.ring ∨ (s02a 10).rxRoute (0 : Fin 128) (13 : Fin 16).val [(1 : Word128)] = RxRoute.peer ∧ (13 : Fin
      16).val < (10 : Nat))) ∧
    ((s02a 10).Canonical ∧ (s02a 10).portUp (0 : Fin 128) = true ∧ (s02a 10).pageEn (Page.link (0 : Fin 128)) = true ∧ ¬(FrameCheck.good =
      FrameCheck.good ∧ ((s02a 10).rxRoute (0 : Fin 128) (0 : Fin 16).val [(1 : Word128)] = RxRoute.parse ∨ (s02a 10).rxRoute (0 : Fin 128) (0 :
      Fin 16).val [(1 : Word128)] = RxRoute.ring ∨ (s02a 10).rxRoute (0 : Fin 128) (0 : Fin 16).val [(1 : Word128)] = RxRoute.peer ∧ (0 : Fin
      16).val < (10 : Nat)))) ∧
    ((s02a 0).portUp (0 : Fin 128) = false) ∧
    ((s02a 10).portUp (0 : Fin 128) = true) ∧
    ((s02a 10).Canonical ∧ (s02a 10).portUp (0 : Fin 128) = true) ∧
    ((s02a 10).Canonical ∧ (s02a 10).portUp (0 : Fin 128) = true ∧ (s02a 10).ports[(0 : Fin 128)].badMarks < (2 : Nat)) ∧
    ((s02a 17).Canonical ∧ (s02a 17).portUp (0 : Fin 128) = true ∧ (2 : Nat) ≤ (s02a 17).ports[(0 : Fin 128)].badMarks) ∧
    ((s02a 4).Canonical ∧ (s02a 4).portUp (0 : Fin 128) = false ∧ ((s02a 4).ports[(0 : Fin 128)].lockTry = false ∨ (s02a 4).pageEn (Page.link (0 :
      Fin 128)) = false)) ∧
    ((s02a 0).Canonical ∧ (s02a 0).portUp (0 : Fin 128) = false ∧ (s02a 0).ports[(0 : Fin 128)].lockTry = true ∧ (s02a 0).pageEn (Page.link (0 :
      Fin 128)) = true ∧ (s02a 0).ports[(0 : Fin 128)].goodMarks = (0 : Nat)) ∧
    ((s02a 1).Canonical ∧ (s02a 1).portUp (0 : Fin 128) = false ∧ (s02a 1).ports[(0 : Fin 128)].lockTry = true ∧ (s02a 1).pageEn (Page.link (0 :
      Fin 128)) = true ∧ (s02a 1).ports[(0 : Fin 128)].goodMarks ≠ (0 : Nat)) := by
  refine ⟨?_, ?_, ?_, ?_, ?_, ?_, ?_, ?_, ?_, ?_, ?_, ?_⟩ <;> decide +kernel

/-- Meets the hypotheses of `Obligations.LinkTransmit`, clause by clause. -/
theorem witness_LinkTransmit_1 :
    ((0 : Fin 16).val < (13 : Nat) ∨ ((s02a 0).ports[(0 : Fin 128)].rx.any fun f => f.cls == (0 : Fin 16).val) = false) ∧
    ((13 : Nat) ≤ (13 : Fin 16).val ∧ Option.any (fun p => decide (p.fst.sent = (0 : Nat) ∧ (s02a 4).pageEn (Page.link (0 : Fin 128)) = false))
      (takeFirst (fun f => f.cls == (13 : Fin 16).val) (s02a 4).ports[(0 : Fin 128)].rx) = true) ∧
    ((13 : Nat) ≤ (13 : Fin 16).val ∧ Option.any (fun p => decide (p.fst.words.length = p.fst.len ∧ p.fst.sent < (linkEntries ((13 : Fin 16).val)
      p.fst.words (BitVec.setWidth (32 : Nat) p.fst.beat)).length ∧ (p.fst.sent = (0 : Nat) → (s02a 43).pageEn (Page.link (0 : Fin 128)) = true) ∧
      (s02a 43).Canonical ∧ ((s02a 43).ringEn (4096 + 32 * (0 : Fin 128).val + (13 : Fin 16).val) = false ∨ (s02a 43).ringMemErr (4096 + 32 * (0 :
      Fin 128).val + (13 : Fin 16).val) = true ∨ (s02a 43).ringLegal (4096 + 32 * (0 : Fin 128).val + (13 : Fin 16).val) = false ∨ (s02a
      43).ringEsize (4096 + 32 * (0 : Fin 128).val + (13 : Fin 16).val) ≠ (2 : Nat)))) (takeFirst (fun f => f.cls == (13 : Fin 16).val) (s02a
      43).ports[(0 : Fin 128)].rx) = true) ∧
    ((13 : Nat) ≤ (13 : Fin 16).val ∧ Option.any (fun p => decide (p.fst.words.length = p.fst.len ∧ p.fst.sent < (linkEntries ((13 : Fin 16).val)
      p.fst.words (BitVec.setWidth (32 : Nat) p.fst.beat)).length ∧ (p.fst.sent = (0 : Nat) → (s02a 41).pageEn (Page.link (0 : Fin 128)) = true) ∧
      (s02a 41).ringEn (4096 + 32 * (0 : Fin 128).val + (13 : Fin 16).val) = true ∧ (s02a 41).ringMemErr (4096 + 32 * (0 : Fin 128).val + (13 : Fin
      16).val) = false ∧ (s02a 41).ringLegal (4096 + 32 * (0 : Fin 128).val + (13 : Fin 16).val) = true ∧ (s02a 41).ringEsize (4096 + 32 * (0 : Fin
      128).val + (13 : Fin 16).val) = (2 : Nat) ∧ (s02a 41).reservePeek (4096 + 32 * (0 : Fin 128).val + (13 : Fin 16).val) = none)) (takeFirst
      (fun f => f.cls == (13 : Fin 16).val) (s02a 41).ports[(0 : Fin 128)].rx) = true) ∧
    ((13 : Nat) ≤ (13 : Fin 16).val ∧ Option.any (fun p => decide (p.fst.words.length = p.fst.len ∧ p.fst.sent < (linkEntries ((13 : Fin 16).val)
      p.fst.words (BitVec.setWidth (32 : Nat) p.fst.beat)).length ∧ (p.fst.sent = (0 : Nat) → (s02a 46).pageEn (Page.link (0 : Fin 128)) = true) ∧
      (s02a 46).ringEsize (4096 + 32 * (0 : Fin 128).val + (13 : Fin 16).val) = (2 : Nat) ∧ (errAnd (ringPut (4096 + 32 * (0 : Fin 128).val + (13 :
      Fin 16).val) ((linkEntries ((13 : Fin 16).val) p.fst.words (BitVec.setWidth (32 : Nat) p.fst.beat)).getD p.fst.sent []) (s02a 46)) fun p u =>
      waitAnd p fun v => true) = true)) (takeFirst (fun f => f.cls == (13 : Fin 16).val) (s02a 46).ports[(0 : Fin 128)].rx) = true) ∧
    ((13 : Nat) ≤ (13 : Fin 16).val ∧ Option.any (fun p => decide (p.fst.words.length = p.fst.len ∧ p.fst.sent < (linkEntries ((13 : Fin 16).val)
      p.fst.words (BitVec.setWidth (32 : Nat) p.fst.beat)).length ∧ (p.fst.sent = (0 : Nat) → (s02a 42).pageEn (Page.link (0 : Fin 128)) = true) ∧
      (s02a 42).ringEsize (4096 + 32 * (0 : Fin 128).val + (13 : Fin 16).val) = (2 : Nat) ∧ (okAnd (ringPut (4096 + 32 * (0 : Fin 128).val + (13 :
      Fin 16).val) ((linkEntries ((13 : Fin 16).val) p.fst.words (BitVec.setWidth (32 : Nat) p.fst.beat)).getD p.fst.sent []) (s02a 42)) fun p s1
      => decide (p = Put.failed) && true) = true)) (takeFirst (fun f => f.cls == (13 : Fin 16).val) (s02a 42).ports[(0 : Fin 128)].rx) = true) ∧
    ((13 : Nat) ≤ (13 : Fin 16).val ∧ Option.any (fun p => decide (p.fst.words.length = p.fst.len ∧ p.fst.sent < (linkEntries ((13 : Fin 16).val)
      p.fst.words (BitVec.setWidth (32 : Nat) p.fst.beat)).length ∧ (p.fst.sent = (0 : Nat) → (s02a 7).pageEn (Page.link (0 : Fin 128)) = true) ∧
      (s02a 7).ringEsize (4096 + 32 * (0 : Fin 128).val + (13 : Fin 16).val) = (2 : Nat) ∧ (okAnd (ringPut (4096 + 32 * (0 : Fin 128).val + (13 :
      Fin 16).val) ((linkEntries ((13 : Fin 16).val) p.fst.words (BitVec.setWidth (32 : Nat) p.fst.beat)).getD p.fst.sent []) (s02a 7)) fun p_1 s1
      => doneAnd p_1 fun v => decide (p.fst.sent + 1 = (linkEntries ((13 : Fin 16).val) p.fst.words (BitVec.setWidth (32 : Nat)
      p.fst.beat)).length)) = true)) (takeFirst (fun f => f.cls == (13 : Fin 16).val) (s02a 7).ports[(0 : Fin 128)].rx) = true) ∧
    ((13 : Nat) ≤ (13 : Fin 16).val ∧ Option.any (fun p => decide (p.fst.words.length = p.fst.len ∧ p.fst.sent < (linkEntries ((13 : Fin 16).val)
      p.fst.words (BitVec.setWidth (32 : Nat) p.fst.beat)).length ∧ (p.fst.sent = (0 : Nat) → (s02a 6).pageEn (Page.link (0 : Fin 128)) = true) ∧
      (s02a 6).ringEsize (4096 + 32 * (0 : Fin 128).val + (13 : Fin 16).val) = (2 : Nat) ∧ (okAnd (ringPut (4096 + 32 * (0 : Fin 128).val + (13 :
      Fin 16).val) ((linkEntries ((13 : Fin 16).val) p.fst.words (BitVec.setWidth (32 : Nat) p.fst.beat)).getD p.fst.sent []) (s02a 6)) fun p_1 s1
      => doneAnd p_1 fun v => decide (p.fst.sent + 1 < (linkEntries ((13 : Fin 16).val) p.fst.words (BitVec.setWidth (32 : Nat)
      p.fst.beat)).length)) = true)) (takeFirst (fun f => f.cls == (13 : Fin 16).val) (s02a 6).ports[(0 : Fin 128)].rx) = true) ∧
    (({ } : Port).creditGap < (638 : Nat)) ∧
    ((s02a 0).txReady (0 : Fin 128) = false) ∧
    ((s02a 11).txReady (0 : Fin 128) = true ∧ (okAnd (txFirst (0 : Fin 128) (txOrder (s02a 11).ports[(0 : Fin 128)].rr) (s02a 11)) fun p s1 =>
      decide (p = none) && true) = true) ∧
    ((s02a 10).txReady (0 : Fin 128) = true ∧ (okAnd (txFirst (0 : Fin 128) (txOrder (s02a 10).ports[(0 : Fin 128)].rr) (s02a 10)) fun p s1 =>
      Option.any (fun c => decide (c ≠ (8 : Nat) ∧ c < (13 : Nat) ∧ Option.any (fun q => true) (s1.fwdHead (0 : Fin 128) c) = true)) p) = true) ∧
    ((s02a 27).txReady (0 : Fin 128) = true ∧ (okAnd (txFirst (0 : Fin 128) (txOrder (s02a 27).ports[(0 : Fin 128)].rr) (s02a 27)) fun p s1 =>
      Option.any (fun c => decide ((13 : Nat) ≤ c ∧ (okAnd (txRingHead (0 : Fin 128) c s1) fun p s2 => Option.any (fun p => decide (s2.Canonical ∧
      spWf (fun x => []) s2.ringRel = true)) p) = true)) p) = true) := by
  refine ⟨?_, ?_, ?_, ?_, ?_, ?_, ?_, ?_, ?_, ?_, ?_, ?_, ?_⟩ <;> decide +kernel

/-- Meets the hypotheses of `Obligations.LinkTransmit`, clause by clause. -/
theorem witness_LinkTransmit_2 :
    ((consAnd (s02a 48).ports[(0 : Fin 128)].relQ fun f rest => decide ((s02a 48).pageEn (Page.link (0 : Fin 128)) = true ∧ (s02a 48).frozen
      (Page.link (0 : Fin 128)) = false ∧ (s02a 48).portUp (0 : Fin 128) = true ∧ roleSends ((s02a 48).portRole (0 : Fin 128)) f.cls = true ∧
      (f.cls < (8 : Nat) ∨ (s02a 48).peerOk (0 : Fin 128) true = true) ∧ frameUnits f.len ≤ txCredit (s02a 48).ports[(0 : Fin 128)] f.cls)) = true) ∧
    ((consAnd (s02a 49).ports[(0 : Fin 128)].relQ fun f rest => decide ((s02a 49).pageEn (Page.link (0 : Fin 128)) = true ∧ (s02a 49).frozen
      (Page.link (0 : Fin 128)) = false ∧ (s02a 49).portUp (0 : Fin 128) = true ∧ roleSends ((s02a 49).portRole (0 : Fin 128)) f.cls = true ∧
      (f.cls < (8 : Nat) ∨ (s02a 49).peerOk (0 : Fin 128) true = true) ∧ txCredit (s02a 49).ports[(0 : Fin 128)] f.cls < frameUnits f.len)) = true) := by
  refine ⟨?_, ?_⟩ <;> decide +kernel

/-- Meets the hypotheses of `Obligations.LinkTraining`, clause by clause. -/
theorem witness_LinkTraining :
    ((s02a 0).Canonical ∧ (s02a 0).Accepts (Master.hrp (3 : BitVec 8)) (linkAddr (0 : Fin 128) (72 : Nat)) ∧ (s02a 0).srstBusy (Page.link (0 : Fin
      128)) = false ∧ (s02a 0).pageEn (Page.link (0 : Fin 128)) = true ∧ (s02a 0).ports[(0 : Fin 128)].training = none ∧ Option.any (fun r =>
      decide ((s02a 0).charge (250 : Nat) ≤ (s02a 0).avail ∧ fld ((s02a 0).pcfg (0 : Fin 128)) (4 : Nat) (2 : Nat) ≠ (3 : Nat) ∧ (1 : Nat) ≤ fld
      ((s02a 0).pcfg (0 : Fin 128)) (0 : Nat) (3 : Nat) ∧ fld ((s02a 0).pcfg (0 : Fin 128)) (0 : Nat) (3 : Nat) ≤ (5 : Nat))) (s02a 0).cbFree =
      true) ∧
    ((s02a 33).Canonical ∧ Option.any (fun tr => decide (tr.granted = true ∧ (s02a 33).ports[(0 : Fin 128)].phyEn = true ∧ (s02a 33).ports[(0 : Fin
      128)].phyRdy = true ∧ (s02a 33).callboard[tr.cb].abort = false ∧ tr.step < (3 : Nat))) (s02a 33).ports[(0 : Fin 128)].training = true) ∧
    ((s02a 14).Canonical ∧ Option.any (fun tr => decide (tr.granted = true ∧ (s02a 14).ports[(0 : Fin 128)].phyEn = true ∧ (s02a 14).ports[(0 : Fin
      128)].phyRdy = true ∧ (s02a 14).callboard[tr.cb].abort = false ∧ (3 : Nat) ≤ tr.step ∧ fld ((s02a 14).pcfg (0 : Fin 128)) (4 : Nat) (2 : Nat)
      = (3 : Nat))) (s02a 14).ports[(0 : Fin 128)].training = true) ∧
    ((s02a 34).Canonical ∧ Option.any (fun tr => decide (tr.granted = true ∧ (s02a 34).ports[(0 : Fin 128)].phyEn = true ∧ (s02a 34).ports[(0 : Fin
      128)].phyRdy = true ∧ (s02a 34).callboard[tr.cb].abort = false ∧ (3 : Nat) ≤ tr.step ∧ fld ((s02a 34).pcfg (0 : Fin 128)) (4 : Nat) (2 : Nat)
      ≠ (3 : Nat))) (s02a 34).ports[(0 : Fin 128)].training = true) ∧
    ((s02a 33).Canonical ∧ Option.any (fun tr => decide (tr.granted = true ∧ (s02a 33).callboard[tr.cb].abort = false ∧ tr.auto = true ∧ (1 : Nat)
      < tr.rate)) (s02a 33).ports[(0 : Fin 128)].training = true) ∧
    ((s02a 14).Canonical ∧ Option.any (fun tr => decide (tr.granted = true ∧ (s02a 14).callboard[tr.cb].abort = false ∧ (tr.auto = false ∨ tr.rate
      ≤ (1 : Nat)))) (s02a 14).ports[(0 : Fin 128)].training = true) ∧
    ((s02a 10).Canonical ∧ (s02a 10).portUp (0 : Fin 128) = true) ∧
    ((s02a 0).Canonical ∧ (s02a 0).portUp (0 : Fin 128) = false) ∧
    ((s02a 0).phyReq[(0 : Fin 8)] = false) ∧
    ((s02a 33).phyReq[(0 : Fin 8)] = true) := by
  refine ⟨?_, ?_, ?_, ?_, ?_, ?_, ?_, ?_, ?_, ?_⟩ <;> decide +kernel

/-- The port words at the end of a codeword's line, all zeros before them, as PHY words of either width. -/
def lineEnd (a b c : Nat) : List (BitVec 256) :=
  if Config.phyWord256 then List.replicate 20 0 ++ [BitVec.ofNat 256 (a + b * 2 ^ 128), BitVec.ofNat 256 c]
  else List.replicate 40 0 ++ [BitVec.ofNat 256 a, BitVec.ofNat 256 b, BitVec.ofNat 256 c]
/-- A codeword of zeros is without error. -/
theorem witness_LinkReceive_clean : (s02a 0).Canonical ∧ codewordOutcome (lineEnd 0 0 0) 0 = Codeword.clean := by
  refine ⟨by decide +kernel, ?_⟩; unfold codewordOutcome codewordAt lineEnd; cases Config.phyWord256 <;> decide +kernel
/-- One wrong bit is corrected. -/
theorem witness_LinkReceive_corrected : (s02a 0).Canonical ∧ codewordOutcome (lineEnd 0 0 (2 ^ 63)) 0 = Codeword.corrected := by
  refine ⟨by decide +kernel, ?_⟩; unfold codewordOutcome codewordAt lineEnd; cases Config.phyWord256 <;> decide +kernel
/-- Thirty wrong symbols, the product of x - α^j for j = 0 to 28: the last syndrome alone differs from 0, and no locator of length 15 fits. -/
theorem witness_LinkReceive_uncorrectable : (s02a 0).Canonical ∧
    codewordOutcome (lineEnd 0x1A34C8DFCF2FDD4C5A420147C0100000 0x9B55CB9FCB00BDCD2D60D77B918A70D 0x743AD8D2668CFC10) 0 =
      Codeword.uncorrectable := by
  refine ⟨by decide +kernel, ?_⟩; unfold codewordOutcome codewordAt lineEnd; cases Config.phyWord256 <;> decide +kernel

end Sys2Proof.Tests.W02
end

