-- ==== Sys2Proof/Tests/Witness03.lean ====
section
/-!
SUPPORT. Witnesses: for each statement of part 03 of the obligations, states and operands that meet the hypotheses of each of its clauses.
-/
namespace Sys2Proof.Tests.W03
set_option linter.unusedVariables false
set_option Elab.async false
open Sys2Proof Sys2Proof.Machine Sys2Proof.Tests

/-- Port 0's next word comes to `a`. -/
def ingressGives (s : State) (a : Ingress) : Bool :=
  match takeFirst isParse s.ports[(0 : Fin 128)].rx, s.ports[(0 : Fin 128)].tag with
  | some (f, _), some (tag, width) =>
    match f.words with
    | w :: _ =>
      let fr := s.ports[(0 : Fin 128)].presented.getD (s.frameOf (extendTag s.beatno tag width))
      okAnd (ingressWord 0 s.ports[(0 : Fin 128)].curStream.toNat fr w (s.modPort 0 (fun p => { p with presented := some fr })))
        (fun x s1 => x == a && decide s1.Canonical)
    | [] => false
  | _, _ => false
def up (n : Fin 128) (role : Nat) (s : State) : State := s.setReg (linkAddr n 0x44) (BitVec.ofNat 32 (1 + role*16))
def b0 : State := { State.reset with clkOk := true, beatno := 0x1234567 }
def step (i op tgt pos wid imm : Nat) (s : State) : State :=
  (s.setReg (linkAddr 0 (0x100+8*i)) (BitVec.ofNat 32 imm)).setReg (linkAddr 0 (0x104+8*i)) (BitVec.ofNat 32 (op*2^28 + pos*2^21 + wid*2^16 + tgt*2^11))
def fr (ws : List Word128) (s : State) : State := (up 0 0 s).modPort 0 (fun p => {p with rx := [{cls := 13, words := [1], len := 1, beat := 0},{cls := 2, words := ws, len := 6, beat := 0}, {cls := 1, words := [3], len := 1, beat := 0}]})
def ops : List State := (List.range 12).flatMap (fun op => [step 0 op 7 4 7 0x21 (fr [0x211,2,3,4,5] b0), step 0 op 7 4 7 0x3 (fr [0x211] b0), step 0 op 7 4 7 0x80000000 (fr [0x31,6] b0),
   step 0 op 7 4 7 0 ((fr [0x31,6] b0).modPort 0 (fun p => {p with run := 8}))])
def frOn (s : State) : State := ((s.setReg 0x100304 0x80000003).setReg 0x100200 0x80000000).setReg 0x100204 0x00040000
def samples : List State := ops ++ ops.map frOn ++
 [step 0 5 7 4 7 2 (fr [0x211,2,3,4,5] b0), step 0 5 7 4 7 1 (fr [0x211,2] b0), b0, (fr [1,2] b0).modPort 0 (fun p => {p with run := 32}), (fr [1,2] b0).modPort 0 (fun p => {p with step := 32}),
  (fr [1,2] b0).modPort 0 (fun p => {p with takeLeft := 1}),
  (fr [1,2] b0).modPort 0 (fun p => {p with takeRest := true}),
  (fr [2] b0).modPort 0 (fun p => {p with takeLeft := 3}),
  (fr [1,2] b0).modPort 0 (fun p => {p with takeLeft := 1, tag := some (5,32)}),
  frOn ((fr [1,2] b0).modPort 0 (fun p => {p with takeLeft := 2, tag := some (0x1234567,32)})),
  { frOn ((fr [1] b0).modPort 0 (fun p => {p with takeRest := true, tag := some (0x1234567,32)})) with frames := {oldest := 0x1234567} },
  { frOn ((fr [1,2] b0).modPort 0 (fun p => {p with takeLeft := 2, tag := some (0x1234567,32)})) with frames := {oldest := 0x1234567} },
  { frOn ((fr [1] b0).modPort 0 (fun p => {p with takeLeft := 2, tag := some (0x1234567,32)})) with frames := {oldest := 0x1234569} }
  ]
def enL (s : State) : State := s.modReg (pageBase (.link 0) + 8) (fun w => w ||| 1)
def wr (c : Nat) (s : State) : State := {s with frames := {s.frames with slots := [(0x1234567 % 4, {frame := 0x1234567, ready := false, holds := [], written := [(0,0,c)], overflow := []})]}}
def s03a (i : Nat) : State := (samples ++ samples.map enL ++ [15,16].map (fun c => wr c (enL { frOn ((fr [1,2] b0).modPort 0 (fun p => {p with takeLeft := 2, tag := some (0x1234567,32)})) with frames := {oldest := 0x1234567} }))).getD i State.reset

/-- Meets the hypotheses of `Obligations.ParseNonConsuming`, clause by clause. -/
theorem witness_ParseNonConsuming :
    ((s03a 7).Canonical ∧ Option.any (fun p => decide (stepOp p.fst = (1 : Nat))) ((s03a 7).parseAt (0 : Fin 128)) = true) ∧
    ((s03a 11).Canonical ∧ Option.any (fun p => decide (stepOp p.fst = (2 : Nat))) ((s03a 11).parseAt (0 : Fin 128)) = true) ∧
    ((s03a 15).Canonical ∧ Option.any (fun p => decide (stepOp p.fst = (3 : Nat))) ((s03a 15).parseAt (0 : Fin 128)) = true) ∧
    ((s03a 19).Canonical ∧ Option.any (fun p => decide (stepOp p.fst = (4 : Nat))) ((s03a 19).parseAt (0 : Fin 128)) = true) ∧
    ((s03a 35).Canonical ∧ Option.any (fun p => decide (stepOp p.fst = (8 : Nat))) ((s03a 35).parseAt (0 : Fin 128)) = true) ∧
    ((s03a 27).Canonical ∧ Option.any (fun p => decide (stepOp p.fst = (6 : Nat) ∧ (if bitAt p.fst (31 : Nat) = true then stepField p.fst p.snd
      else stepImm p.fst % 8192) = (0 : Nat))) ((s03a 27).parseAt (0 : Fin 128)) = true) ∧
    ((s03a 133).Canonical ∧ Option.any (fun p => decide (stepOp p.fst = (6 : Nat) ∧ (if bitAt p.fst (31 : Nat) = true then stepField p.fst p.snd
      else stepImm p.fst % 8192) ≠ (0 : Nat))) ((s03a 133).parseAt (0 : Fin 128)) = true) ∧
    ((s03a 31).Canonical ∧ Option.any (fun p => decide (stepOp p.fst = (7 : Nat))) ((s03a 31).parseAt (0 : Fin 128)) = true) ∧
    ((s03a 3).Canonical ∧ Option.any (fun p => decide (stepOp p.fst ≠ (1 : Nat))) ((s03a 3).parseAt (0 : Fin 128)) = true) ∧
    ((s03a 3).Canonical ∧ Option.any (fun p => decide (stepOp p.fst ≠ (2 : Nat))) ((s03a 3).parseAt (0 : Fin 128)) = true) ∧
    ((s03a 3).Canonical ∧ Option.any (fun p => decide (stepOp p.fst ≠ (3 : Nat))) ((s03a 3).parseAt (0 : Fin 128)) = true) ∧
    ((s03a 3).Canonical ∧ Option.any (fun p => decide (stepOp p.fst ≠ (4 : Nat))) ((s03a 3).parseAt (0 : Fin 128)) = true) ∧
    ((s03a 3).Canonical ∧ Option.any (fun p => decide (stepOp p.fst ≠ (6 : Nat))) ((s03a 3).parseAt (0 : Fin 128)) = true) ∧
    ((s03a 3).Canonical ∧ Option.any (fun p => decide (stepOp p.fst ≠ (7 : Nat))) ((s03a 3).parseAt (0 : Fin 128)) = true) ∧
    ((s03a 3).Canonical ∧ Option.any (fun p => decide (stepOp p.fst ≠ (8 : Nat))) ((s03a 3).parseAt (0 : Fin 128)) = true) ∧
    ((s03a 0).pageEn (Page.link (0 : Fin 128)) = false ∧ (s03a 0).ports[(0 : Fin 128)].step = (0 : Nat) ∧ (s03a 0).ports[(0 : Fin 128)].run = (0 :
      Nat)) := by
  refine ⟨?_, ?_, ?_, ?_, ?_, ?_, ?_, ?_, ?_, ?_, ?_, ?_, ?_, ?_, ?_, ?_⟩ <;> decide +kernel

/-- Meets the hypotheses of `Obligations.ParseConsuming`, clause by clause. -/
theorem witness_ParseConsuming :
    ((s03a 100).Canonical ∧ Option.any (fun p => decide ((s03a 100).ports[(0 : Fin 128)].run < (32 : Nat) ∧ (s03a 100).ports[(0 : Fin 128)].step =
      (32 : Nat) ∧ (s03a 100).ports[(0 : Fin 128)].takeLeft = (0 : Nat) ∧ (s03a 100).ports[(0 : Fin 128)].takeRest = false)) (takeFirst isParse
      (s03a 100).ports[(0 : Fin 128)].rx) = true) ∧
    ((s03a 99).Canonical ∧ Option.any (fun p => decide ((s03a 99).ports[(0 : Fin 128)].run = (32 : Nat))) (takeFirst isParse (s03a 99).ports[(0 :
      Fin 128)].rx) = true) ∧
    ((s03a 0).Canonical ∧ Option.any (fun p => decide ((s03a 0).ports[(0 : Fin 128)].run ≠ (32 : Nat))) (takeFirst isParse (s03a 0).ports[(0 : Fin
      128)].rx) = true) ∧
    ((s03a 3).Canonical ∧ Option.any (fun p => decide (Option.any (fun p => decide (stepOp p.fst = (0 : Nat))) ((s03a 3).parseAt (0 : Fin 128)) =
      true)) (takeFirst isParse (s03a 3).ports[(0 : Fin 128)].rx) = true) ∧
    ((s03a 39).Canonical ∧ Option.any (fun p => decide (Option.any (fun p => decide (stepOp p.fst = (9 : Nat))) ((s03a 39).parseAt (0 : Fin 128)) =
      true)) (takeFirst isParse (s03a 39).ports[(0 : Fin 128)].rx) = true) ∧
    ((s03a 43).Canonical ∧ Option.any (fun p => decide (Option.any (fun p => decide ((10 : Nat) ≤ stepOp p.fst)) ((s03a 43).parseAt (0 : Fin 128))
      = true)) (takeFirst isParse (s03a 43).ports[(0 : Fin 128)].rx) = true) ∧
    ((s03a 23).Canonical ∧ Option.any (fun p => decide (Option.any (fun p => decide (stepOp p.fst = (5 : Nat) ∧ stepImm p.fst % 8192 = (0 : Nat)))
      ((s03a 23).parseAt (0 : Fin 128)) = true)) (takeFirst isParse (s03a 23).ports[(0 : Fin 128)].rx) = true) ∧
    ((s03a 129).Canonical ∧ Option.any (fun p => decide (Option.any (fun p_1 => decide (stepOp p_1.fst = (5 : Nat) ∧ stepImm p_1.fst % 8192 ≠ (0 :
      Nat) ∧ p.fst.words.length ≤ stepImm p_1.fst % 8192)) ((s03a 129).parseAt (0 : Fin 128)) = true)) (takeFirst isParse (s03a 129).ports[(0 : Fin
      128)].rx) = true) ∧
    ((s03a 205).Canonical ∧ Option.any (fun p => decide (Option.any (fun p_1 => decide (stepOp p_1.fst = (5 : Nat) ∧ stepImm p_1.fst % 8192 ≠ (0 :
      Nat) ∧ stepImm p_1.fst % 8192 < p.fst.words.length)) ((s03a 205).parseAt (0 : Fin 128)) = true)) (takeFirst isParse (s03a 205).ports[(0 : Fin
      128)].rx) = true) ∧
    ((s03a 7).Canonical ∧ Option.any (fun p => decide (Option.any (fun p => decide (stepOp p.fst ≠ (0 : Nat))) ((s03a 7).parseAt (0 : Fin 128)) =
      true)) (takeFirst isParse (s03a 7).ports[(0 : Fin 128)].rx) = true) ∧
    ((s03a 3).Canonical ∧ Option.any (fun p => decide (Option.any (fun p => decide (stepOp p.fst ≠ (5 : Nat))) ((s03a 3).parseAt (0 : Fin 128)) =
      true)) (takeFirst isParse (s03a 3).ports[(0 : Fin 128)].rx) = true) ∧
    ((s03a 3).Canonical ∧ Option.any (fun p => decide (Option.any (fun p => decide (stepOp p.fst ≠ (9 : Nat))) ((s03a 3).parseAt (0 : Fin 128)) =
      true)) (takeFirst isParse (s03a 3).ports[(0 : Fin 128)].rx) = true) ∧
    ((s03a 3).Canonical ∧ Option.any (fun p => decide (Option.any (fun p => decide (stepOp p.fst < (10 : Nat))) ((s03a 3).parseAt (0 : Fin 128)) =
      true)) (takeFirst isParse (s03a 3).ports[(0 : Fin 128)].rx) = true) := by
  refine ⟨?_, ?_, ?_, ?_, ?_, ?_, ?_, ?_, ?_, ?_, ?_, ?_, ?_⟩ <;> decide +kernel

/-- Meets the hypotheses of `Obligations.IngressWord`, clause by clause. -/
theorem witness_IngressWord_1 :
    ((s03a 0).ports[(0 : Fin 128)].takeLeft = (0 : Nat) ∧ (s03a 0).ports[(0 : Fin 128)].takeRest = false) ∧
    ((s03a 101).Canonical ∧ ((s03a 101).ports[(0 : Fin 128)].takeLeft ≠ (0 : Nat) ∨ (s03a 101).ports[(0 : Fin 128)].takeRest = true) ∧ Option.any
      (fun p => decide ((consAnd p.fst.words fun w ws => decide ((s03a 101).ports[(0 : Fin 128)].tag = none)) = true)) (takeFirst isParse (s03a
      101).ports[(0 : Fin 128)].rx) = true) ∧
    ((s03a 105).Canonical ∧ ((s03a 105).ports[(0 : Fin 128)].takeLeft ≠ (0 : Nat) ∨ (s03a 105).ports[(0 : Fin 128)].takeRest = true) ∧ Option.any
      (fun p => decide ((consAnd p.fst.words fun w ws => decide (Option.any (fun p => true) (s03a 105).ports[(0 : Fin 128)].tag = true)) = true))
      (takeFirst isParse (s03a 105).ports[(0 : Fin 128)].rx) = true) ∧
    ((s03a 219).Canonical ∧ ((s03a 219).ports[(0 : Fin 128)].takeLeft ≠ (0 : Nat) ∨ (s03a 219).ports[(0 : Fin 128)].takeRest = true) ∧ Option.any
      (fun p => decide ((consAnd p.fst.words fun w ws => decide (Option.any (fun p => decide ((s03a 219).streamOn (s03a 219).ports[(0 : Fin
      128)].curStream.toNat = true ∧ (s03a 219).frEn = true ∧ (s03a 219).ports[(0 : Fin 128)].closedTo ≤ (s03a 219).ports[(0 : Fin
      128)].presented.getD ((s03a 219).frameOf (extendTag (s03a 219).beatno p.fst p.snd)) ∧ (s03a 219).framePast ((s03a 219).ports[(0 : Fin
      128)].presented.getD ((s03a 219).frameOf (extendTag (s03a 219).beatno p.fst p.snd))) = false ∧ (s03a 219).slotReady ((s03a 219).ports[(0 :
      Fin 128)].presented.getD ((s03a 219).frameOf (extendTag (s03a 219).beatno p.fst p.snd))) = true ∧ (s03a 219).regionBad (s03a 219).ports[(0 :
      Fin 128)].curStream.toNat = false ∧ (bitAt ((s03a 219).scfg (s03a 219).ports[(0 : Fin 128)].curStream.toNat) (29 : Nat) = true → fld ((s03a
      219).scfg (s03a 219).ports[(0 : Fin 128)].curStream.toNat) (8 : Nat) (7 : Nat) ≤ (0 : Fin 128).val ∧ (if bitAt ((s03a 219).scfg (s03a
      219).ports[(0 : Fin 128)].curStream.toNat) (29 : Nat) = true then (0 : Fin 128).val - fld ((s03a 219).scfg (s03a 219).ports[(0 : Fin
      128)].curStream.toNat) (8 : Nat) (7 : Nat) else (0 : Nat)) ≤ fld ((s03a 219).scfg (s03a 219).ports[(0 : Fin 128)].curStream.toNat) (0 : Nat)
      (7 : Nat)) ∧ (bitAt ((s03a 219).scfg (s03a 219).ports[(0 : Fin 128)].curStream.toNat) (29 : Nat) = false → (s03a 219).takenBy (0 : Fin 128)
      (s03a 219).ports[(0 : Fin 128)].curStream.toNat ((s03a 219).ports[(0 : Fin 128)].presented.getD ((s03a 219).frameOf (extendTag (s03a
      219).beatno p.fst p.snd))) = false) ∧ (s03a 219).regionWords (s03a 219).ports[(0 : Fin 128)].curStream.toNat ≤ (((s03a 219).slotOf ((s03a
      219).ports[(0 : Fin 128)].presented.getD ((s03a 219).frameOf (extendTag (s03a 219).beatno p.fst p.snd)))).getD
      { frame := (s03a 219).ports[(0 : Fin 128)].presented.getD ((s03a 219).frameOf (extendTag (s03a 219).beatno p.fst p.snd)), ready := false, holds := [], written := [], overflow := [] }).count
      (s03a 219).ports[(0 : Fin 128)].curStream.toNat (if bitAt ((s03a 219).scfg (s03a 219).ports[(0 : Fin 128)].curStream.toNat) (29 : Nat) = true
      then (0 : Fin 128).val - fld ((s03a 219).scfg (s03a 219).ports[(0 : Fin 128)].curStream.toNat) (8 : Nat) (7 : Nat) else (0 : Nat)))) (s03a
      219).ports[(0 : Fin 128)].tag = true)) = true)) (takeFirst isParse (s03a 219).ports[(0 : Fin 128)].rx) = true) := by
  refine ⟨?_, ?_, ?_, ?_⟩ <;> decide +kernel

/-- Meets the hypotheses of `Obligations.IngressWord`, clause by clause. -/
theorem witness_IngressWord_2 :
    ((s03a 106).Canonical ∧ ((s03a 106).ports[(0 : Fin 128)].takeLeft ≠ (0 : Nat) ∨ (s03a 106).ports[(0 : Fin 128)].takeRest = true) ∧ Option.any
      (fun p => decide ((consAnd p.fst.words fun w ws => decide (Option.any (fun p => decide ((s03a 106).streamOn (s03a 106).ports[(0 : Fin
      128)].curStream.toNat = true ∧ (s03a 106).frEn = true ∧ (s03a 106).ports[(0 : Fin 128)].closedTo ≤ (s03a 106).ports[(0 : Fin
      128)].presented.getD ((s03a 106).frameOf (extendTag (s03a 106).beatno p.fst p.snd)) ∧ (s03a 106).framePast ((s03a 106).ports[(0 : Fin
      128)].presented.getD ((s03a 106).frameOf (extendTag (s03a 106).beatno p.fst p.snd))) = false ∧ (s03a 106).slotReady ((s03a 106).ports[(0 :
      Fin 128)].presented.getD ((s03a 106).frameOf (extendTag (s03a 106).beatno p.fst p.snd))) = true ∧ (s03a 106).regionBad (s03a 106).ports[(0 :
      Fin 128)].curStream.toNat = false ∧ (bitAt ((s03a 106).scfg (s03a 106).ports[(0 : Fin 128)].curStream.toNat) (29 : Nat) = true → fld ((s03a
      106).scfg (s03a 106).ports[(0 : Fin 128)].curStream.toNat) (8 : Nat) (7 : Nat) ≤ (0 : Fin 128).val ∧ (if bitAt ((s03a 106).scfg (s03a
      106).ports[(0 : Fin 128)].curStream.toNat) (29 : Nat) = true then (0 : Fin 128).val - fld ((s03a 106).scfg (s03a 106).ports[(0 : Fin
      128)].curStream.toNat) (8 : Nat) (7 : Nat) else (0 : Nat)) ≤ fld ((s03a 106).scfg (s03a 106).ports[(0 : Fin 128)].curStream.toNat) (0 : Nat)
      (7 : Nat)) ∧ (bitAt ((s03a 106).scfg (s03a 106).ports[(0 : Fin 128)].curStream.toNat) (29 : Nat) = false → (s03a 106).takenBy (0 : Fin 128)
      (s03a 106).ports[(0 : Fin 128)].curStream.toNat ((s03a 106).ports[(0 : Fin 128)].presented.getD ((s03a 106).frameOf (extendTag (s03a
      106).beatno p.fst p.snd))) = false) ∧ (((s03a 106).slotOf ((s03a 106).ports[(0 : Fin 128)].presented.getD ((s03a 106).frameOf (extendTag
      (s03a 106).beatno p.fst p.snd)))).getD
      { frame := (s03a 106).ports[(0 : Fin 128)].presented.getD ((s03a 106).frameOf (extendTag (s03a 106).beatno p.fst p.snd)), ready := false, holds := [], written := [], overflow := [] }).count
      (s03a 106).ports[(0 : Fin 128)].curStream.toNat (if bitAt ((s03a 106).scfg (s03a 106).ports[(0 : Fin 128)].curStream.toNat) (29 : Nat) = true
      then (0 : Fin 128).val - fld ((s03a 106).scfg (s03a 106).ports[(0 : Fin 128)].curStream.toNat) (8 : Nat) (7 : Nat) else (0 : Nat)) < (s03a
      106).regionWords (s03a 106).ports[(0 : Fin 128)].curStream.toNat ∧ (s03a 106).underBist (RetUnit.eventBank (Fin.ofNat (1024 : Nat) (emBank
      ((s03a 106).frSlotAddr ((s03a 106).ports[(0 : Fin 128)].presented.getD ((s03a 106).frameOf (extendTag (s03a 106).beatno p.fst p.snd)) % (s03a
      106).frSlots) + fld ((s03a 106).getReg (streamAddr (s03a 106).ports[(0 : Fin 128)].curStream.toNat (4 : Nat))) (0 : Nat) 16 * 64 + ((if bitAt
      ((s03a 106).scfg (s03a 106).ports[(0 : Fin 128)].curStream.toNat) (29 : Nat) = true then (0 : Fin 128).val - fld ((s03a 106).scfg (s03a
      106).ports[(0 : Fin 128)].curStream.toNat) (8 : Nat) (7 : Nat) else (0 : Nat)) * (s03a 106).regionWords (s03a 106).ports[(0 : Fin
      128)].curStream.toNat + (((s03a 106).slotOf ((s03a 106).ports[(0 : Fin 128)].presented.getD ((s03a 106).frameOf (extendTag (s03a 106).beatno
      p.fst p.snd)))).getD
      { frame := (s03a 106).ports[(0 : Fin 128)].presented.getD ((s03a 106).frameOf (extendTag (s03a 106).beatno p.fst p.snd)), ready := false, holds := [], written := [], overflow := [] }).count
      (s03a 106).ports[(0 : Fin 128)].curStream.toNat (if bitAt ((s03a 106).scfg (s03a 106).ports[(0 : Fin 128)].curStream.toNat) (29 : Nat) = true
      then (0 : Fin 128).val - fld ((s03a 106).scfg (s03a 106).ports[(0 : Fin 128)].curStream.toNat) (8 : Nat) (7 : Nat) else (0 : Nat))) * 16))))
      = false ∧ (s03a 106).awake (RetUnit.eventBank (Fin.ofNat (1024 : Nat) (emBank ((s03a 106).frSlotAddr ((s03a 106).ports[(0 : Fin
      128)].presented.getD ((s03a 106).frameOf (extendTag (s03a 106).beatno p.fst p.snd)) % (s03a 106).frSlots) + fld ((s03a 106).getReg
      (streamAddr (s03a 106).ports[(0 : Fin 128)].curStream.toNat (4 : Nat))) (0 : Nat) 16 * 64 + ((if bitAt ((s03a 106).scfg (s03a 106).ports[(0 :
      Fin 128)].curStream.toNat) (29 : Nat) = true then (0 : Fin 128).val - fld ((s03a 106).scfg (s03a 106).ports[(0 : Fin 128)].curStream.toNat)
      (8 : Nat) (7 : Nat) else (0 : Nat)) * (s03a 106).regionWords (s03a 106).ports[(0 : Fin 128)].curStream.toNat + (((s03a 106).slotOf ((s03a
      106).ports[(0 : Fin 128)].presented.getD ((s03a 106).frameOf (extendTag (s03a 106).beatno p.fst p.snd)))).getD
      { frame := (s03a 106).ports[(0 : Fin 128)].presented.getD ((s03a 106).frameOf (extendTag (s03a 106).beatno p.fst p.snd)), ready := false, holds := [], written := [], overflow := [] }).count
      (s03a 106).ports[(0 : Fin 128)].curStream.toNat (if bitAt ((s03a 106).scfg (s03a 106).ports[(0 : Fin 128)].curStream.toNat) (29 : Nat) = true
      then (0 : Fin 128).val - fld ((s03a 106).scfg (s03a 106).ports[(0 : Fin 128)].curStream.toNat) (8 : Nat) (7 : Nat) else (0 : Nat))) * 16))))
      = true)) (s03a 106).ports[(0 : Fin 128)].tag = true)) = true)) (takeFirst isParse (s03a 106).ports[(0 : Fin 128)].rx) = true) ∧
    ((s03a 105).Canonical ∧ ((s03a 105).ports[(0 : Fin 128)].takeLeft ≠ 0 ∨ (s03a 105).ports[(0 : Fin 128)].takeRest = true) ∧ ingressGives (s03a
      105) .waits = true) ∧
    ((s03a 104).Canonical ∧ ((s03a 104).ports[(0 : Fin 128)].takeLeft ≠ 0 ∨ (s03a 104).ports[(0 : Fin 128)].takeRest = true) ∧ ingressGives (s03a
      104) .dropped = true) ∧
    ((s03a 108).Canonical ∧ ((s03a 108).ports[(0 : Fin 128)].takeLeft ≠ 0 ∨ (s03a 108).ports[(0 : Fin 128)].takeRest = true) ∧ ingressGives (s03a
      108) .late = true) ∧
    ((s03a 106).Canonical ∧ ((s03a 106).ports[(0 : Fin 128)].takeLeft ≠ 0 ∨ (s03a 106).ports[(0 : Fin 128)].takeRest = true) ∧ ingressGives (s03a
      106) .done = true) := by
  refine ⟨?_, ?_, ?_, ?_, ?_⟩ <;> decide +kernel

end Sys2Proof.Tests.W03
end

