-- ==== Sys2Proof/Tests/Witness04.lean ====
section
/-!
SUPPORT. Witnesses: for each statement of part 04 of the obligations, states and operands that meet the hypotheses of each of its clauses.
-/
namespace Sys2Proof.Tests.W04
set_option linter.unusedVariables false
set_option Elab.async false
open Sys2Proof Sys2Proof.Machine Sys2Proof.Tests

def b0 : State := { State.reset with clkOk := true, beatno := 0x1234567 }
def frOn (s : State) : State := ((s.setReg 0x100304 0x80000003).setReg 0x100200 0x80000000).setReg 0x100204 0x00040000
def ringOn (r ctrl h t rs re : Nat) (s : State) : State :=
  let b := ringBase r
  (((((s.setReg b 0x1000).setReg (b+8) (BitVec.ofNat 32 (2^31 + ctrl))).setReg (b+0xC) (BitVec.ofNat 32 h)).setReg (b+0x10) (BitVec.ofNat 32 t)).setReg (b+0x14) (BitVec.ofNat 32 rs)).setReg (b+0x30) (BitVec.ofNat 32 re)
def sl (f : Nat) (h : List (Nat × Bool)) : Nat × Slot := (f % 4, {frame := f, ready := true, holds := h, written := [], overflow := []})
def samples : List State := 
 [b0, frOn b0, b0.setReg 0x10000C 2, (frOn b0).modPort 3 (fun p => {p with waiting := some 3, taking := some (1,2), presented := some 3}),
  ((frOn b0).setReg 0x10034C 5).setReg 0x100308 1,
  (frOn b0).setReg 0x100308 0x9,
  { (frOn b0).setReg 0x100200 0 with frames := {oldest := 0x5, slots := [sl 5 [(0,true),(1,true)], sl 6 [(1,true)], (0,{frame := 8, ready := true, holds := [(0,true)], written := [], overflow := []})], incomplete := [(5,5)]}},
  { (frOn b0).setReg 0x100200 0 with frames := {oldest := 0x5, slots := [ sl 1 [(1,true)]], incomplete := [(5,5)]}}, 
  { (frOn b0) with frames := {oldest := 0x5, committed := [0]}},
  ringOn 0 0x343 2 5 8 1 b0, ringOn 3 0x343 2 5 8 1 b0, ringOn 0x3fff 0x103 2 5 8 1 b0, ringOn 0x3fff 0x1FF03 5 5 13 5 b0, ringOn 0x3fff 0x1FF03 5 5 5 5 b0,
  (ringOn 0x3fff 0x103 2 5 8 1 b0).setAhead 0x3fff [6], (ringOn 0x3fff 0x10003 8 9 12 5 b0).setRelAhead 0x3fff [6], (ringOn 0x3fff 0x10003 8 9 12 5 b0).setRelAhead 0x3fff [7], ringOn 0x3fff 0x10003 8 9 12 5 b0, (ringOn 1 0x43 2 2 5 1 b0).setAhead 1 [3], ringOn 4096 0x43 0 0 5 0 b0,ringOn 4096 0x43 2 2 5 1 b0
 ]
def frS (cfg : Word) (h t rs re : Nat) (es : List ReadyEntry) (dep : Word := 0) : State := 
  { ringOn 7 0x43 h t rs re (((((frOn b0).setReg 0x100208 7).setReg 0x100200 cfg).setReg 0x10020C dep).setReg 0x100304 0x80003003) with frames := {oldest := 5, entries := es, slots := [sl 5 [], sl 2 [(0,false)], sl 3 [(0,false)]] } }
def frs : List State := [0x80000000#32, 0xC0000000#32].flatMap (fun c => [frS c 2 2 2 2 [], frS c 2 10 10 2 [], frS c 2 4 4 2 [⟨0,7,2,2⟩, ⟨0,7,3,3⟩], frS c 2 10 10 2 [⟨0,7,2,2⟩, ⟨0,7,3,3⟩], frS c 2 4 4 2 [⟨0,7,2,2⟩, ⟨0,7,3,3⟩] 9, frS c 2 10 10 2 [⟨0,7,2,2⟩, ⟨0,7,3,3⟩] 20,
  {frS c 2 2 2 2 [] with retained := [.eventBank 4]}, (frS c 2 2 2 2 []).setReg (ringBase 7 + 8) 0x41])
def s04a (i : Nat) : State := (samples ++ frs).getD i State.reset

/-- Meets the hypotheses of `Obligations.FrameRing`, clause by clause. -/
theorem witness_FrameRing_1 :
    ((s04a 1).Canonical ∧ (s04a 1).Accepts (Master.hrp (3 : BitVec 8)) (1049348 : Nat) ∧ (s04a 1).srstBusy (Page.link (0 : Fin 128)) = false ∧
      (s04a 1).frEn = true) ∧
    ((s04a 0).Canonical ∧ (s04a 0).Accepts (Master.hrp (3 : BitVec 8)) (1049348 : Nat) ∧ (s04a 0).srstBusy (Page.link (0 : Fin 128)) = false ∧
      (s04a 0).frEn = false ∧ fld (withBit (0 : Word) (31 : Nat) &&& (2151677951 : Word)) (12 : Nat) (4 : Nat) ≤ (8 : Nat) ∧ fld ((s04a 0).getReg
      (1049344 : Nat)) (12 : Nat) 15 * 4096 + (fld (withBit (0 : Word) (31 : Nat) &&& (2151677951 : Word)) (0 : Nat) 12 + 1) * (4096 * 2 ^ fld
      (withBit (0 : Word) (31 : Nat) &&& (2151677951 : Word)) (12 : Nat) (4 : Nat)) ≤ (134217728 : Nat)) ∧
    ((s04a 0).Canonical ∧ (s04a 0).Accepts (Master.hrp (3 : BitVec 8)) (1049348 : Nat) ∧ (s04a 0).srstBusy (Page.link (0 : Fin 128)) = false ∧
      (s04a 0).frEn = false ∧ ((8 : Nat) < fld (withBit (4294967295 : Word) (31 : Nat) &&& (2151677951 : Word)) (12 : Nat) (4 : Nat) ∨ ¬fld ((s04a
      0).getReg (1049344 : Nat)) (12 : Nat) 15 * 4096 + (fld (withBit (4294967295 : Word) (31 : Nat) &&& (2151677951 : Word)) (0 : Nat) 12 + 1) *
      (4096 * 2 ^ fld (withBit (4294967295 : Word) (31 : Nat) &&& (2151677951 : Word)) (12 : Nat) (4 : Nat)) ≤ (134217728 : Nat))) ∧
    ((s04a 0).Canonical ∧ (s04a 0).Accepts (Master.hrp (3 : BitVec 8)) (1049348 : Nat) ∧ (s04a 0).srstBusy (Page.link (0 : Fin 128)) = false ∧
      (s04a 0).frEn = false) ∧
    ((s04a 0).frEn = false ∨ BitVec.toNat (0 : Word64) < (s04a 0).frames.oldest ∨ ∀ (n : Fin 128), (fun n => (s04a 0).frContributes n && decide
      ((s04a 0).ports[n].closedTo ≤ BitVec.toNat (0 : Word64)) && beatLe (BitVec.ofNat (64 : Nat) (BitVec.toNat (0 : Word64) * (s04a 0).frSpan +
      (s04a 0).frSpan + (s04a 0).regN (linkAddr n (76 : Nat)))) (s04a 0).beatno) n = false) ∧
    ((s04a 4).frEn = true ∧ (s04a 4).frames.oldest ≤ BitVec.toNat (0 : Word64) ∧ ¬∀ (n : Fin 128), (fun n => (s04a 4).frContributes n && decide
      ((s04a 4).ports[n].closedTo ≤ BitVec.toNat (0 : Word64)) && beatLe (BitVec.ofNat (64 : Nat) (BitVec.toNat (0 : Word64) * (s04a 4).frSpan +
      (s04a 4).frSpan + (s04a 4).regN (linkAddr n (76 : Nat)))) (s04a 4).beatno) n = false) ∧
    ((s04a 0).frEn = false ∨ (s04a 0).frameClosed (s04a 0).frames.oldest = false) ∧
    ((s04a 7).frEn = true ∧ (s04a 7).frameClosed (s04a 7).frames.oldest = true ∧ (((s04a 7).slotOf (s04a 7).frames.oldest).getD
      { frame := (s04a 7).frames.oldest, ready := false, holds := [], written := [], overflow := [] }).frame ≠ (s04a 7).frames.oldest ∧ (s04a
      7).frames.emptyWait = false ∧ ∀ (e : ReadyEntry), e ∈ (s04a 7).frames.entries → bitAt ((s04a 7).scfg e.stream) (30 : Nat) = false) ∧
    ((s04a 6).frEn = true ∧ (s04a 6).frameClosed (s04a 6).frames.oldest = true ∧ (((s04a 6).slotOf (s04a 6).frames.oldest).getD
      { frame := (s04a 6).frames.oldest, ready := false, holds := [], written := [], overflow := [] }).frame = (s04a 6).frames.oldest ∧ List.filter
      (fun st => (s04a 6).streamOn st && !(s04a 6).frames.committed.contains st) (List.range (256 : Nat)) = []) ∧
    ((s04a 1).frEn = true ∧ (s04a 1).frameClosed (s04a 1).frames.oldest = true ∧ (((s04a 1).slotOf (s04a 1).frames.oldest).getD
      { frame := (s04a 1).frames.oldest, ready := false, holds := [], written := [], overflow := [] }).frame = (s04a 1).frames.oldest ∧ (consAnd
      (List.filter (fun st => (s04a 1).streamOn st && !(s04a 1).frames.committed.contains st) (List.range (256 : Nat))) fun st rest => decide
      ((((s04a 1).ringEn ((s04a 1).sring st) && !(s04a 1).ringMemErr ((s04a 1).sring st) && (s04a 1).ringLegal ((s04a 1).sring st)) = false ∨ bitAt
      ((s04a 1).scfg st) (30 : Nat) = true ∧ ((s04a 1).ringStuck ((s04a 1).sring st) = true ∨ (s04a 1).readyCount st < (s04a 1).shedDepth st ∧
      (s04a 1).reservePeek ((s04a 1).sring st) = none ∧ ((s04a 1).ringFull ((s04a 1).sring st) = false ∨ List.find? (fun e => e.stream == st) (s04a
      1).frames.entries = none))) ∧ (okAnd (frameReady (((((s04a 1).modFrames fun fr => fr.putSlot ((s04a 1).frames.oldest % (s04a 1).frSlots)
      { (((s04a 1).slotOf (s04a 1).frames.oldest).getD { frame := (s04a 1).frames.oldest, ready := false, holds := [], written := [], overflow := [] }) with ready := true }).incReg
      (streamAddr st (20 : Nat))).irq (streamPage st) (3 : Nat)).modFrames fun fr => { fr with committed := st :: fr.committed })) fun p t => true)
      = true)) = true) ∧
    ((s04a 22).frEn = true ∧ (s04a 22).frameClosed (s04a 22).frames.oldest = true ∧ (((s04a 22).slotOf (s04a 22).frames.oldest).getD
      { frame := (s04a 22).frames.oldest, ready := false, holds := [], written := [], overflow := [] }).frame = (s04a 22).frames.oldest ∧ (consAnd
      (List.filter (fun st => (s04a 22).streamOn st && !(s04a 22).frames.committed.contains st) (List.range (256 : Nat))) fun st rest => decide
      (((s04a 22).ringEn ((s04a 22).sring st) && !(s04a 22).ringMemErr ((s04a 22).sring st) && (s04a 22).ringLegal ((s04a 22).sring st)) = true ∧
      bitAt ((s04a 22).scfg st) (30 : Nat) = false ∧ (s04a 22).reservePeek ((s04a 22).sring st) = none)) = true) := by
  refine ⟨?_, ?_, ?_, ?_, ?_, ?_, ?_, ?_, ?_, ?_, ?_⟩ <;> decide +kernel

/-- Meets the hypotheses of `Obligations.FrameRing`, clause by clause. -/
theorem witness_FrameRing_2 :
    ((s04a 21).frEn = true ∧ (s04a 21).frameClosed (s04a 21).frames.oldest = true ∧ (((s04a 21).slotOf (s04a 21).frames.oldest).getD
      { frame := (s04a 21).frames.oldest, ready := false, holds := [], written := [], overflow := [] }).frame = (s04a 21).frames.oldest ∧ (consAnd
      (List.filter (fun st => (s04a 21).streamOn st && !(s04a 21).frames.committed.contains st) (List.range (256 : Nat))) fun st rest => decide
      (((s04a 21).ringEn ((s04a 21).sring st) && !(s04a 21).ringMemErr ((s04a 21).sring st) && (s04a 21).ringLegal ((s04a 21).sring st)) = true ∧
      (bitAt ((s04a 21).scfg st) (30 : Nat) = true → (s04a 21).ringStuck ((s04a 21).sring st) = false ∧ (s04a 21).readyCount st < (s04a
      21).shedDepth st ∧ (s04a 21).ringFull ((s04a 21).sring st) = false) ∧ (okAnd (ringPut ((s04a 21).sring st) (bytesLE (8 : Nat) ((s04a
      21).frames.oldest * (s04a 21).frSpan) ++ bytesLE (4 : Nat) (((s04a 21).frSlotAddr ((s04a 21).frames.oldest % (s04a 21).frSlots) + fld ((s04a
      21).getReg (streamAddr st (4 : Nat))) (0 : Nat) 16 * 64) % 2 ^ 27) ++ bytesLE (4 : Nat) ((List.map (fun w => w.snd.snd) (List.filter (fun w
      => w.fst == st) (((s04a 21).slotOf (s04a 21).frames.oldest).getD
      { frame := (s04a 21).frames.oldest, ready := false, holds := [], written := [], overflow := [] }).written)).sum % 2 ^ 20 + st * 2 ^ 20 + b2n
      ((s04a 21).frames.isIncomplete (s04a 21).frames.oldest) * 2 ^ 28 + b2n ((((s04a 21).slotOf (s04a 21).frames.oldest).getD
      { frame := (s04a 21).frames.oldest, ready := false, holds := [], written := [], overflow := [] }).overflow.contains st) * 2 ^ 30)) ((s04a
      21).modFrames fun fr => fr.putSlot ((s04a 21).frames.oldest % (s04a 21).frSlots)
      { (((s04a 21).slotOf (s04a 21).frames.oldest).getD { frame := (s04a 21).frames.oldest, ready := false, holds := [], written := [], overflow := [] }) with ready := true }))
      fun p s1 => doneAnd p fun v => decide ((okAnd (frameReady ((s1.incReg (streamAddr st (16 : Nat))).modFrames fun fr =>
      { (fr.putSlot ((s04a 21).frames.oldest % (s04a 21).frSlots) { { (((s04a 21).slotOf (s04a 21).frames.oldest).getD { frame := (s04a 21).frames.oldest, ready := false, holds := [], written := [], overflow := [] }) with ready := true } with holds := (((s04a 21).slotOf (s04a 21).frames.oldest).getD { frame := (s04a 21).frames.oldest, ready := false, holds := [], written := [], overflow := [] }).holds ++ [(st, false)] }) with entries := fr.entries ++ [{ stream := st, ring := (s04a 21).sring st, k := v, frame := (s04a 21).frames.oldest }], committed := st :: fr.committed }))
      fun p t => true) = true)) = true)) = true) ∧
    ((s04a 31).frEn = true ∧ (s04a 31).frameClosed (s04a 31).frames.oldest = true ∧ (((s04a 31).slotOf (s04a 31).frames.oldest).getD
      { frame := (s04a 31).frames.oldest, ready := false, holds := [], written := [], overflow := [] }).frame = (s04a 31).frames.oldest ∧ (consAnd
      (List.filter (fun st => (s04a 31).streamOn st && !(s04a 31).frames.committed.contains st) (List.range (256 : Nat))) fun st rest => decide
      (((s04a 31).ringEn ((s04a 31).sring st) && !(s04a 31).ringMemErr ((s04a 31).sring st) && (s04a 31).ringLegal ((s04a 31).sring st)) = true ∧
      bitAt ((s04a 31).scfg st) (30 : Nat) = true ∧ (s04a 31).ringStuck ((s04a 31).sring st) = false ∧ ((s04a 31).shedDepth st ≤ (s04a
      31).readyCount st ∨ (s04a 31).ringFull ((s04a 31).sring st) = true) ∧ Option.any (fun e => decide (e.ring = (s04a 31).sring st ∧ e.k = (s04a
      31).ringHead ((s04a 31).sring st) ∧ (s04a 31).ringUsed ((s04a 31).sring st) ≤ (s04a 31).ringSlots ((s04a 31).sring st) ∧ ((s04a 31).relAhead
      ((s04a 31).sring st)).contains ((s04a 31).ringRelCount ((s04a 31).sring st)) = false ∧ ((s04a 31).ringRelCount ((s04a 31).sring st) = (s04a
      31).ringHead ((s04a 31).sring st) → (s04a 31).relAhead ((s04a 31).sring st) = []))) (List.find? (fun e => e.stream == st) (s04a
      31).frames.entries) = true)) = true) ∧
    ((s04a 0).Accepts (Master.hrp (3 : BitVec 8)) (1049368 : Nat) ∧ (s04a 0).srstBusy (Page.link (0 : Fin 128)) = false ∧ List.find? (fun p =>
      p.fst == fld (0 : Word) (16 : Nat) (12 : Nat)) (s04a 0).frames.slots = none) ∧
    ((s04a 6).Accepts (Master.hrp (3 : BitVec 8)) (1049368 : Nat) ∧ (s04a 6).srstBusy (Page.link (0 : Fin 128)) = false ∧ Option.any (fun p =>
      decide (p.snd.holds.contains (fld (1 : Word) (0 : Nat) (8 : Nat), true) = false)) (List.find? (fun p => p.fst == fld (1 : Word) (16 : Nat)
      (12 : Nat)) (s04a 6).frames.slots) = true) ∧
    ((s04a 6).Accepts (Master.hrp (3 : BitVec 8)) (1049368 : Nat) ∧ (s04a 6).srstBusy (Page.link (0 : Fin 128)) = false ∧ Option.any (fun p =>
      decide (p.snd.holds.contains (fld (0 : Word) (0 : Nat) (8 : Nat), true) = true)) (List.find? (fun p => p.fst == fld (0 : Word) (16 : Nat) (12
      : Nat)) (s04a 6).frames.slots) = true) := by
  refine ⟨?_, ?_, ?_, ?_, ?_⟩ <;> decide +kernel

/-- Meets the hypotheses of `Obligations.RingRows`, clause by clause. -/
theorem witness_RingRows :
    ((s04a 0).Canonical ∧ spWf (fun x => []) (s04a 0).ringAhead = true ∧ spWf (fun x => []) (s04a 0).ringRel = true ∧ (s04a 0).takes (Master.xbar
      (17 : Fin 21)) (ringBase (0 : Fin 16384).val + 28) = true ∧ isStagehand (Master.xbar (17 : Fin 21)) = true) ∧
    ((s04a 9).Canonical ∧ spWf (fun x => []) (s04a 9).ringAhead = true ∧ spWf (fun x => []) (s04a 9).ringRel = true ∧ (s04a 9).takes (Master.hrp (3
      : BitVec 8)) (ringBase (0 : Fin 16384).val + 28) = true ∧ isStagehand (Master.hrp (3 : BitVec 8)) = false ∧ Option.any (fun k => true) ((s04a
      9).reservePeek (0 : Fin 16384).val) = true) ∧
    ((s04a 0).Canonical ∧ spWf (fun x => []) (s04a 0).ringAhead = true ∧ spWf (fun x => []) (s04a 0).ringRel = true ∧ (s04a 0).takes (Master.hrp (3
      : BitVec 8)) (ringBase (0 : Fin 16384).val + 28) = true ∧ isStagehand (Master.hrp (3 : BitVec 8)) = false ∧ (s04a 0).reservePeek (0 : Fin
      16384).val = none) ∧
    ((s04a 0).Canonical ∧ spWf (fun x => []) (s04a 0).ringAhead = true ∧ spWf (fun x => []) (s04a 0).ringRel = true ∧ (s04a 0).takes (Master.xbar
      (17 : Fin 21)) (ringBase (0 : Fin 16384).val + 24) = true ∧ isStagehand (Master.xbar (17 : Fin 21)) = true) ∧
    ((s04a 11).Canonical ∧ spWf (fun x => []) (s04a 11).ringAhead = true ∧ spWf (fun x => []) (s04a 11).ringRel = true ∧ (s04a 11).takes
      (Master.hrp (3 : BitVec 8)) (ringBase (16383 : Fin 16384).val + 24) = true ∧ isStagehand (Master.hrp (3 : BitVec 8)) = false ∧ Option.any
      (fun k => true) ((s04a 11).popPeek (16383 : Fin 16384).val) = true) ∧
    ((s04a 0).Canonical ∧ spWf (fun x => []) (s04a 0).ringAhead = true ∧ spWf (fun x => []) (s04a 0).ringRel = true ∧ (s04a 0).takes (Master.hrp (3
      : BitVec 8)) (ringBase (0 : Fin 16384).val + 24) = true ∧ isStagehand (Master.hrp (3 : BitVec 8)) = false ∧ (s04a 0).popPeek (0 : Fin
      16384).val = none) ∧
    ((s04a 0).Canonical ∧ spWf (fun x => []) (s04a 0).ringAhead = true ∧ spWf (fun x => []) (s04a 0).ringRel = true ∧ (s04a 0).Accepts (Master.hrp
      (3 : BitVec 8)) (ringBase (0 : Fin 16384).val + 32) ∧ (countIn ((s04a 0).ringTail (0 : Fin 16384).val) ((s04a 0).ringRsv (0 : Fin 16384).val)
      (0 : Word) = false ∨ ((s04a 0).ahead (0 : Fin 16384).val).contains (0 : Word) = true)) ∧
    ((s04a 9).Canonical ∧ spWf (fun x => []) (s04a 9).ringAhead = true ∧ spWf (fun x => []) (s04a 9).ringRel = true ∧ (s04a 9).Accepts (Master.hrp
      (3 : BitVec 8)) (ringBase (0 : Fin 16384).val + 32) ∧ countIn ((s04a 9).ringTail (0 : Fin 16384).val) ((s04a 9).ringRsv (0 : Fin 16384).val)
      (6 : Word) = true ∧ ((s04a 9).ahead (0 : Fin 16384).val).contains (6 : Word) = false ∧ ((s04a 9).ahead (0 : Fin 16384).val).contains ((s04a
      9).ringTail (0 : Fin 16384).val) = false ∧ (6 : Word) ≠ (s04a 9).ringTail (0 : Fin 16384).val) ∧
    ((s04a 9).Canonical ∧ spWf (fun x => []) (s04a 9).ringAhead = true ∧ spWf (fun x => []) (s04a 9).ringRel = true ∧ (s04a 9).Accepts (Master.hrp
      (3 : BitVec 8)) (ringBase (0 : Fin 16384).val + 32) ∧ countIn ((s04a 9).ringTail (0 : Fin 16384).val) ((s04a 9).ringRsv (0 : Fin 16384).val)
      (5 : Word) = true ∧ ((s04a 9).ahead (0 : Fin 16384).val).contains (5 : Word) = false ∧ ((s04a 9).ahead (0 : Fin 16384).val).contains ((s04a
      9).ringTail (0 : Fin 16384).val) = false ∧ (5 : Word) = (s04a 9).ringTail (0 : Fin 16384).val) ∧
    ((s04a 0).Canonical ∧ spWf (fun x => []) (s04a 0).ringAhead = true ∧ spWf (fun x => []) (s04a 0).ringRel = true ∧ (s04a 0).Accepts (Master.hrp
      (3 : BitVec 8)) (ringBase (0 : Fin 16384).val + 44) ∧ (countIn ((s04a 0).ringRelCount (0 : Fin 16384).val) ((s04a 0).ringHead (0 : Fin
      16384).val) (0 : Word) = false ∨ ((s04a 0).relAhead (0 : Fin 16384).val).contains (0 : Word) = true)) ∧
    ((s04a 9).Canonical ∧ spWf (fun x => []) (s04a 9).ringAhead = true ∧ spWf (fun x => []) (s04a 9).ringRel = true ∧ (s04a 9).Accepts (Master.hrp
      (3 : BitVec 8)) (ringBase (0 : Fin 16384).val + 44) ∧ countIn ((s04a 9).ringRelCount (0 : Fin 16384).val) ((s04a 9).ringHead (0 : Fin
      16384).val) (1 : Word) = true ∧ ((s04a 9).relAhead (0 : Fin 16384).val).contains (1 : Word) = false ∧ ((s04a 9).relAhead (0 : Fin
      16384).val).contains ((s04a 9).ringRelCount (0 : Fin 16384).val) = false) ∧
    ((s04a 0).Canonical ∧ spWf (fun x => []) (s04a 0).ringAhead = true ∧ spWf (fun x => []) (s04a 0).ringRel = true ∧ (s04a 0).Accepts (Master.hrp
      (3 : BitVec 8)) (ringBase (0 : Fin 16384).val + 8) ∧ (s04a 0).ringEn (0 : Fin 16384).val = false) ∧
    ((s04a 9).Canonical ∧ spWf (fun x => []) (s04a 9).ringAhead = true ∧ spWf (fun x => []) (s04a 9).ringRel = true ∧ (s04a 9).Accepts (Master.hrp
      (3 : BitVec 8)) (ringBase (0 : Fin 16384).val + 8) ∧ (s04a 9).ringEn (0 : Fin 16384).val = true) := by
  refine ⟨?_, ?_, ?_, ?_, ?_, ?_, ?_, ?_, ?_, ?_, ?_, ?_, ?_⟩ <;> decide +kernel

end Sys2Proof.Tests.W04
end

