-- ==== Sys2Proof/Tests/Witness05.lean ====
section
/-!
SUPPORT. Witnesses: for each statement of part 05 of the obligations, states and operands that meet the hypotheses of each of its clauses.
-/
namespace Sys2Proof.Tests.W05
set_option linter.unusedVariables false
set_option Elab.async false
open Sys2Proof Sys2Proof.Machine Sys2Proof.Tests

/-- Cells of memory from `a` on. -/
def cellsAt (a : Nat) (l : List Nat) : List Host.Cell :=
  ((List.range (4 * l.length)).zip (l.flatMap (fun w => bytesLE 4 w))).filterMap (fun x => if x.2 = 0 then none else some (a + x.1, x.2))
/-- Whether the head of class `c` is due to age. -/
def dueHead (s : State) (c : Nat) : Bool :=
  match s.permit.queue c with
  | r :: _ => !r.aged && decide (s.waitLim ≤ (s.beatno - r.since).toNat)
  | [] => false
/-- One whole cue is taken from ring 48, and its fare and type are as `p` says. -/
def takesOne (s : State) (p : Fare → Member → State → Bool) : Bool :=
  okAnd (takeCues 48 s) fun tk s1 => match tk.members with
    | [(k, some ws)] => decide (k = s.ringHead 48) && !tk.bad && decide s1.Canonical && (
        let s2 := (s1.served 48).ringConsume 48 (s1.ringHead 48) 1
        let m := (typeMembers none [{ words := ws, k := s.ringHead 48 }]).headD { words := [], k := 0 }
        p (s2.fare 48 false m) m s2)
    | _ => false
/-- The record of an issue failure is placed (`placed`) or waits. -/
def recordPlaced (placed : Bool) (f : Fare) (m : Member) (s2 : State) : Bool :=
  match f with
  | .fail e => okAnd (recPut (cueGroup 48) 3 m.cring (recBytes (cueGroup 48) 48 m
      { final := true, code := e.1, fstream := e.2.1, faddr := e.2.2, cclass := costClass m.cost, result := m.result0 }) s2) (fun b _ => b == placed)
  | _ => false
def b0 : State := { State.reset with clkOk := true, beatno := 0x1234567, wiping := false }
def ringOn (r ctrl base h t rs re : Nat) (s : State) : State :=
  let b := ringBase r
  (((((s.setReg b (BitVec.ofNat 32 base)).setReg (b+8) (BitVec.ofNat 32 (2^31 + ctrl))).setReg (b+0xC) (BitVec.ofNat 32 h)).setReg (b+0x10) (BitVec.ofNat 32 t)).setReg (b+0x14) (BitVec.ofNat 32 rs)).setReg (b+0x30) (BitVec.ofNat 32 re)
def win (e : Fin 257) (s : State) : State :=
  let a := pageBase (enginePage e) + 0x100
  (((s.setReg a 0).setReg (a+4) 0x100).setReg (a+8) 0).setReg (a+12) 0x80000103
def entry (ctrl cnt units : Nat) (a b c d : List Nat) : List Nat := [ctrl, cnt, units, 0x77] ++ a ++ b ++ c ++ d
def lin (base et : Nat) (fill : Nat := 0) : List Nat := [base, 0x00011000 + et*256 + fill*32768, 0]
def sca (v et : Nat) : List Nat := [v, 0x5000 + et*256, 0]
def none_ : List Nat := [0,0,0]
def ens (s : State) : State := s.setReg 0x343008 1
def base (s : State) : State := ens (win 3 (ringOn 9000 (2*2^24 + 3*256 + 0x43) 0x20000 0 0 0 0 (ringOn 48 (0x3000000 + 3*256+0x83) 0x10000 0 1 1 0 s)))
def data : List Nat := (List.range 12).map (· * 3)
def mk (e : List Nat) (s : State := b0) : State := { base s with mem := cellsAt 0x1000 data ++ cellsAt 0x10000 e }
def addCue := entry 9000 9 0x01 (lin 0x1000 4) (sca 5 4) none_ (lin 0x2000 4)
def hotCue := entry 9000 9 0x10 (lin 0x1000 4) (sca 5 4) none_ (lin 0x2000 4)
def quietCue := entry (9000 + 2^28) 5 0x01 (lin 0x1000 4) (sca 5 4) none_ (lin 0x2000 4)
def fenceCue := entry (9000 + 2^23) 5 0x01 (lin 0x1000 4) (sca 5 4) none_ (lin 0x2000 4)
def badEnc := entry 9000 0 0x01 (lin 0x1000 4) (sca 5 4) none_ (lin 0x2000 4)
def badWin := entry 9000 9 0x01 (lin 0xF0001000 4) (sca 5 4) none_ (lin 0x2000 4)
def dropCue := entry 9001 9 0x01 (lin 0x1000 4) (sca 5 4) none_ (lin 0x2000 4)
def headCue := entry (9000+2^30) 9 0x01 (lin 0x1000 4) (sca 5 4) none_ (lin 0x2000 4)
def fillCue := entry 9000 (9 + 5*2^24) 0x01 (lin 0x1000 4 1) (sca 5 4) none_ (lin 0x2000 4)
def sortCue := entry 9000 9 0x80 (lin 0x1000 4) none_ none_ (lin 0x2000 4)
def histCue := entry 9000 5 0x01000082 (lin 0x1000 4) none_ (sca 64 4) (lin 0x2000 4)
def iss (e) := nx (execCueIssue 48 (mk e))
def issTmo (e) := (iss e).setReg 0x340100 0x10
def pip (s : State) := nx (execPipeAssign 3 s)
def stp (n : Nat) (s : State) : State := (List.range n).foldl (fun s _ => nx (execElementStep 3 s)) s
def samples0 : List State := [mk addCue, mk hotCue, mk badEnc, mk badWin, mk dropCue, mk headCue, mk fillCue, (mk addCue).setErr 0x10010 (some true), 
   { (mk fenceCue) with groups := (mk fenceCue).groups.set 0 {chains := [{id := 0, ring := 48, eng := 3, members := [], stage := .running, pipes := [], cclass := 0, urgent := false, ended := 0}]}, nextChain := 1},
   (mk badEnc).modReg (ringBase 9000 + 0x14) (fun _ => 8)]
def samples1 : List State := samples0 ++ (samples0.map (fun s => nx (execCueIssue 48 s)))
def samplesF : List State := samples1 ++ [let s := nx (execCueIssue 48 (samples0.getD 8 b0)); s.modGroup 0 (fun g => {g with chains := g.chains.tail})]
def s05a (i : Nat) : State := (samplesF).getD i State.reset
def fuse (s : State) : State := s.modGroup 0 (fun g => {g with chains := g.chains.map (fun c => {c with members := c.members ++ c.members})})
def nowait (s : State) : State := s.modGroup 0 (fun g => {g with chains := g.chains.map (fun c => {c with members := c.members.map (fun m => {m with words := m.words.set 0 ((m.words.getD 0 0) ||| 0x20000000)})})})
def samplesP : List State := [fuse (iss addCue), fuse (iss hotCue), nowait (iss hotCue), (nowait (iss hotCue)).setReg 0x2048 0x2F, (iss hotCue).setReg 0x2044 0xFFFFFFFF, {nowait (iss hotCue) with permit := {grants := [(.boot, 0x9700)]}}, {nowait (iss hotCue) with permit := {q0 := [{who := .wake .houseBank, mw := 100, since := 0, aged := false}]}}] ++ samples1.map id ++ [((iss addCue).setReg 0x343008 0), (iss addCue), iss hotCue, iss fillCue]
def s05b (i : Nat) : State := (samplesP).getD i State.reset
def run0 : List State := [pip (iss addCue), pip (iss quietCue), pip (issTmo fillCue), pip (iss sortCue)]
def frz (s : State) : State := (s.setReg 0x343008 3).setReg 0x7050 1
def samplesE : List State := run0 ++ run0.map (stp 1) ++ run0.map (stp 2) ++ run0.map (stp 3) ++ run0.map (stp 4) ++ run0.map (stp 5) ++ [frz (pip (iss addCue)), stp 12 (nx (execPermitGrant (pip (iss sortCue)))), stp 0 (nx (execPermitGrant (pip (iss sortCue)))),stp 1 (nx (execPermitGrant (pip (iss sortCue)))), stp 5 (nx (execPermitGrant (pip (iss sortCue)))), stp 8 (nx (execPermitGrant (pip (iss sortCue))))]
def hist0 : State := nx (execPermitGrant (pip (iss histCue)))
def hist1 : State := match hist0.pipes[3] with | some r => { hist0 with pipes := hist0.pipes.set 0 (some { r with chain := 77, done := 16 }) } | none => hist0
def hist2 : State := let h := stp 2 hist0; match h.pipes[3] with | some r => { h with pipes := h.pipes.set 0 (some { r with chain := 77, done := 16 }) } | none => h
def s05c (i : Nat) : State := (samplesE ++ [hist0, hist1, hist2, stp 6 (nx (execPermitGrant (pip (iss sortCue)))), stp 7 (nx (execPermitGrant (pip (iss sortCue))))]).getD i State.reset
def samplesC : List State := samplesE ++ samplesE.map (fun s => {s with beatno := s.beatno + 100}) ++ samplesE.map (fun s => s.setReg (ringBase 9000 + 0x14) 8) ++ (samplesE.map (fun s => {s with beatno := s.beatno + 100})).map (fun s => nx (execChainTimeout 3 s)) ++ [(stp 3 (pip (issTmo fillCue))).setReg 0x340154 0x8] ++ [{(stp 3 (pip (issTmo fillCue))) with beatno := b0.beatno + 100}.setReg 0x340154 0x8]
def s05d (i : Nat) : State := (samplesC).getD i State.reset
def rq (w : Requester) (c : Nat) (since : Word64 := 0) (aged := false) : PermitReq := {who := w, mw := c, since, aged}
def samplesM : List State := [b0, pip (iss hotCue), {b0 with permit := {q0 := [rq (.wake .houseBank) 100], q1 := [rq (.scrub 0) 3]}}, {b0 with permit := {q0 := [rq (.wake .houseBank) 100000], q1 := [rq (.scrub 0) 3], q2 := [rq .bulk 7 0x1234567]}},
  {b0 with permit := {q0 := [rq (.wake .houseBank) 100 3 true], q1 := [rq (.scrub 0) 3]}},{b0 with permit := {q0 := [rq (.wake .houseBank) 100], q1 := [rq (.scrub 0) 3 3 true, rq .bulk 3]}}, {b0 with permit := {q0 := [rq (.wake .houseBank) 100 3 true], q1 := [rq (.scrub 0) 3], grants := [(.boot, 0x9790)]}}]
def s05e (i : Nat) : State := (samplesM).getD i State.reset
def PG : Prop := 
  ∀ s : State, s.Canonical → (∀ j : Fin 16, s.bists[j] = none) → s.bulk = none →
    (s.nextGrant = none → exec .permitGrant s = .next s) ∧
    (∀ c, s.nextGrant = some c → ∀ r rest, s.permit.queue c = r :: rest →
      Goes (exec .permitGrant s) (fun t => ∀ u : State, u = (((s.modPermit (fun p => Permit.takeIn s.beatno
        { p.setQueue c (headFrom s.beatno rest) with grants := p.grants ++ [(r.who, s.charge r.mw)] })).incReg 0x00205C).highwater) → (t = u.grantStarts r.who ∧ (∀ x, r.who = .wake x → t = u) ∧
        u = { s with regs := u.regs, permit := u.permit } ∧ RegsBut [0x205C, 0x2068] s u ∧
        u.permit.grants = s.permit.grants ++ [(r.who, s.charge r.mw)] ∧ u.granted = s.granted + s.charge r.mw ∧ u.granted ≤ s.avail ∧
        u.getReg 0x205C = s.getReg 0x205C + 1 ∧ u.getReg 0x2068 = BitVec.ofNat 32 (max (s.regN 0x2068) u.granted) ∧
        (s.permit.entering = [] → u.permit.queue c = headFrom s.beatno rest) ∧
        (∀ a, s.agedClass = some a → c = a) ∧
        (s.agedClass = none → ∀ c' : Fin 3, c'.val < c → ∀ q ql, s.permit.queue c'.val = q :: ql → s.avail < s.granted + s.charge q.mw))))

/-- Meets the hypotheses of `Obligations.CueIssue`, clause by clause. -/
theorem witness_CueIssue :
    ((s05a 5).mayServe (48 : Fin 4096).val = false) ∧
    ((s05a 7).mayServe (48 : Fin 4096).val = true ∧ (okAnd (takeCues ((48 : Fin 4096).val) (s05a 7)) fun tk s1 => decide ((tk.members.any fun m =>
      m.snd.isNone) = true ∧ s1.Canonical)) = true) ∧
    (takeFirst (fun c => c.ring == (48 : Fin 4096).val && c.stage == ChainStage.fence) (s05a 0).groups[cueGroup (48 : Fin 4096).val].chains = none) ∧
    (Option.any (fun p => decide ((s05a 18).fenced ((48 : Fin 4096).val) p.fst.id = true)) (takeFirst (fun c => c.ring == (48 : Fin 4096).val &&
      c.stage == ChainStage.fence) (s05a 18).groups[cueGroup (48 : Fin 4096).val].chains) = true) ∧
    (Option.any (fun p => decide ((s05a 20).fenced ((48 : Fin 4096).val) p.fst.id = false)) (takeFirst (fun c => c.ring == (48 : Fin 4096).val &&
      c.stage == ChainStage.fence) (s05a 20).groups[cueGroup (48 : Fin 4096).val].chains) = true) ∧
    ((s05a 0).mayServe 48 = true ∧ takesOne (s05a 0) (fun f _ _ => match f with | .ok _ => true | _ => false) = true) ∧
    ((s05a 4).mayServe 48 = true ∧ takesOne (s05a 4) (fun f _ _ => match f with | .drop => true | _ => false) = true) ∧
    ((s05a 2).mayServe 48 = true ∧ takesOne (s05a 2) (recordPlaced true) = true) ∧
    ((s05a 9).mayServe 48 = true ∧ takesOne (s05a 9) (recordPlaced false) = true) := by
  refine ⟨?_, ?_, ?_, ?_, ?_, ?_, ?_, ?_, ?_⟩ <;> decide +kernel

/-- Meets the hypotheses of `Obligations.PipeAssign`, clause by clause. -/
theorem witness_PipeAssign :
    ((s05b 7).Canonical ∧ ((s05b 7).pipeFree (3 : Fin 64) = false ∨ (List.filter (fun (x : Chain) => x.urgent) (List.filter (fun (c : Chain) =>
      c.stage == ChainStage.pipes) (s05b 7).groups[groupOf (3 : Fin 64)].chains) ++ List.filter (fun (c : Chain) => !c.urgent) (List.filter (fun (c
      : Chain) => c.stage == ChainStage.pipes) (s05b 7).groups[groupOf (3 : Fin 64)].chains)).head? = none)) ∧
    ((s05b 0).Canonical ∧ Option.any (fun (c : Chain) => decide ((s05b 0).pipeFree (3 : Fin 64) = true ∧
      { c with pipes := c.pipes ++ [(3 : Fin 64).val % 8] }.pipes.length < c.members.length)) (List.filter (fun (x : Chain) => x.urgent)
      (List.filter (fun (c : Chain) => c.stage == ChainStage.pipes) (s05b 0).groups[groupOf (3 : Fin 64)].chains) ++ List.filter (fun (c : Chain)
      => !c.urgent) (List.filter (fun (c : Chain) => c.stage == ChainStage.pipes) (s05b 0).groups[groupOf (3 : Fin 64)].chains)).head? = true) ∧
    ((s05b 17).Canonical ∧ Option.any (fun (c : Chain) => decide ((s05b 17).pipeFree (3 : Fin 64) = true ∧
      { c with pipes := c.pipes ++ [(3 : Fin 64).val % 8] }.pipes.length = c.members.length ∧
      { c with pipes := c.pipes ++ [(3 : Fin 64).val % 8] }.pipes.Nodup ∧ (∀ (j : Nat), j ∈
      { c with pipes := c.pipes ++ [(3 : Fin 64).val % 8] }.pipes → j < (8 : Nat)) ∧ c.cclass = (0 : Nat))) (List.filter (fun (x : Chain) =>
      x.urgent) (List.filter (fun (c : Chain) => c.stage == ChainStage.pipes) (s05b 17).groups[groupOf (3 : Fin 64)].chains) ++ List.filter (fun (c
      : Chain) => !c.urgent) (List.filter (fun (c : Chain) => c.stage == ChainStage.pipes) (s05b 17).groups[groupOf (3 : Fin 64)].chains)).head? =
      true) ∧
    ((s05b 18).Canonical ∧ Option.any (fun (c : Chain) => decide ((s05b 18).pipeFree (3 : Fin 64) = true ∧
      { c with pipes := c.pipes ++ [(3 : Fin 64).val % 8] }.pipes.length = c.members.length ∧
      { c with pipes := c.pipes ++ [(3 : Fin 64).val % 8] }.pipes.Nodup ∧ (∀ (j : Nat), j ∈
      { c with pipes := c.pipes ++ [(3 : Fin 64).val % 8] }.pipes → j < (8 : Nat)) ∧ c.cclass ≠ (0 : Nat) ∧ bitAt (c.members.headD
      { words := [], k := (0 : Word) }).ctrl (29 : Nat) = false ∧ (s05b 18).charge (50 * (c.cclass + 1)) ≤ (s05b 18).avail)) (List.filter (fun (x :
      Chain) => x.urgent) (List.filter (fun (c : Chain) => c.stage == ChainStage.pipes) (s05b 18).groups[groupOf (3 : Fin 64)].chains) ++
      List.filter (fun (c : Chain) => !c.urgent) (List.filter (fun (c : Chain) => c.stage == ChainStage.pipes) (s05b 18).groups[groupOf (3 : Fin
      64)].chains)).head? = true) ∧
    ((s05b 2).Canonical ∧ Option.any (fun (c : Chain) => decide ((s05b 2).pipeFree (3 : Fin 64) = true ∧
      { c with pipes := c.pipes ++ [(3 : Fin 64).val % 8] }.pipes.length = c.members.length ∧
      { c with pipes := c.pipes ++ [(3 : Fin 64).val % 8] }.pipes.Nodup ∧ (∀ (j : Nat), j ∈
      { c with pipes := c.pipes ++ [(3 : Fin 64).val % 8] }.pipes → j < (8 : Nat)) ∧ c.cclass ≠ (0 : Nat) ∧ bitAt (c.members.headD
      { words := [], k := (0 : Word) }).ctrl (29 : Nat) = true ∧ (s05b 2).charge (50 * (c.cclass + 1)) ≤ (s05b 2).avail ∧ (s05b 2).grantNow ((s05b
      2).charge (50 * (c.cclass + 1))) (durationClass (c.members.headD { words := [], k := (0 : Word) }).n) = true)) (List.filter (fun (x : Chain)
      => x.urgent) (List.filter (fun (c : Chain) => c.stage == ChainStage.pipes) (s05b 2).groups[groupOf (3 : Fin 64)].chains) ++ List.filter (fun
      (c : Chain) => !c.urgent) (List.filter (fun (c : Chain) => c.stage == ChainStage.pipes) (s05b 2).groups[groupOf (3 : Fin 64)].chains)).head?
      = true) ∧
    ((s05b 4).Canonical ∧ Option.any (fun (c : Chain) => decide ((s05b 4).pipeFree (3 : Fin 64) = true ∧
      { c with pipes := c.pipes ++ [(3 : Fin 64).val % 8] }.pipes.length = c.members.length ∧
      { c with pipes := c.pipes ++ [(3 : Fin 64).val % 8] }.pipes.Nodup ∧ (∀ (j : Nat), j ∈
      { c with pipes := c.pipes ++ [(3 : Fin 64).val % 8] }.pipes → j < (8 : Nat)) ∧ c.cclass ≠ (0 : Nat) ∧ ((s05b 4).avail < (s05b 4).charge (50 *
      (c.cclass + 1)) ∨ bitAt (c.members.headD { words := [], k := (0 : Word) }).ctrl (29 : Nat) = true ∧ (s05b 4).grantNow ((s05b 4).charge (50 *
      (c.cclass + 1))) (durationClass (c.members.headD { words := [], k := (0 : Word) }).n) = false))) (List.filter (fun (x : Chain) => x.urgent)
      (List.filter (fun (c : Chain) => c.stage == ChainStage.pipes) (s05b 4).groups[groupOf (3 : Fin 64)].chains) ++ List.filter (fun (c : Chain)
      => !c.urgent) (List.filter (fun (c : Chain) => c.stage == ChainStage.pipes) (s05b 4).groups[groupOf (3 : Fin 64)].chains)).head? = true) := by
  refine ⟨?_, ?_, ?_, ?_, ?_, ?_⟩ <;> decide +kernel

/-- Meets the hypotheses of `Obligations.ElementStep`, clause by clause. -/
theorem witness_ElementStep :
    ((s05c 3).pipes[(3 : Fin 64)] = none) ∧
    (Option.any (fun (r : PipeRun) => decide (r.fin.isSome = true ∨ (((s05c 5).chainPipes (groupOf (3 : Fin 64)) r.chain).any fun x => (s05c
      5).frozen (Page.pipe x.fst)) = true)) (s05c 5).pipes[(3 : Fin 64)] = true) ∧
    (Option.any (fun (r : PipeRun) => decide (r.fin = none ∧ r.m.whole = false ∧ (s05c 0).chainPipes (groupOf (3 : Fin 64)) r.chain = [((3 : Fin
      64), r)] ∧ (s05c 0).frozen (Page.pipe (3 : Fin 64)) = false ∧ r.done < r.m.n ∧ r.m.prog = (0 : Nat) ∧ (okAnd (elLoop (groupOf (3 : Fin 64))
      r.done [r] (min r.m.n ((r.done / max (1 : Nat) r.m.perStep + 1) * max (1 : Nat) r.m.perStep) - r.done) (s05c 0)) fun p s1 => decide (p.snd =
      none) && decide ((okAnd (putElems (List.filterMap (fun x => x.snd) p.fst) (p.fst.length + 1) (min r.m.n ((r.done / max (1 : Nat) r.m.perStep
      + 1) * max (1 : Nat) r.m.perStep)) s1) fun p s2 => decide (p = none) && true) = true)) = true)) (s05c 0).pipes[(3 : Fin 64)] = true) ∧
    (Option.any (fun (r : PipeRun) => decide (r.fin = none ∧ r.m.whole = true ∧ (((s05c 26).chainPipes (groupOf (3 : Fin 64)) r.chain).any fun x =>
      (s05c 26).frozen (Page.pipe x.fst)) = false ∧ (r.m.op (0 : Nat) = (130 : Nat) → r.m.param5 % 2 = (1 : Nat) → r.bins ≠ []) ∧ r.taken < r.m.n ∧
      (okAnd (wholeReads (groupOf (3 : Fin 64)) r (min r.m.n ((r.taken / max (1 : Nat) (if r.m.op (0 : Nat) = (132 : Nat) then r.m.perStep else
      etPerStep r.m.lanes r.m.wt) + 1) * max (1 : Nat) (if r.m.op (0 : Nat) = (132 : Nat) then r.m.perStep else etPerStep r.m.lanes r.m.wt)) -
      r.taken) (s05c 26)) fun p s1 => decide (p.snd = none) && true) = true)) (s05c 26).pipes[(3 : Fin 64)] = true) ∧
    (Option.any (fun (r : PipeRun) => decide (r.fin = none ∧ r.m.whole = true ∧ (((s05c 32).chainPipes (groupOf (3 : Fin 64)) r.chain).any fun x =>
      (s05c 32).frozen (Page.pipe x.fst)) = false ∧ (r.m.op (0 : Nat) = (130 : Nat) → r.m.param5 % 2 = (1 : Nat) → r.bins ≠ []) ∧ (r.m.accumulates
      && r.bins.isEmpty || decide (r.m.n ≤ r.taken ∧ r.done = (0 : Nat))) = true ∧ (s05c 32).binsBusy (3 : Fin 64) r = true)) (s05c 32).pipes[(3 :
      Fin 64)] = true) ∧
    (Option.any (fun (r : PipeRun) => decide (r.fin = none ∧ r.m.whole = true ∧ (((s05c 27).chainPipes (groupOf (3 : Fin 64)) r.chain).any fun x =>
      (s05c 27).frozen (Page.pipe x.fst)) = false ∧ (r.m.op (0 : Nat) = (130 : Nat) → r.m.param5 % 2 = (1 : Nat) → r.bins ≠ []) ∧ r.m.n ≤ r.taken ∧
      r.m.prog = (0 : Nat) ∧ (r.done = (0 : Nat) → (s05c 27).binsBusy (3 : Fin 64) r = false) ∧ (okAnd (putElems (wholeWrites r r.wholeOut (s05c
      27).freeIndex (min r.wholeOut.outs.length ((r.done / max (1 : Nat) r.m.perStep + 1) * max (1 : Nat) r.m.perStep) - r.done)) (min
      r.wholeOut.outs.length ((r.done / max (1 : Nat) r.m.perStep + 1) * max (1 : Nat) r.m.perStep) - r.done + 1) (r.done + (min
      r.wholeOut.outs.length ((r.done / max (1 : Nat) r.m.perStep + 1) * max (1 : Nat) r.m.perStep) - r.done)) (s05c 27)) fun p s1 => decide (p =
      none) && true) = true)) (s05c 27).pipes[(3 : Fin 64)] = true) := by
  refine ⟨?_, ?_, ?_, ?_, ?_, ?_⟩ <;> decide +kernel

/-- Meets the hypotheses of `Obligations.ChainEnds`, clause by clause. -/
theorem witness_ChainEnds :
    (Option.any (fun (r : PipeRun) => decide (r.fin = none ∧ (r.waitSince = none ∨ fld ((s05d 0).getReg (groupAddr (groupOf (3 : Fin 64)) (256 :
      Nat))) (0 : Nat) (16 : Nat) = (0 : Nat)))) (s05d 0).pipes[(3 : Fin 64)] = true) ∧
    (Option.any (fun (r : PipeRun) => decide (r.fin = none ∧ Option.any (fun b => decide (fld ((s05d 6).getReg (groupAddr (groupOf (3 : Fin 64))
      (256 : Nat))) (0 : Nat) (16 : Nat) ≠ (0 : Nat) ∧ BitVec.toNat ((s05d 6).beatno - b) < fld ((s05d 6).getReg (groupAddr (groupOf (3 : Fin 64))
      (256 : Nat))) (0 : Nat) (16 : Nat))) r.waitSince = true)) (s05d 6).pipes[(3 : Fin 64)] = true) ∧
    (Option.any (fun (r : PipeRun) => decide (r.fin = none ∧ Option.any (fun b => decide (fld ((s05d 121).getReg (groupAddr (groupOf (3 : Fin 64))
      (256 : Nat))) (0 : Nat) (16 : Nat) ≠ (0 : Nat) ∧ fld ((s05d 121).getReg (groupAddr (groupOf (3 : Fin 64)) (256 : Nat))) (0 : Nat) (16 : Nat)
      ≤ BitVec.toNat ((s05d 121).beatno - b) ∧ Option.any (fun (k : Nat) => decide ((if r.m.whole = true then if k = (0 : Nat) ∧ r.m.op (0 : Nat) =
      (132 : Nat) then r.used else r.taken else r.m.ahead k r.done) < fld ((s05d 121).getReg (chainAddr (groupOf (3 : Fin 64)) (fld r.m.cnt (24 :
      Nat) (4 : Nat)))) (0 : Nat) (20 : Nat))) r.m.fillSource = true)) r.waitSince = true)) (s05d 121).pipes[(3 : Fin 64)] = true) ∧
    (Option.any (fun (r : PipeRun) => decide (r.fin = none ∧ Option.any (fun b => decide (fld ((s05d 36).getReg (groupAddr (groupOf (3 : Fin 64))
      (256 : Nat))) (0 : Nat) (16 : Nat) ≠ (0 : Nat) ∧ fld ((s05d 36).getReg (groupAddr (groupOf (3 : Fin 64)) (256 : Nat))) (0 : Nat) (16 : Nat) ≤
      BitVec.toNat ((s05d 36).beatno - b) ∧ Option.any (fun (k : Nat) => decide ((fld ((s05d 36).getReg (chainAddr (groupOf (3 : Fin 64)) (fld
      r.m.cnt (24 : Nat) (4 : Nat)))) (0 : Nat) (20 : Nat) ≤ if r.m.whole = true then if k = (0 : Nat) ∧ r.m.op (0 : Nat) = (132 : Nat) then r.used
      else r.taken else r.m.ahead k r.done) ∧ ((s05d 36).chainPipes (groupOf (3 : Fin 64)) r.chain).all (fun x => !x.snd.m.whole ||
      !x.snd.m.overlaps (if x.snd.m.n ≤ x.snd.taken then x.snd.wholeOut.outs.length else x.snd.m.nD)) = true)) r.m.fillSource = true)) r.waitSince
      = true)) (s05d 36).pipes[(3 : Fin 64)] = true) ∧
    ((s05d 3).pipes[(3 : Fin 64)] = none) ∧
    ((s05d 0).Canonical ∧ (s05d 0).groups[groupOf (3 : Fin 64)].recs = [] ∧ Option.all (fun r => r.fin.isNone) (s05d 0).pipes[(3 : Fin 64)] = true) ∧
    ((s05d 5).Canonical ∧ (s05d 5).groups[groupOf (3 : Fin 64)].recs = [] ∧ Option.any (fun (r : PipeRun) => decide (Option.any (fun f => decide
      ((f.code == (0 : Nat) && bitAt r.m.ctrl (28 : Nat)) = true)) r.fin = true)) (s05d 5).pipes[(3 : Fin 64)] = true) ∧
    ((s05d 16).Canonical ∧ (s05d 16).groups[groupOf (3 : Fin 64)].recs = [] ∧ Option.any (fun (r : PipeRun) => decide (Option.any (fun f => decide
      ((f.code == (0 : Nat) && bitAt r.m.ctrl (28 : Nat)) = false ∧ (okAnd (recPut (groupOf (3 : Fin 64)) r.eng r.m.cring (recBytes (groupOf (3 :
      Fin 64)) r.ring r.m
      { f with final := true, pipe := (3 : Fin 64).val % 8, cclass := r.cclass, flags := r.flags, done := r.done, result := f.result.getD ((s05d 16).finalResult r).fst })
      (if f.result.isNone = true then ((s05d 16).finalResult r).snd else s05d 16)) fun p s1 => decide (p = true) && decide s1.Canonical) = true))
      r.fin = true)) (s05d 16).pipes[(3 : Fin 64)] = true) ∧
    ((s05d 76).Canonical ∧ (s05d 76).groups[groupOf (3 : Fin 64)].recs = [] ∧ Option.any (fun (r : PipeRun) => decide (Option.any (fun f => decide
      ((f.code == (0 : Nat) && bitAt r.m.ctrl (28 : Nat)) = false ∧ (okAnd (recPut (groupOf (3 : Fin 64)) r.eng r.m.cring (recBytes (groupOf (3 :
      Fin 64)) r.ring r.m
      { f with final := true, pipe := (3 : Fin 64).val % 8, cclass := r.cclass, flags := r.flags, done := r.done, result := f.result.getD ((s05d 76).finalResult r).fst })
      (if f.result.isNone = true then ((s05d 76).finalResult r).snd else s05d 76)) fun p s1 => decide (p = false) && true) = true)) r.fin = true))
      (s05d 76).pipes[(3 : Fin 64)] = true) := by
  refine ⟨?_, ?_, ?_, ?_, ?_, ?_, ?_, ?_, ?_⟩ <;> decide +kernel

/-- Meets the hypotheses of `Obligations.PermitGrants`, clause by clause. -/
theorem witness_PermitGrants :
    ((s05e 0).Canonical ∧ (∀ (j : Fin 16), (s05e 0).bists[j] = none) ∧ (s05e 0).bulk = none ∧ (s05e 0).nextGrant = none) ∧
    ((s05e 1).Canonical ∧ (∀ (j : Fin 16), (s05e 1).bists[j] = none) ∧ (s05e 1).bulk = none ∧ Option.any (fun c => decide ((consAnd ((s05e
      1).permit.queue c) fun r rest => true) = true)) (s05e 1).nextGrant = true) ∧
    ((s05e 0).Canonical ∧ ∀ (c : Fin 3), dueHead (s05e 0) ↑c = false) ∧
    ((s05e 2).Canonical ∧ dueHead (s05e 2) (0 : Fin 3).val = true ∧ (∀ (c' : Fin 3), ↑c' < (0 : Fin 3).val → dueHead (s05e 2) ↑c' = false) ∧
      (consAnd ((s05e 2).permit.queue (0 : Fin 3).val) fun r rest => true) = true) ∧
    ((s05e 0).Canonical ∧ (s05e 0).srstBusy Page.permit = false ∧ (s05e 0).Accepts (Master.hrp (3 : BitVec 8)) (budgetAddr BudgetReg.peakMw)) ∧
    ((s05e 0).Canonical ∧ (s05e 0).srstBusy Page.permit = false ∧ (s05e 0).Accepts (Master.hrp (3 : BitVec 8)) (8328 : Nat)) := by
  refine ⟨?_, ?_, ?_, ?_, ?_, ?_⟩ <;> decide +kernel

end Sys2Proof.Tests.W05
end

