-- ==== Sys2Proof/Tests/Witness06.lean ====
section
/-!
SUPPORT. Witnesses: for each statement of part 06 of the obligations, states and operands that meet the hypotheses of each of its clauses.
-/
namespace Sys2Proof.Tests.W06
set_option linter.unusedVariables false
set_option Elab.async false
open Sys2Proof Sys2Proof.Machine Sys2Proof.Tests

def b0 : State := { State.reset with clkOk := true, beatno := 0x1000, wiping := false }
def cur (s : State) : State :=
  let s := (((s.setReg (curAddr 3 0) 0x80000000).setReg (curAddr 3 4) 0x003F0040).setReg (curAddr 3 8) 20).setReg 0x4008 1
  { s with relNext := 0x1000 }.modStream 3 (fun _ => {enableBeat := 0x100, regimes := [(0x100, 20)]})
def post (beat : Word64) (b : Nat) (ctl : Nat) (s : State) : State := { s with posted := [{beat, eng := 3, words := [BitVec.ofNat 32 b, 0, BitVec.ofNat 32 ctl, 1,2,3,4,5]}] }
def c3 : Nat := 3*2^24
def cs : List State := [b0, post 0xFFF 0xFF0 c3 b0, post 0xFFF 0xFF0 c3 (cur b0), post 0xFFF 0xFFF (c3 + 5*2^13) (cur b0), post 0xFFE 0xFFF c3 (cur b0), post 0xFFF 0xF00 c3 (cur b0), post 0x1000 0xF00 c3 (cur b0),
  post 0xFFF 0xFF0 c3 ((cur b0).setHeld (64 + 0xFF0 % 64) (some {b := 0xFF0, words := []})), post 0xFFF 0xFF0 c3 ((cur b0).setHeld (64 + 0xFF0 % 64) (some {b := 0xFB0, words := []})),
  post 0xFFF 0xFF1 c3 ((cur b0).setReg (curAddr 3 0) 0x80000001), post 0xFFF 0xFF0 c3 ((cur b0).setReg 0x4044 0x80000005),
  ((post 0xFFF 0xFF0 c3 ((cur b0).setReg 0x4044 (0x80000000+9000))).setReg 0x4048 0xFF).setReg (ringBase 9000 + 8) 3,
  -- release: beat 0x1000 releases frame beat 0x1000-20=0xFEC
  cur b0, (cur b0).setHeld (64 + 0xFEC%64) (some {b := 0xFEC, words := [0xFEC,0,c3+1,7,8,9,10,11]}), ((cur b0).setReg (curAddr 3 0x14) 0x8550).setReg (linkAddr 5 0x44) 0x11, (((cur b0).setHeld (64 + 0xFEC%64) (some {b := 0xFEC, words := [0xFEC,0,c3+1,7,8,9,10,11]})).setReg (curAddr 3 0x14) 0x8550).setReg (linkAddr 5 0x44) 0x11,
  ((cur b0).setReg (curAddr 3 0x14) 0x8550), (cur b0).setReg (curAddr 3 0x18) 0xC2000003, { cur b0 with relNext := 0x1001}, {(cur b0) with relNext := 0x1000}.setReg (curAddr 3 0) 0x80000001, (cur b0).modStream 3 (fun _ => {enableBeat := 0x1000, regimes := [(0x1000, 20)]}),
  ((cur b0).setReg (curAddr 3 0x18) 0x80000003).modStream 3 (fun c => {c with pulses := [(3, 0x1000), (4, 0x1001)]}), ((cur b0).setReg (curAddr 3 0x18) 0xC0000000).modStream 3 (fun c => {c with pulses := [(0, 0x1002), (1, 1)]}),
  (cur b0).setReg 0x4008 0, { (cur b0) with islandQ := [{beat := 0xFFD, pinPage := none, curtain := true, m := .hrp 0, addr := curAddr 3 0x10, data := 77}]}, { (cur b0) with relNext := 0xFF0}, { (cur b0) with relNext := 0x1001, islandQ := [{beat := 0xFFE, pinPage := none, curtain := true, m := .hrp 0, addr := curAddr 3 0x10, data := 77}]}, { (cur b0) with islandQ := [{beat := 0xFFE, pinPage := none, curtain := true, m := .hrp 0, addr := curAddr 63 0x10, data := 77}]},
  (b0.setReg (curAddr 0 4) 0x00300000).setReg 0x4008 1, (b0.setReg (curAddr 0 4) 0x00300000).setReg 0x400C 2, b0.setReg (curAddr 0 4) 0x00300000, (cur b0).setHeld 3 (some {b := 1, words := []}), { (cur b0) with islandQ := [{beat := 0xFFF, pinPage := none, curtain := true, m := .hrp 0, addr := curAddr 3 0x10, data := 77}]}]
def lk (q : Nat) (role : Nat) (s : State) : State := (s.setReg (linkAddr 3 0x44) (BitVec.ofNat 32 (1+16*role))).modPort 3 (fun p => {p with relQ := List.replicate q (.data 3 [1,2])})
def s06a (i : Nat) : State := (cs ++ [lk 0 1 (cur b0), lk 128 1 (cur b0), lk 0 2 (cur b0), post 0x2000 0x1FF0 c3 (cur b0), ({ (cur b0) with islandQ := [{beat := 0xFFE, pinPage := none, curtain := true, m := .hrp 0, addr := curAddr 3 0x10, data := 77, origin := .port 4}]} : State).modSlot 2 (fun w => {w with st := .prepared, entries := [{start := some (BitVec.ofNat 32 (curAddr 3 0x10)), data := [5]}]})]).getD i State.reset
def wg (s : State) : State := s.setReg 0x3008 1
def sl (k : Fin 8) (f : WSlot → WSlot) (s : State) : State := s.modSlot k f
def opn : State := nx (execTcmdOpen 3 (.xbar 16) (wg b0))
def ent : State := nx (execTdata 3 (.xbar 16) 0x99 (nx (execTaddr 3 (.xbar 16) 0x3080 opn)))
def prp : State := nx (execTcmdPrepare 3 (.xbar 16) ent)
def grt : State := nx (execPermitGrant prp)
def rdy : State := nx (execPrepareComplete 3 grt)
def tb (b : Nat) (s : State) : State := s.setReg (wslotAddr 3 0x10) (BitVec.ofNat 32 b)
def glob (c : Bool) (s : State) : State := (s.setReg (wslotAddr 3 0x18) (if c then 0xC0020010 else 0x80000000)).setReg (wslotAddr 3 0x1C) 0x51
def armd : State := nx (execTcmdRaise 3 (.xbar 16) (tb 0x1010 rdy))
def sys (s : State) : State := (s.setReg 0x84 0x10040000).setReg 0x80 0x80000001
def gpart : State := nx (execTcmdRaise 3 (.xbar 16) (sys (glob false (tb 0x1010 rdy))))
def gpartP : State := nx (execPrep 0x51 0x100F 0x1004 2 gpart)
def gco : State := nx (execTcmdRaise 3 (.xbar 16) (sys (glob true (tb 0x1020 rdy))))
def adv (n : Word64) (s : State) : State := {s with beatno := s.beatno + n, relNext := s.beatno + n}
def gcoY := nx (execVote 0x51 2 true gco)
def gcoN := nx (execVote 0x51 2 false gco)
def full (s : State) : State := { s with callboard := Vector.replicate 64 CbRec.boot }
def norec (s : State) : State := s.modSlot 3 (fun w => { w with cb := 0xFFFFFFFF })
def frzW (s : State) : State := (s.setReg 0x3008 3).setReg 0x7050 1
def ws : List State := [b0, wg b0, full (wg b0), opn, ent, prp, grt, rdy, tb 0x1010 rdy, tb 0x1001 rdy, armd, adv 0x10 armd, adv 0x12 armd, nx (execWingsRaise (adv 0x10 armd)), nx (execTdata 3 (.xbar 16) 4 opn), nx (execTcmdPrepare 3 (.xbar 16) (nx (execTdata 3 (.xbar 16) 4 opn))),
   nx (execPermitGrant (nx (execTcmdPrepare 3 (.xbar 16) (nx (execTdata 3 (.xbar 16) 4 opn))))), (sl 3 (fun w => {w with entries := List.replicate 4096 {start := some 5, data := [0,1,2,3]}}) opn), (sl 3 (fun w => {w with entries := List.replicate 4096 {start := some 5, data := [0]}}) opn), norec opn, norec grt, frzW opn, frzW (norec opn)]
def gs : List State := [sys b0, glob false rdy, glob false grt, gpart, gpartP, adv 0x10 gpart, adv 0xF gpartP, gco, gcoY, gcoN, adv 0x10 gco, adv 0x10 gcoY, adv 0x12 gcoN, nx (execPrep 0x51 0x100F 0x1004 2 (glob false rdy)), sys (glob false rdy), sys (glob false grt)]
def s06b (i : Nat) : State := (ws ++ gs ++ [frzW rdy, sys (glob false (tb 0x1010 rdy)), sys ((glob true (tb 0x20 rdy)).setReg (wslotAddr 3 0x14) 1),  glob true (tb 0x1020 rdy) |> sys, glob true (tb 0x1001 rdy) |> sys, glob true (tb 0x900 rdy) |> sys, glob false (tb 0x900 rdy) |> sys, sys ((glob false (tb 0x1010 rdy)).modSlot 3 (fun w => {w with prep := some (0x100F, 0x1004, 2)})), sys ((glob false (tb 0x1010 rdy)).modSlot 0 (fun w => {w with st := .opened})) |>.setReg (wslotAddr 0 0x18) 0x80000000 |>.setReg (wslotAddr 0 0x1C) 0x51, (glob true (tb 0x1020 rdy)).setReg (wslotAddr 3 0x18) 0xC0000010]).getD i State.reset
def s06c (i : Nat) : State := (gs).getD i State.reset

/-- Meets the hypotheses of `Obligations.DecisionPosting`, clause by clause. -/
theorem witness_DecisionPosting :
    ((s06a 0).logQ = []) ∧
    (nextPosted (s06a 0).posted = none) ∧
    (¬(bitAt ((s06a 0).getReg (16452 : Nat)) (31 : Nat) = true ∧ bitAt ((s06a 0).getReg (16456 : Nat)) (3 - (1 : Nat)) = true)) ∧
    ((bitAt ((s06a 11).getReg (16452 : Nat)) (31 : Nat) = true ∧ bitAt ((s06a 11).getReg (16456 : Nat)) (3 - (1 : Nat)) = true) ∧ (s06a
      11).ringClass (fld ((s06a 11).getReg (16452 : Nat)) (0 : Nat) (14 : Nat)) = (0 : Nat) ∧ (s06a 11).ringEsize (fld ((s06a 11).getReg (16452 :
      Nat)) (0 : Nat) (14 : Nat)) = (0 : Nat)) ∧
    (Option.any (fun p => decide (beatLe p.beat (s06a 36).beatno = false ∨ (s06a 36).curNext = none)) (nextPosted (s06a 36).posted) = true) ∧
    (Option.any (fun p => decide ((s06a 1).curNext = some CurWork.posting ∧ ¬((s06a 1).pageEn Page.curtain = true ∧ (s06a 1).curOn ↑(postStream p)
      = true ∧ beatLe (s06a 1).curtain[postStream p].enableBeat (postBeat p) = true))) (nextPosted (s06a 1).posted) = true) ∧
    (Option.any (fun p => decide ((s06a 3).curNext = some CurWork.posting ∧ ((s06a 3).pageEn Page.curtain = true ∧ (s06a 3).curOn ↑(postStream p) =
      true ∧ beatLe (s06a 3).curtain[postStream p].enableBeat (postBeat p) = true) ∧ (5 : Nat) ≤ fld (p.words.getD (2 : Nat) (0 : Word)) (13 : Nat)
      (3 : Nat))) (nextPosted (s06a 3).posted) = true) ∧
    (Option.any (fun p => decide ((s06a 9).curNext = some CurWork.posting ∧ ((s06a 9).pageEn Page.curtain = true ∧ (s06a 9).curOn ↑(postStream p) =
      true ∧ beatLe (s06a 9).curtain[postStream p].enableBeat (postBeat p) = true) ∧ fld (p.words.getD (2 : Nat) (0 : Word)) (13 : Nat) (3 : Nat) ≤
      (4 : Nat) ∧ (postBeat p).toNat % (s06a 9).curPeriod ↑(postStream p) ≠ (0 : Nat))) (nextPosted (s06a 9).posted) = true) ∧
    (Option.any (fun p => decide ((s06a 4).curNext = some CurWork.posting ∧ ((s06a 4).pageEn Page.curtain = true ∧ (s06a 4).curOn ↑(postStream p) =
      true ∧ beatLe (s06a 4).curtain[postStream p].enableBeat (postBeat p) = true) ∧ fld (p.words.getD (2 : Nat) (0 : Word)) (13 : Nat) (3 : Nat) ≤
      (4 : Nat) ∧ (postBeat p).toNat % (s06a 4).curPeriod ↑(postStream p) = (0 : Nat) ∧ beatLt p.beat (postBeat p) = true)) (nextPosted (s06a
      4).posted) = true) ∧
    (Option.any (fun p => decide ((s06a 5).curNext = some CurWork.posting ∧ ((s06a 5).pageEn Page.curtain = true ∧ (s06a 5).curOn ↑(postStream p) =
      true ∧ beatLe (s06a 5).curtain[postStream p].enableBeat (postBeat p) = true) ∧ fld (p.words.getD (2 : Nat) (0 : Word)) (13 : Nat) (3 : Nat) ≤
      (4 : Nat) ∧ (postBeat p).toNat % (s06a 5).curPeriod ↑(postStream p) = (0 : Nat) ∧ beatLt p.beat (postBeat p) = false ∧ beatLe (postBeat p +
      BitVec.ofNat (64 : Nat) (latFor (s06a 5).curtain[postStream p].regimes (postBeat p))) p.beat = true)) (nextPosted (s06a 5).posted) = true) ∧
    (Option.any (fun p => decide ((s06a 7).curNext = some CurWork.posting ∧ ((s06a 7).pageEn Page.curtain = true ∧ (s06a 7).curOn ↑(postStream p) =
      true ∧ beatLe (s06a 7).curtain[postStream p].enableBeat (postBeat p) = true) ∧ fld (p.words.getD (2 : Nat) (0 : Word)) (13 : Nat) (3 : Nat) ≤
      (4 : Nat) ∧ (postBeat p).toNat % (s06a 7).curPeriod ↑(postStream p) = (0 : Nat) ∧ beatLt p.beat (postBeat p) = false ∧ beatLe (postBeat p +
      BitVec.ofNat (64 : Nat) (latFor (s06a 7).curtain[postStream p].regimes (postBeat p))) p.beat = false ∧ Option.any (fun h => decide (h.b =
      postBeat p)) ((s06a 7).heldAt ((s06a 7).entryOf (↑(postStream p)) (postBeat p))) = true)) (nextPosted (s06a 7).posted) = true) ∧
    (Option.any (fun p => decide ((s06a 2).curNext = some CurWork.posting ∧ ((s06a 2).pageEn Page.curtain = true ∧ (s06a 2).curOn ↑(postStream p) =
      true ∧ beatLe (s06a 2).curtain[postStream p].enableBeat (postBeat p) = true) ∧ fld (p.words.getD (2 : Nat) (0 : Word)) (13 : Nat) (3 : Nat) ≤
      (4 : Nat) ∧ (postBeat p).toNat % (s06a 2).curPeriod ↑(postStream p) = (0 : Nat) ∧ beatLt p.beat (postBeat p) = false ∧ beatLe (postBeat p +
      BitVec.ofNat (64 : Nat) (latFor (s06a 2).curtain[postStream p].regimes (postBeat p))) p.beat = false ∧ Option.all (fun h => h.b != postBeat
      p) ((s06a 2).heldAt ((s06a 2).entryOf (↑(postStream p)) (postBeat p))) = true)) (nextPosted (s06a 2).posted) = true) := by
  refine ⟨?_, ?_, ?_, ?_, ?_, ?_, ?_, ?_, ?_, ?_, ?_, ?_⟩ <;> decide +kernel

/-- Meets the hypotheses of `Obligations.CurtainRelease`, clause by clause. -/
theorem witness_CurtainRelease :
    ((s06a 0).pageEn Page.curtain = false ∨ beatLe (s06a 0).relNext (s06a 0).beatno = false ∨ (s06a 0).curNext = none) ∧
    ((s06a 6).curNext = some CurWork.release) ∧
    (CurWork.release ≠ CurWork.posting ∧ (s06a 2).curComes CurWork.release = true ∧ (s06a 2).curNext = some CurWork.posting ∧ ((s06a 2).curDo
      CurWork.posting).curNext = some CurWork.release) ∧
    ((s06a 0).Canonical ∧ spWf (fun x => none) (s06a 0).store = true) ∧
    ((s06a 0).Canonical ∧ ¬((s06a 0).portUp (Fin.ofNat (128 : Nat) (3 : Nat)) = true ∧ ((s06a 0).portRole (Fin.ofNat (128 : Nat) (3 : Nat)) = (1 :
      Nat) ∧ (3 : Nat) < (8 : Nat) ∨ (s06a 0).portRole (Fin.ofNat (128 : Nat) (3 : Nat)) = (2 : Nat) ∧ (3 : Nat) = (9 : Nat)))) ∧
    ((s06a 34).Canonical ∧ ((s06a 34).portUp (Fin.ofNat (128 : Nat) (3 : Nat)) = true ∧ ((s06a 34).portRole (Fin.ofNat (128 : Nat) (3 : Nat)) = (1
      : Nat) ∧ (3 : Nat) < (8 : Nat) ∨ (s06a 34).portRole (Fin.ofNat (128 : Nat) (3 : Nat)) = (2 : Nat) ∧ (3 : Nat) = (9 : Nat))) ∧ (128 : Nat) ≤
      (s06a 34).ports[Fin.ofNat (128 : Nat) (3 : Nat)].relQ.length) ∧
    ((s06a 33).Canonical ∧ ((s06a 33).portUp (Fin.ofNat (128 : Nat) (3 : Nat)) = true ∧ ((s06a 33).portRole (Fin.ofNat (128 : Nat) (3 : Nat)) = (1
      : Nat) ∧ (3 : Nat) < (8 : Nat) ∨ (s06a 33).portRole (Fin.ofNat (128 : Nat) (3 : Nat)) = (2 : Nat) ∧ (3 : Nat) = (9 : Nat))) ∧ (s06a
      33).ports[Fin.ofNat (128 : Nat) (3 : Nat)].relQ.length < (128 : Nat)) := by
  refine ⟨?_, ?_, ?_, ?_, ?_, ?_, ?_⟩ <;> decide +kernel

/-- Meets the hypotheses of `Obligations.CurtainStreams`, clause by clause. -/
theorem witness_CurtainStreams :
    ((s06a 1).Canonical ∧ (s06a 1).srstBusy Page.curtain = false ∧ (s06a 1).Accepts (Master.hrp (3 : BitVec 8)) (curAddr (3 : Fin 64).val (0 :
      Nat)) ∧ (s06a 1).curtainTurn = false) ∧
    ((s06a 1).Canonical ∧ (s06a 1).srstBusy Page.curtain = false ∧ (s06a 1).Accepts (Master.hrp (3 : BitVec 8)) (curAddr (3 : Fin 64).val 0 + 8) ∧
      (s06a 1).curtainTurn = false) ∧
    ((s06a 6).Canonical ∧ (s06a 6).srstBusy Page.curtain = false ∧ (s06a 6).Accepts (Master.hrp (3 : BitVec 8)) (curAddr (3 : Fin 64).val (0 :
      Nat)) ∧ (s06a 6).curtainTurn = true ∧ (s06a 6).curOn (3 : Fin 64).val = true) ∧
    ((s06a 0).Canonical ∧ (s06a 0).srstBusy Page.curtain = false ∧ (s06a 0).Accepts (Master.hrp (3 : BitVec 8)) (curAddr (3 : Fin 64).val (0 :
      Nat)) ∧ (s06a 0).curtainTurn = true ∧ (s06a 0).curOn (3 : Fin 64).val = false ∧ ((s06a 0).setReg (curAddr (3 : Fin 64).val (0 : Nat))
      (withBit (0 : Word) (31 : Nat) &&& (63 : Word))).allocBad (3 : Fin 64).val = true) ∧
    ((s06a 0).Canonical ∧ (s06a 0).srstBusy Page.curtain = false ∧ (s06a 0).Accepts (Master.hrp (3 : BitVec 8)) (curAddr (3 : Fin 64).val (0 :
      Nat)) ∧ (s06a 0).curtainTurn = true ∧ (s06a 0).curOn (3 : Fin 64).val = false ∧ ((s06a 0).setReg (curAddr (3 : Fin 64).val (0 : Nat))
      (withBit (2147483729 : Word) (31 : Nat) &&& (63 : Word))).allocBad (3 : Fin 64).val = false) ∧
    ((s06a 0).Canonical ∧ (s06a 0).srstBusy Page.curtain = false ∧ (s06a 0).Accepts (Master.hrp (3 : BitVec 8)) (curAddr (3 : Fin 64).val (0 :
      Nat)) ∧ (s06a 0).curtainTurn = true ∧ (s06a 0).curOn (3 : Fin 64).val = false) ∧
    ((s06a 6).Canonical ∧ (s06a 6).srstBusy Page.curtain = false ∧ (s06a 6).Accepts (Master.hrp (3 : BitVec 8)) (curAddr (3 : Fin 64).val 0 + 8) ∧
      (s06a 6).curtainTurn = true ∧ ¬((s06a 6).curOn (3 : Fin 64).val = true → (s06a 6).depthOk ((3 : Fin 64).val) (max ((s06a 6).curLat (3 : Fin
      64).val) (latOf (2147483729 : Word))) = true)) ∧
    ((s06a 0).Canonical ∧ (s06a 0).srstBusy Page.curtain = false ∧ (s06a 0).Accepts (Master.hrp (3 : BitVec 8)) (curAddr (3 : Fin 64).val 0 + 8) ∧
      (s06a 0).curtainTurn = true ∧ ((s06a 0).curOn (3 : Fin 64).val = true → (s06a 0).depthOk ((3 : Fin 64).val) (max ((s06a 0).curLat (3 : Fin
      64).val) (latOf (0 : Word))) = true)) ∧
    (takeFirst (fun w => w.curtain) (s06a 0).islandQ = none) ∧
    (Option.any (fun p => decide (beatLe p.fst.due (s06a 32).beatno = false ∨ (s06a 32).curNext = none)) (takeFirst (fun w => w.curtain) (s06a
      32).islandQ) = true) ∧
    ((takeFirst (fun w : IslandWrite => w.curtain) (s06a 24).islandQ).any (fun x => (s06a 24).curtainDue x.1 && x.1.addr == curAddr 3 0x10) = true
      ∧ (s06a 24).Canonical ∧ (s06a 24).srstBusy .curtain = false) ∧
    ((takeFirst (fun w : IslandWrite => w.curtain) (s06a 37).islandQ).any (fun x => (s06a 37).curtainDue x.1 && x.1.addr == curAddr 3 0x10 && (s06a
      37).regHeld x.1.addr) = true ∧ (s06a 37).Canonical ∧ (s06a 37).srstBusy .curtain = false) := by
  refine ⟨?_, ?_, ?_, ?_, ?_, ?_, ?_, ?_, ?_, ?_, ?_, ?_⟩ <;> decide +kernel

/-- Meets the hypotheses of `Obligations.WingsStaging`, clause by clause. -/
theorem witness_WingsStaging :
    ((s06b 0).srstBusy Page.wings = false ∧ (s06b 0).Accepts (Master.xbar (16 : Fin 21)) (wslotAddr (3 : Fin 8) (0 : Nat)) ∧ ((s06b 0).slots[(3 :
      Fin 8)].st ≠ TState.free ∨ (s06b 0).pageEn Page.wings = false)) ∧
    ((s06b 1).srstBusy Page.wings = false ∧ (s06b 1).Accepts (Master.xbar (16 : Fin 21)) (wslotAddr (3 : Fin 8) (0 : Nat)) ∧ (s06b 1).slots[(3 :
      Fin 8)].st = TState.free ∧ (s06b 1).pageEn Page.wings = true ∧ Option.any (fun r => true) (s06b 1).cbFree = true) ∧
    ((s06b 2).srstBusy Page.wings = false ∧ (s06b 2).Accepts (Master.xbar (16 : Fin 21)) (wslotAddr (3 : Fin 8) (0 : Nat)) ∧ (s06b 2).slots[(3 :
      Fin 8)].st = TState.free ∧ (s06b 2).pageEn Page.wings = true ∧ (s06b 2).cbFree = none) ∧
    ((s06b 0).srstBusy Page.wings = false ∧ (s06b 0).Accepts (Master.xbar (16 : Fin 21)) (wslotAddr (3 : Fin 8) (8 : Nat)) ∧ ((s06b 0).slots[(3 :
      Fin 8)].st ≠ TState.opened ∨ (s06b 0).frozen Page.wings = true)) ∧
    ((s06b 17).srstBusy Page.wings = false ∧ (s06b 17).Accepts (Master.xbar (16 : Fin 21)) (wslotAddr (3 : Fin 8) (8 : Nat)) ∧ (s06b 17).slots[(3 :
      Fin 8)].st = TState.opened ∧ (s06b 17).frozen Page.wings = false ∧ (4096 : Nat) ≤ (s06b 17).stagedEntries) ∧
    ((s06b 3).srstBusy Page.wings = false ∧ (s06b 3).Accepts (Master.xbar (16 : Fin 21)) (wslotAddr (3 : Fin 8) (8 : Nat)) ∧ (s06b 3).slots[(3 :
      Fin 8)].st = TState.opened ∧ (s06b 3).frozen Page.wings = false ∧ (s06b 3).stagedEntries < (4096 : Nat)) ∧
    ((s06b 0).srstBusy Page.wings = false ∧ (s06b 0).Accepts (Master.xbar (16 : Fin 21)) (wslotAddr (3 : Fin 8) (12 : Nat)) ∧ ((s06b 0).slots[(3 :
      Fin 8)].st ≠ TState.opened ∨ (s06b 0).frozen Page.wings = true)) ∧
    ((s06b 17).srstBusy Page.wings = false ∧ (s06b 17).Accepts (Master.xbar (16 : Fin 21)) (wslotAddr (3 : Fin 8) (12 : Nat)) ∧ (s06b 17).slots[(3
      : Fin 8)].st = TState.opened ∧ (s06b 17).frozen Page.wings = false ∧ ((16384 : Nat) ≤ (s06b 17).stagedWords ∨ (s06b 17).slots[(3 : Fin
      8)].entryOpen = false ∧ (4096 : Nat) ≤ (s06b 17).stagedEntries)) ∧
    ((s06b 3).srstBusy Page.wings = false ∧ (s06b 3).Accepts (Master.xbar (16 : Fin 21)) (wslotAddr (3 : Fin 8) (12 : Nat)) ∧ (s06b 3).slots[(3 :
      Fin 8)].st = TState.opened ∧ (s06b 3).frozen Page.wings = false ∧ (s06b 3).stagedWords < (16384 : Nat) ∧ (s06b 3).slots[(3 : Fin
      8)].entryOpen = false ∧ (s06b 3).stagedEntries < (4096 : Nat)) ∧
    ((s06b 4).srstBusy Page.wings = false ∧ (s06b 4).Accepts (Master.xbar (16 : Fin 21)) (wslotAddr (3 : Fin 8) (12 : Nat)) ∧ (s06b 4).slots[(3 :
      Fin 8)].st = TState.opened ∧ (s06b 4).frozen Page.wings = false ∧ (s06b 4).stagedWords < (16384 : Nat) ∧ (s06b 4).slots[(3 : Fin
      8)].entryOpen = true) := by
  refine ⟨?_, ?_, ?_, ?_, ?_, ?_, ?_, ?_, ?_, ?_⟩ <;> decide +kernel

/-- Meets the hypotheses of `Obligations.WingsPrepareRaise`, clause by clause. -/
theorem witness_WingsPrepareRaise_1 :
    ((s06b 0).srstBusy Page.wings = false ∧ (s06b 0).Accepts (Master.xbar (16 : Fin 21)) (wslotAddr (3 : Fin 8) (0 : Nat)) ∧ (s06b 0).slots[(3 :
      Fin 8)].st ≠ TState.opened) ∧
    ((s06b 3).srstBusy Page.wings = false ∧ (s06b 3).Accepts (Master.xbar (16 : Fin 21)) (wslotAddr (3 : Fin 8) (0 : Nat)) ∧ (s06b 3).slots[(3 :
      Fin 8)].st = TState.opened ∧ (s06b 3).slots[(3 : Fin 8)].granted = false ∧ (s06b 3).charge (100 : Nat) ≤ (s06b 3).avail ∧ ∀ (q : PermitReq),
      q ∈ (s06b 3).permit.q0 ++ (s06b 3).permit.q1 ++ (s06b 3).permit.q2 → q.who ≠ Requester.prepare (3 : Fin 8)) ∧
    ((s06b 0).srstBusy Page.wings = false ∧ (s06b 0).Accepts (Master.xbar (16 : Fin 21)) (wslotAddr (3 : Fin 8) (0 : Nat)) ∧ ((s06b 0).slots[(3 :
      Fin 8)].st = TState.free ∨ (s06b 0).slots[(3 : Fin 8)].st = TState.voting ∨ (s06b 0).slots[(3 : Fin 8)].st = TState.armed)) ∧
    ((s06b 5).srstBusy Page.wings = false ∧ (s06b 5).Accepts (Master.xbar (16 : Fin 21)) (wslotAddr (3 : Fin 8) (0 : Nat)) ∧ (s06b 5).slots[(3 :
      Fin 8)].st = TState.preparing) ∧
    ((s06b 39).srstBusy Page.wings = false ∧ (s06b 39).Accepts (Master.xbar (16 : Fin 21)) (wslotAddr (3 : Fin 8) (0 : Nat)) ∧ (s06b 39).slots[(3 :
      Fin 8)].st = TState.prepared ∧ (s06b 39).frozen Page.wings = true) ∧
    ((s06b 8).srstBusy Page.wings = false ∧ (s06b 8).Accepts (Master.xbar (16 : Fin 21)) (wslotAddr (3 : Fin 8) (0 : Nat)) ∧ (s06b 8).slots[(3 :
      Fin 8)].st = TState.prepared ∧ (s06b 8).frozen Page.wings = false ∧ (s06b 8).raiseMin ≤ BitVec.toNat ((s06b 8).tbeat (3 : Fin 8) - (s06b
      8).beatno) ∧ BitVec.toNat ((s06b 8).tbeat (3 : Fin 8) - (s06b 8).beatno) < 2 ^ 31 ∧ (s06b 8).tglobal (3 : Fin 8) = false) ∧
    ((s06b 42).srstBusy Page.wings = false ∧ (s06b 42).Accepts (Master.xbar (16 : Fin 21)) (wslotAddr (3 : Fin 8) (0 : Nat)) ∧ (s06b 42).slots[(3 :
      Fin 8)].st = TState.prepared ∧ (s06b 42).frozen Page.wings = false ∧ (s06b 42).raiseMin ≤ BitVec.toNat ((s06b 42).tbeat (3 : Fin 8) - (s06b
      42).beatno) ∧ BitVec.toNat ((s06b 42).tbeat (3 : Fin 8) - (s06b 42).beatno) < 2 ^ 31 ∧ (s06b 42).tglobal (3 : Fin 8) = true ∧ (s06b
      42).tcoord (3 : Fin 8) = true ∧ ((List.finRange (8 : Nat)).any fun o => o != (3 : Fin 8) && (s06b 42).slots[o].st != TState.free && (s06b
      42).tglobal o && (s06b 42).gtag o == (s06b 42).gtag (3 : Fin 8)) = false ∧ (1 : Nat) ≤ fld ((s06b 42).tglob (3 : Fin 8)) (16 : Nat) (10 :
      Nat) ∧ fld ((s06b 42).tglob (3 : Fin 8)) (16 : Nat) (10 : Nat) ≤ (512 : Nat) ∧ (1 : Nat) ≤ fld ((s06b 42).tglob (3 : Fin 8)) (0 : Nat) (16 :
      Nat) ∧ beatLe ((s06b 42).tbeat (3 : Fin 8)) ((s06b 42).beatno + BitVec.ofNat (64 : Nat) (fld ((s06b 42).tglob (3 : Fin 8)) (0 : Nat) (16 :
      Nat))) = false) ∧
    ((s06b 40).srstBusy Page.wings = false ∧ (s06b 40).Accepts (Master.xbar (16 : Fin 21)) (wslotAddr (3 : Fin 8) (0 : Nat)) ∧ (s06b 40).slots[(3 :
      Fin 8)].st = TState.prepared ∧ (s06b 40).frozen Page.wings = false ∧ (s06b 40).tglobal (3 : Fin 8) = true ∧ (s06b 40).tcoord (3 : Fin 8) =
      false ∧ ((List.finRange (8 : Nat)).any fun o => o != (3 : Fin 8) && (s06b 40).slots[o].st != TState.free && (s06b 40).tglobal o && (s06b
      40).gtag o == (s06b 40).gtag (3 : Fin 8)) = false ∧ (0 : Nat) < BitVec.toNat ((s06b 40).tbeat (3 : Fin 8) - (s06b 40).beatno) ∧ BitVec.toNat
      ((s06b 40).tbeat (3 : Fin 8) - (s06b 40).beatno) < 2 ^ 31 ∧ (s06b 40).slots[(3 : Fin 8)].prep = none) ∧
    ((s06b 46).srstBusy Page.wings = false ∧ (s06b 46).Accepts (Master.xbar (16 : Fin 21)) (wslotAddr (3 : Fin 8) (0 : Nat)) ∧ (s06b 46).slots[(3 :
      Fin 8)].st = TState.prepared ∧ (s06b 46).frozen Page.wings = false ∧ (s06b 46).tglobal (3 : Fin 8) = true ∧ (s06b 46).tcoord (3 : Fin 8) =
      false ∧ ((List.finRange (8 : Nat)).any fun o => o != (3 : Fin 8) && (s06b 46).slots[o].st != TState.free && (s06b 46).tglobal o && (s06b
      46).gtag o == (s06b 46).gtag (3 : Fin 8)) = false ∧ (0 : Nat) < BitVec.toNat ((s06b 46).tbeat (3 : Fin 8) - (s06b 46).beatno) ∧ BitVec.toNat
      ((s06b 46).tbeat (3 : Fin 8) - (s06b 46).beatno) < 2 ^ 31 ∧ Option.any (fun p => decide ((s06b 46).slots[(3 : Fin 8)].voted = false ∧ (s06b
      46).alarm = false ∧ beatLt ((s06b 46).tbeat (3 : Fin 8)) p.fst = false)) (s06b 46).slots[(3 : Fin 8)].prep = true) ∧
    ((s06b 7).srstBusy Page.wings = false ∧ (s06b 7).Accepts (Master.xbar (16 : Fin 21)) (wslotAddr (3 : Fin 8) (0 : Nat)) ∧ (s06b 7).slots[(3 :
      Fin 8)].st = TState.prepared ∧ (s06b 7).frozen Page.wings = false ∧ (s06b 7).Canonical ∧ (∀ (j : Fin 16), (s06b 7).bists[j] = none) ∧ (s06b
      7).bulk = none ∧ (s06b 7).slots[(3 : Fin 8)].prep = none ∧ (s06b 7).tglobal (3 : Fin 8) = false ∧ (BitVec.toNat ((s06b 7).tbeat (3 : Fin 8) -
      (s06b 7).beatno) < (s06b 7).raiseMin ∨ 2 ^ 31 ≤ BitVec.toNat ((s06b 7).tbeat (3 : Fin 8) - (s06b 7).beatno)) ∧ Option.any (fun r => true)
      (s06b 7).slots[(3 : Fin 8)].rec? = true) ∧
    ((s06b 47).srstBusy Page.wings = false ∧ (s06b 47).Accepts (Master.xbar (16 : Fin 21)) (wslotAddr (3 : Fin 8) (0 : Nat)) ∧ (s06b 47).slots[(3 :
      Fin 8)].st = TState.prepared ∧ (s06b 47).frozen Page.wings = false ∧ (s06b 47).Canonical ∧ (∀ (j : Fin 16), (s06b 47).bists[j] = none) ∧
      (s06b 47).bulk = none ∧ (s06b 47).slots[(3 : Fin 8)].prep = none ∧ (s06b 47).tglobal (3 : Fin 8) = true ∧ ((List.finRange (8 : Nat)).any fun
      o => o != (3 : Fin 8) && (s06b 47).slots[o].st != TState.free && (s06b 47).tglobal o && (s06b 47).gtag o == (s06b 47).gtag (3 : Fin 8)) =
      true ∧ Option.any (fun r => true) (s06b 47).slots[(3 : Fin 8)].rec? = true) := by
  refine ⟨?_, ?_, ?_, ?_, ?_, ?_, ?_, ?_, ?_, ?_, ?_⟩ <;> decide +kernel

/-- Meets the hypotheses of `Obligations.WingsPrepareRaise`, clause by clause. -/
theorem witness_WingsPrepareRaise_2 :
    ((s06b 43).srstBusy Page.wings = false ∧ (s06b 43).Accepts (Master.xbar (16 : Fin 21)) (wslotAddr (3 : Fin 8) (0 : Nat)) ∧ (s06b 43).slots[(3 :
      Fin 8)].st = TState.prepared ∧ (s06b 43).frozen Page.wings = false ∧ (s06b 43).Canonical ∧ (∀ (j : Fin 16), (s06b 43).bists[j] = none) ∧
      (s06b 43).bulk = none ∧ (s06b 43).slots[(3 : Fin 8)].prep = none ∧ (s06b 43).tglobal (3 : Fin 8) = true ∧ (s06b 43).tcoord (3 : Fin 8) = true
      ∧ (fld ((s06b 43).tglob (3 : Fin 8)) (16 : Nat) (10 : Nat) = (0 : Nat) ∨ (512 : Nat) < fld ((s06b 43).tglob (3 : Fin 8)) (16 : Nat) (10 :
      Nat) ∨ fld ((s06b 43).tglob (3 : Fin 8)) (0 : Nat) (16 : Nat) = (0 : Nat) ∨ beatLe ((s06b 43).tbeat (3 : Fin 8)) ((s06b 43).beatno +
      BitVec.ofNat (64 : Nat) (fld ((s06b 43).tglob (3 : Fin 8)) (0 : Nat) (16 : Nat))) = true) ∧ Option.any (fun r => true) (s06b 43).slots[(3 :
      Fin 8)].rec? = true) ∧
    ((s06b 41).srstBusy Page.wings = false ∧ (s06b 41).Accepts (Master.xbar (16 : Fin 21)) (wslotAddr (3 : Fin 8) (0 : Nat)) ∧ (s06b 41).slots[(3 :
      Fin 8)].st = TState.prepared ∧ (s06b 41).frozen Page.wings = false ∧ (s06b 41).Canonical ∧ (∀ (j : Fin 16), (s06b 41).bists[j] = none) ∧
      (s06b 41).bulk = none ∧ (s06b 41).slots[(3 : Fin 8)].prep = none ∧ (s06b 41).tglobal (3 : Fin 8) = true ∧ (s06b 41).tcoord (3 : Fin 8) = true
      ∧ ((List.finRange (8 : Nat)).any fun o => o != (3 : Fin 8) && (s06b 41).slots[o].st != TState.free && (s06b 41).tglobal o && (s06b 41).gtag o
      == (s06b 41).gtag (3 : Fin 8)) = false ∧ (1 : Nat) ≤ fld ((s06b 41).tglob (3 : Fin 8)) (16 : Nat) (10 : Nat) ∧ fld ((s06b 41).tglob (3 : Fin
      8)) (16 : Nat) (10 : Nat) ≤ (512 : Nat) ∧ (1 : Nat) ≤ fld ((s06b 41).tglob (3 : Fin 8)) (0 : Nat) (16 : Nat) ∧ beatLe ((s06b 41).tbeat (3 :
      Fin 8)) ((s06b 41).beatno + BitVec.ofNat (64 : Nat) (fld ((s06b 41).tglob (3 : Fin 8)) (0 : Nat) (16 : Nat))) = false ∧ (BitVec.toNat ((s06b
      41).tbeat (3 : Fin 8) - (s06b 41).beatno) < (s06b 41).raiseMin ∨ 2 ^ 31 ≤ BitVec.toNat ((s06b 41).tbeat (3 : Fin 8) - (s06b 41).beatno)) ∧
      Option.any (fun r => true) (s06b 41).slots[(3 : Fin 8)].rec? = true) ∧
    ((s06b 24).srstBusy Page.wings = false ∧ (s06b 24).Accepts (Master.xbar (16 : Fin 21)) (wslotAddr (3 : Fin 8) (0 : Nat)) ∧ (s06b 24).slots[(3 :
      Fin 8)].st = TState.prepared ∧ (s06b 24).frozen Page.wings = false ∧ (s06b 24).Canonical ∧ (∀ (j : Fin 16), (s06b 24).bists[j] = none) ∧
      (s06b 24).bulk = none ∧ (s06b 24).slots[(3 : Fin 8)].prep = none ∧ (s06b 24).tglobal (3 : Fin 8) = true ∧ (s06b 24).tcoord (3 : Fin 8) =
      false ∧ ((List.finRange (8 : Nat)).any fun o => o != (3 : Fin 8) && (s06b 24).slots[o].st != TState.free && (s06b 24).tglobal o && (s06b
      24).gtag o == (s06b 24).gtag (3 : Fin 8)) = false ∧ (BitVec.toNat ((s06b 24).tbeat (3 : Fin 8) - (s06b 24).beatno) = (0 : Nat) ∨ 2 ^ 31 ≤
      BitVec.toNat ((s06b 24).tbeat (3 : Fin 8) - (s06b 24).beatno)) ∧ Option.any (fun r => true) (s06b 24).slots[(3 : Fin 8)].rec? = true) ∧
    ((s06b 0).Canonical ∧ (∀ (j : Fin 16), (s06b 0).bists[j] = none) ∧ (s06b 0).bulk = none ∧ ((s06b 0).slots[(3 : Fin 8)].st ≠ TState.preparing ∨
      (s06b 0).slots[(3 : Fin 8)].granted = false ∨ (s06b 0).frozen Page.wings = true)) ∧
    ((s06b 6).Canonical ∧ (∀ (j : Fin 16), (s06b 6).bists[j] = none) ∧ (s06b 6).bulk = none ∧ (s06b 6).slots[(3 : Fin 8)].st = TState.preparing ∧
      (s06b 6).slots[(3 : Fin 8)].granted = true ∧ (s06b 6).frozen Page.wings = false ∧ (s06b 6).prepareCheck (3 : Fin 8) = none ∧ (s06b
      6).slots[(3 : Fin 8)].raiseAsked = false) ∧
    ((s06b 16).Canonical ∧ (∀ (j : Fin 16), (s06b 16).bists[j] = none) ∧ (s06b 16).bulk = none ∧ (s06b 16).slots[(3 : Fin 8)].st = TState.preparing
      ∧ (s06b 16).slots[(3 : Fin 8)].granted = true ∧ (s06b 16).frozen Page.wings = false ∧ Option.any (fun p => decide ((s06b 16).slots[(3 : Fin
      8)].prep = none ∧ Option.any (fun r => true) (s06b 16).slots[(3 : Fin 8)].rec? = true)) ((s06b 16).prepareCheck (3 : Fin 8)) = true) := by
  refine ⟨?_, ?_, ?_, ?_, ?_, ?_⟩ <;> decide +kernel

/-- Meets the hypotheses of `Obligations.WingsRaise`, clause by clause. -/
theorem witness_WingsRaise :
    ((s06b 0).Canonical ∧ (∀ (j : Fin 16), (s06b 0).bists[j] = none) ∧ (s06b 0).bulk = none ∧ (s06b 0).nextRaise = none) ∧
    ((s06b 10).Canonical ∧ (∀ (j : Fin 16), (s06b 10).bists[j] = none) ∧ (s06b 10).bulk = none ∧ Option.any (fun r => decide (beatLe r (s06b
      10).beatno = false ∨ (s06b 10).curNext = none)) (s06b 10).nextRaise = true) ∧
    ((s06b 11).Canonical ∧ (∀ (j : Fin 16), (s06b 11).bists[j] = none) ∧ (s06b 11).bulk = none ∧ Option.any (fun r => decide ((s06b 11).curNext =
      some CurWork.raise)) (s06b 11).nextRaise = true) := by
  refine ⟨?_, ?_, ?_⟩ <;> decide +kernel

/-- Meets the hypotheses of `Obligations.WingsGlobal`, clause by clause. -/
theorem witness_WingsGlobal_1 :
    ((s06c 1).sysEn = false) ∧
    (∀ (k : Fin 8), (s06c 0).slots[k].st = TState.free ∧ (s06c 0).slots[k].prep = none ∧ (s06c 0).tglobal k = false) ∧
    ((s06c 14).Canonical ∧ (∀ (j : Fin 16), (s06c 14).bists[j] = none) ∧ (s06c 14).bulk = none ∧ (s06c 14).sysEn = true ∧ (s06c 14).tglobal (3 :
      Fin 8) = true ∧ (∀ (k' : Fin 8), k' ≠ (3 : Fin 8) → (s06c 14).slots[k'].st = TState.free ∧ (s06c 14).slots[k'].prep = none) ∧ (s06c
      14).tcoord (3 : Fin 8) = false ∧ (s06c 14).slots[(3 : Fin 8)].prep = none ∧ ((s06c 14).slots[(3 : Fin 8)].st = TState.prepared ∨ (s06c
      14).slots[(3 : Fin 8)].st = TState.preparing)) ∧
    ((s06c 3).Canonical ∧ (∀ (j : Fin 16), (s06c 3).bists[j] = none) ∧ (s06c 3).bulk = none ∧ (s06c 3).sysEn = true ∧ (s06c 3).tglobal (3 : Fin 8)
      = true ∧ (∀ (k' : Fin 8), k' ≠ (3 : Fin 8) → (s06c 3).slots[k'].st = TState.free ∧ (s06c 3).slots[k'].prep = none) ∧ (s06c 3).tcoord (3 : Fin
      8) = false ∧ (s06c 3).slots[(3 : Fin 8)].prep = none ∧ (s06c 3).slots[(3 : Fin 8)].st = TState.voting ∧ (s06c 3).slots[(3 : Fin 8)].voted =
      false ∧ (s06c 3).alarm = false ∧ beatLt ((s06c 3).tbeat (3 : Fin 8)) (4111 : Word64) = false ∧ beatLe (s06c 3).slots[(3 : Fin 8)].raiseBeat
      (s06c 3).beatno = false) ∧
    ((s06c 4).Canonical ∧ (∀ (j : Fin 16), (s06c 4).bists[j] = none) ∧ (s06c 4).bulk = none ∧ (s06c 4).sysEn = true ∧ (s06c 4).tglobal (3 : Fin 8)
      = true ∧ (∀ (k' : Fin 8), k' ≠ (3 : Fin 8) → (s06c 4).slots[k'].st = TState.free ∧ (s06c 4).slots[k'].prep = none) ∧ (s06c 4).tcoord (3 : Fin
      8) = false ∧ (∀ (k' : Fin 8), k' ≠ (3 : Fin 8) → (s06c 4).tglobal k' = false ∨ (s06c 4).tcoord k' = false) ∧ Option.any (fun q => decide
      (Option.any (fun p => decide (((s06c 4).slots[(3 : Fin 8)].st = TState.opened ∨ (s06c 4).slots[(3 : Fin 8)].st = TState.preparing ∨ (s06c
      4).slots[(3 : Fin 8)].st = TState.prepared ∨ (s06c 4).slots[(3 : Fin 8)].st = TState.voting ∧ ((s06c 4).slots[(3 : Fin 8)].voted = false ∨
      beatLe p.fst (s06c 4).beatno = false)) ∧ (3 : BitVec 9) ≠ p.snd.snd)) (s06c 4).slots[(3 : Fin 8)].prep = true)) (s06c 4).slots[(3 : Fin
      8)].rec? = true) ∧
    ((s06c 3).Canonical ∧ (∀ (j : Fin 16), (s06c 3).bists[j] = none) ∧ (s06c 3).bulk = none ∧ (s06c 3).sysEn = true ∧ (s06c 3).tglobal (3 : Fin 8)
      = true ∧ (∀ (k' : Fin 8), k' ≠ (3 : Fin 8) → (s06c 3).slots[k'].st = TState.free ∧ (s06c 3).slots[k'].prep = none) ∧ (s06c 3).tcoord (3 : Fin
      8) = false ∧ (∀ (k' : Fin 8), k' ≠ (3 : Fin 8) → (s06c 3).tglobal k' = false ∨ (s06c 3).tcoord k' = false) ∧ Option.any (fun q => decide
      ((s06c 3).slots[(3 : Fin 8)].prep = none ∧ ((s06c 3).slots[(3 : Fin 8)].st = TState.opened ∨ (s06c 3).slots[(3 : Fin 8)].st =
      TState.preparing ∨ (s06c 3).slots[(3 : Fin 8)].st = TState.prepared ∨ (s06c 3).slots[(3 : Fin 8)].st = TState.voting ∧ beatLe (s06c
      3).slots[(3 : Fin 8)].raiseBeat (s06c 3).beatno = false))) (s06c 3).slots[(3 : Fin 8)].rec? = true) ∧
    ((s06c 5).Canonical ∧ (∀ (j : Fin 16), (s06c 5).bists[j] = none) ∧ (s06c 5).bulk = none ∧ (s06c 5).sysEn = true ∧ (s06c 5).tglobal (3 : Fin 8)
      = true ∧ (∀ (k' : Fin 8), k' ≠ (3 : Fin 8) → (s06c 5).slots[k'].st = TState.free ∧ (s06c 5).slots[k'].prep = none) ∧ (s06c 5).tcoord (3 : Fin
      8) = false ∧ (s06c 5).slots[(3 : Fin 8)].prep = none ∧ (s06c 5).slots[(3 : Fin 8)].st = TState.voting ∧ beatLe (s06c 5).slots[(3 : Fin
      8)].raiseBeat (s06c 5).beatno = true ∧ Option.any (fun q => true) (s06c 5).slots[(3 : Fin 8)].rec? = true) ∧
    ((s06c 6).Canonical ∧ (∀ (j : Fin 16), (s06c 6).bists[j] = none) ∧ (s06c 6).bulk = none ∧ (s06c 6).sysEn = true ∧ (s06c 6).tglobal (3 : Fin 8)
      = true ∧ (∀ (k' : Fin 8), k' ≠ (3 : Fin 8) → (s06c 6).slots[k'].st = TState.free ∧ (s06c 6).slots[k'].prep = none) ∧ (s06c 6).tcoord (3 : Fin
      8) = false ∧ Option.any (fun p => decide ((s06c 6).slots[(3 : Fin 8)].st = TState.voting ∧ (s06c 6).slots[(3 : Fin 8)].voted = true ∧ beatLe
      p.fst (s06c 6).beatno = true ∧ Option.any (fun q => true) (s06c 6).slots[(3 : Fin 8)].rec? = true)) (s06c 6).slots[(3 : Fin 8)].prep = true) ∧
    ((s06c 7).Canonical ∧ (∀ (j : Fin 16), (s06c 7).bists[j] = none) ∧ (s06c 7).bulk = none ∧ (s06c 7).sysEn = true ∧ (s06c 7).tglobal (3 : Fin 8)
      = true ∧ (∀ (k' : Fin 8), k' ≠ (3 : Fin 8) → (s06c 7).slots[k'].st = TState.free ∧ (s06c 7).slots[k'].prep = none) ∧ (s06c 7).tcoord (3 : Fin
      8) = true ∧ (s06c 7).slots[(3 : Fin 8)].st = TState.voting ∧ beatLe ((s06c 7).slots[(3 : Fin 8)].raiseBeat - BitVec.ofNat (64 : Nat) (fld
      ((s06c 7).tglob (3 : Fin 8)) (0 : Nat) (16 : Nat))) (s06c 7).beatno = false) ∧
    ((s06c 7).Canonical ∧ (∀ (j : Fin 16), (s06c 7).bists[j] = none) ∧ (s06c 7).bulk = none ∧ (s06c 7).sysEn = true ∧ (s06c 7).tglobal (3 : Fin 8)
      = true ∧ (∀ (k' : Fin 8), k' ≠ (3 : Fin 8) → (s06c 7).slots[k'].st = TState.free ∧ (s06c 7).slots[k'].prep = none) ∧ (s06c 7).tcoord (3 : Fin
      8) = true ∧ (s06c 7).slots[(3 : Fin 8)].st = TState.voting ∧ beatLt (s06c 7).beatno ((s06c 7).slots[(3 : Fin 8)].raiseBeat - BitVec.ofNat (64
      : Nat) (fld ((s06c 7).tglob (3 : Fin 8)) (0 : Nat) (16 : Nat))) = true) ∧
    ((s06c 11).Canonical ∧ (∀ (j : Fin 16), (s06c 11).bists[j] = none) ∧ (s06c 11).bulk = none ∧ (s06c 11).sysEn = true ∧ (s06c 11).tglobal (3 :
      Fin 8) = true ∧ (∀ (k' : Fin 8), k' ≠ (3 : Fin 8) → (s06c 11).slots[k'].st = TState.free ∧ (s06c 11).slots[k'].prep = none) ∧ (s06c
      11).tcoord (3 : Fin 8) = true ∧ (s06c 11).slots[(3 : Fin 8)].st = TState.voting ∧ beatLt (s06c 11).beatno ((s06c 11).slots[(3 : Fin
      8)].raiseBeat - BitVec.ofNat (64 : Nat) (fld ((s06c 11).tglob (3 : Fin 8)) (0 : Nat) (16 : Nat))) = false ∧ (s06c 11).alarm = false ∧ (s06c
      11).slots[(3 : Fin 8)].noVotes = [] ∧ fld ((s06c 11).tglob (3 : Fin 8)) (16 : Nat) 10 - (1 : Nat) ≤ (s06c 11).slots[(3 : Fin
      8)].votes.length) := by
  refine ⟨?_, ?_, ?_, ?_, ?_, ?_, ?_, ?_, ?_, ?_, ?_⟩ <;> decide +kernel

/-- Meets the hypotheses of `Obligations.WingsGlobal`, clause by clause. -/
theorem witness_WingsGlobal_2 :
    ((s06c 12).Canonical ∧ (∀ (j : Fin 16), (s06c 12).bists[j] = none) ∧ (s06c 12).bulk = none ∧ (s06c 12).sysEn = true ∧ (s06c 12).tglobal (3 :
      Fin 8) = true ∧ (∀ (k' : Fin 8), k' ≠ (3 : Fin 8) → (s06c 12).slots[k'].st = TState.free ∧ (s06c 12).slots[k'].prep = none) ∧ (s06c
      12).tcoord (3 : Fin 8) = true ∧ (s06c 12).slots[(3 : Fin 8)].st = TState.voting ∧ beatLt (s06c 12).beatno ((s06c 12).slots[(3 : Fin
      8)].raiseBeat - BitVec.ofNat (64 : Nat) (fld ((s06c 12).tglob (3 : Fin 8)) (0 : Nat) (16 : Nat))) = false ∧ (s06c 12).alarm = false ∧
      (consAnd (s06c 12).slots[(3 : Fin 8)].noVotes fun d l => decide (Option.any (fun q => true) (s06c 12).slots[(3 : Fin 8)].rec? = true)) =
      true) ∧
    ((s06c 10).Canonical ∧ (∀ (j : Fin 16), (s06c 10).bists[j] = none) ∧ (s06c 10).bulk = none ∧ (s06c 10).sysEn = true ∧ (s06c 10).tglobal (3 :
      Fin 8) = true ∧ (∀ (k' : Fin 8), k' ≠ (3 : Fin 8) → (s06c 10).slots[k'].st = TState.free ∧ (s06c 10).slots[k'].prep = none) ∧ (s06c
      10).tcoord (3 : Fin 8) = true ∧ (s06c 10).slots[(3 : Fin 8)].st = TState.voting ∧ beatLt (s06c 10).beatno ((s06c 10).slots[(3 : Fin
      8)].raiseBeat - BitVec.ofNat (64 : Nat) (fld ((s06c 10).tglob (3 : Fin 8)) (0 : Nat) (16 : Nat))) = false ∧ (s06c 10).alarm = false ∧ (s06c
      10).slots[(3 : Fin 8)].noVotes = [] ∧ (s06c 10).slots[(3 : Fin 8)].votes.length < fld ((s06c 10).tglob (3 : Fin 8)) (16 : Nat) 10 - (1 : Nat)
      ∧ Option.any (fun q => true) (s06c 10).slots[(3 : Fin 8)].rec? = true) := by
  refine ⟨?_, ?_⟩ <;> decide +kernel

end Sys2Proof.Tests.W06
end

