-- ==== Sys2Proof/Tests/Witness07.lean ====
section
/-!
SUPPORT. Witnesses: for each statement of part 07 of the obligations, states and operands that meet the hypotheses of each of its clauses.
-/
namespace Sys2Proof.Tests.W07
set_option linter.unusedVariables false
set_option Elab.async false
open Sys2Proof Sys2Proof.Machine Sys2Proof.Tests

def b0 : State := { State.reset with clkOk := true, beatno := 0x1234567 }
def en (p : Page) (s : State) : State := s.modReg (pageBase p + 8) (fun w => w ||| 1)
def up (n : Fin 128) (role : Nat) (s : State) : State := en (.link n) (s.setReg (linkAddr n 0x44) (BitVec.ofNat 32 (1 + role*16)))
def sys (dev : Nat) (s : State) : State := (s.setReg 0x80 (BitVec.ofNat 32 (2^31 + dev))).setReg 0x84 0x30000133
def peer (n : Fin 128) (dir nb : Nat) (s : State) : State := ((up n 2 s).setReg (linkAddr n 0x380) (BitVec.ofNat 32 dir)).setReg (linkAddr n 0x38C) (BitVec.ofNat 32 (2^31+nb*65536))
def P : State := sys 0 (peer 0 0 1 (peer 3 1 3 (peer 127 2 8 b0)))
def P4 : State := sys 0 (peer 0 1 1 (peer 5 0 3 (peer 6 2 8 (peer 7 3 8 (peer 8 4 8 (peer 9 5 8 b0))))))
def PM : State := (sys 0 (peer 0 0 1 (peer 3 1 3 (peer 127 2 8 b0)))).setReg 0x84 0x20000133
def hdr (dest src kind bc stage hops brem : Nat) : Word128 := BitVec.ofNat 128 (dest + src*2^16 + kind*2^32+bc*2^40+stage*2^41+hops*2^48+brem*2^58)
def full (s : State) : State := { s with fwdQ := List.replicate 64 {dir := 0, cls := 10, port := 0, frame := .msg {cls := 10, kind := 1, dest := 0}} ++ List.replicate 64 {dir := 2, cls := 10, port := 0, frame := .msg {cls := 10, kind := 1, dest := 0}}}
def cred (n : Fin 128) (s : State) : State := s.modPort n (fun p => { p with txKnown := Vector.replicate 16 true, txLimit := Vector.replicate 16 100 })
def ringAt (r base esz log : Nat) (head tail : Nat) (s : State) : State :=
  let a := ringBase r
  (((s.setReg a (BitVec.ofNat 32 base)).setReg (a+8) (BitVec.ofNat 32 (2^31 + esz*64 + log))).setReg (a+0x10) (BitVec.ofNat 32 tail)).setReg (a+0x14) (BitVec.ofNat 32 tail)
def F : State := cred 0 (ringAt 7 0x2000 2 3 0 1 (P.setReg (linkAddr 0 0x384) 0x80000007)) |>.setBytes 0x2000 ([9,0,0,0,0,0,0,0,0,0x30,0,0,2,0,5].map some)
def frOn (s : State) : State := ((s.setReg 0x100304 0x80000003).setReg 0x100200 0x80000000).setReg 0x100204 0x00040000
def al (s : State) : State := s.setReg 0x5080 0xA0040064
def al2 (s : State) : State := { al (sys 9 s) with fofs := 3}
def rxf (c : Nat) (ws : List Word128) (s : State) : State := s.modPort 0 (fun p => { p with rx := [{cls := 14, words := [1], len := 1, beat := 5}, {cls := c, words := ws, len := ws.length, beat := 77}, {cls := c, words := ws, len := ws.length, beat := 78}] })
def samples : List State := [b0, b0.setReg 0x84 0x30000133, up 3 2 (up 0 2 (b0.setReg 0x84 0x30000133)), b0.setReg 0x84 0x10010000, P, PM, P4, full P, sys 5 P,
  F, cred 0 (P.setReg (linkAddr 0 0x384) 0x80000007), (F.setReg (ringBase 7 + 8) 0x800000C3), frOn P, {frOn P with frames := {oldest := 0x1234560}}, {frOn P with frames := {oldest := 0x12345670}}, {frOn P with frames := {oldest := 0x10}},
  P.setReg (linkAddr 0 0x388) 0x80000007, ringAt 7 0x2000 2 3 0 1 (P.setReg (linkAddr 0 0x388) 0x80000007),
  (ringAt 7 0x2000 2 3 0 1 (P.setReg (linkAddr 0 0x388) 0x80000007)).setReg (ringBase 7+8) 0x80000083,
  al2 P, al2 PM, al2 b0, {al2 P with align := some (0, some 0x123456700, 0x1234567)}, {al2 P with align := some (3, some 0, 0x1234550)}, {(al2 P).setReg 0x5084 0x00020000 with align := some (3, some 0, 0x1234550)},
  {(al2 P).setReg 0x5084 0x80020000 with align := some (3, some 0, 0x1234550), alignGood := 1, fofs := 120},
  {P with align := some (3, none, 0x1234000)}, {P with align := some (3, some 5, 0x1234000)}, rxf 8 [1] P, rxf 8 [1,2] P, rxf 8 [1,2,3] P, rxf 8 [1,2] {frOn P with frames := {oldest := 0x1234560}}, rxf 8 [1,2,3,4,5] {frOn P with frames := {oldest := 0x1234560}}, rxf 8 [1,2] {frOn P with frames := {oldest := 0x12345670}}, rxf 8 [1] (frOn P), rxf 8 [1,2] {frOn P with frames := {oldest := 0x10}}, rxf 9 [1,2,3] P, rxf 9 [1,2,3] (P.setReg (linkAddr 0 0x388) 0x80000007), rxf 9 [1,2,3] (ringAt 7 0x2000 2 3 0 1 (P.setReg (linkAddr 0 0x388) 0x80000007)), rxf 9 [1,2,3] (ringAt 9000 0x2000 2 3 0 1 (P.setReg (linkAddr 0 0x388) (0x80000000+9000))), rxf 9 [1,2,3] (ringAt 9000 0x2000 1 3 0 1 (P.setReg (linkAddr 0 0x388) (0x80000000+9000))),
  {P with probe := some (1, 0x1234567)}, {P with probe := some (1, 0x1000000)},
  {al2 P with align := some (1, none, 0x1234567)}, rxf 8 [1,2,3,4] {frOn P with frames := {oldest := 0x1234560}}, rxf 8 [1,2] (frOn P), rxf 8 [1,2] {frOn P with frames := {oldest := 0x1234567}}, rxf 8 [1,2,3] {frOn P with frames := {oldest := 0x1234567}}, {rxf 8 [1,2,3] (frOn P) with frames := {oldest := 0x1234560, slots := [(0, {frame := 0x1234560, ready := false, holds := [(0,true)], written := [], overflow := []})]}} ]
def s07a (i : Nat) : State := (samples ++ [(rxf 8 [1,2] {frOn P with frames := {oldest := 0x1234560}}).setReg (linkAddr 0 8) 0]).getD i State.reset

/-- Meets the hypotheses of `Obligations.PeerMessages`, clause by clause. -/
theorem witness_PeerMessages_1 :
    ((s07a 4).Canonical ∧ (s07a 4).Accepts (Master.hrp (3 : BitVec 8)) (128 : Nat) ∧ (s07a 4).srstBusy Page.block = false ∧ (s07a 4).sysEn = true) ∧
    ((s07a 3).Canonical ∧ (s07a 3).Accepts (Master.hrp (3 : BitVec 8)) (128 : Nat) ∧ (s07a 3).srstBusy Page.block = false ∧ (s07a 3).sysEn = false
      ∧ ((s07a 3).topo = (1 : Nat) ∧ (fld ((s07a 3).getReg (132 : Nat)) (16 : Nat) (10 : Nat) < (2 : Nat) ∨ (512 : Nat) < fld ((s07a 3).getReg (132
      : Nat)) (16 : Nat) (10 : Nat)) ∨ (s07a 3).topo = (0 : Nat) ∧ fld (0 : Word) (0 : Nat) (9 : Nat) ≠ (0 : Nat) ∨ (s07a 3).validDev (fld (0 :
      Word) (0 : Nat) (9 : Nat)) = false)) ∧
    ((s07a 0).Canonical ∧ (s07a 0).Accepts (Master.hrp (3 : BitVec 8)) (128 : Nat) ∧ (s07a 0).srstBusy Page.block = false ∧ (s07a 0).sysEn = false
      ∧ ¬((s07a 0).topo = (1 : Nat) ∧ (fld ((s07a 0).getReg (132 : Nat)) (16 : Nat) (10 : Nat) < (2 : Nat) ∨ (512 : Nat) < fld ((s07a 0).getReg
      (132 : Nat)) (16 : Nat) (10 : Nat)) ∨ (s07a 0).topo = (0 : Nat) ∧ fld (0 : Word) (0 : Nat) (9 : Nat) ≠ (0 : Nat) ∨ (s07a 0).validDev (fld (0
      : Word) (0 : Nat) (9 : Nat)) = false)) ∧
    ((s07a 0).Canonical ∧ (s07a 0).peerOk (0 : Fin 128) false = false) ∧
    ((s07a 4).Canonical ∧ (s07a 4).peerOk (0 : Fin 128) false = true) ∧
    ((s07a 0).Canonical ∧ ¬((s07a 0).peerOk (0 : Fin 128) true = true ∧ (10 : Nat) ≤ (10 : Fin 16).val ∧ (10 : Fin 16).val ≤ (12 : Nat) ∧ (0 : Nat)
      < (32 : Nat))) ∧
    ((s07a 4).Canonical ∧ ((s07a 4).peerOk (0 : Fin 128) true = true ∧ (10 : Nat) ≤ (10 : Fin 16).val ∧ (10 : Fin 16).val ≤ (12 : Nat) ∧ (0 : Nat)
      < (32 : Nat)) ∧ ((s07a 4).validDev (fld (1 : Word128) (0 : Nat) (9 : Nat)) = false ∨ kindOk ((10 : Fin 16).val) (fld (1 : Word128) (32 : Nat)
      (8 : Nat)) = false ∨ (s07a 4).maxHops < fld (1 : Word128) (48 : Nat) (10 : Nat))) ∧
    ((s07a 4).Canonical ∧ ((s07a 4).peerOk (0 : Fin 128) true = true ∧ (10 : Nat) ≤ (11 : Fin 16).val ∧ (11 : Fin 16).val ≤ (12 : Nat) ∧ (0 : Nat)
      < (32 : Nat)) ∧ ¬((s07a 4).validDev (fld (281479271743488 : Word128) (0 : Nat) (9 : Nat)) = false ∨ kindOk ((11 : Fin 16).val) (fld
      (281479271743488 : Word128) (32 : Nat) (8 : Nat)) = false ∨ (s07a 4).maxHops < fld (281479271743488 : Word128) (48 : Nat) (10 : Nat)) ∧ (11 :
      Fin 16).val = (11 : Nat) ∧ fld (281479271743488 : Word128) (32 : Nat) (8 : Nat) < (4 : Nat)) ∧
    ((s07a 4).Canonical ∧ ((s07a 4).peerOk (0 : Fin 128) true = true ∧ (10 : Nat) ≤ (10 : Fin 16).val ∧ (10 : Fin 16).val ≤ (12 : Nat) ∧ (0 : Nat)
      < (32 : Nat)) ∧ ¬((s07a 4).validDev (fld (281479271743488 : Word128) (0 : Nat) (9 : Nat)) = false ∨ kindOk ((10 : Fin 16).val) (fld
      (281479271743488 : Word128) (32 : Nat) (8 : Nat)) = false ∨ (s07a 4).maxHops < fld (281479271743488 : Word128) (48 : Nat) (10 : Nat)) ∧ ¬((10
      : Fin 16).val = (11 : Nat) ∧ fld (281479271743488 : Word128) (32 : Nat) (8 : Nat) < (4 : Nat)) ∧ bitAt (281479271743488 : Word128) (40 : Nat)
      = false ∧ (s07a 4).firstHop (s07a 4).devno (fld (281479271743488 : Word128) (0 : Nat) (9 : Nat)) = none) ∧
    ((s07a 19).Canonical ∧ ((s07a 19).peerOk (0 : Fin 128) true = true ∧ (10 : Nat) ≤ (10 : Fin 16).val ∧ (10 : Fin 16).val ≤ (12 : Nat) ∧ (0 :
      Nat) < (32 : Nat)) ∧ ¬((s07a 19).validDev (fld (562954248585217 : Word128) (0 : Nat) (9 : Nat)) = false ∨ kindOk ((10 : Fin 16).val) (fld
      (562954248585217 : Word128) (32 : Nat) (8 : Nat)) = false ∨ (s07a 19).maxHops < fld (562954248585217 : Word128) (48 : Nat) (10 : Nat)) ∧
      ¬((10 : Fin 16).val = (11 : Nat) ∧ fld (562954248585217 : Word128) (32 : Nat) (8 : Nat) < (4 : Nat)) ∧ bitAt (562954248585217 : Word128) (40
      : Nat) = false ∧ Option.any (fun dir => decide ((s07a 19).trunk dir = [])) ((s07a 19).firstHop (s07a 19).devno (fld (562954248585217 :
      Word128) (0 : Nat) (9 : Nat))) = true) ∧
    ((s07a 7).Canonical ∧ ((s07a 7).peerOk (0 : Fin 128) true = true ∧ (10 : Nat) ≤ (10 : Fin 16).val ∧ (10 : Fin 16).val ≤ (12 : Nat) ∧ (0 : Nat)
      < (32 : Nat)) ∧ ¬((s07a 7).validDev (fld (562954248585217 : Word128) (0 : Nat) (9 : Nat)) = false ∨ kindOk ((10 : Fin 16).val) (fld
      (562954248585217 : Word128) (32 : Nat) (8 : Nat)) = false ∨ (s07a 7).maxHops < fld (562954248585217 : Word128) (48 : Nat) (10 : Nat)) ∧ ¬((10
      : Fin 16).val = (11 : Nat) ∧ fld (562954248585217 : Word128) (32 : Nat) (8 : Nat) < (4 : Nat)) ∧ bitAt (562954248585217 : Word128) (40 : Nat)
      = false ∧ Option.any (fun dir => decide ((s07a 7).trunk dir ≠ [] ∧ (64 : Nat) ≤ (fun dir => countIf (fun q => q.dir == dir && q.cls == (10 :
      Fin 16).val && q.frame.isRouted) (s07a 7).fwdQ) dir)) ((s07a 7).firstHop (s07a 7).devno (fld (562954248585217 : Word128) (0 : Nat) (9 :
      Nat))) = true) ∧
    ((s07a 8).Canonical ∧ ((s07a 8).peerOk (0 : Fin 128) true = true ∧ (10 : Nat) ≤ (10 : Fin 16).val ∧ (10 : Fin 16).val ≤ (12 : Nat) ∧ (0 : Nat)
      < (32 : Nat)) ∧ ¬((s07a 8).validDev (fld (281479271743488 : Word128) (0 : Nat) (9 : Nat)) = false ∨ kindOk ((10 : Fin 16).val) (fld
      (281479271743488 : Word128) (32 : Nat) (8 : Nat)) = false ∨ (s07a 8).maxHops < fld (281479271743488 : Word128) (48 : Nat) (10 : Nat)) ∧ ¬((10
      : Fin 16).val = (11 : Nat) ∧ fld (281479271743488 : Word128) (32 : Nat) (8 : Nat) < (4 : Nat)) ∧ bitAt (281479271743488 : Word128) (40 : Nat)
      = false ∧ Option.any (fun dir => decide ((s07a 8).trunk dir ≠ [] ∧ (fun dir => countIf (fun q => q.dir == dir && q.cls == (10 : Fin 16).val
      && q.frame.isRouted) (s07a 8).fwdQ) dir < (64 : Nat))) ((s07a 8).firstHop (s07a 8).devno (fld (281479271743488 : Word128) (0 : Nat) (9 :
      Nat))) = true) := by
  refine ⟨?_, ?_, ?_, ?_, ?_, ?_, ?_, ?_, ?_, ?_, ?_, ?_⟩ <;> decide +kernel

/-- Meets the hypotheses of `Obligations.PeerMessages`, clause by clause. -/
theorem witness_PeerMessages_2 :
    ((s07a 4).Canonical ∧ ((s07a 4).peerOk (0 : Fin 128) true = true ∧ (10 : Nat) ≤ (10 : Fin 16).val ∧ (10 : Fin 16).val ≤ (12 : Nat) ∧ (0 : Nat)
      < (32 : Nat)) ∧ ¬((s07a 4).validDev (fld (288512954935214080 : Word128) (0 : Nat) (9 : Nat)) = false ∨ kindOk ((10 : Fin 16).val) (fld
      (288512954935214080 : Word128) (32 : Nat) (8 : Nat)) = false ∨ (s07a 4).maxHops < fld (288512954935214080 : Word128) (48 : Nat) (10 : Nat)) ∧
      ¬((10 : Fin 16).val = (11 : Nat) ∧ fld (288512954935214080 : Word128) (32 : Nat) (8 : Nat) < (4 : Nat)) ∧ bitAt (288512954935214080 :
      Word128) (40 : Nat) = true ∧ ∀ (dir : Fin 6), (fun dir => countIf (fun q => q.dir == dir && q.cls == (10 : Fin 16).val && q.frame.isRouted)
      (s07a 4).fwdQ) ↑dir ≤ (50 : Nat)) := by
  decide +kernel

/-- Meets the hypotheses of `Obligations.PeerFrames`, clause by clause. -/
theorem witness_PeerFrames_1 :
    ((s07a 0).Canonical ∧ ¬((s07a 0).txReady (0 : Fin 128) = true ∧ (s07a 0).peerOk (0 : Fin 128) true = true ∧ bitAt ((s07a 0).getReg (linkAddr (0
      : Fin 128) (900 : Nat))) (31 : Nat) = true)) ∧
    ((s07a 11).Canonical ∧ ((s07a 11).txReady (0 : Fin 128) = true ∧ (s07a 11).peerOk (0 : Fin 128) true = true ∧ bitAt ((s07a 11).getReg (linkAddr
      (0 : Fin 128) (900 : Nat))) (31 : Nat) = true) ∧ (s07a 11).ringEn (fld ((s07a 11).getReg (linkAddr (0 : Fin 128) (900 : Nat))) (0 : Nat) (14
      : Nat)) = true ∧ (s07a 11).peerRingBad (fld ((s07a 11).getReg (linkAddr (0 : Fin 128) (900 : Nat))) (0 : Nat) (14 : Nat)) = true) ∧
    ((s07a 10).Canonical ∧ ((s07a 10).txReady (0 : Fin 128) = true ∧ (s07a 10).peerOk (0 : Fin 128) true = true ∧ bitAt ((s07a 10).getReg (linkAddr
      (0 : Fin 128) (900 : Nat))) (31 : Nat) = true) ∧ ¬((s07a 10).ringEn (fld ((s07a 10).getReg (linkAddr (0 : Fin 128) (900 : Nat))) (0 : Nat)
      (14 : Nat)) = true ∧ (s07a 10).peerRingBad (fld ((s07a 10).getReg (linkAddr (0 : Fin 128) (900 : Nat))) (0 : Nat) (14 : Nat)) = true) ∧
      (okAnd (txFirst (0 : Fin 128) (txOrder (s07a 10).ports[(0 : Fin 128)].rr) (s07a 10)) fun c s1 => decide (c ≠ some (8 : Nat))) = true) ∧
    ((s07a 9).Canonical ∧ ((s07a 9).txReady (0 : Fin 128) = true ∧ (s07a 9).peerOk (0 : Fin 128) true = true ∧ bitAt ((s07a 9).getReg (linkAddr (0
      : Fin 128) (900 : Nat))) (31 : Nat) = true) ∧ ¬((s07a 9).ringEn (fld ((s07a 9).getReg (linkAddr (0 : Fin 128) (900 : Nat))) (0 : Nat) (14 :
      Nat)) = true ∧ (s07a 9).peerRingBad (fld ((s07a 9).getReg (linkAddr (0 : Fin 128) (900 : Nat))) (0 : Nat) (14 : Nat)) = true) ∧ (okAnd
      (txFirst (0 : Fin 128) (txOrder (s07a 9).ports[(0 : Fin 128)].rr) (s07a 9)) fun p s1 => decide (p = some (8 : Nat)) && decide ((okAnd
      (txFragHead (0 : Fin 128) s1) fun p s2 => Option.any (fun p => decide ((okAnd (fragData (natLE (List.take (4 : Nat) (List.drop (8 : Nat)
      p.snd)) % 2 ^ 27) (natLE (List.take (2 : Nat) (List.drop (12 : Nat) p.snd)) % 4096) s2) fun data s3 => decide (fld (s3.getReg (linkAddr (0 :
      Fin 128) (900 : Nat))) (0 : Nat) (14 : Nat) = fld ((s07a 9).getReg (linkAddr (0 : Fin 128) (900 : Nat))) (0 : Nat) (14 : Nat) ∧
      s3.Canonical)) = true)) p) = true)) = true) ∧
    ((s07a 0).Canonical ∧ (s07a 0).rxHead (0 : Fin 128) (8 : Nat) = none) ∧
    ((s07a 49).Canonical ∧ Option.any (fun p => decide ((s07a 49).pageEn (Page.link (0 : Fin 128)) = false ∧ p.fst.len ≤ p.fst.words.length))
      ((s07a 49).rxHead (0 : Fin 128) (8 : Nat)) = true) ∧
    ((s07a 28).Canonical ∧ Option.any (fun p => decide (((s07a 28).pageEn (Page.link (0 : Fin 128)) = true ∨ p.fst.words.length < p.fst.len) ∧
      p.fst.words.length ≤ (1 : Nat))) ((s07a 28).rxHead (0 : Fin 128) (8 : Nat)) = true) ∧
    ((s07a 31).Canonical ∧ Option.any (fun p => decide (((s07a 31).pageEn (Page.link (0 : Fin 128)) = true ∨ p.fst.words.length < p.fst.len) ∧
      (consAnd p.fst.words fun h q => consAnd q fun w more => decide ((okAnd (ingressWord (0 : Fin 128) (BitVec.toNat (0 : BitVec 8)) ((s07a
      31).frameOf (19088743 : Word64)) w (s07a 31)) fun a s1 => decide (s1.Canonical ∧ a = Ingress.waits)) = true)) = true)) ((s07a 31).rxHead (0 :
      Fin 128) (8 : Nat)) = true) ∧
    ((s07a 29).Canonical ∧ Option.any (fun p => decide (((s07a 29).pageEn (Page.link (0 : Fin 128)) = true ∨ p.fst.words.length < p.fst.len) ∧
      (consAnd p.fst.words fun h q => consAnd q fun w more => decide ((okAnd (ingressWord (0 : Fin 128) (BitVec.toNat (0 : BitVec 8)) ((s07a
      29).frameOf (19088743 : Word64)) w (s07a 29)) fun a s1 => decide (s1.Canonical ∧ a ≠ Ingress.waits ∧ more = [])) = true)) = true)) ((s07a
      29).rxHead (0 : Fin 128) (8 : Nat)) = true) ∧
    ((s07a 30).Canonical ∧ Option.any (fun p => decide (((s07a 30).pageEn (Page.link (0 : Fin 128)) = true ∨ p.fst.words.length < p.fst.len) ∧
      (consAnd p.fst.words fun h q => consAnd q fun w more => decide ((okAnd (ingressWord (0 : Fin 128) (BitVec.toNat (0 : BitVec 8)) ((s07a
      30).frameOf (19088743 : Word64)) w (s07a 30)) fun a s1 => decide (s1.Canonical ∧ a ≠ Ingress.waits ∧ more ≠ [])) = true)) = true)) ((s07a
      30).rxHead (0 : Fin 128) (8 : Nat)) = true) := by
  refine ⟨?_, ?_, ?_, ?_, ?_, ?_, ?_, ?_, ?_, ?_⟩ <;> decide +kernel

/-- Meets the hypotheses of `Obligations.PeerFrames`, clause by clause. -/
theorem witness_PeerFrames_2 :
    ((s07a 46).Canonical ∧ Option.any (fun p => decide (((s07a 46).pageEn (Page.link (0 : Fin 128)) = true ∨ p.fst.words.length < p.fst.len) ∧
      (consAnd p.fst.words fun h q => consAnd q fun w q => decide (q = []) && decide ((s07a 46).streamOn (BitVec.toNat (0 : BitVec 8)) = true ∧
      (s07a 46).frEn = true ∧ (s07a 46).ports[(0 : Fin 128)].closedTo ≤ (s07a 46).frameOf (19088743 : Word64) ∧ (s07a 46).framePast ((s07a
      46).frameOf (19088743 : Word64)) = false ∧ (s07a 46).slotReady ((s07a 46).frameOf (19088743 : Word64)) = true ∧ (s07a 46).regionBad
      (BitVec.toNat (0 : BitVec 8)) = false ∧ (bitAt ((s07a 46).scfg (BitVec.toNat (0 : BitVec 8))) (29 : Nat) = true → fld ((s07a 46).scfg
      (BitVec.toNat (0 : BitVec 8))) (8 : Nat) (7 : Nat) ≤ (0 : Fin 128).val ∧ (if bitAt ((s07a 46).scfg (BitVec.toNat (0 : BitVec 8))) (29 : Nat)
      = true then (0 : Fin 128).val - fld ((s07a 46).scfg (BitVec.toNat (0 : BitVec 8))) (8 : Nat) (7 : Nat) else (0 : Nat)) ≤ fld ((s07a 46).scfg
      (BitVec.toNat (0 : BitVec 8))) (0 : Nat) (7 : Nat)) ∧ (bitAt ((s07a 46).scfg (BitVec.toNat (0 : BitVec 8))) (29 : Nat) = false → (s07a
      46).takenBy (0 : Fin 128) (BitVec.toNat (0 : BitVec 8)) ((s07a 46).frameOf (19088743 : Word64)) = false) ∧ (((s07a 46).slotOf ((s07a
      46).frameOf (19088743 : Word64))).getD
      { frame := (s07a 46).frameOf (19088743 : Word64), ready := false, holds := [], written := [], overflow := [] }).count (BitVec.toNat (0 :
      BitVec 8)) (if bitAt ((s07a 46).scfg (BitVec.toNat (0 : BitVec 8))) (29 : Nat) = true then (0 : Fin 128).val - fld ((s07a 46).scfg
      (BitVec.toNat (0 : BitVec 8))) (8 : Nat) (7 : Nat) else (0 : Nat)) < (s07a 46).regionWords (BitVec.toNat (0 : BitVec 8)) ∧ (s07a
      46).underBist (RetUnit.eventBank (Fin.ofNat (1024 : Nat) (emBank ((s07a 46).frSlotAddr ((s07a 46).frameOf (19088743 : Word64) % (s07a
      46).frSlots) + fld ((s07a 46).getReg (streamAddr (BitVec.toNat (0 : BitVec 8)) (4 : Nat))) (0 : Nat) 16 * 64 + ((if bitAt ((s07a 46).scfg
      (BitVec.toNat (0 : BitVec 8))) (29 : Nat) = true then (0 : Fin 128).val - fld ((s07a 46).scfg (BitVec.toNat (0 : BitVec 8))) (8 : Nat) (7 :
      Nat) else (0 : Nat)) * (s07a 46).regionWords (BitVec.toNat (0 : BitVec 8)) + (((s07a 46).slotOf ((s07a 46).frameOf (19088743 : Word64))).getD
      { frame := (s07a 46).frameOf (19088743 : Word64), ready := false, holds := [], written := [], overflow := [] }).count (BitVec.toNat (0 :
      BitVec 8)) (if bitAt ((s07a 46).scfg (BitVec.toNat (0 : BitVec 8))) (29 : Nat) = true then (0 : Fin 128).val - fld ((s07a 46).scfg
      (BitVec.toNat (0 : BitVec 8))) (8 : Nat) (7 : Nat) else (0 : Nat))) * 16)))) = false ∧ (s07a 46).awake (RetUnit.eventBank (Fin.ofNat (1024 :
      Nat) (emBank ((s07a 46).frSlotAddr ((s07a 46).frameOf (19088743 : Word64) % (s07a 46).frSlots) + fld ((s07a 46).getReg (streamAddr
      (BitVec.toNat (0 : BitVec 8)) (4 : Nat))) (0 : Nat) 16 * 64 + ((if bitAt ((s07a 46).scfg (BitVec.toNat (0 : BitVec 8))) (29 : Nat) = true
      then (0 : Fin 128).val - fld ((s07a 46).scfg (BitVec.toNat (0 : BitVec 8))) (8 : Nat) (7 : Nat) else (0 : Nat)) * (s07a 46).regionWords
      (BitVec.toNat (0 : BitVec 8)) + (((s07a 46).slotOf ((s07a 46).frameOf (19088743 : Word64))).getD
      { frame := (s07a 46).frameOf (19088743 : Word64), ready := false, holds := [], written := [], overflow := [] }).count (BitVec.toNat (0 :
      BitVec 8)) (if bitAt ((s07a 46).scfg (BitVec.toNat (0 : BitVec 8))) (29 : Nat) = true then (0 : Fin 128).val - fld ((s07a 46).scfg
      (BitVec.toNat (0 : BitVec 8))) (8 : Nat) (7 : Nat) else (0 : Nat))) * 16)))) = true)) = true)) ((s07a 46).rxHead (0 : Fin 128) (8 : Nat)) =
      true) ∧
    ((s07a 0).Canonical ∧ (s07a 0).rxHead (0 : Fin 128) (9 : Nat) = none) ∧
    ((s07a 0).Canonical ∧ (s07a 0).pageEn (Page.link (0 : Fin 128)) = false) ∧
    ((s07a 36).Canonical ∧ Option.any (fun p => decide ((s07a 36).pageEn (Page.link (0 : Fin 128)) = true ∧ bitAt ((s07a 36).getReg (linkAddr (0 :
      Fin 128) (904 : Nat))) (31 : Nat) = false)) ((s07a 36).rxHead (0 : Fin 128) (9 : Nat)) = true) ∧
    ((s07a 37).Canonical ∧ Option.any (fun p => decide ((s07a 37).pageEn (Page.link (0 : Fin 128)) = true ∧ bitAt ((s07a 37).getReg (linkAddr (0 :
      Fin 128) (904 : Nat))) (31 : Nat) = true ∧ (s07a 37).peerRingBad (fld ((s07a 37).getReg (linkAddr (0 : Fin 128) (904 : Nat))) (0 : Nat) (14 :
      Nat)) = true)) ((s07a 37).rxHead (0 : Fin 128) (9 : Nat)) = true) ∧
    ((s07a 38).Canonical ∧ Option.any (fun p => decide ((s07a 38).pageEn (Page.link (0 : Fin 128)) = true ∧ bitAt ((s07a 38).getReg (linkAddr (0 :
      Fin 128) (904 : Nat))) (31 : Nat) = true ∧ (s07a 38).peerRingBad (fld ((s07a 38).getReg (linkAddr (0 : Fin 128) (904 : Nat))) (0 : Nat) (14 :
      Nat)) = false ∧ (okAnd (ringPut (fld ((s07a 38).getReg (linkAddr (0 : Fin 128) (904 : Nat))) (0 : Nat) (14 : Nat)) (List.take (40 : Nat)
      (bytesOfPortWords p.fst.words ++ List.replicate (40 : Nat) (0 : Byte)) ++ bytesLE (8 : Nat) (BitVec.toNat p.fst.beat) ++ [BitVec.ofNat (8 :
      Nat) (0 : Fin 128).val] ++ List.replicate (15 : Nat) (0 : Byte)) (s07a 38)) fun p s1 => decide s1.Canonical) = true)) ((s07a 38).rxHead (0 :
      Fin 128) (9 : Nat)) = true) := by
  refine ⟨?_, ?_, ?_, ?_, ?_, ?_⟩ <;> decide +kernel

/-- Meets the hypotheses of `Obligations.AlignmentAndProbe`, clause by clause. -/
theorem witness_AlignmentAndProbe :
    ((s07a 0).Canonical ∧ ¬(bitAt ((s07a 0).getReg (20608 : Nat)) (31 : Nat) = true ∧ (s07a 0).sysEn = true ∧ (s07a 0).devno ≠ (s07a 0).tmdev ∧
      (s07a 0).align = none ∧ beatLt (s07a 0).beatno (s07a 0).alignDue = false)) ∧
    ((s07a 21).Canonical ∧ (bitAt ((s07a 21).getReg (20608 : Nat)) (31 : Nat) = true ∧ (s07a 21).sysEn = true ∧ (s07a 21).devno ≠ (s07a 21).tmdev ∧
      (s07a 21).align = none ∧ beatLt (s07a 21).beatno (s07a 21).alignDue = false) ∧ (((s07a 21).firstHop (s07a 21).devno (s07a 21).tmdev).bind fun
      dir => ((s07a 21).trunk dir).head?) = none) ∧
    ((s07a 19).Canonical ∧ (bitAt ((s07a 19).getReg (20608 : Nat)) (31 : Nat) = true ∧ (s07a 19).sysEn = true ∧ (s07a 19).devno ≠ (s07a 19).tmdev ∧
      (s07a 19).align = none ∧ beatLt (s07a 19).beatno (s07a 19).alignDue = false) ∧ Option.any (fun n => true) (((s07a 19).firstHop (s07a
      19).devno (s07a 19).tmdev).bind fun dir => ((s07a 19).trunk dir).head?) = true) ∧
    ((s07a 0).peerOk (0 : Fin 128) true = false) ∧
    ((s07a 4).peerOk (0 : Fin 128) true = true) ∧
    ((s07a 0).Canonical ∧ (s07a 0).align = none) ∧
    ((s07a 43).Canonical ∧ Option.any (fun p => decide (p.snd.fst = none) && true) (s07a 43).align = true) ∧
    ((s07a 22).Canonical ∧ Option.any (fun p => Option.any (fun t1 => decide (p.fst ≠ (3 : Fin 128).val ∨ (s07a 22).peerOk (3 : Fin 128) true =
      false ∨ (64 : Nat) ≤ BitVec.toNat ((s07a 22).beatno - p.snd.snd))) p.snd.fst) (s07a 22).align = true) ∧
    ((s07a 22).Canonical ∧ Option.any (fun p => Option.any (fun t1 => decide (p.fst = (0 : Fin 128).val ∧ (s07a 22).peerOk (0 : Fin 128) true =
      true ∧ BitVec.toNat ((s07a 22).beatno - p.snd.snd) < (64 : Nat) ∧ (-128 : Int) ≤ (s07a 22).fofs.toInt + (BitVec.toInt ((19088743 : Word64) -
      t1) + BitVec.toInt ((4886718208 : Word64) - ((19088743 : Word64) + BitVec.signExtend (64 : Nat) (s07a 22).timeNow.fofs))).tdiv (2 : Int) ∧
      (s07a 22).fofs.toInt + (BitVec.toInt ((19088743 : Word64) - t1) + BitVec.toInt ((4886718208 : Word64) - ((19088743 : Word64) +
      BitVec.signExtend (64 : Nat) (s07a 22).timeNow.fofs))).tdiv (2 : Int) ≤ (127 : Int))) p.snd.fst) (s07a 22).align = true) ∧
    ((s07a 22).Canonical ∧ Option.any (fun p => Option.any (fun t1 => decide (p.fst = (0 : Fin 128).val ∧ (s07a 22).peerOk (0 : Fin 128) true =
      true ∧ BitVec.toNat ((s07a 22).beatno - p.snd.snd) < (64 : Nat) ∧ (127 : Int) < (s07a 22).fofs.toInt + (BitVec.toInt ((4886718208 : Word64) -
      t1) + BitVec.toInt ((4886718208 : Word64) - ((19088743 : Word64) + BitVec.signExtend (64 : Nat) (s07a 22).timeNow.fofs))).tdiv (2 : Int) ∧
      bitAt ((s07a 22).getReg (20608 : Nat)) (29 : Nat) = true ∧ (s07a 22).loadBarred = false)) p.snd.fst) (s07a 22).align = true) ∧
    ((s07a 22).Canonical ∧ Option.any (fun p => decide (BitVec.toNat ((s07a 22).beatno - p.snd.snd) < (64 : Nat))) (s07a 22).align = true) ∧
    ((s07a 26).Canonical ∧ Option.any (fun p => decide ((64 : Nat) ≤ BitVec.toNat ((s07a 26).beatno - p.snd.snd))) (s07a 26).align = true) ∧
    ((s07a 8).Accepts (Master.hrp (3 : BitVec 8)) (20620 : Nat) ∧ decide (((s07a 8).rowReady (20620 : Nat)).Canonical ∧ ((s07a 8).rowReady (20620 :
      Nat)).Accepts (Master.hrp (3 : BitVec 8)) (20620 : Nat) ∧ ((s07a 8).rowReady (20620 : Nat)).srstBusy Page.timebase = false ∧ ((s07a
      8).rowReady (20620 : Nat)).sysEn = true ∧ ((s07a 8).rowReady (20620 : Nat)).validDev (fld (0 : Word) (0 : Nat) (9 : Nat)) = true ∧ Option.any
      (fun dir => decide (((s07a 8).rowReady (20620 : Nat)).trunk dir ≠ [] ∧ countIf (fun q => q.dir == dir && q.cls == (11 : Nat) &&
      q.frame.isRouted) ((s07a 8).rowReady (20620 : Nat)).fwdQ < (64 : Nat))) (((s07a 8).rowReady (20620 : Nat)).firstHop ((s07a 8).rowReady (20620
      : Nat)).devno (fld (0 : Word) (0 : Nat) (9 : Nat))) = true) = true) ∧
    ((s07a 0).sysEn = false) ∧
    ((s07a 8).sysEn = true ∧ (s07a 8).validDev (BitVec.toNat (0 : BitVec 9)) = true ∧ Option.any (fun dir => decide ((s07a 8).trunk dir ≠ [] ∧
      countIf (fun q => q.dir == dir && q.cls == (11 : Nat) && q.frame.isRouted) (s07a 8).fwdQ < (64 : Nat))) ((s07a 8).firstHop (s07a 8).devno
      (BitVec.toNat (0 : BitVec 9))) = true) ∧
    ((s07a 0).Canonical ∧ (s07a 0).probe = none) ∧
    ((s07a 41).Canonical ∧ Option.any (fun p => decide (p.fst ≠ (0 : BitVec 9) ∨ (s07a 41).sysEn = false ∨ (65536 : Nat) ≤ BitVec.toNat ((s07a
      41).beatno - p.snd))) (s07a 41).probe = true) ∧
    ((s07a 41).Canonical ∧ Option.any (fun p => decide (p.fst = (1 : BitVec 9) ∧ (s07a 41).sysEn = true ∧ BitVec.toNat ((s07a 41).beatno - p.snd) <
      (65536 : Nat))) (s07a 41).probe = true) ∧
    ((s07a 41).Canonical ∧ Option.any (fun p => decide (BitVec.toNat ((s07a 41).beatno - p.snd) < (65536 : Nat))) (s07a 41).probe = true) ∧
    ((s07a 42).Canonical ∧ Option.any (fun p => decide ((65536 : Nat) ≤ BitVec.toNat ((s07a 42).beatno - p.snd))) (s07a 42).probe = true) := by
  refine ⟨?_, ?_, ?_, ?_, ?_, ?_, ?_, ?_, ?_, ?_, ?_, ?_, ?_, ?_, ?_, ?_, ?_, ?_, ?_, ?_⟩ <;> decide +kernel

end Sys2Proof.Tests.W07
end

