-- ==== Sys2Proof/Tests/Witness08.lean ====
section
/-!
SUPPORT. Witnesses: for each statement of part 08 of the obligations, states and operands that meet the hypotheses of each of its clauses.
-/
namespace Sys2Proof.Tests.W08
set_option linter.unusedVariables false
set_option Elab.async false
open Sys2Proof Sys2Proof.Machine Sys2Proof.Tests

/-- Engine 3, at a boundary in `s`, has room for the frame of cause `cause` it pushes from `u`. -/
def entersFrom (s u : State) (cause : Nat) : Bool :=
  let v := (u.undo 3 s.engines[(3 : Fin 257)]).modEng 3 (fun g => { g.due false with
    mstack := [], reserved := none, micro := false, inInstr := false, oldStore := [], oldWin := [], xcause := BitVec.ofNat 8 cause })
  let h := v.engines[(3 : Fin 257)]
  s.engines[(3 : Fin 257)].load.isNone && decide (h.rsl.toNat + 8 ≤ h.rsp.toNat) && okAnd (pushFrame 3 s.engines[(3 : Fin 257)].pc v) (fun _ _ => true)
/-- The instruction of opcode `opc` is privileged, and engine 3 in user mode comes to it. -/
def userComesTo (s : State) (opc : Nat) : Bool :=
  s.canRun 3 && !s.privileged 3 && s.entryIsBase 3 opc && !s.entryMoved 3 opc &&
    okAnd ((do fetchBytes 3 s.engines[(3 : Fin 257)].pc 1 true; useEntry 3 opc : EngM Unit) s) (fun _ u => !u.privileged 3 && entersFrom s u 9)
def st (r : RunState) : State := engS 3 {g0 with run := r}
def cs (s : State) : State := (((s.setReg (engBase 3 + 0x48) 0x80000405).setReg (engBase 3 + 0x4C) 0x1234567).setReg (engBase 3 + 0x50) 2).setReg (engBase 3 + 0x54) 3
def ss (s : State) : State := ((s.setReg (pageBase (.cluster 0) + 0x40) 0x80000405).setReg (pageBase (.cluster 0) + 0x44) 0x1234567).setReg (pageBase (.cluster 0) + 0x48) 2
def sb (x : StoreEntry) (g : Engine := g0) : State := engS 3 {g with sbuf := [x, {va := 5, pa := 5, bytes := [1], sent := none}], tinvs := [{part := 1, arrived := true, waits := [(3,2)]}]}
def mw (w : Word128) (g : Engine := {g0 with micro := true, upc := 0x405, x := #v[7,8,9,10]}) : State := (engS 3 g).setCsWord 3 0x405 w
def mword (seq alu a b d shf : Nat) (flg next imm ks : Nat := 0) (stk : Nat := 0) : Word128 :=
  BitVec.ofNat 128 (seq*2^124 + next*2^101+alu*2^96+a*2^92+b*2^88+d*2^84+shf*2^80+stk*2^76+flg*2^68+ks*2^64+imm*2^32)
def samples : List State :=
 [ (st .stopped).setReg (engBase 3 + 0x40) 0, (st .running).setReg (engBase 3 + 0x40) 0, st .running, st .stopped, st .dark, st .intermission, engS 3 {g0 with micro := true}, engS 3 {g0 with rep := true},
   engS 3 {g0 with micro := true, stat := 0x4400}, engS 3 {g0 with micro := true, stat := 0x4400, tickWait := 3}, engS 3 {g0 with micro := true, stat := 0x4400, paceLate := true},
   cs (st .stopped), cs (st .running), (cs (st .stopped)).setReg (engBase 3 + 0x48) 0xC0000005, (cs (st .stopped)).setReg (engBase 3 + 0x48) 0xC00000E5, (cs (st .running)).setReg (engBase 3 + 0x48) 0xC0000005,
   ss b0, {ss b0 with ssWait := Vector.replicate 16 true}, {(ss b0).modSlot 0 (fun w => {w with st := .prepared, entries := [{start := some 0xC0000400, data := [1,2,3,4]}]}) with ssWait := Vector.replicate 16 true},
   sb {va := 0x100, pa := 0x100, bytes := [1,2,3,4], sent := none}, sb {va := 0x100, pa := 0x7F300000, bytes := [1,2,3,4], sent := none}, sb {va := 0x100, pa := 0x7F000040, bytes := [1,2,3,4], sent := none},
   sb {va := 0x100, pa := 0x7E000040, bytes := [1,2,3,4], sent := none}, sb {va := 0x100, pa := 0x7E000040, bytes := [1,2,3,4], sent := none} {g0 with lse := true, lseaddr := 9}, {sb {va := 0x100, pa := 0x100, bytes := [1,2,3,4], sent := none} with retained := [.eventBank 16]},
   sb {va := 0x100, pa := 0x8000000000, bytes := [1,2,3,4], sent := none},
   sb {va := 0x100, pa := 0x7F100040, bytes := [1,2,3,4], sent := none}, engS 3 {g0 with stat := 0}, engS 3 {g0 with stat := 0x400},
   engS 3 {g0 with run := .intermission, waitMask := some 3, evl := 2, stat := 0x400}, engS 3 {g0 with run := .intermission, waitMask := some 3, stat := 0x400},
   (mw (mword 7 0 0 0 0 0 0 0x410)).modEng 3 (fun g => {g with run := .intermission, stat := 0x400, waitEv := some 0x405}),
   engS 3 {g0 with lse := true, lseaddr := 9}, engS 3 {g0 with lse := true, lseaddr := 9, rsp := 0x1000}, engS 3 {g0 with lse := true, rsl := 0x2FFC}, engS 3 {g0 with wdg := {pend := true}}, engS 3 {g0 with wdg := {pend := true}, rsl := 0x2FFC},
   (engS 3 g0).setReg (engBase 3 + 0x80) 0x8 |>.setReg (engBase 3 + 0x84) 0x8 |>.setReg (engBase 3 + 0x90) 0x00005000,
   engS 3 {g0 with rsp := 0, rsl := 0, lse := false, wdg := {pend := true}},
   (engS 3 g0).setReg (engBase 3 + 0x80) 0x8 |>.setReg (engBase 3 + 0x84) 0x8 |>.setReg (engBase 3 + 0x90) 0x00005000 |>.modEng 3 (fun g => {g with rsp := 0x1000}),
   engS 3 {g0 with lse := true, haltReq := [1]}, (engS 3 g0).setBytes 0x3000 ([0,0xC4,0,0xF8,0,0x50,0,0].map some),
   engS 3 {g0 with stat := 0xC000}, (engS 3 {g0 with stat := 0xC000}).setBytes 0x3000 ([0,0xC4,0,0xF8,0,0x50,0,0].map some),
   (ss b0).modSlot 0 (fun w => {w with st := .prepared, entries := [{start := some 0xC0000400, data := [1,2,3,4]}]}),
   engS 3 {g0 with run := .intermission, waitMask := some 3}, engS 3 {g0 with run := .intermission, waitMask := some 3, evl := 2}, engS 3 {g0 with run := .intermission, waitMask := some 3, lse := true},
   (mw (mword 7 0 0 0 0 0 0 0x410)).modEng 3 (fun g => {g with run := .intermission, waitEv := some 0x405}), (mw (mword 7 0 0 0 0 0 0 0x410 + 2^117)).modEng 3 (fun g => {g with run := .intermission, waitEv := some 0x405}),
    (mw (mword 7 0 0 0 0 0 0 0x410 + 2^117)).modEng 3 (fun g => {g with run := .intermission, waitEv := some 0x405, lse := true}),
   mw (mword 9 0 0 0 0 0), mw (mword 0 0 8 9 14 0), mw (mword 0 2 8 9 10 0 15), mw (mword 1 4 8 14 11 5 15 0x7FF 0 3), mw (mword 1 4 8 13 11 0 15 0x400 77),mw (mword 1 4 12 13 11 0 15 0x200 77), mw (mword 0 0x13 8 14 8 0 15 0 0 0) {g0 with micro := true, upc := 0x405, stat := 0x4400},
   mw (mword 0 0x13 8 14 8 0 15 0 0 0) {g0 with micro := true, upc := 0x405, stat := 0x4400, tickWait := 2}
 ]
def isl (x : StoreEntry) : State := sb {x with island := true}
def lp (opc : List Nat) (f : Engine → Engine := id) : State := (engS 3 (f g0)).setBytes 0x14000 ((opc.map (BitVec.ofNat 8)).map some)
def extra : List State := [isl {va := 0x100, pa := 0x7F000040, bytes := [1,2,3,4], sent := none}, isl {va := 0x100, pa := 0x7F004040, bytes := [1,2,3,4], sent := none}, sb {va := 0x100, pa := 0x7F004040, bytes := [1,2,3,4], sent := none}, sb {va := 0x100, pa := 0x7F004010 + 0x210, bytes := [1,2,3,4], sent := none},
  sb {va := 0x100, pa := 0x7F005058, bytes := [1,0,0,0], sent := none},
  {sb {va := 0x100, pa := 0x7F004040, bytes := [1,2,3,4], sent := none} with singles := [{m := 17, t := 24, granted := false}]}, {sb {va := 0x100, pa := 0x7F000040, bytes := [1,2,3,4], sent := none} with singles := [{m := 17, t := 24, granted := false},{m := 17, t := 23, granted := false}]},
  lp [0x44] (fun g => {g with cells := [0x101, 1]}), lp [0x44] (fun g => {g with cells := [0x40000000, 1]}), lp [0x44] (fun g => {g with cells := [0x14000, 1]}), lp [0x44] (fun g => {g with cells := [0x104, 1]}),lp [0x44] (fun g => {g with cells := [0x104, 1], krights := 0}),
  (lp [0x44] (fun g => {g with cells := [0x14000, 1]})).setReg (engBase 3 + 0x80) 0x8 , lp [1,5] (fun g => {g with cells := [1,2,3,4,5,6,7,8], dsp := 0xF02, dsl := 0xF0F}), lp [1,5] (fun g => {g with cells := [1,2,3,4,5,6,7,8], dsp := 0x1EE0, dsl := 0x1EE}), lp [0x20] (fun g => {g with cells := [1], dsp := 0x1FFFF}), lp [0x20] (fun g => {g with cells := [1], dsp := BitVec.ofNat 32 g.stackBase}),
  lp [0x65] (fun g => {g with stat := 0}), lp [0xA6] (fun g => {g with stat := 0}), lp [0xA7] (fun g => {g with stat := 0}),
  win 3 1 0x4 1 0x1 0x80000103 (win 3 2 2 1 0x2 0x80000004 (win 3 3 3 1 3 0x80000507 (lp [0x44] (fun g => {g with cells := [0x20000, 1], krights := 14, rsp := 0x43000, rsl := 0x42000})))), win 3 1 0x4 1 0x1 0x80000103 (win 3 2 2 1 0x2 0x80000004 (win 3 3 3 1 3 0x80000507 (lp [0x44] (fun g => {g with cells := [0x30000, 1], krights := 14, rsp := 0x43000, rsl := 0x42000}))))]
def s08a (i : Nat) : State := (samples ++ extra ++ [sb {va := 0x100, pa := 0x7F004040, bytes := [1,2,3,4], sent := none}, sb {va := 0x100, pa := 0x7F000040, bytes := [1,2,3,4], sent := none}].map (fun (s : State) => ({s.setReg (0x8100+0x180+8) 0xFFF with singles := [{m := 17, t := 24, granted := false}]} : State))).getD i State.reset

/-- Meets the hypotheses of `Obligations.ControlStores`, clause by clause. -/
theorem witness_ControlStores :
    ((s08a 0).Canonical ∧ spWf csBase (s08a 0).cstore = true ∧ (3 : Fin 257).val < (256 : Nat) ∧ (s08a 0).Accepts (Master.xbar (16 : Fin 21))
      (engBase (3 : Fin 257) + 88) ∧ (s08a 0).srstBusy (enginePage (3 : Fin 257)) = false ∧ bitAt ((s08a 0).csaddr (3 : Fin 257)) (30 : Nat) =
      false ∧ ((s08a 0).engines[(3 : Fin 257)].run = RunState.stopped ∨ (s08a 0).engines[(3 : Fin 257)].run = RunState.dark)) ∧
    ((s08a 1).Canonical ∧ spWf csBase (s08a 1).cstore = true ∧ (3 : Fin 257).val < (256 : Nat) ∧ (s08a 1).Accepts (Master.xbar (16 : Fin 21))
      (engBase (3 : Fin 257) + 88) ∧ (s08a 1).srstBusy (enginePage (3 : Fin 257)) = false ∧ bitAt ((s08a 1).csaddr (3 : Fin 257)) (30 : Nat) =
      false ∧ ¬((s08a 1).engines[(3 : Fin 257)].run = RunState.stopped ∨ (s08a 1).engines[(3 : Fin 257)].run = RunState.dark)) ∧
    ((s08a 13).Canonical ∧ spWf dispBase (s08a 13).dispatch = true ∧ (3 : Fin 257).val < (256 : Nat) ∧ (s08a 13).Accepts (Master.xbar (16 : Fin
      21)) (engBase (3 : Fin 257) + 76) ∧ (s08a 13).srstBusy (enginePage (3 : Fin 257)) = false ∧ bitAt ((s08a 13).csaddr (3 : Fin 257)) (30 : Nat)
      = true ∧ ((s08a 13).engines[(3 : Fin 257)].run = RunState.stopped ∨ (s08a 13).engines[(3 : Fin 257)].run = RunState.dark) ∧ ¬((224 : Nat) ≤
      fld ((s08a 13).csaddr (3 : Fin 257)) (0 : Nat) (8 : Nat) ∧ fld ((s08a 13).csaddr (3 : Fin 257)) (0 : Nat) (8 : Nat) ≤ (239 : Nat))) ∧
    ((s08a 14).Canonical ∧ spWf dispBase (s08a 14).dispatch = true ∧ (3 : Fin 257).val < (256 : Nat) ∧ (s08a 14).Accepts (Master.xbar (16 : Fin
      21)) (engBase (3 : Fin 257) + 76) ∧ (s08a 14).srstBusy (enginePage (3 : Fin 257)) = false ∧ bitAt ((s08a 14).csaddr (3 : Fin 257)) (30 : Nat)
      = true ∧ ¬(((s08a 14).engines[(3 : Fin 257)].run = RunState.stopped ∨ (s08a 14).engines[(3 : Fin 257)].run = RunState.dark) ∧ ¬((224 : Nat) ≤
      fld ((s08a 14).csaddr (3 : Fin 257)) (0 : Nat) (8 : Nat) ∧ fld ((s08a 14).csaddr (3 : Fin 257)) (0 : Nat) (8 : Nat) ≤ (239 : Nat)))) ∧
    ((s08a 44).Canonical ∧ spWf (fun x => (0 : Word128)) (s08a 44).sstore = true ∧ (s08a 44).Accepts (Master.xbar (16 : Fin 21)) (pageBase
      (Page.cluster (0 : Fin 16)) + 80) ∧ (s08a 44).srstBusy (Page.cluster (0 : Fin 16)) = false ∧ (s08a 44).unitHeld (3 : Nat) ((16384 * (0 : Fin
      16).val + fld ((s08a 44).getReg (pageBase (Page.cluster (0 : Fin 16)) + 64)) (0 : Nat) (14 : Nat)) / 256) = true) ∧
    ((s08a 0).Canonical ∧ spWf (fun x => (0 : Word128)) (s08a 0).sstore = true ∧ (s08a 0).Accepts (Master.xbar (16 : Fin 21)) (pageBase
      (Page.cluster (0 : Fin 16)) + 80) ∧ (s08a 0).srstBusy (Page.cluster (0 : Fin 16)) = false ∧ (s08a 0).unitHeld (3 : Nat) ((16384 * (0 : Fin
      16).val + fld ((s08a 0).getReg (pageBase (Page.cluster (0 : Fin 16)) + 64)) (0 : Nat) (14 : Nat)) / 256) = false) ∧
    ((s08a 0).Canonical ∧ spWf (fun x => (0 : Word128)) (s08a 0).sstore = true ∧ ((s08a 0).ssWait[(0 : Fin 16)] = false ∨ (s08a 0).unitHeld (3 :
      Nat) ((16384 * (0 : Fin 16).val + fld ((s08a 0).getReg (pageBase (Page.cluster (0 : Fin 16)) + 64)) (0 : Nat) (14 : Nat)) / 256) = true)) ∧
    ((s08a 17).Canonical ∧ spWf (fun x => (0 : Word128)) (s08a 17).sstore = true ∧ (s08a 17).ssWait[(0 : Fin 16)] = true ∧ (s08a 17).unitHeld (3 :
      Nat) ((16384 * (0 : Fin 16).val + fld ((s08a 17).getReg (pageBase (Page.cluster (0 : Fin 16)) + 64)) (0 : Nat) (14 : Nat)) / 256) = false) := by
  refine ⟨?_, ?_, ?_, ?_, ?_, ?_, ?_, ?_⟩ <;> decide +kernel

/-- Meets the hypotheses of `Obligations.StoreBuffer`, clause by clause. -/
theorem witness_StoreBuffer :
    ((s08a 0).engines[(3 : Fin 257)].sbuf = []) ∧
    ((consAnd (s08a 19).engines[(3 : Fin 257)].sbuf fun x rest => decide (regSpaceOf x.pa = none ∧ (okAnd (memWrite ((s08a 19).engWho (3 : Fin
      257)) x.pa (List.map some x.bytes) (s08a 19)) fun p s1 => true) = true)) = true) ∧
    ((consAnd (s08a 22).engines[(3 : Fin 257)].sbuf fun x rest => decide (regSpaceOf x.pa = none ∧ (errAnd (memWrite ((s08a 22).engWho (3 : Fin
      257)) x.pa (List.map some x.bytes) (s08a 22)) fun p s1 => decide (p = MErr.fault) && true) = true)) = true) ∧
    ((consAnd (s08a 24).engines[(3 : Fin 257)].sbuf fun x rest => decide (regSpaceOf x.pa = none ∧ (errAnd (memWrite ((s08a 24).engWho (3 : Fin
      257)) x.pa (List.map some x.bytes) (s08a 24)) fun p s1 => waitAnd p fun v => decide (((s08a 24).settle v).hostReqs.length ≤ (s08a
      24).hostReqs.length)) = true)) = true) ∧
    ((consAnd (s08a 25).engines[(3 : Fin 257)].sbuf fun x rest => decide (regSpaceOf x.pa = none ∧ (errAnd (memWrite ((s08a 25).engWho (3 : Fin
      257)) x.pa (List.map some x.bytes) (s08a 25)) fun p s1 => waitAnd p fun v => decide ((s08a 25).hostReqs.length < ((s08a 25).settle
      v).hostReqs.length)) = true)) = true) ∧
    ((consAnd (s08a 59).engines[(3 : Fin 257)].sbuf fun x rest => decide (Option.any (fun off => decide (x.island = true)) (regSpaceOf x.pa) =
      true)) = true) ∧
    ((consAnd (s08a 81).engines[(3 : Fin 257)].sbuf fun x rest => decide (Option.any (fun off => decide (x.island = false ∧ (s08a 81).grants
      (↑(engMaster (3 : Fin 257))) (regTarget off) = false)) (regSpaceOf x.pa) = true)) = true) ∧
    ((consAnd (s08a 20).engines[(3 : Fin 257)].sbuf fun x rest => decide (Option.any (fun off => decide (x.island = false ∧ (s08a 20).grants
      (↑(engMaster (3 : Fin 257))) (regTarget off) = true ∧ (((s08a 20).grantSingle (↑(engMaster (3 : Fin 257))) (regTarget off)).regStore (3 : Fin
      257) off x.bytes).snd.islandQ.length ≤ (s08a 20).islandQ.length)) (regSpaceOf x.pa) = true)) = true) ∧
    ((consAnd (s08a 61).engines[(3 : Fin 257)].sbuf fun x rest => decide (Option.any (fun off => decide (x.island = false ∧ (s08a 61).grants
      (↑(engMaster (3 : Fin 257))) (regTarget off) = true ∧ (s08a 61).islandQ.length < (((s08a 61).grantSingle (↑(engMaster (3 : Fin 257)))
      (regTarget off)).regStore (3 : Fin 257) off x.bytes).snd.islandQ.length)) (regSpaceOf x.pa) = true)) = true) := by
  refine ⟨?_, ?_, ?_, ?_, ?_, ?_, ?_, ?_, ?_⟩ <;> decide +kernel

/-- Meets the hypotheses of `Obligations.ExceptionEntry`, clause by clause. -/
theorem witness_ExceptionEntry_1 :
    ((s08a 0).atBoundary (3 : Fin 257) = false ∨ (s08a 0).noHalt (3 : Fin 257) = false ∨ (s08a 0).quietStep (3 : Fin 257) = true ∨ (s08a
      0).pendingEvent (3 : Fin 257) = none) ∧
    ((s08a 38).atBoundary (3 : Fin 257) = true ∧ (s08a 38).noHalt (3 : Fin 257) = true ∧ (s08a 38).quietStep (3 : Fin 257) = false ∧ (s08a
      38).engines[(3 : Fin 257)].load = none ∧ Option.any (fun p => decide (BitVec.toNat ((s08a 38).modEng (3 : Fin 257) fun g =>
      { (g.due (decide ((3 : Fin 257).val = (256 : Nat)))) with xcause := BitVec.ofNat (8 : Nat) p.fst }).engines[(3 : Fin 257)].rsp < BitVec.toNat
      ((s08a 38).modEng (3 : Fin 257) fun g =>
      { (g.due (decide ((3 : Fin 257).val = (256 : Nat)))) with xcause := BitVec.ofNat (8 : Nat) p.fst }).engines[(3 : Fin 257)].rsl ∨ BitVec.toNat
      ((s08a 38).modEng (3 : Fin 257) fun g =>
      { (g.due (decide ((3 : Fin 257).val = (256 : Nat)))) with xcause := BitVec.ofNat (8 : Nat) p.fst }).engines[(3 : Fin 257)].rsp < (8 : Nat)))
      ((s08a 38).pendingEvent (3 : Fin 257)) = true) ∧
    ((s08a 23).atBoundary (3 : Fin 257) = true ∧ (s08a 23).noHalt (3 : Fin 257) = true ∧ (s08a 23).quietStep (3 : Fin 257) = false ∧ (s08a
      23).engines[(3 : Fin 257)].load = none ∧ Option.any (fun p => decide (BitVec.toNat ((s08a 23).modEng (3 : Fin 257) fun g =>
      { (g.due (decide ((3 : Fin 257).val = (256 : Nat)))) with xcause := BitVec.ofNat (8 : Nat) p.fst }).engines[(3 : Fin 257)].rsl ≤ BitVec.toNat
      ((s08a 23).modEng (3 : Fin 257) fun g =>
      { (g.due (decide ((3 : Fin 257).val = (256 : Nat)))) with xcause := BitVec.ofNat (8 : Nat) p.fst }).engines[(3 : Fin 257)].rsp ∧ (8 : Nat) ≤
      BitVec.toNat ((s08a 23).modEng (3 : Fin 257) fun g =>
      { (g.due (decide ((3 : Fin 257).val = (256 : Nat)))) with xcause := BitVec.ofNat (8 : Nat) p.fst }).engines[(3 : Fin 257)].rsp ∧ (okAnd
      (pushFrame (3 : Fin 257) (s08a 23).engines[(3 : Fin 257)].pc ((s08a 23).modEng (3 : Fin 257) fun g =>
      { (g.due (decide ((3 : Fin 257).val = (256 : Nat)))) with xcause := BitVec.ofNat (8 : Nat) p.fst })) fun p_1 s2 => decide (BitVec.toNat
      ((s08a 23).modEng (3 : Fin 257) fun g =>
      { (g.due (decide ((3 : Fin 257).val = (256 : Nat)))) with xcause := BitVec.ofNat (8 : Nat) p.fst }).engines[(3 : Fin 257)].rsl + 8 ≤
      BitVec.toNat ((s08a 23).modEng (3 : Fin 257) fun g =>
      { (g.due (decide ((3 : Fin 257).val = (256 : Nat)))) with xcause := BitVec.ofNat (8 : Nat) p.fst }).engines[(3 : Fin 257)].rsp ∧
      s2.engines[(3 : Fin 257)].rsp = ((s08a 23).modEng (3 : Fin 257) fun g =>
      { (g.due (decide ((3 : Fin 257).val = (256 : Nat)))) with xcause := BitVec.ofNat (8 : Nat) p.fst }).engines[(3 : Fin 257)].rsp)) = true))
      ((s08a 23).pendingEvent (3 : Fin 257)) = true) ∧
    ((s08a 34).atBoundary (3 : Fin 257) = true ∧ (s08a 34).noHalt (3 : Fin 257) = true ∧ (s08a 34).quietStep (3 : Fin 257) = false ∧ (s08a
      34).engines[(3 : Fin 257)].load = none ∧ Option.any (fun p => decide (BitVec.toNat ((s08a 34).modEng (3 : Fin 257) fun g =>
      { (g.due (decide ((3 : Fin 257).val = (256 : Nat)))) with xcause := BitVec.ofNat (8 : Nat) p.fst }).engines[(3 : Fin 257)].rsl ≤ BitVec.toNat
      ((s08a 34).modEng (3 : Fin 257) fun g =>
      { (g.due (decide ((3 : Fin 257).val = (256 : Nat)))) with xcause := BitVec.ofNat (8 : Nat) p.fst }).engines[(3 : Fin 257)].rsp ∧ (8 : Nat) ≤
      BitVec.toNat ((s08a 34).modEng (3 : Fin 257) fun g =>
      { (g.due (decide ((3 : Fin 257).val = (256 : Nat)))) with xcause := BitVec.ofNat (8 : Nat) p.fst }).engines[(3 : Fin 257)].rsp ∧ (okAnd
      (pushFrame (3 : Fin 257) (s08a 34).engines[(3 : Fin 257)].pc ((s08a 34).modEng (3 : Fin 257) fun g =>
      { (g.due (decide ((3 : Fin 257).val = (256 : Nat)))) with xcause := BitVec.ofNat (8 : Nat) p.fst })) fun p_1 s2 => decide (BitVec.toNat
      ((s08a 34).modEng (3 : Fin 257) fun g =>
      { (g.due (decide ((3 : Fin 257).val = (256 : Nat)))) with xcause := BitVec.ofNat (8 : Nat) p.fst }).engines[(3 : Fin 257)].rsp < BitVec.toNat
      ((s08a 34).modEng (3 : Fin 257) fun g =>
      { (g.due (decide ((3 : Fin 257).val = (256 : Nat)))) with xcause := BitVec.ofNat (8 : Nat) p.fst }).engines[(3 : Fin 257)].rsl + 8 ∧
      s2.engines[(3 : Fin 257)].rsp = ((s08a 34).modEng (3 : Fin 257) fun g =>
      { (g.due (decide ((3 : Fin 257).val = (256 : Nat)))) with xcause := BitVec.ofNat (8 : Nat) p.fst }).engines[(3 : Fin 257)].rsp)) = true))
      ((s08a 34).pendingEvent (3 : Fin 257)) = true) ∧
    ((s08a 0).canRun (3 : Fin 257) = false ∨ baseReserved (BitVec.toNat (0 : BitVec 8)) = false) ∧
    ((s08a 1).canRun (3 : Fin 257) = true ∧ baseReserved (BitVec.toNat (197 : BitVec 8)) = true ∧ (s08a 1).entryIsBase ((3 : Fin 257).val)
      (BitVec.toNat (197 : BitVec 8)) = true ∧ (s08a 1).prompting (3 : Fin 257) = false ∧ (okAnd ((fetchBytes (3 : Fin 257) (s08a 1).engines[(3 :
      Fin 257)].pc (1 : Nat) true >>= fun __r => useEntry (3 : Fin 257) (BitVec.toNat (197 : BitVec 8))) (s08a 1)) fun p u => true) = true) ∧
    ((s08a 1).canRun (3 : Fin 257) = true ∧ (s08a 1).entryMoved (3 : Fin 257).val (68 : Nat) = false ∧ (okAnd (dispatchBase (3 : Fin 257) (68 :
      Nat) (1 : Nat) (0 : Word) (s08a 1)) fun p u => decide ((consAnd u.engines[(3 : Fin 257)].cells fun a rest => decide (rest.length < (8 : Nat)
      ∧ BitVec.toNat a % 4 ≠ (0 : Nat) ∧ bitAt u.engines[(3 : Fin 257)].stat (9 : Nat) = false)) = true)) = true) ∧
    ((s08a 72).canRun (3 : Fin 257) = true ∧ (s08a 72).entryMoved (3 : Fin 257).val (1 : Nat) = false ∧ (okAnd (dispatchBase (3 : Fin 257) (1 :
      Nat) (2 : Nat) (BitVec.setWidth (32 : Nat) (0 : BitVec 8)) (s08a 72)) fun p u => decide (u.engines[(3 : Fin 257)].cells.length = (8 : Nat) ∧
      BitVec.toNat u.engines[(3 : Fin 257)].dsp < u.engines[(3 : Fin 257)].stackLimit + 4)) = true) ∧
    ((s08a 74).canRun (3 : Fin 257) = true ∧ (s08a 74).entryMoved (3 : Fin 257).val (32 : Nat) = false ∧ (okAnd (dispatchBase (3 : Fin 257) (32 :
      Nat) (1 : Nat) (0 : Word) (s08a 74)) fun p u => decide (u.engines[(3 : Fin 257)].cells.length < (2 : Nat) ∧ u.engines[(3 : Fin
      257)].stackBase ≤ BitVec.toNat u.engines[(3 : Fin 257)].dsp)) = true) := by
  refine ⟨?_, ?_, ?_, ?_, ?_, ?_, ?_, ?_, ?_⟩ <;> decide +kernel

/-- Meets the hypotheses of `Obligations.ExceptionEntry`, clause by clause. -/
theorem witness_ExceptionEntry_2 :
    ((s08a 1).canRun (3 : Fin 257) = true ∧ (s08a 1).entryMoved (3 : Fin 257).val (105 : Nat) = false ∧ (okAnd (dispatchBase (3 : Fin 257) (105 :
      Nat) (2 : Nat) (BitVec.setWidth (32 : Nat) (0 : BitVec 8)) (s08a 1)) fun p u => decide (BitVec.toNat (0 : BitVec 8) ≤ (15 : Nat))) = true) ∧
    ((s08a 1).canRun (3 : Fin 257) = true ∧ (s08a 1).entryMoved (3 : Fin 257).val (191 : Nat) = false ∧ (okAnd (dispatchBase (3 : Fin 257) (191 :
      Nat) (1 : Nat) (0 : Word) (s08a 1)) fun p u => decide (u.engines[(3 : Fin 257)].bkpt = false ∧ u.prompting (3 : Fin 257) = false)) = true) ∧
    ((s08a 0).engines[(3 : Fin 257)].run ≠ RunState.intermission ∨ bitAt (s08a 0).engines[(3 : Fin 257)].stat (10 : Nat) = true) ∧
    ((bitAt (s08a 30).engines[(3 : Fin 257)].stat (10 : Nat) = false ∧ Instr.pacingTick (3 : Fin 257) = Instr.intermissionExit (3 : Fin 257) ∨
      bitAt (s08a 30).engines[(3 : Fin 257)].stat (10 : Nat) = true ∧ Instr.pacingTick (3 : Fin 257) = Instr.pacingTick (3 : Fin 257)) ∧ (s08a
      30).engines[(3 : Fin 257)].run = RunState.intermission ∧ Option.any (fun m => decide ((s08a 30).engines[(3 : Fin 257)].evl &&& m = (0 :
      BitVec 6) ∧ (s08a 30).waitEnds (3 : Fin 257) = false)) (s08a 30).engines[(3 : Fin 257)].waitMask = true) ∧
    ((bitAt (s08a 29).engines[(3 : Fin 257)].stat (10 : Nat) = false ∧ Instr.pacingTick (3 : Fin 257) = Instr.intermissionExit (3 : Fin 257) ∨
      bitAt (s08a 29).engines[(3 : Fin 257)].stat (10 : Nat) = true ∧ Instr.pacingTick (3 : Fin 257) = Instr.pacingTick (3 : Fin 257)) ∧ (s08a
      29).engines[(3 : Fin 257)].run = RunState.intermission ∧ Option.any (fun m => decide (((s08a 29).engines[(3 : Fin 257)].evl &&& m ≠ (0 :
      BitVec 6) ∨ (s08a 29).waitEnds (3 : Fin 257) = true) ∧ (s08a 29).stopDue (3 : Fin 257) = false ∧ (s08a 29).engines[(3 : Fin 257)].statNext =
      none ∧ (s08a 29).engines[(3 : Fin 257)].cfgSync = none)) (s08a 29).engines[(3 : Fin 257)].waitMask = true) ∧
    ((bitAt (s08a 31).engines[(3 : Fin 257)].stat (10 : Nat) = false ∧ Instr.pacingTick (3 : Fin 257) = Instr.intermissionExit (3 : Fin 257) ∨
      bitAt (s08a 31).engines[(3 : Fin 257)].stat (10 : Nat) = true ∧ Instr.pacingTick (3 : Fin 257) = Instr.pacingTick (3 : Fin 257)) ∧ (s08a
      31).engines[(3 : Fin 257)].run = RunState.intermission ∧ (s08a 31).engines[(3 : Fin 257)].waitMask = none ∧ Option.any (fun u => decide
      ((s08a 31).engines[(3 : Fin 257)].micro = true ∧ (s08a 31).engines[(3 : Fin 257)].tickWait = (0 : Nat))) (s08a 31).engines[(3 : Fin
      257)].waitEv = true) ∧
    ((s08a 80).canRun 3 = true ∧ (s08a 80).entryMoved 3 0x44 = false ∧ okAnd (dispatchBase 3 0x44 1 0 (s08a 80)) (fun _ u => (u.engines[(3 : Fin
      257)].cells.headD 0).toNat % 4 == 0 && okAnd (translateRaw 3 false (u.engines[(3 : Fin 257)].cells.headD 0).toNat u) (fun p v => hasRight p.x
      p.w p.r .read && !keyGrants v.engines[(3 : Fin 257)].krights p.key .read && entersFrom (s08a 80) v 8)) = true) ∧
    (userComesTo (s08a 76) 0x65 = true) ∧
    (userComesTo (s08a 77) 0xA6 = true) ∧
    (userComesTo (s08a 78) 0xA7 = true) ∧
    ((s08a 67).canRun 3 = true ∧ (s08a 67).entryMoved 3 0x44 = false ∧ okAnd (dispatchBase 3 0x44 1 0 (s08a 67)) (fun _ u => (u.engines[(3 : Fin
      257)].cells.headD 0).toNat % 4 == 0 && errAnd (translateRaw 3 false (u.engines[(3 : Fin 257)].cells.headD 0).toNat u) (fun x v => (match x
      with | .fault .. => true | _ => false) && entersFrom (s08a 67) v 7)) = true) := by
  refine ⟨?_, ?_, ?_, ?_, ?_, ?_, ?_, ?_, ?_, ?_, ?_⟩ <;> decide +kernel


/-- RETE of ExceptionEntry is found. -/
theorem witness_ExceptionEntry_rete : Option.any (fun _ => true) ((s08a 42).found 3 0x65 1 0 (do
    let st ← readReturn 3 0
    let a ← readReturn 3 4
    predicted 3
    return (st, a))) = true :=
  found_predicted (do let st ← readReturn 3 0; let a ← readReturn 3 4; return (st, a)) id (by decide +kernel)
    (by simp only [bind_assoc, pure_bind, id])

end Sys2Proof.Tests.W08
end

