-- ==== Sys2Proof/Tests/Witness08B.lean ====
section
/-!
SUPPORT. Witnesses: for each statement of part 08b of the obligations, states and operands that meet the hypotheses of each of its clauses.
-/
namespace Sys2Proof.Tests.W08B
set_option linter.unusedVariables false
set_option Elab.async false
open Sys2Proof Sys2Proof.Machine Sys2Proof.Tests

def st (r : RunState) : State := engS 3 {g0 with run := r}
def cs (s : State) : State := (((s.setReg (engBase 3 + 0x48) 0x80000405).setReg (engBase 3 + 0x4C) 0x1234567).setReg (engBase 3 + 0x50) 2).setReg (engBase 3 + 0x54) 3
def ss (s : State) : State := ((s.setReg (pageBase (.cluster 0) + 0x40) 0x80000405).setReg (pageBase (.cluster 0) + 0x44) 0x1234567).setReg (pageBase (.cluster 0) + 0x48) 2
def sb (x : StoreEntry) (g : Engine := g0) : State := engS 3 {g with sbuf := [x, {va := 5, pa := 5, bytes := [1], sent := none}], tinvs := [{part := 1, arrived := true, waits := [(3,2)]}]}
def mw (w : Word128) (g : Engine := {g0 with micro := true, upc := 0x405, x := #v[7,8,9,10]}) : State := (engS 3 g).setCsWord 3 0x405 w
def mword (seq alu a b d shf : Nat) (flg next imm ks : Nat := 0) (stk : Nat := 0) : Word128 :=
  BitVec.ofNat 128 (seq*2^124 + next*2^101+alu*2^96+a*2^92+b*2^88+d*2^84+shf*2^80+stk*2^76+flg*2^68+ks*2^64+imm*2^32)
def samples : List State :=
 [ (st .stopped).setReg (engBase 3 + 0x40) 0, (st .running).setReg (engBase 3 + 0x40) 0, st .running, st .stopped, st .dark, st .intermission, engS 3 {g0 with micro := true}, engS 3 {g0 with rep := true},
   engS 3 {g0 with micro := true, stat := 0x4400}, engS 3 {g0 with micro := true, stat := 0x4400, tickWait := 3}, engS 3 {g0 with micro := true, stat := 0x4400, paceLate := true},
   cs (st .stopped), cs (st .running), (cs (st .stopped)).setReg (engBase 3 + 0x48) 0xC0000005, (cs (st .stopped)).setReg (engBase 3 + 0x48) 0xC00000E5, (cs (st .running)).setReg (engBase 3 + 0x48) 0xC0000005,
   ss b0, {ss b0 with ssWait := Vector.replicate 16 true}, {(ss b0).modSlot 0 (fun w => {w with st := .prepared, entries := [{start := some 0xC0000400, data := [1,2,3,4]}]}) with ssWait := Vector.replicate 16 true},
   sb {va := 0x100, pa := 0x100, bytes := [1,2,3,4], sent := none}, sb {va := 0x100, pa := 0x7F300000, bytes := [1,2,3,4], sent := none}, sb {va := 0x100, pa := 0x7F000040, bytes := [1,2,3,4], sent := none},
   sb {va := 0x100, pa := 0x7E000040, bytes := [1,2,3,4], sent := none}, sb {va := 0x100, pa := 0x7E000040, bytes := [1,2,3,4], sent := none} {g0 with lse := true, lseaddr := 9}, {sb {va := 0x100, pa := 0x100, bytes := [1,2,3,4], sent := none} with retained := [.eventBank 16]},
   sb {va := 0x100, pa := 0x8000000000, bytes := [1,2,3,4], sent := none},
   sb {va := 0x100, pa := 0x7F100040, bytes := [1,2,3,4], sent := none}, engS 3 {g0 with stat := 0}, engS 3 {g0 with stat := 0x400},
   engS 3 {g0 with run := .intermission, waitMask := some 3, evl := 2, stat := 0x400}, engS 3 {g0 with run := .intermission, waitMask := some 3, stat := 0x400},
   (mw (mword 7 0 0 0 0 0 0 0x410)).modEng 3 (fun g => {g with run := .intermission, stat := 0x400, waitEv := some 0x405}),
   engS 3 {g0 with lse := true, lseaddr := 9}, engS 3 {g0 with lse := true, lseaddr := 9, rsp := 0x1000}, engS 3 {g0 with lse := true, rsl := 0x2FFC}, engS 3 {g0 with wdg := {pend := true}}, engS 3 {g0 with wdg := {pend := true}, rsl := 0x2FFC},
   (engS 3 g0).setReg (engBase 3 + 0x80) 0x8 |>.setReg (engBase 3 + 0x84) 0x8 |>.setReg (engBase 3 + 0x90) 0x00005000,
   engS 3 {g0 with rsp := 0, rsl := 0, lse := false, wdg := {pend := true}},
   (engS 3 g0).setReg (engBase 3 + 0x80) 0x8 |>.setReg (engBase 3 + 0x84) 0x8 |>.setReg (engBase 3 + 0x90) 0x00005000 |>.modEng 3 (fun g => {g with rsp := 0x1000}),
   engS 3 {g0 with lse := true, haltReq := [1]}, (engS 3 g0).setBytes 0x3000 ([0,0xC4,0,0xF8,0,0x50,0,0].map some),
   engS 3 {g0 with stat := 0xC000}, (engS 3 {g0 with stat := 0xC000}).setBytes 0x3000 ([0,0xC4,0,0xF8,0,0x50,0,0].map some),
   engS 3 {g0 with run := .intermission, waitMask := some 3}, engS 3 {g0 with run := .intermission, waitMask := some 3, evl := 2}, engS 3 {g0 with run := .intermission, waitMask := some 3, lse := true},
   (mw (mword 7 0 0 0 0 0 0 0x410)).modEng 3 (fun g => {g with run := .intermission, waitEv := some 0x405}), (mw (mword 7 0 0 0 0 0 0 0x410 + 2^117)).modEng 3 (fun g => {g with run := .intermission, waitEv := some 0x405}),
    (mw (mword 7 0 0 0 0 0 0 0x410 + 2^117)).modEng 3 (fun g => {g with run := .intermission, waitEv := some 0x405, lse := true}),
   mw (mword 9 0 0 0 0 0), mw (mword 0 0 8 9 14 0), mw (mword 0 2 8 9 10 0 15), mw (mword 1 4 8 14 11 5 15 0x7FF 0 3), mw (mword 1 4 8 13 11 0 15 0x400 77),mw (mword 1 4 12 13 11 0 15 0x200 77), mw (mword 0 0x13 8 14 8 0 15 0 0 0) {g0 with micro := true, upc := 0x405, stat := 0x4400},
   mw (mword 0 0x13 8 14 8 0 15 0 0 0) {g0 with micro := true, upc := 0x405, stat := 0x4400, tickWait := 2}
 ]
def s08ba (i : Nat) : State := (samples).getD i State.reset

/-- Meets the hypotheses of `Obligations.EngineControl`, clause by clause. -/
theorem witness_EngineControl :
    ((s08ba 0).Canonical ∧ (3 : Fin 257).val < (256 : Nat) ∧ (s08ba 0).Accepts (Master.xbar (16 : Fin 21)) (engBase (3 : Fin 257) + 64) ∧ (s08ba
      0).srstBusy (enginePage (3 : Fin 257)) = false ∧ (s08ba 0).engRun (3 : Fin 257) = false ∧ (s08ba 0).pageEn (enginePage (3 : Fin 257)) = true
      ∧ (s08ba 0).engines[(3 : Fin 257)].run = RunState.stopped) ∧
    ((s08ba 1).Canonical ∧ (3 : Fin 257).val < (256 : Nat) ∧ (s08ba 1).Accepts (Master.xbar (16 : Fin 21)) (engBase (3 : Fin 257) + 64) ∧ (s08ba
      1).srstBusy (enginePage (3 : Fin 257)) = false ∧ (s08ba 1).engines[(3 : Fin 257)].run ≠ RunState.stopped) ∧
    ((s08ba 3).Canonical ∧ (3 : Fin 257).val < (256 : Nat) ∧ (s08ba 3).Accepts (Master.xbar (16 : Fin 21)) (engBase (3 : Fin 257) + 64) ∧ (s08ba
      3).srstBusy (enginePage (3 : Fin 257)) = false ∧ (s08ba 3).engines[(3 : Fin 257)].run = RunState.stopped ∧ ((s08ba 3).engRun (3 : Fin 257) =
      true ∨ (s08ba 3).pageEn (enginePage (3 : Fin 257)) = false)) ∧
    ((s08ba 2).Canonical ∧ (3 : Fin 257).val < (256 : Nat) ∧ (s08ba 2).Accepts (Master.xbar (16 : Fin 21)) (engBase (3 : Fin 257) + 64) ∧ (s08ba
      2).srstBusy (enginePage (3 : Fin 257)) = false ∧ (s08ba 2).engRun (3 : Fin 257) = true) ∧
    ((s08ba 0).Canonical ∧ (3 : Fin 257).val < (256 : Nat) ∧ (s08ba 0).Accepts (Master.hrp (3 : BitVec 8)) (engBase (3 : Fin 257) + 8) ∧ (s08ba
      0).srstBusy (enginePage (3 : Fin 257)) = false ∧ (s08ba 0).pageEn (enginePage (3 : Fin 257)) = true ∧ bitAt ((s08ba 0).ctrlNow (enginePage (3
      : Fin 257))) (2 : Nat) = false) ∧
    ((s08ba 0).Canonical ∧ (s08ba 0).Accepts (Master.hrp (3 : BitVec 8)) (engBase (3 : Fin 257) + 136) ∧ (s08ba 0).srstBusy (enginePage (3 : Fin
      257)) = false) ∧
    ((s08ba 0).Canonical ∧ (bitAt (s08ba 0).engines[(3 : Fin 257)].stat (10 : Nat) = false ∨ (s08ba 0).working (3 : Fin 257) = false ∧ (s08ba
      0).engines[(3 : Fin 257)].run ≠ RunState.intermission)) ∧
    ((s08ba 9).Canonical ∧ (bitAt (s08ba 9).engines[(3 : Fin 257)].stat (10 : Nat) = true ∧ (s08ba 9).working (3 : Fin 257) = true) ∧ (s08ba
      9).engines[(3 : Fin 257)].tickWait ≠ (0 : Nat)) ∧
    ((s08ba 10).Canonical ∧ (bitAt (s08ba 10).engines[(3 : Fin 257)].stat (10 : Nat) = true ∧ (s08ba 10).working (3 : Fin 257) = true) ∧ (s08ba
      10).engines[(3 : Fin 257)].tickWait = (0 : Nat) ∧ ((s08ba 10).inRoutine (3 : Fin 257) = false ∨ (s08ba 10).engines[(3 : Fin 257)].paceLate =
      true ∨ (3 : Fin 257).val = (256 : Nat))) ∧
    ((s08ba 8).Canonical ∧ (bitAt (s08ba 8).engines[(3 : Fin 257)].stat (10 : Nat) = true ∧ (s08ba 8).working (3 : Fin 257) = true) ∧ (s08ba
      8).engines[(3 : Fin 257)].tickWait = (0 : Nat) ∧ (s08ba 8).inRoutine (3 : Fin 257) = true ∧ (s08ba 8).engines[(3 : Fin 257)].paceLate = false
      ∧ (3 : Fin 257).val < (256 : Nat)) := by
  refine ⟨?_, ?_, ?_, ?_, ?_, ?_, ?_, ?_, ?_, ?_⟩ <;> decide +kernel

/-- Meets the hypotheses of `Obligations.MicrowordRuns`, clause by clause. -/
theorem witness_MicrowordRuns :
    (¬((s08ba 0).inRoutine (3 : Fin 257) = true ∧ (bitAt (s08ba 0).engines[(3 : Fin 257)].stat (10 : Nat) = false ∨ (s08ba 0).engines[(3 : Fin
      257)].tickWait = (0 : Nat)))) ∧
    (((s08ba 50).inRoutine (3 : Fin 257) = true ∧ (bitAt (s08ba 50).engines[(3 : Fin 257)].stat (10 : Nat) = false ∨ (s08ba 50).engines[(3 : Fin
      257)].tickWait = (0 : Nat))) ∧ (s08ba 50).engines[(3 : Fin 257)].upc.toNat < (2048 : Nat) ∧ spGet (fun x => none) (s08ba 50).csErr (2048 * (3
      : Fin 257).val + (s08ba 50).engines[(3 : Fin 257)].upc.toNat) = none ∧ (microOf ((s08ba 50).csWord ((3 : Fin 257).val) (s08ba 50).engines[(3
      : Fin 257)].upc.toNat)).reserved = true ∧ (s08ba 50).prompting (3 : Fin 257) = false) ∧
    (((s08ba 51).inRoutine (3 : Fin 257) = true ∧ (bitAt (s08ba 51).engines[(3 : Fin 257)].stat (10 : Nat) = false ∨ (s08ba 51).engines[(3 : Fin
      257)].tickWait = (0 : Nat))) ∧ (s08ba 51).engines[(3 : Fin 257)].upc.toNat < (2048 : Nat) ∧ spGet (fun x => none) (s08ba 51).csErr (2048 * (3
      : Fin 257).val + (s08ba 51).engines[(3 : Fin 257)].upc.toNat) = none ∧ (microOf ((s08ba 51).csWord ((3 : Fin 257).val) (s08ba 51).engines[(3
      : Fin 257)].upc.toNat)).reserved = false ∧ ((microOf ((s08ba 51).csWord ((3 : Fin 257).val) (s08ba 51).engines[(3 : Fin 257)].upc.toNat)).stk
      = (0 : Nat) ∧ (microOf ((s08ba 51).csWord ((3 : Fin 257).val) (s08ba 51).engines[(3 : Fin 257)].upc.toNat)).mem = (0 : Nat) ∧ (microOf
      ((s08ba 51).csWord ((3 : Fin 257).val) (s08ba 51).engines[(3 : Fin 257)].upc.toNat)).xcmd = (0 : Nat) ∧ (8 : Nat) ≤ (microOf ((s08ba
      51).csWord ((3 : Fin 257).val) (s08ba 51).engines[(3 : Fin 257)].upc.toNat)).asrc ∧ (microOf ((s08ba 51).csWord ((3 : Fin 257).val) (s08ba
      51).engines[(3 : Fin 257)].upc.toNat)).asrc ≤ (14 : Nat) ∧ (8 : Nat) ≤ (microOf ((s08ba 51).csWord ((3 : Fin 257).val) (s08ba 51).engines[(3
      : Fin 257)].upc.toNat)).bsrc ∧ (microOf ((s08ba 51).csWord ((3 : Fin 257).val) (s08ba 51).engines[(3 : Fin 257)].upc.toNat)).bsrc ≤ (14 :
      Nat) ∧ ((8 : Nat) ≤ (microOf ((s08ba 51).csWord ((3 : Fin 257).val) (s08ba 51).engines[(3 : Fin 257)].upc.toNat)).dst ∧ (microOf ((s08ba
      51).csWord ((3 : Fin 257).val) (s08ba 51).engines[(3 : Fin 257)].upc.toNat)).dst ≤ (11 : Nat) ∨ (microOf ((s08ba 51).csWord ((3 : Fin
      257).val) (s08ba 51).engines[(3 : Fin 257)].upc.toNat)).dst = (14 : Nat)) ∧ (microOf ((s08ba 51).csWord ((3 : Fin 257).val) (s08ba
      51).engines[(3 : Fin 257)].upc.toNat)).haltd = false ∧ (microOf ((s08ba 51).csWord ((3 : Fin 257).val) (s08ba 51).engines[(3 : Fin
      257)].upc.toNat)).csel ≠ (33 : Nat)) ∧ (s08ba 51).engines[(3 : Fin 257)].load = none ∧ (s08ba 51).engines[(3 : Fin 257)].cells.length ≤ (8 :
      Nat) ∧ ((microOf ((s08ba 51).csWord ((3 : Fin 257).val) (s08ba 51).engines[(3 : Fin 257)].upc.toNat)).seq = (0 : Nat) ∧ (s08ba 51).engines[(3
      : Fin 257)].upc.toNat + 1 < (2048 : Nat) ∧ BitVec.toNat (1030 : BitVec 16) = (s08ba 51).engines[(3 : Fin 257)].upc.toNat + 1 ∨ (microOf
      ((s08ba 51).csWord ((3 : Fin 257).val) (s08ba 51).engines[(3 : Fin 257)].upc.toNat)).seq = (1 : Nat) ∧ (1030 : BitVec 16) = (microOf ((s08ba
      51).csWord ((3 : Fin 257).val) (s08ba 51).engines[(3 : Fin 257)].upc.toNat)).next ∧ BitVec.toNat (1030 : BitVec 16) < (2048 : Nat) ∧ ((s08ba
      51).engines[(3 : Fin 257)].upc.toNat < (1024 : Nat) ∨ (1024 : Nat) ≤ BitVec.toNat (1030 : BitVec 16))) ∧ (s08ba 51).Canonical) := by
  refine ⟨?_, ?_, ?_⟩ <;> decide +kernel

end Sys2Proof.Tests.W08B
end

