-- ==== Sys2Proof/Tests/Witness09.lean ====
section
/-!
SUPPORT. Witnesses: for each statement of part 09 of the obligations, states and operands that meet the hypotheses of each of its clauses.
-/
namespace Sys2Proof.Tests.W09
set_option linter.unusedVariables false
set_option Elab.async false
open Sys2Proof Sys2Proof.Machine Sys2Proof.Tests

/-- One byte element of a string instruction by engine 3: what it reads to compare, if anything. -/
def element : StringOp → EngM (Nat × Nat)
  | .movs => do let g ← engOf 3; storeN 3 g.dptr 1 (← loadN 3 g.sptr 1); return (0, 0)
  | .fils => do let g ← engOf 3; let c ← operands 3 1 1; storeN 3 g.dptr 1 (c.getD 0 0).toNat; return (0, 0)
  | .cmps => do let g ← engOf 3; let x ← loadN 3 g.sptr 1; return (x, ← loadN 3 g.dptr 1)
  | .scas => do let g ← engOf 3; let c ← operands 3 1 1; return (← loadN 3 g.sptr 1, (c.getD 0 0).toNat % 256)
  | .other _ => pure (0, 0)
/-- A REP element of engine 3 is found, the last one (`ends`) or not. -/
def repFound (s : State) (op : StringOp) (ends : Bool) : Bool :=
  okAnd ((if s.engines[(3 : Fin 257)].rep then modify (fun s => s.modEng 3 (fun g => { g with pc := g.ipc + 3 })) else dispatchRep 3 op 0 : EngM Unit) s)
    (fun _ s0 => okAnd (element op s0) (fun _ s1 => decide (s0.engines[(3 : Fin 257)].scnt = s.engines[(3 : Fin 257)].scnt) &&
      (decide (s.engines[(3 : Fin 257)].scnt = 1) == ends) && (!ends || okAnd (completeLoad 3 s1) (fun _ _ => true))))
def mem0 (s : State) : State := (s.setBytes 0x1EE0 ((List.range 32).map (fun i => some (BitVec.ofNat 8 (i*37+200))))).setBytes 0x100 ((List.range 64).map (fun i => some (BitVec.ofNat 8 (i*91+130))))
def g1 : Engine := {g0 with cells := [0x100, 0x104, 7], load := some (8, 0xDEADBEEF)}
def cellsets : List (List Word) := [[10,3,0x80000000,0xFFFFFFFF], [0xFFFFFFFF, 0x80000000], [0x7FFFFFFF,0x7FFFFFFF], [0,5], [0x80000000,0x80000000,3], [31, 0x80000001], [32,0x80000001], [33,0xC0000001],[1,0xFFFFFFFF], [0x12345678, 0x9ABCDEF0], [1,2,3,4,5,6,7,8], [], [0x100], [0x101, 9], [0x108,7,8], [0x30000, 2], [0x1F0,2]]
def base : List State := (cellsets.flatMap (fun c => [engS 3 {g0 with cells := c}, engS 3 {g0 with cells := c, stat := 0xE300}, engS 3 {g0 with cells := c, stat := 0xF0004000, load := some (c.length + 8, 0xDEADBEEF)}])).map mem0
def extra : List State := [engS 3 g1, engS 3 {g1 with stat := 0x8100}, engS 3 {g1 with reserved := some 0x10}, engS 3 {g1 with scnt := 3, sptr := 0x100, dptr := 0x120}, engS 3 {g1 with scnt := 1, sptr := 0x100, dptr := 0x100},
  engS 3 {g1 with scnt := 3, sptr := 0x100, dptr := 0x120, rep := true, ipc := 0x14000}, engS 3 {g1 with scnt := 3, sptr := 0x100, dptr := 0x100, rep := true, ipc := 0x14000}, engS 3 {g1 with scnt := 1, sptr := 0x100, dptr := 0x100, rep := true, ipc := 0x14000},
  engS 3 {g1 with rsp := 0x2FF0, stat := 0xC100}, engS 3 {g1 with krights := 0xFFFFFFFE, stat := 0}, engS 3 {g1 with evl := 3}, engS 3 {g1 with haltReq := [1]},
  engS 3 {g1 with sbuf := [{va := 0x100, pa := 0x100, bytes := [1,2,3,4], sent := none}]}, engS 3 {g1 with tinvs := [{part := 0, arrived := false, waits := []}], itlb := [⟨0,0,4096,0,0,0,true,true,true⟩]}, engS 3 {g1 with tinvs := [{part := 0, arrived := true, waits := []}]},
  engS 3 {g1 with stat := 0xFFFF_4000, lc := 4},
  engS 256 {g1 with vbase := 0}].map mem0
def s09a (i : Nat) : State := ((base.drop 30).take 8 ++ extra).getD i State.reset

/-- Meets the hypotheses of `Obligations.CueStack`, clause by clause. -/
theorem witness_CueStack :
    ((s09a 19).canRun (3 : Fin 257) = false) ∧
    (Option.any (fun p => true) ((s09a 0).found (3 : Fin 257) (0 : Nat) (1 : Nat) (0 : Word) (pure ())) = true) ∧
    (Option.any (fun p => true) ((s09a 0).found (3 : Fin 257) (16 : Nat) (1 : Nat) (0 : Word) do
      { let c ← operands (3 : Fin 257) (1 : Nat) (0 : Nat); pushReturn (3 : Fin 257) (c.getD (0 : Nat) (0 : Word)) }) = true) ∧
    (Option.any (fun p => true) ((s09a 0).found (3 : Fin 257) (17 : Nat) (1 : Nat) (0 : Word) do
      { let _ ← operands (3 : Fin 257) (0 : Nat) (1 : Nat); readReturn (3 : Fin 257) (0 : Nat) }) = true) ∧
    (Option.any (fun p => true) ((s09a 0).found (3 : Fin 257) (18 : Nat) (1 : Nat) (0 : Word) do
      { let _ ← operands (3 : Fin 257) (0 : Nat) (1 : Nat); readReturn (3 : Fin 257) (0 : Nat) }) = true) ∧
    (Option.any (fun p => true) ((s09a 0).found (3 : Fin 257) (19 : Nat) (1 : Nat) (0 : Word) (spillTo (3 : Fin 257) (0 : Nat) (8 : Nat))) = true) := by
  refine ⟨?_, ?_, ?_, ?_, ?_, ?_⟩ <;> decide +kernel

/-- Meets the hypotheses of `Obligations.CueArith`, clause by clause. -/
theorem witness_CueArith :
    (Option.any (fun p => true) ((s09a 0).found (3 : Fin 257) (36 : Nat) (1 : Nat) (0 : Word) (operands (3 : Fin 257) (1 : Nat) (1 : Nat))) = true) ∧
    (Option.any (fun p => true) ((s09a 0).found (3 : Fin 257) (47 : Nat) (1 : Nat) (0 : Word) (operands (3 : Fin 257) (2 : Nat) (0 : Nat))) = true) ∧
    (Option.any (fun p => true) ((s09a 0).found (3 : Fin 257) (52 : Nat) (1 : Nat) (0 : Word) (operands (3 : Fin 257) (1 : Nat) (1 : Nat))) = true) ∧
    (Option.any (fun p => true) ((s09a 0).found (3 : Fin 257) (58 : Nat) (2 : Nat) (BitVec.setWidth (32 : Nat) (0 : BitVec 8)) (operands (3 : Fin
      257) (1 : Nat) (1 : Nat))) = true) ∧
    (Option.any (fun p => true) ((s09a 0).found (3 : Fin 257) (59 : Nat) (2 : Nat) (BitVec.setWidth (32 : Nat) (0 : BitVec 8)) (operands (3 : Fin
      257) (1 : Nat) (0 : Nat))) = true) ∧
    (Option.any (fun p => true) ((s09a 0).found (3 : Fin 257) (60 : Nat) (1 : Nat) (0 : Word) (operands (3 : Fin 257) (2 : Nat) (0 : Nat))) = true) ∧
    (Option.any (fun p => true) ((s09a 0).found (3 : Fin 257) (63 : Nat) (1 : Nat) (0 : Word) (operands (3 : Fin 257) (1 : Nat) (1 : Nat))) = true) := by
  refine ⟨?_, ?_, ?_, ?_, ?_, ?_, ?_⟩ <;> decide +kernel

/-- Meets the hypotheses of `Obligations.CueMemory`, clause by clause. -/
theorem witness_CueMemory :
    (Option.any (fun p => true) ((s09a 6).found (3 : Fin 257) (75 : Nat) (1 : Nat) (0 : Word) do
      { let c ← operands (3 : Fin 257) (1 : Nat) (1 : Nat); loadReserve (3 : Fin 257) (c.getD (0 : Nat) (0 : Word)) }) = true) ∧
    (Option.any (fun p => true) ((s09a 6).found (3 : Fin 257) (76 : Nat) (1 : Nat) (0 : Word) do
      { let c ← operands (3 : Fin 257) (2 : Nat) (1 : Nat); storeConditional (3 : Fin 257) (c.getD (0 : Nat) (0 : Word)) (c.getD (1 : Nat) (0 : Word)) })
      = true) ∧
    (Option.any (fun p => true) ((s09a 0).found (3 : Fin 257) (77 : Nat) (1 : Nat) (0 : Word) do
      { let c ← operands (3 : Fin 257) (1 : Nat) (1 : Nat); testAndSet (3 : Fin 257) (c.getD (0 : Nat) (0 : Word)) }) = true) ∧
    (BitVec.toNat (0 : BitVec 8) / 4 < (5 : Nat) ∧ Option.any (fun p => true) ((s09a 0).found (3 : Fin 257) (133 : Nat) (2 : Nat) (BitVec.setWidth
      (32 : Nat) (0 : BitVec 8)) do
      { let g ← engOf (3 : Fin 257); let _ ← operands (3 : Fin 257) (0 : Nat) (1 : Nat); let __do_lift ← loadN (3 : Fin 257) (g.agAddr (BitVec.toNat (0 : BitVec 8) % 4)) ([((1 : Nat), BitVec.ofNat (32 : Nat)), ((1 : Nat), fun v => BitVec.signExtend (32 : Nat) (BitVec.ofNat (8 : Nat) v)), ((2 : Nat), BitVec.ofNat (32 : Nat)), ((2 : Nat), fun v => BitVec.signExtend (32 : Nat) (BitVec.ofNat (16 : Nat) v)), ((4 : Nat), BitVec.ofNat (32 : Nat))].getD (BitVec.toNat (0 : BitVec 8) / 4) ((4 : Nat), BitVec.ofNat (32 : Nat))).fst; pure (g.agAddr (BitVec.toNat (0 : BitVec 8) % 4), __do_lift) })
      = true) ∧
    (BitVec.toNat (0 : BitVec 8) / 4 < (3 : Nat) ∧ Option.any (fun p => true) ((s09a 0).found (3 : Fin 257) (134 : Nat) (2 : Nat) (BitVec.setWidth
      (32 : Nat) (0 : BitVec 8)) do
      { let g ← engOf (3 : Fin 257); let c ← operands (3 : Fin 257) (1 : Nat) (0 : Nat); storeN (3 : Fin 257) (g.agAddr (BitVec.toNat (0 : BitVec 8) % 4)) (2 ^ (BitVec.toNat (0 : BitVec 8) / 4)) (BitVec.toNat (c.getD (0 : Nat) (0 : Word))) })
      = true) := by
  refine ⟨?_, ?_, ?_, ?_, ?_⟩ <;> decide +kernel

/-- Meets the hypotheses of `Obligations.CueStrings`, clause by clause. -/
theorem witness_CueStrings :
    (BitVec.toNat (0 : BitVec 8) < (16 : Nat) ∧ BitVec.toNat (0 : BitVec 8) % 4 ≠ (3 : Nat) ∧ BitVec.toNat (0 : BitVec 8) / 4 ≠ (3 : Nat) ∧ (s09a
      0).engines[(3 : Fin 257)].scnt = (0 : Word) ∧ BitVec.toNat (0 : BitVec 8) < (4 : Nat) ∧ Option.any (fun p => true) ((s09a 0).found (3 : Fin
      257) (129 : Nat) (2 : Nat) (BitVec.setWidth (32 : Nat) (0 : BitVec 8)) (pure ())) = true) ∧
    (BitVec.toNat (0 : BitVec 8) < (16 : Nat) ∧ BitVec.toNat (0 : BitVec 8) % 4 ≠ (3 : Nat) ∧ BitVec.toNat (0 : BitVec 8) / 4 ≠ (3 : Nat) ∧ (s09a
      0).engines[(3 : Fin 257)].scnt = (0 : Word) ∧ BitVec.toNat (0 : BitVec 8) < (4 : Nat) ∧ Option.any (fun p => true) ((s09a 0).found (3 : Fin
      257) (130 : Nat) (2 : Nat) (BitVec.setWidth (32 : Nat) (0 : BitVec 8)) (pure ())) = true) ∧
    (BitVec.toNat (0 : BitVec 8) < (16 : Nat) ∧ BitVec.toNat (0 : BitVec 8) % 4 ≠ (3 : Nat) ∧ BitVec.toNat (0 : BitVec 8) / 4 ≠ (3 : Nat) ∧ (s09a
      0).engines[(3 : Fin 257)].scnt = (0 : Word) ∧ Option.any (fun p => true) ((s09a 0).found (3 : Fin 257) (131 : Nat) (2 : Nat) (BitVec.setWidth
      (32 : Nat) (0 : BitVec 8)) (pure ())) = true) ∧
    (BitVec.toNat (0 : BitVec 8) < (16 : Nat) ∧ BitVec.toNat (0 : BitVec 8) % 4 ≠ (3 : Nat) ∧ BitVec.toNat (0 : BitVec 8) / 4 ≠ (3 : Nat) ∧ (s09a
      0).engines[(3 : Fin 257)].scnt = (0 : Word) ∧ Option.any (fun p => true) ((s09a 0).found (3 : Fin 257) (132 : Nat) (2 : Nat) (BitVec.setWidth
      (32 : Nat) (0 : BitVec 8)) (pure ())) = true) ∧
    (BitVec.toNat (0 : BitVec 8) < (16 : Nat) ∧ BitVec.toNat (0 : BitVec 8) % 4 ≠ (3 : Nat) ∧ BitVec.toNat (0 : BitVec 8) / 4 ≠ (3 : Nat) ∧ (s09a
      11).engines[(3 : Fin 257)].scnt ≠ (0 : Word) ∧ BitVec.toNat (0 : BitVec 8) < (4 : Nat) ∧ Option.any (fun p => true) ((s09a 11).found (3 : Fin
      257) (129 : Nat) (2 : Nat) (BitVec.setWidth (32 : Nat) (0 : BitVec 8)) do
      { let g ← engOf (3 : Fin 257); let __do_lift ← loadN (3 : Fin 257) g.sptr (2 ^ (BitVec.toNat (0 : BitVec 8) % 4)); storeN (3 : Fin 257) g.dptr (2 ^ (BitVec.toNat (0 : BitVec 8) % 4)) __do_lift })
      = true) ∧
    (BitVec.toNat (0 : BitVec 8) < (16 : Nat) ∧ BitVec.toNat (0 : BitVec 8) % 4 ≠ (3 : Nat) ∧ BitVec.toNat (0 : BitVec 8) / 4 ≠ (3 : Nat) ∧ (s09a
      11).engines[(3 : Fin 257)].scnt ≠ (0 : Word) ∧ BitVec.toNat (0 : BitVec 8) < (4 : Nat) ∧ Option.any (fun p => true) ((s09a 11).found (3 : Fin
      257) (130 : Nat) (2 : Nat) (BitVec.setWidth (32 : Nat) (0 : BitVec 8)) do
      { let g ← engOf (3 : Fin 257); let c ← operands (3 : Fin 257) (1 : Nat) (1 : Nat); storeN (3 : Fin 257) g.dptr (2 ^ (BitVec.toNat (0 : BitVec 8) % 4)) (BitVec.toNat (c.getD (0 : Nat) (0 : Word))) })
      = true) ∧
    (BitVec.toNat (0 : BitVec 8) < (16 : Nat) ∧ BitVec.toNat (0 : BitVec 8) % 4 ≠ (3 : Nat) ∧ BitVec.toNat (0 : BitVec 8) / 4 ≠ (3 : Nat) ∧ (s09a
      11).engines[(3 : Fin 257)].scnt ≠ (0 : Word) ∧ Option.any (fun p => true) ((s09a 11).found (3 : Fin 257) (131 : Nat) (2 : Nat)
      (BitVec.setWidth (32 : Nat) (0 : BitVec 8)) do
      { let g ← engOf (3 : Fin 257); let x ← loadN (3 : Fin 257) g.sptr (2 ^ (BitVec.toNat (0 : BitVec 8) % 4)); let __do_lift ← loadN (3 : Fin 257) g.dptr (2 ^ (BitVec.toNat (0 : BitVec 8) % 4)); pure (x, __do_lift) })
      = true) ∧
    (BitVec.toNat (0 : BitVec 8) < (16 : Nat) ∧ BitVec.toNat (0 : BitVec 8) % 4 ≠ (3 : Nat) ∧ BitVec.toNat (0 : BitVec 8) / 4 ≠ (3 : Nat) ∧ (s09a
      11).engines[(3 : Fin 257)].scnt ≠ (0 : Word) ∧ Option.any (fun p => true) ((s09a 11).found (3 : Fin 257) (132 : Nat) (2 : Nat)
      (BitVec.setWidth (32 : Nat) (0 : BitVec 8)) do
      { let g ← engOf (3 : Fin 257); let c ← operands (3 : Fin 257) (1 : Nat) (1 : Nat); let __do_lift ← loadN (3 : Fin 257) g.sptr (2 ^ (BitVec.toNat (0 : BitVec 8) % 4)); pure (__do_lift, BitVec.toNat (c.getD (0 : Nat) (0 : Word)) % 2 ^ (8 * 2 ^ (BitVec.toNat (0 : BitVec 8) % 4))) })
      = true) ∧
    ((s09a 11).engines[(3 : Fin 257)].scnt ≠ 0 ∧ (s09a 11).canRun 3 = true ∧ (s09a 11).entryMoved 3 0x80 = false ∧ repFound (s09a 11) .movs false =
      true) ∧
    ((s09a 12).engines[(3 : Fin 257)].scnt ≠ 0 ∧ (s09a 12).canRun 3 = true ∧ (s09a 12).entryMoved 3 0x80 = false ∧ repFound (s09a 12) .movs true =
      true) ∧
    ((s09a 11).engines[(3 : Fin 257)].scnt ≠ 0 ∧ (s09a 11).canRun 3 = true ∧ (s09a 11).entryMoved 3 0x80 = false ∧ repFound (s09a 11) .fils false =
      true) ∧
    ((s09a 12).engines[(3 : Fin 257)].scnt ≠ 0 ∧ (s09a 12).canRun 3 = true ∧ (s09a 12).entryMoved 3 0x80 = false ∧ repFound (s09a 12) .fils true =
      true) ∧
    ((s09a 11).engines[(3 : Fin 257)].scnt ≠ 0 ∧ (s09a 11).canRun 3 = true ∧ (s09a 11).entryMoved 3 0x80 = false ∧ repFound (s09a 11) .cmps false =
      true) ∧
    ((s09a 12).engines[(3 : Fin 257)].scnt ≠ 0 ∧ (s09a 12).canRun 3 = true ∧ (s09a 12).entryMoved 3 0x80 = false ∧ repFound (s09a 12) .cmps true =
      true) ∧
    ((s09a 11).engines[(3 : Fin 257)].scnt ≠ 0 ∧ (s09a 11).canRun 3 = true ∧ (s09a 11).entryMoved 3 0x80 = false ∧ repFound (s09a 11) .scas false =
      true) ∧
    ((s09a 12).engines[(3 : Fin 257)].scnt ≠ 0 ∧ (s09a 12).canRun 3 = true ∧ (s09a 12).entryMoved 3 0x80 = false ∧ repFound (s09a 12) .scas true =
      true) := by
  refine ⟨?_, ?_, ?_, ?_, ?_, ?_, ?_, ?_, ?_, ?_, ?_, ?_, ?_, ?_, ?_, ?_⟩ <;> decide +kernel

/-- An engine with two cells. -/
def sF : State := engS 3 { g0 with cells := [5, 6] }
/-- The entry of a call: the return address pushed where LINK is 0, and the prediction. -/
def enter : EngM Unit := do
  let g ← engOf 3
  (if g.stat.getLsbD 8 then pure () else pushReturn 3 g.pc)
  predicted 3
/-- A call's body is found when the return address can be pushed. -/
theorem found_enter {α β : Type} {s : State} {opc len : Nat} {imm : Word} (x : EngM α) (f : α → β)
    (h : (s.canRun 3 && !s.entryMoved 3 opc && okAnd ((dispatchBase 3 opc len imm >>= fun _ => (do
      let a ← x; let g ← engOf 3; (if g.stat.getLsbD 8 then pure () else pushReturn 3 g.pc); pure a)) s)
      (fun _ t => (t.engines[(3 : Fin 257)]).load.isNone)) = true) :
    Option.any (fun _ => true) (s.found 3 opc len imm (do let a ← x; enter; return f a)) = true :=
  found_predicted _ f h (by simp only [enter, bind_assoc, pure_bind])
/-- The conditional branches of CueFlow are found. -/
theorem witness_CueFlow_branches : ∀ opc ∈ [112,113,114,115,116,117,118,119,120,121,122,123,124,125,126,127], Option.any (fun _ => true) (sF.found (3 : Fin 257) opc 3 (BitVec.setWidth 32 (0 : BitVec 16)) (predicted 3)) = true :=
  fun opc h => found_predicted (pure ()) id ((by decide +kernel : ∀ opc ∈ [112,113,114,115,116,117,118,119,120,121,122,123,124,125,126,127], (sF.canRun 3 && okAnd ((dispatchBase 3 opc 3 (BitVec.setWidth 32 (0 : BitVec 16)) >>= fun _ => (pure () : EngM Unit)) sF) (fun _ t => (t.engines[(3 : Fin 257)]).load.isNone)) = true) opc h) (by simp only [pure_bind]; rfl)
/-- The calls of CueFlow are found. -/
theorem witness_CueFlow_calls : Option.any (fun _ => true) (sF.found 3 0x61 3 0 (do let g ← engOf 3; enter; return g.pc + 0)) = true ∧
   Option.any (fun _ => true) (sF.found 3 0x62 5 0 (do let g ← engOf 3; enter; return g.pc + 0)) = true ∧
   Option.any (fun _ => true) (sF.found 3 0x63 1 0 (do let c ← operands 3 1 0; enter; return c.getD 0 0)) = true :=
  ⟨found_enter (engOf 3) (fun g => g.pc + 0) (by decide +kernel), found_enter (engOf 3) (fun g => g.pc + 0) (by decide +kernel),
   found_enter (operands 3 1 0) (fun c => c.getD 0 0) (by decide +kernel)⟩
/-- The jumps on a cell of CueFlow are found. -/
theorem witness_CueFlow_cells : Option.any (fun _ => true) (sF.found 3 0x60 1 0 (do let c ← operands 3 1 0; predicted 3; return c.getD 0 0)) = true ∧
   Option.any (fun _ => true) (sF.found 3 0x66 3 0 (do let c ← operands 3 1 0; predicted 3; return c.getD 0 0)) = true ∧
   Option.any (fun _ => true) (sF.found 3 0x67 3 0 (do let c ← operands 3 1 0; predicted 3; return c.getD 0 0)) = true ∧
   Option.any (fun _ => true) (sF.found 3 0x68 3 0 (do let c ← operands 3 1 1; predicted 3; return c.getD 0 0)) = true :=
  ⟨found_predicted (operands 3 1 0) (fun c => c.getD 0 0) (by decide +kernel) rfl, found_predicted (operands 3 1 0) (fun c => c.getD 0 0) (by decide +kernel) rfl,
   found_predicted (operands 3 1 0) (fun c => c.getD 0 0) (by decide +kernel) rfl, found_predicted (operands 3 1 1) (fun c => c.getD 0 0) (by decide +kernel) rfl⟩
/-- An engine with a return address in memory. -/
def sR : State := (engS 3 { g0 with cells := [5, 6] }).setBytes 0x3000 [some 1, some 0, some 2, some 0, some 0, some 0, some 0, some 0]
/-- RET of CueFlow is found. -/
theorem witness_CueFlow_ret : Option.any (fun _ => true) (sR.found 3 0x64 1 0 (do
      let g ← engOf 3
      let a ← if g.stat.getLsbD 8 then pure none else some <$> readReturn 3 0
      predicted 3
      return a)) = true :=
  found_predicted (do let g ← engOf 3; if g.stat.getLsbD 8 then pure none else some <$> readReturn 3 0) id (by decide +kernel) (by
     simp only [bind_assoc]; congr 1; funext g; split <;> simp only [pure_bind, id])

end Sys2Proof.Tests.W09
end

