-- ==== Sys2Proof/Tests/Witness09B.lean ====
section
/-!
SUPPORT. Witnesses: for each statement of part 09b of the obligations, states and operands that meet the hypotheses of each of its clauses.
-/
namespace Sys2Proof.Tests.W09B
set_option linter.unusedVariables false
set_option Elab.async false
open Sys2Proof Sys2Proof.Machine Sys2Proof.Tests

/-- The page walk `k` of engine 3 waits for memory (`waits`), or comes to a fault. -/
def walkGives (s : State) (k : Walk) (va : Nat) (waits : Bool) : Bool :=
  match walkOn 3 va k s with | .error (.wait _) _ => waits | .error (.fault ..) _ => !waits | _ => false
/-- No window of engine 3 and no entry of its caches holds the page of `va`. -/
def missed (s : State) (va : Nat) : Bool :=
  (s.ownWindowFor 3 va).isNone && (tlbFind s.engines[(3 : Fin 257)].dtlb s.engines[(3 : Fin 257)].partNo va).isNone &&
    (tlbFind s.shared[clusterOf 3].utlb s.engines[(3 : Fin 257)].partNo va).isNone
/-- A walk that begins waits, or comes to a fault. -/
def beginsAnd (s : State) (va : Nat) (waits : Bool) : Bool :=
  s.walks.isEmpty && missed s va && okAnd (walkBegin 3 s.engines[(3 : Fin 257)].partNo va s) (fun k _ => walkGives s k va waits)
/-- A walk in progress waits, or comes to a fault. -/
def goesOnAnd (s : State) (va : Nat) (waits : Bool) : Bool :=
  (s.walks.find? (fun k => k.eng == 3 && k.page == va / 4096)).any (fun k => walkGives s k va waits)
def g1 : Engine := {g0 with cells := [0x100, 0x104, 7], load := some (8, 0xDEADBEEF)}
def pt (s : State) : State :=
  ((((win 3 2 0x1000 0x100 0 0x80000020 s).setReg 0x300200 0x00020001).setReg 0x300204 0).setBytes (0x20008) ((bytesLE 8 (0x22000+1)).map some)).setBytes 0x22000 ((bytesLE 8 (0x23000+1)).map some) |>.setBytes (0x23000 + 8*3) ((bytesLE 8 (0x51000+0xF)).map some)
def ring1 (r : Nat) (s : State) : State := ((s.setReg (ringBase r) 0x9000).setReg (ringBase r + 8) 0x80000083).setReg (ringBase r + 0x10) 1 |>.setReg (ringBase r + 0x14) 1
def ring2 (r : Nat) (s : State) : State := ring1 r s |>.setReg (ringBase r + 8) 0x80000003
def ls (c : List Word) : State := engS 3 {g1 with cells := c}
def smps : List State := [ls [0x100,3], engS 3 {g1 with stat := 0x4000, cells := [0x4000, 3]}, engS 3 {g1 with stat := 0xC000, cells := [0x8000, 3]}, engS 3 {g1 with stat := 0xC000, evl := 3}, engS 3 {g1 with stat := 0x4000, cells := [0xFFFFFFFC]},
  engS 3 {g1 with sbuf := [{va := 0x100, pa := 0x100, bytes := [1,2,3,4], sent := none}]}, engS 3 {g1 with stat := 0x8000, tinvs := [{part := 0, arrived := false, waits := []}], itlb := [⟨0,0,4096,0,0,0,true,true,true⟩], sbuf := [{va := 0x100, pa := 0x100, bytes := [1,2,3,4], sent := none}]}, engS 3 {g1 with stat := 0x8000, tinvs := [{part := 0, arrived := true, waits := []}]},
  pt (ls [0x100,3]), ring1 49 (ls [0x100, 3]), ring2 7 (ls [7, 1]), ring2 7 (ls [1, 7]), (ls [1]).setSsWord 0 (0x3F00) 0xA0000405 ,(ls [1]).setSsWord 0 (0x3F00) 0xC0000405, engS 3 {g1 with lse := true, stat := 0}, engS 3 {g1 with evl := 5, stat := 0},
  {pt (ls [0x100,3]) with walks := [{eng := 3, part := 0, page := 0x40003, level := 3, addr := 0x23018, ptrs := []}]},
  {pt (engS 3 {g1 with stat := 0x8000, tinvs := [{part := 0, arrived := false, waits := []}]}) with walks := [{eng := 3, part := 0, page := 0x40003, level := 3, addr := 0x23018, ptrs := [], stale := true}]},
  {pt (ls [0x100,3]) with walks := [{eng := 2, part := 0, page := 0x40003, level := 3, addr := 0x23018, ptrs := []}]},
  {pt (ls [0x100,3]) with walks := [{eng := 3, part := 0, page := 0x40003, level := 3, addr := 0x23020, ptrs := []}]},
  {pt (ls [0x100,3]) with retained := [.eventBank 8, .eventBank 520, .eventBank 777]}, (pt (ls [0x100,3])).setReg 0x300200 0,
  {(pt (engS 3 {g1 with stat := 0x8000})) with pending := []},
  {pt (ls [0x100,3]) with retained := [.eventBank 777], walks := [{eng := 3, part := 0, page := 0x40003, level := 3, addr := 0x23018, ptrs := []}]},
  {pt (ls [0x100,3]) with walks := [{eng := 3, part := 0, page := 0x40003, level := 3, addr := 0x23018, ptrs := [], stale := true}]}]
def s09ba (i : Nat) : State := (smps).getD i State.reset

/-- Meets the hypotheses of `Obligations.CueSystem`, clause by clause. -/
theorem witness_CueSystem_1 :
    (srOk (BitVec.toNat (0 : BitVec 8)) = true ∧ Option.any (fun p => true) ((s09ba 0).found (3 : Fin 257) (160 : Nat) (2 : Nat) (BitVec.setWidth
      (32 : Nat) (0 : BitVec 8)) do
      { let s ← get; let _ ← operands (3 : Fin 257) (0 : Nat) (1 : Nat); pure (s.srRead (3 : Fin 257) (BitVec.toNat (0 : BitVec 8))) }) = true) ∧
    (srOk (BitVec.toNat (0 : BitVec 8)) = true ∧ BitVec.toNat (0 : BitVec 8) ≠ (1 : Nat) ∧ ¬((40 : Nat) ≤ BitVec.toNat (0 : BitVec 8) ∧
      BitVec.toNat (0 : BitVec 8) ≤ (71 : Nat)) ∧ Option.any (fun p => decide (p.snd.fst.privileged (3 : Fin 257) = true ∨ srHouse (BitVec.toNat (0
      : BitVec 8)) = false)) ((s09ba 0).found (3 : Fin 257) (161 : Nat) (2 : Nat) (BitVec.setWidth (32 : Nat) (0 : BitVec 8)) (operands (3 : Fin
      257) (1 : Nat) (0 : Nat))) = true) ∧
    ((40 : Nat) ≤ BitVec.toNat (40 : BitVec 8) ∧ BitVec.toNat (40 : BitVec 8) ≤ (71 : Nat) ∧ Option.any (fun p => decide (p.snd.fst.privileged (3 :
      Fin 257) = true ∧ p.snd.fst.winHeld (3 : Fin 257) (BitVec.toNat (40 : BitVec 8)) = false)) ((s09ba 2).found (3 : Fin 257) (161 : Nat) (2 :
      Nat) (BitVec.setWidth (32 : Nat) (40 : BitVec 8)) do
      { let c ← operands (3 : Fin 257) (1 : Nat) (0 : Nat); completeLoad (3 : Fin 257); modify fun s => s.srWindow (3 : Fin 257) (BitVec.toNat (40 : BitVec 8)) (c.getD (0 : Nat) (0 : Word)); pure c })
      = true) ∧
    (Option.any (fun p => decide (p.snd.fst.privileged (3 : Fin 257) = true)) ((s09ba 2).found (3 : Fin 257) (161 : Nat) (2 : Nat) (1 : Word)
      (operands (3 : Fin 257) (1 : Nat) (0 : Nat))) = true) ∧
    (Option.any (fun p => decide (p.snd.fst.privileged (3 : Fin 257) = false ∧ (p.fst.getD (0 : Nat) (0 : Word) ^^^ p.snd.fst.engines[(3 : Fin
      257)].stat) &&& (64512 : Word) = (0 : Word))) ((s09ba 1).found (3 : Fin 257) (161 : Nat) (2 : Nat) (1 : Word) (operands (3 : Fin 257) (1 :
      Nat) (0 : Nat))) = true) ∧
    (Option.any (fun p => true) ((s09ba 0).found (3 : Fin 257) (162 : Nat) (1 : Nat) (0 : Word) (pure ())) = true) ∧
    (Option.any (fun p => true) ((s09ba 0).found (3 : Fin 257) (163 : Nat) (1 : Nat) (0 : Word) (drainAll (3 : Fin 257))) = true) ∧
    (Option.any (fun p => true) ((s09ba 0).found (3 : Fin 257) (164 : Nat) (1 : Nat) (0 : Word) (drainAll (3 : Fin 257))) = true) ∧
    (Option.any (fun p => true) ((s09ba 0).found (3 : Fin 257) (165 : Nat) (1 : Nat) (0 : Word) (pure ())) = true) ∧
    (Option.any (fun p => true) ((s09ba 2).found (3 : Fin 257) (166 : Nat) (1 : Nat) (0 : Word) do
      { let c ← operands (3 : Fin 257) (1 : Nat) (0 : Nat); drainAll (3 : Fin 257); act fun s => s.modEng (3 : Fin 257) fun g => { g with tinvs := g.tinvs ++ [{ part := BitVec.toNat (c.getD (0 : Nat) (0 : Word)) % 64, arrived := false, waits := [] }] } })
      = true) ∧
    ((okAnd (dispatchBase (3 : Fin 257) (167 : Nat) (1 : Nat) (0 : Word) (s09ba 2)) fun p s0 => decide ((s09ba 2).canRun (3 : Fin 257) = true ∧
      (s09ba 2).entryMoved (3 : Fin 257).val (167 : Nat) = false ∧ s0.engines[(3 : Fin 257)].tinvDone = true ∧ (okAnd (completeLoad (3 : Fin 257)
      s0) fun p s2 => true) = true)) = true) ∧
    ((okAnd (dispatchBase (3 : Fin 257) (167 : Nat) (1 : Nat) (0 : Word) (s09ba 6)) fun p s0 => decide ((s09ba 6).canRun (3 : Fin 257) = true ∧
      (s09ba 6).entryMoved (3 : Fin 257).val (167 : Nat) = false ∧ s0.engines[(3 : Fin 257)].tinvDone = false)) = true) ∧
    (Option.any (fun p => decide (p.snd.fst.privileged (3 : Fin 257) = true ∨ keysReduce p.snd.fst.engines[(3 : Fin 257)].krights (p.fst.getD (0 :
      Nat) (0 : Word)) = true)) ((s09ba 0).found (3 : Fin 257) (168 : Nat) (1 : Nat) (0 : Word) (operands (3 : Fin 257) (1 : Nat) (0 : Nat))) =
      true) ∧
    (List.findIdx? (fun t => !t.arrived) (s09ba 0).engines[(3 : Fin 257)].tinvs = none) ∧
    (Option.any (fun i => decide (Option.any (fun x => true) (s09ba 6).engines[(3 : Fin 257)].tinvs[i]? = true)) (List.findIdx? (fun t =>
      !t.arrived) (s09ba 6).engines[(3 : Fin 257)].tinvs) = true) ∧
    ((s09ba 0).Canonical ∧ List.find? (fun k => k.eng == (3 : Fin 257).val && k.page == BitVec.toNat (256 : BitVec 40) / 4096) (s09ba 0).walks =
      none ∧ (((s09ba 0).ownWindowFor (3 : Fin 257) (BitVec.toNat (256 : BitVec 40))).isSome = true ∨ (tlbFind (if (Access.fetch == Access.fetch) =
      true then (s09ba 0).engines[(3 : Fin 257)].itlb else (s09ba 0).engines[(3 : Fin 257)].dtlb) (s09ba 0).engines[(3 : Fin 257)].partNo
      (BitVec.toNat (256 : BitVec 40))).isSome = true ∨ (tlbFind (s09ba 0).shared[clusterOf (3 : Fin 257)].utlb (s09ba 0).engines[(3 : Fin
      257)].partNo (BitVec.toNat (256 : BitVec 40))).isSome = true)) ∧
    ((s09ba 18).Canonical ∧ List.find? (fun k => k.eng == (3 : Fin 257).val && k.page == BitVec.toNat (1073754403 : BitVec 40) / 4096) (s09ba
      18).walks = none ∧ ¬(((s09ba 18).ownWindowFor (3 : Fin 257) (BitVec.toNat (1073754403 : BitVec 40))).isSome = true ∨ (tlbFind (if
      (Access.fetch == Access.fetch) = true then (s09ba 18).engines[(3 : Fin 257)].itlb else (s09ba 18).engines[(3 : Fin 257)].dtlb) (s09ba
      18).engines[(3 : Fin 257)].partNo (BitVec.toNat (1073754403 : BitVec 40))).isSome = true ∨ (tlbFind (s09ba 18).shared[clusterOf (3 : Fin
      257)].utlb (s09ba 18).engines[(3 : Fin 257)].partNo (BitVec.toNat (1073754403 : BitVec 40))).isSome = true) ∧ (walkers (3 : Fin 257) ≤
      (List.filter (fun k => k.eng / 16 == (3 : Fin 257).val / 16) (s09ba 18).walks).length ∨ ∃ k, k ∈ List.filter (fun k => k.eng / 16 == (3 : Fin
      257).val / 16) (s09ba 18).walks ∧ k.part = (s09ba 18).engines[(3 : Fin 257)].partNo ∧ k.page = BitVec.toNat (1073754403 : BitVec 40) / 4096)) := by
  refine ⟨?_, ?_, ?_, ?_, ?_, ?_, ?_, ?_, ?_, ?_, ?_, ?_, ?_, ?_, ?_, ?_, ?_⟩ <;> decide +kernel

/-- Meets the hypotheses of `Obligations.CueSystem`, clause by clause. -/
theorem witness_CueSystem_2 :
    ((s09ba 8).Canonical ∧ List.find? (fun k => k.eng == (3 : Fin 257).val && k.page == BitVec.toNat (1073754403 : BitVec 40) / 4096) (s09ba
      8).walks = none ∧ ¬(((s09ba 8).ownWindowFor (3 : Fin 257) (BitVec.toNat (1073754403 : BitVec 40))).isSome = true ∨ (tlbFind (if (Access.fetch
      == Access.fetch) = true then (s09ba 8).engines[(3 : Fin 257)].itlb else (s09ba 8).engines[(3 : Fin 257)].dtlb) (s09ba 8).engines[(3 : Fin
      257)].partNo (BitVec.toNat (1073754403 : BitVec 40))).isSome = true ∨ (tlbFind (s09ba 8).shared[clusterOf (3 : Fin 257)].utlb (s09ba
      8).engines[(3 : Fin 257)].partNo (BitVec.toNat (1073754403 : BitVec 40))).isSome = true) ∧ (List.filter (fun k => k.eng / 16 == (3 : Fin
      257).val / 16) (s09ba 8).walks).length < walkers (3 : Fin 257) ∧ (∀ (k : Walk), k ∈ List.filter (fun k => k.eng / 16 == (3 : Fin 257).val /
      16) (s09ba 8).walks → ¬(k.part = (s09ba 8).engines[(3 : Fin 257)].partNo ∧ k.page = BitVec.toNat (1073754403 : BitVec 40) / 4096)) ∧ (okAnd
      (walkBegin (3 : Fin 257) (s09ba 8).engines[(3 : Fin 257)].partNo (BitVec.toNat (1073754403 : BitVec 40)) (s09ba 8)) fun k s0 => decide
      ((okAnd (walkOn (3 : Fin 257) (3 : Nat) k (s09ba 8)) fun x s1 => decide s1.Canonical) = true)) = true) ∧
    ((s09ba 16).Canonical ∧ Option.any (fun k => decide ((okAnd (walkOn (3 : Fin 257) (3 : Nat) k (s09ba 16)) fun x s1 => decide s1.Canonical) =
      true)) (List.find? (fun k => k.eng == (3 : Fin 257).val && k.page == BitVec.toNat (1073754403 : BitVec 40) / 4096) (s09ba 16).walks) = true) ∧
    ((s09ba 8).Canonical ∧ beginsAnd (s09ba 8) 0x1000000 false = true) ∧
    ((s09ba 20).Canonical ∧ beginsAnd (s09ba 20) 0x40003123 true = true) ∧
    ((s09ba 19).Canonical ∧ goesOnAnd (s09ba 19) 0x40003123 false = true) ∧
    ((s09ba 23).Canonical ∧ goesOnAnd (s09ba 23) 0x40003123 true = true) := by
  refine ⟨?_, ?_, ?_, ?_, ?_, ?_⟩ <;> decide +kernel

/-- Meets the hypotheses of `Obligations.CueRings`, clause by clause. -/
theorem witness_CueRings :
    (BitVec.toNat (0 : BitVec 8) < (16 : Nat) ∧ Option.any (fun p => true) ((s09ba 0).found (3 : Fin 257) (169 : Nat) (2 : Nat) (BitVec.setWidth
      (32 : Nat) (0 : BitVec 8)) do
      { let c ← operands (3 : Fin 257) (1 : Nat) (1 : Nat); placeCue (3 : Fin 257) (c.getD (0 : Nat) (0 : Word)) (BitVec.toNat (0 : BitVec 8)) }) =
      true) ∧
    (Option.any (fun p => true) ((s09ba 0).found (3 : Fin 257) (170 : Nat) (1 : Nat) (0 : Word) do
      { let c ← operands (3 : Fin 257) (1 : Nat) (0 : Nat); let b ← readRecord (3 : Fin 257) (c.getD (0 : Nat) (0 : Word)) (2 : Nat); modify fun s => s.post ((3 : Fin 257).val) (wordsOfBytes (8 : Nat) b) })
      = true) ∧
    (BitVec.toNat (1 : BitVec 8) < (64 : Nat) ∧ Option.any (fun p => decide (p.snd.fst.engines[(3 : Fin 257)].evl &&& BitVec.setWidth (6 : Nat) (1
      : BitVec 8) ≠ (0 : BitVec 6) ∨ p.snd.fst.waitEnds (3 : Fin 257) = true)) ((s09ba 3).found (3 : Fin 257) (174 : Nat) (2 : Nat)
      (BitVec.setWidth (32 : Nat) (1 : BitVec 8)) (operands (3 : Fin 257) (0 : Nat) (1 : Nat))) = true) ∧
    (BitVec.toNat (0 : BitVec 8) < (64 : Nat) ∧ Option.any (fun p => decide (p.snd.fst.engines[(3 : Fin 257)].evl &&& BitVec.setWidth (6 : Nat) (0
      : BitVec 8) = (0 : BitVec 6) ∧ p.snd.fst.waitEnds (3 : Fin 257) = false ∧ p.snd.fst.prompting (3 : Fin 257) = false)) ((s09ba 0).found (3 :
      Fin 257) (174 : Nat) (2 : Nat) (BitVec.setWidth (32 : Nat) (0 : BitVec 8)) (operands (3 : Fin 257) (0 : Nat) (1 : Nat))) = true) ∧
    ((s09ba 12).canRun (3 : Fin 257) = true ∧ (okAnd (fetchBytes (3 : Fin 257) (s09ba 12).engines[(3 : Fin 257)].pc (1 : Nat) true (s09ba 12)) fun
      p s1 => decide ((okAnd (userEntry (3 : Fin 257) ((0 : Fin 16).val) s1) fun entry s2 => decide (bitAt entry (31 : Nat) = true ∧ (bitAt entry
      (30 : Nat) = false ∨ s2.privileged (3 : Fin 257) = true) ∧ (s09ba 12).prompting (3 : Fin 257) = false ∧ upcOk (decide ((3 : Fin 257).val =
      (256 : Nat))) (fld entry (0 : Nat) (16 : Nat)) = true ∧ (okAnd (fetchBytes (3 : Fin 257) ((s09ba 12).engines[(3 : Fin 257)].pc + (1 : Word))
      ([(0 : Nat), (1 : Nat), (2 : Nat), (4 : Nat)].getD (fld entry (28 : Nat) (2 : Nat)) (0 : Nat)) false s2) fun p s3 => decide (s3.privileged (3
      : Fin 257) = s2.privileged (3 : Fin 257))) = true)) = true)) = true) := by
  refine ⟨?_, ?_, ?_, ?_, ?_⟩ <;> decide +kernel

end Sys2Proof.Tests.W09B
end

