-- ==== Sys2Proof/Tests/Witness10.lean ====
section
/-!
SUPPORT. Witnesses: for each statement of part 10 of the obligations, states and operands that meet the hypotheses of each of its clauses.
-/
namespace Sys2Proof.Tests.W10
set_option linter.unusedVariables false
set_option Elab.async false
open Sys2Proof Sys2Proof.Machine Sys2Proof.Tests

def b0 : State := { State.reset with clkOk := true, beatno := 0x1234567, wiping := false }
def bst (m t addr left size : Nat) (w : Bool) : Burst := {m, t, addr, left, size, write := w, data := (List.range (left*size)).map (fun i => some (BitVec.ofNat 8 i)), got := [], err := [], busy := [], tag := 5}
def B (l : List Burst) (s : State := b0) : State := {s with bursts := l}
def cbS (a : Bool) : State := (b0.modCb 3 (fun c => {c with cur := {c.cur with st := .running, total := 99}, abort := a}))
def sc (g a : Bool) : State := {cbS a with scrubs := (Vector.replicate 16 none).set 0 (some {cb := 3, asked := true, granted := g}), permit := {grants := [(.scrub 0, 5), (.wake .secureBank, 6)]}, memErr := [(0x10, some false), (0x20, some true), (0x8000000, some false), (0x48000000, some false)]}
def bi (g a : Bool) : State := {cbS a with bists := (Vector.replicate 16 none).set 0 (some {cb := 3, asked := true, granted := g}), permit := {grants := [(.bist 0, 5), (.wake .secureBank, 6)]}, mem := [(0x10, 5), (0x20, 6), (0x8000010, 7), (0x48000000, 8), (0x48000007,8),  (0x48040000,3), (0x50000000,5), (0x50000008, 6)]}
def bl (x : BulkLoad) (a : Bool) : State := {cbS a with bulk := some x, permit := {grants := [(.bulk, 5), (.wake .secureBank, 6)]}}
def samples : List State := [b0, {bl {cb := 3, granted := true} true with mem := [(0x10, 5), (0x50000000,5), (0x50000008, 6), (0x51FFFFFF, 3), (0x52000000, 3)]}.setReg 0x3C00E4 0xC0000000, {bl {cb := 3, granted := true} true with mem := [(0x10, 5), (0x50000000,5), (0x50000008, 6), (0x51FFFFFF, 3), (0x52000000, 3)]}, {bl {cb := 3, granted := true, cleared := false} true with mem := [(0x10, 5), (0x50000000,5)], wiping := false}, (b0.modDebug (fun d => {d with level := 1})).setReg 0x7044 1, {b0 with hfiRst := true}, B [bst 17 0 0x100 3 32 true, bst 19 0 0x200 20 32 false], B [bst 19 0 0x200 1 32 false, bst 17 0 0x100 3 32 true], B [bst 19 0 0x200 20 32 false], B [bst 19 0 0x200 20 32 true],
  B [bst 19 0 0x200 1 32 false], B [bst 19 0 0x200 1 32 true], {B [bst 19 0 0x200 1 32 true] with hfiRst := true}, B [bst 19 24 0x44 1 4 false], B [bst 17 24 0x5040 3 4 true],
  (B [bst 17 0 0x100 3 32 true, bst 19 0 0x200 20 32 false]).setReg (0x8100 + 8) 0xF000, {b0 with hostReqs := [{tag := 3, who := {m := 17}, addr := 5, size := 40, write := false, data := [], answer := none}, {tag := 0, who := {m := 19}, addr := 5, size := 40, write := true, data := [], answer := none}, {tag := 5, who := {m := 19}, addr := 5, size := 40, write := false, data := [], answer := none}, {tag := 3, who := {m := 17}, addr := 5, size := 40, write := false, data := [], answer := none, orphan := true}, {tag := 1, who := {m := 17}, addr := 5, size := 4, write := false, data := [], answer := none}]},
  b0.modDebug (fun d => {d with shBusy := true, daccStatus := 1}), (B [bst 17 0 0x100 3 32 true]).modDebug (fun d => {d with shBusy := true}),
  B [bst 19 0 0x200 1 32 false, {bst 19 0 0x100 3 32 true with granted := 2}], {B [bst 19 0 0x200 1 32 false, bst 17 0 0x100 3 32 true] with singles := [{m := 20, t := 0, granted := false}]}, {(b0.setReg (0x8100) 0) with singles := [{m := 20, t := 0, granted := true},{m := 3, t := 24, granted := false},{m := 3, t := 0, granted := false}]}, B [bst 17 18 0x7F300000 3 32 true], B [bst 17 1 0x40000040 3 32 false], B [bst 17 1 0x40000040 3 32 true],
  (B [bst 17 0 0x100 3 32 true, bst 19 0 0x200 20 32 false]).modDebug (fun d => {d with shBusy := true}), {B [bst 17 0 0x100 3 32 true] with retained := [.eventBank 16]}, {B [{bst 19 0 0x100 3 32 false with granted := 2}] with retained := [.eventBank 16]},
  {sc true false with scrubs := (Vector.replicate 16 none).set 0 (some {cb := 3, granted := true, units := 2, words := 7}), memErr := [(0x10, some false), (0x80, some false), (0x80+16384*8, some false), (0x480, some false), (0x8000000, some false)]}, {sc true false with waking := [.eventBank 0]}, {sc true false with waking := [.eventBank 3]},
  {sc true false with scrubs := (Vector.replicate 16 none).set 0 (some {cb := 3, granted := true, units := 2, words := 7}), waking := [.eventBank 2]},
  bi true true, {bi true false with waking := [.eventBank 0]}, {bi true false with bists := (Vector.replicate 16 none).set 0 (some {cb := 3, granted := true, units := 1}) },
  {b0 with entering := [.eventBank 0], wakeFor := [(.eventBank 0, {m := 3})], retReq := true, retAck := true},
  sc false false, sc true true, sc true false, {sc true false with retained := [.eventBank 0]}, bi false false, bi true false, {bi true false with retained := [.eventBank 0, .patternBank 0]}, 
  {b0 with entering := [.eventBank 0]}, {b0 with entering := [.eventBank 0], retReq := true, retAck := true}, {b0 with retReq := true}, {b0 with retained := [.secureBank]}.setReg (retAddr .secureBank) (BitVec.ofNat 32 (2 ^ (unitBit .secureBank).2)),
  {b0 with retained := [.eventBank 0]}.setReg (retAddr (.eventBank 0)) 1, {b0 with waking := [.eventBank 0], retReq := true, retAck := true, permit := {grants := [(.wake (.eventBank 0), 3)]}}, b0.setReg 0x7044 1,
  {b0 with waking := [.eventBank 0], retReq := true, retAck := true, retained := [.secureBank], permit := {grants := [(.wake (.eventBank 0), 3)]}},
  b0.setReg 0x3C00E0 5, (b0.setReg 0x3C00E0 5).setReg 0x3C00DC 0xFF, (b0.setReg 0x3C00E0 0x500000), bl {cb := 3} false, bl {cb := 3, granted := true} false, bl {cb := 3, granted := true} true, (bl {cb := 3, granted := true} true).setReg 0x3C00E0 5, B [{bst 19 0 0x200 1 32 false with granted := 1}], B [{bst 19 0 0x200 1 32 true with granted := 1}] ]
def s10a (i : Nat) : State := (samples).getD i State.reset

/-- Meets the hypotheses of `Obligations.CrossbarAndFabric`, clause by clause. -/
theorem witness_CrossbarAndFabric_1 :
    (((s10a 0).bursts.all fun b => b.t != (0 : Fin 26).val) = true ∧ ((s10a 0).singles.all fun y => y.t != (0 : Fin 26).val || y.granted) = true) ∧
    (Option.any (fun m => decide ((s10a 6).requests (17 : Fin 21).val (0 : Fin 26) = true ∧ (s10a 6).pri (17 : Fin 21).val (0 : Fin 26).val = (s10a
      6).pri m (0 : Fin 26).val)) ((s10a 6).arbiter (0 : Fin 26)) = true) ∧
    (Option.any (fun p => decide ((okAnd (subBurst ((Option.map (fun k => min (↑k + 1) (if p.fst.size = (4 : Nat) then (1 : Nat) else 2 *
      p.fst.granted)) none).getD (if p.fst.size = (4 : Nat) then (1 : Nat) else 2 * p.fst.granted)) p.fst
      { (s10a 19) with bursts := p.snd, lastGrant := (s10a 19).lastGrant.set ((0 : Fin 26).val) p.fst.m (by decide) }) fun b1 s1 => true) = true))
      (takeFirst (fun b => b.t == (0 : Fin 26).val && decide ((0 : Nat) < b.granted)) (s10a 19).bursts) = true) ∧
    (Option.any (fun p => decide ((errAnd (subBurst ((Option.map (fun k => min (↑k + 1) (if p.fst.size = (4 : Nat) then (1 : Nat) else 2 *
      p.fst.granted)) none).getD (if p.fst.size = (4 : Nat) then (1 : Nat) else 2 * p.fst.granted)) p.fst
      { (s10a 27) with bursts := p.snd, lastGrant := (s10a 27).lastGrant.set ((0 : Fin 26).val) p.fst.m (by decide) }) fun p s1 => waitAnd p fun v
      => true) = true)) (takeFirst (fun b => b.t == (0 : Fin 26).val && decide ((0 : Nat) < b.granted)) (s10a 27).bursts) = true) ∧
    (takeFirst (fun b => b.t == (0 : Fin 26).val && decide ((0 : Nat) < b.granted)) (s10a 21).bursts = none ∧ Option.any (fun m => decide ((fun m
      => (s10a 21).singles.contains { m := m, t := (0 : Fin 26).val, granted := false }) m = true)) ((s10a 21).arbiter (0 : Fin 26)) = true) ∧
    (takeFirst (fun b => b.t == (0 : Fin 26).val && decide ((0 : Nat) < b.granted)) (s10a 6).bursts = none ∧ Option.any (fun m => decide ((fun m =>
      (s10a 6).singles.contains { m := m, t := (0 : Fin 26).val, granted := false }) m = false ∧ Option.any (fun p => decide ((okAnd (subBurst
      ((Option.map (fun k => min (↑k + 1) (if
      { p.fst with granted := if p.fst.size = (4 : Nat) then min (1 : Nat) p.fst.left else min (16 : Nat) p.fst.left }.size = (4 : Nat) then (1 :
      Nat) else 2 * { p.fst with granted := if p.fst.size = (4 : Nat) then min (1 : Nat) p.fst.left else min (16 : Nat) p.fst.left }.granted))
      none).getD (if { p.fst with granted := if p.fst.size = (4 : Nat) then min (1 : Nat) p.fst.left else min (16 : Nat) p.fst.left }.size = (4 :
      Nat) then (1 : Nat) else 2 *
      { p.fst with granted := if p.fst.size = (4 : Nat) then min (1 : Nat) p.fst.left else min (16 : Nat) p.fst.left }.granted))
      { p.fst with granted := if p.fst.size = (4 : Nat) then min (1 : Nat) p.fst.left else min (16 : Nat) p.fst.left }
      { (s10a 6) with bursts := p.snd, lastGrant := (s10a 6).lastGrant.set (0 : Fin 26).val { p.fst with granted := if p.fst.size = (4 : Nat) then min (1 : Nat) p.fst.left else min (16 : Nat) p.fst.left }.m (by decide) })
      fun b1 s1 => true) = true)) (takeFirst (fun b => b.t == (0 : Fin 26).val && b.m == m) (s10a 6).bursts) = true)) ((s10a 6).arbiter (0 : Fin
      26)) = true) ∧
    (takeFirst (fun b => b.t == (0 : Fin 26).val && decide ((0 : Nat) < b.granted)) (s10a 26).bursts = none ∧ Option.any (fun m => decide ((fun m
      => (s10a 26).singles.contains { m := m, t := (0 : Fin 26).val, granted := false }) m = false ∧ Option.any (fun p => decide ((errAnd (subBurst
      ((Option.map (fun k => min (↑k + 1) (if
      { p.fst with granted := if p.fst.size = (4 : Nat) then min (1 : Nat) p.fst.left else min (16 : Nat) p.fst.left }.size = (4 : Nat) then (1 :
      Nat) else 2 * { p.fst with granted := if p.fst.size = (4 : Nat) then min (1 : Nat) p.fst.left else min (16 : Nat) p.fst.left }.granted))
      none).getD (if { p.fst with granted := if p.fst.size = (4 : Nat) then min (1 : Nat) p.fst.left else min (16 : Nat) p.fst.left }.size = (4 :
      Nat) then (1 : Nat) else 2 *
      { p.fst with granted := if p.fst.size = (4 : Nat) then min (1 : Nat) p.fst.left else min (16 : Nat) p.fst.left }.granted))
      { p.fst with granted := if p.fst.size = (4 : Nat) then min (1 : Nat) p.fst.left else min (16 : Nat) p.fst.left }
      { (s10a 26) with bursts := p.snd, lastGrant := (s10a 26).lastGrant.set (0 : Fin 26).val { p.fst with granted := if p.fst.size = (4 : Nat) then min (1 : Nat) p.fst.left else min (16 : Nat) p.fst.left }.m (by decide) })
      fun p s1 => waitAnd p fun v => true) = true)) (takeFirst (fun b => b.t == (0 : Fin 26).val && b.m == m) (s10a 26).bursts) = true)) ((s10a
      26).arbiter (0 : Fin 26)) = true) ∧
    ((s10a 5).inReset = true ∨ (s10a 5).hfiRst = true ∨ ((s10a 5).bursts.any fun b => b.m == (19 : Nat) && b.tag ==
      ({ write := false, addr := (256 : BitVec 40), nm1 := (0 : Fin 64), tag := (3 : Fin 32), data := [] } : InboundReq).tag.val) = true) ∧
    ((s10a 0).inReset = false ∧ (s10a 0).hfiRst = false ∧ ((s10a 0).bursts.any fun b => b.m == (19 : Nat) && b.tag ==
      ({ write := true, addr := (240 : BitVec 40), nm1 := (1 : Fin 64), tag := (3 : Fin 32), data := [some (1 : Byte)] } : InboundReq).tag.val) =
      false ∧ (decide
      (({ (s10a 0) with inbound := List.filter (fun r => decide (r.tag ≠ ({ write := true, addr := (240 : BitVec 40), nm1 := (1 : Fin 64), tag := (3 : Fin 32), data := [some (1 : Byte)] } : InboundReq).tag.val)) (s10a 0).inbound }.burstCheck
      (19 : Nat) ({ write := true, addr := (240 : BitVec 40), nm1 := (1 : Fin 64), tag := (3 : Fin 32), data := [some (1 : Byte)] } :
      InboundReq).write ({ write := true, addr := (240 : BitVec 40), nm1 := (1 : Fin 64), tag := (3 : Fin 32), data := [some (1 : Byte)] } :
      InboundReq).addr.toNat (({ write := true, addr := (240 : BitVec 40), nm1 := (1 : Fin 64), tag := (3 : Fin 32), data := [some (1 : Byte)] } :
      InboundReq).nm1.val + 1)).fst = none) && decide (((s10a 0).bursts.any fun b => b.m == (19 : Nat) && b.t == targetOf
      ({ write := true, addr := (240 : BitVec 40), nm1 := (1 : Fin 64), tag := (3 : Fin 32), data := [some (1 : Byte)] } : InboundReq).addr.toNat)
      = false)) = true) := by
  refine ⟨?_, ?_, ?_, ?_, ?_, ?_, ?_, ?_, ?_⟩ <;> decide +kernel

/-- Meets the hypotheses of `Obligations.CrossbarAndFabric`, clause by clause. -/
theorem witness_CrossbarAndFabric_2 :
    ((s10a 6).inReset = false ∧ (s10a 6).hfiRst = false ∧ ((s10a 6).bursts.any fun b => b.m == (19 : Nat) && b.tag ==
      ({ write := true, addr := (240 : BitVec 40), nm1 := (1 : Fin 64), tag := (3 : Fin 32), data := [some (1 : Byte)] } : InboundReq).tag.val) =
      false ∧ (decide
      (({ (s10a 6) with inbound := List.filter (fun r => decide (r.tag ≠ ({ write := true, addr := (240 : BitVec 40), nm1 := (1 : Fin 64), tag := (3 : Fin 32), data := [some (1 : Byte)] } : InboundReq).tag.val)) (s10a 6).inbound }.burstCheck
      (19 : Nat) ({ write := true, addr := (240 : BitVec 40), nm1 := (1 : Fin 64), tag := (3 : Fin 32), data := [some (1 : Byte)] } :
      InboundReq).write ({ write := true, addr := (240 : BitVec 40), nm1 := (1 : Fin 64), tag := (3 : Fin 32), data := [some (1 : Byte)] } :
      InboundReq).addr.toNat (({ write := true, addr := (240 : BitVec 40), nm1 := (1 : Fin 64), tag := (3 : Fin 32), data := [some (1 : Byte)] } :
      InboundReq).nm1.val + 1)).fst = none) && decide (((s10a 6).bursts.any fun b => b.m == (19 : Nat) && b.t == targetOf
      ({ write := true, addr := (240 : BitVec 40), nm1 := (1 : Fin 64), tag := (3 : Fin 32), data := [some (1 : Byte)] } : InboundReq).addr.toNat)
      = true)) = true) ∧
    ((s10a 0).inReset = false ∧ (s10a 0).hfiRst = false ∧ ((s10a 0).bursts.any fun b => b.m == (19 : Nat) && b.tag ==
      ({ write := false, addr := (256 : BitVec 40), nm1 := (0 : Fin 64), tag := (3 : Fin 32), data := [] } : InboundReq).tag.val) = false ∧
      Option.any (fun p => true)
      ({ (s10a 0) with inbound := List.filter (fun r => decide (r.tag ≠ ({ write := false, addr := (256 : BitVec 40), nm1 := (0 : Fin 64), tag := (3 : Fin 32), data := [] } : InboundReq).tag.val)) (s10a 0).inbound }.burstCheck
      (19 : Nat) ({ write := false, addr := (256 : BitVec 40), nm1 := (0 : Fin 64), tag := (3 : Fin 32), data := [] } : InboundReq).write
      ({ write := false, addr := (256 : BitVec 40), nm1 := (0 : Fin 64), tag := (3 : Fin 32), data := [] } : InboundReq).addr.toNat
      (({ write := false, addr := (256 : BitVec 40), nm1 := (0 : Fin 64), tag := (3 : Fin 32), data := [] } : InboundReq).nm1.val + 1)).fst = true) ∧
    ((s10a 0).dbg.shBusy = false ∨ ((s10a 0).bursts.any fun b => b.m == (17 : Nat)) = true) ∧
    ((s10a 17).dbg.shBusy = true ∧ ((s10a 17).bursts.any fun b => b.m == (17 : Nat)) = false) := by
  refine ⟨?_, ?_, ?_, ?_⟩ <;> decide +kernel

/-- Meets the hypotheses of `Obligations.MemoryMaintenance`, clause by clause. -/
theorem witness_MemoryMaintenance :
    ((s10a 28).Canonical ∧ (s10a 28).srstBusy (Page.memctl (0 : Fin 16)) = false ∧ (s10a 28).Accepts (Master.hrp (3 : BitVec 8)) (pageBase
      (Page.memctl (0 : Fin 16)) + 116) ∧ (s10a 28).scrubs[(0 : Fin 16)].isSome = true) ∧
    ((s10a 0).Canonical ∧ (s10a 0).srstBusy (Page.memctl (0 : Fin 16)) = false ∧ (s10a 0).Accepts (Master.hrp (3 : BitVec 8)) (pageBase
      (Page.memctl (0 : Fin 16)) + 116) ∧ (s10a 0).scrubs[(0 : Fin 16)] = none ∧ Option.any (fun r => decide ((s10a 0).charge (150 : Nat) ≤ (s10a
      0).avail)) (s10a 0).cbFree = true) ∧
    ((s10a 32).Canonical ∧ (s10a 32).srstBusy (Page.memctl (0 : Fin 16)) = false ∧ (s10a 32).Accepts (Master.hrp (3 : BitVec 8)) (pageBase
      (Page.memctl (0 : Fin 16)) + 120) ∧ (s10a 32).bists[(0 : Fin 16)].isSome = true) ∧
    ((s10a 0).Canonical ∧ (s10a 0).srstBusy (Page.memctl (0 : Fin 16)) = false ∧ (s10a 0).Accepts (Master.hrp (3 : BitVec 8)) (pageBase
      (Page.memctl (0 : Fin 16)) + 120) ∧ (s10a 0).bists[(0 : Fin 16)] = none ∧ (s10a 0).bistBlocked (0 : Fin 16) = false ∧ Option.any (fun r =>
      decide ((s10a 0).charge (600 : Nat) ≤ (s10a 0).avail)) (s10a 0).cbFree = true) ∧
    ((s10a 0).scrubs[(0 : Fin 16)] = none) ∧
    (Option.any (fun b => decide (b.granted = false ∨ (s10a 36).frozen (Page.memctl (0 : Fin 16)) = true)) (s10a 36).scrubs[(0 : Fin 16)] = true) ∧
    (Option.any (fun b => decide (b.granted = true ∧ (s10a 37).frozen (Page.memctl (0 : Fin 16)) = false ∧ (s10a 37).callboard[b.cb].abort = true))
      (s10a 37).scrubs[(0 : Fin 16)] = true) ∧
    (Option.any (fun b => decide ((consAnd (List.drop b.units (pageUnits (0 : Fin 16))) fun u us => decide ((b.granted = true ∧ (s10a 29).frozen
      (Page.memctl (0 : Fin 16)) = false ∧ (s10a 29).callboard[b.cb].abort = false) ∧ ((s10a 29).waking.contains u = true ∨ (s10a 29).underBist u =
      true) ∧ (s10a 29).retained.contains u = false)) = true)) (s10a 29).scrubs[(0 : Fin 16)] = true) ∧
    (Option.any (fun b => decide ((consAnd (List.drop b.units (pageUnits (0 : Fin 16))) fun u us => decide (Option.any (fun n => decide ((b.granted
      = true ∧ (s10a 28).frozen (Page.memctl (0 : Fin 16)) = false ∧ (s10a 28).callboard[b.cb].abort = false) ∧ (s10a 28).awake u = true ∧ (s10a
      28).underBist u = false ∧ b.words + BitVec.toNat n < unitWords u)) (some (0 : Word)) = true)) = true)) (s10a 28).scrubs[(0 : Fin 16)] = true) ∧
    (Option.any (fun (b : MemOp) => decide ((b.granted = true ∧ (s10a 28).frozen (Page.memctl (0 : Fin 16)) = false ∧ (s10a
      28).callboard[b.cb].abort = false) ∧ (∀ (u : RetUnit), u ∈ List.drop b.units (pageUnits (0 : Fin 16)) → (s10a 28).waking.contains u = false ∧
      (s10a 28).underBist u = false) ∧ (b.words = (0 : Nat) ∨ ∀ (u : RetUnit), u ∈ List.take (1 : Nat) (List.drop b.units (pageUnits (0 : Fin 16)))
      → b.words < unitWords u ∧ (s10a 28).retained.contains u = false))) (s10a 28).scrubs[(0 : Fin 16)] = true) ∧
    ((s10a 0).Canonical ∧ (s10a 0).bists[(0 : Fin 16)] = none) ∧
    ((s10a 40).Canonical ∧ Option.any (fun b => decide (b.granted = false ∨ (s10a 40).frozen (Page.memctl (0 : Fin 16)) = true)) (s10a 40).bists[(0
      : Fin 16)] = true) ∧
    ((s10a 32).Canonical ∧ Option.any (fun b => decide (b.granted = true ∧ (s10a 32).frozen (Page.memctl (0 : Fin 16)) = false ∧ (s10a
      32).callboard[b.cb].abort = true ∧ (∀ (j' : Fin 16), j' ≠ (0 : Fin 16) → (s10a 32).bists[j'] = none) ∧ (s10a 32).bulk = none)) (s10a
      32).bists[(0 : Fin 16)] = true) ∧
    ((s10a 33).Canonical ∧ Option.any (fun b => decide ((consAnd (List.drop b.units (List.filter (fun x => decide (x ≠ RetUnit.secureBank))
      (pageUnits (0 : Fin 16)))) fun u us => decide ((b.granted = true ∧ (s10a 33).frozen (Page.memctl (0 : Fin 16)) = false ∧ (s10a
      33).callboard[b.cb].abort = false) ∧ (s10a 33).waking.contains u = true ∧ (s10a 33).retained.contains u = false)) = true)) (s10a 33).bists[(0
      : Fin 16)] = true) ∧
    ((s10a 34).Canonical ∧ Option.any (fun b => decide ((consAnd (List.drop b.units (List.filter (fun x => decide (x ≠ RetUnit.secureBank))
      (pageUnits (0 : Fin 16)))) fun u us => decide (Option.any (fun f => decide ((b.granted = true ∧ (s10a 34).frozen (Page.memctl (0 : Fin 16)) =
      false ∧ (s10a 34).callboard[b.cb].abort = false) ∧ (s10a 34).awake u = true ∧ us ≠ [])) (some true) = true)) = true)) (s10a 34).bists[(0 :
      Fin 16)] = true) ∧
    ((s10a 34).Canonical ∧ Option.any (fun (b : MemOp) => decide ((b.granted = true ∧ (s10a 34).frozen (Page.memctl (0 : Fin 16)) = false ∧ (s10a
      34).callboard[b.cb].abort = false) ∧ (∀ (j' : Fin 16), j' ≠ (0 : Fin 16) → (s10a 34).bists[j'] = none) ∧ (s10a 34).bulk = none ∧ ∀ (u :
      RetUnit), u ∈ List.drop b.units (List.filter (fun x => decide (x ≠ RetUnit.secureBank)) (pageUnits (0 : Fin 16))) → (s10a 34).waking.contains
      u = false)) (s10a 34).bists[(0 : Fin 16)] = true) ∧
    ((s10a 0).Canonical) ∧
    ((s10a 0).trust.boot ≠ BootStage.wipe ∨ (s10a 0).trust.lc = none) := by
  refine ⟨?_, ?_, ?_, ?_, ?_, ?_, ?_, ?_, ?_, ?_, ?_, ?_, ?_, ?_, ?_, ?_, ?_, ?_⟩ <;> decide +kernel

/-- Meets the hypotheses of `Obligations.RetentionAndBulkLoad`, clause by clause. -/
theorem witness_RetentionAndBulkLoad :
    ((s10a 0).Canonical ∧ (s10a 0).Accepts (Master.hrp (3 : BitVec 8)) (retAddr (RetUnit.eventBank (0 : Fin 1024))) ∧ (s10a 0).srstBusy
      (Page.memctl (unitPage (RetUnit.eventBank (0 : Fin 1024)))) = false ∧ (s10a 0).retained = [] ∧ (s10a 0).entering = [] ∧ (s10a 0).waking = []
      ∧ (s10a 0).getReg (retAddr (RetUnit.eventBank (0 : Fin 1024))) = (0 : Word)) ∧
    (¬((s10a 0).entering.contains (RetUnit.eventBank (0 : Fin 1024)) = true ∧ (s10a 0).waking.contains (RetUnit.eventBank (0 : Fin 1024)) = false ∧
      ((s10a 0).wakeFor.all fun x => x.fst != RetUnit.eventBank (0 : Fin 1024)) = true ∧ (s10a 0).inScrub (RetUnit.eventBank (0 : Fin 1024)) =
      false ∧ (s10a 0).subBurstIn (RetUnit.eventBank (0 : Fin 1024)) = false ∧ ((s10a 0).attached = true ∨ (s10a 0).retReq = true ∧ (s10a 0).retAck
      = true))) ∧
    ((s10a 44).entering.contains (RetUnit.eventBank (0 : Fin 1024)) = true ∧ (s10a 44).waking.contains (RetUnit.eventBank (0 : Fin 1024)) = false ∧
      ((s10a 44).wakeFor.all fun x => x.fst != RetUnit.eventBank (0 : Fin 1024)) = true ∧ (s10a 44).inScrub (RetUnit.eventBank (0 : Fin 1024)) =
      false ∧ (s10a 44).subBurstIn (RetUnit.eventBank (0 : Fin 1024)) = false ∧ ((s10a 44).attached = true ∨ (s10a 44).retReq = true ∧ (s10a
      44).retAck = true)) ∧
    ((s10a 0).Canonical ∧ ((s10a 0).noWake (RetUnit.eventBank (0 : Fin 1024)) = true ∨ (s10a 0).retained.contains (RetUnit.eventBank (0 : Fin
      1024)) = false)) ∧
    ((s10a 39).Canonical ∧ (s10a 39).noWake (RetUnit.eventBank (0 : Fin 1024)) = false ∧ (s10a 39).retained.contains (RetUnit.eventBank (0 : Fin
      1024)) = true ∧ (s10a 39).charge (wakeMw (RetUnit.eventBank (0 : Fin 1024))) ≤ (s10a 39).avail) ∧
    ((s10a 47).Canonical ∧ (s10a 47).Accepts (Master.hrp (3 : BitVec 8)) (retAddr (RetUnit.eventBank (0 : Fin 1024))) ∧ (s10a 47).srstBusy
      (Page.memctl (unitPage (RetUnit.eventBank (0 : Fin 1024)))) = false ∧ (s10a 47).retained = [RetUnit.eventBank (0 : Fin 1024)] ∧ (s10a
      47).entering = [] ∧ (s10a 47).waking = [] ∧ (s10a 47).getReg (retAddr (RetUnit.eventBank (0 : Fin 1024))) = BitVec.ofNat (32 : Nat) (2 ^
      (unitBit (RetUnit.eventBank (0 : Fin 1024))).snd) ∧ (s10a 47).charge (wakeMw (RetUnit.eventBank (0 : Fin 1024))) ≤ (s10a 47).avail) ∧
    ((s10a 0).waking.contains (RetUnit.eventBank (0 : Fin 1024)) = false ∨ (s10a 0).wakeGranted (RetUnit.eventBank (0 : Fin 1024)) = false ∧ (s10a
      0).inReset = false) ∧
    ((s10a 48).waking.contains (RetUnit.eventBank (0 : Fin 1024)) = true ∧ ((s10a 48).wakeGranted (RetUnit.eventBank (0 : Fin 1024)) = true ∨ (s10a
      48).inReset = true)) ∧
    ((s10a 1).Canonical ∧ (s10a 1).Accepts (Master.hrp (3 : BitVec 8)) (3932388 : Nat) ∧ (s10a 1).srstBusy (Page.memctl (0 : Fin 16)) = false ∧
      (s10a 1).bulk.isSome = true) ∧
    ((s10a 53).Canonical ∧ (s10a 53).Accepts (Master.hrp (3 : BitVec 8)) (3932388 : Nat) ∧ (s10a 53).srstBusy (Page.memctl (0 : Fin 16)) = false ∧
      (s10a 53).bulk = none ∧ Option.any (fun r => decide ((4194304 : Nat) < (s10a 53).plCount ∨ bulkSrcOk (s10a 53).plSrc (8 * (s10a 53).plCount)
      = false)) (s10a 53).cbFree = true) ∧
    ((s10a 51).Canonical ∧ (s10a 51).Accepts (Master.hrp (3 : BitVec 8)) (3932388 : Nat) ∧ (s10a 51).srstBusy (Page.memctl (0 : Fin 16)) = false ∧
      (s10a 51).bulk = none ∧ Option.any (fun r => decide (¬((4194304 : Nat) < (s10a 51).plCount ∨ bulkSrcOk (s10a 51).plSrc (8 * (s10a
      51).plCount) = false) ∧ ((s10a 51).plCount ≠ (0 : Nat) ∨ bitAt (0 : Word) (30 : Nat) = true) ∧ (s10a 51).bulkBlocked = false ∧ (s10a
      51).charge (400 : Nat) ≤ (s10a 51).avail)) (s10a 51).cbFree = true) ∧
    ((s10a 0).bulk = none) ∧
    (Option.any (fun b => decide (b.granted = false)) (s10a 54).bulk = true) ∧
    (Option.any (fun b => decide (b.granted = true ∧ (bitAt ((s10a 1).getReg (3932388 : Nat)) (30 : Nat) = true ∧ b.cleared = false) ∧ (s10a
      1).callboard[b.cb].abort = true ∧ (s10a 1).Canonical ∧ ∀ (k : Fin 256), (s10a 1).awake (RetUnit.patternBank k) = true ∧ (s10a 1).underBist
      (RetUnit.patternBank k) = false)) (s10a 1).bulk = true) ∧
    (Option.any (fun b => decide (b.granted = true ∧ ¬(bitAt ((s10a 2).getReg (3932388 : Nat)) (30 : Nat) = true ∧ b.cleared = false) ∧ ((s10a
      2).callboard[b.cb].abort = true ∨ b.doneEntries = (s10a 2).plCount))) (s10a 2).bulk = true) := by
  refine ⟨?_, ?_, ?_, ?_, ?_, ?_, ?_, ?_, ?_, ?_, ?_, ?_, ?_, ?_, ?_⟩ <;> decide +kernel

end Sys2Proof.Tests.W10
end

