-- ==== Sys2Proof/Tests/Witness11C.lean ====
section
/-!
SUPPORT. Witnesses: for each statement of part 11c of the obligations, states and operands that meet the hypotheses of each of its clauses.
-/
namespace Sys2Proof.Tests.W11C
set_option linter.unusedVariables false
set_option Elab.async false
open Sys2Proof Sys2Proof.Machine Sys2Proof.Tests

def b0 : State := { State.reset with clkOk := true, firstEdge := true, beatno := 0x1234567, wiping := false }
def en (p : Page) (s : State) : State := s.modReg (pageBase p + 8) (fun w => w ||| 1)
def T (n : Fin 64) (t : Timer) (s : State := en (.timer 0) b0) : State := s.modTimer n (fun _ => t)
def W (w : Watchdog) (s : State := b0) : State := s.modEng 3 (fun g => {g with wdg := w, run := .running})
def P (p : PinEng) (i : Nat) (s : State := en (.pin 0) b0) : State := (s.modPin 0 (fun _ => p)).setReg (pinBase 0 + 0x100 + 4*p.pc) (BitVec.ofNat 32 i)
def iw (a : Nat) (d : Word) (p : Option (Fin 32)) (b : Word64 := 0x1234560) : IslandWrite := {beat := b, pinPage := p, curtain := false, m := .hrp 3, addr := a, data := d}
def tsamples : List State := [State.reset, {State.reset with firstEdge := true}, b0, {b0 with clkOk := false},
 T 0 {st := .running, count := 5, pre := 2, phase := 1}, T 0 {st := .running, count := 5, pre := 2, phase := 2}, T 0 {st := .running, count := 0xFFFFFFFF}, T 0 {st := .running, count := 5, rldact := 5, reloadMode := true, reload := 9, cmp := 3},
 T 1 {count := 0x7} (T 0 {st := .running, count := 0xFFFFFFFF, link := true}), T 1 {rldact := 0x7, count := 7} (T 0 {st := .running, count := 0x3, rldact := 3, reloadMode := true, link := true}),
 W {en := true, cnt := 5, eff := .running, q1 := .running}, W {en := true, cnt := 1, eff := .running, q1 := .running}, W {en := true, cnt := 5, eff := .intermission, q1 := .halted}, W {en := true, cnt := 0, zero := true, eff := .intermission, q1 := .halted},
  W {en := true, cnt := 5, start1 := true, pend := true, exp := true, load := 9}, W {en := true, cnt := 5, rel1 := true, frz := true, reloadOnRun := true, load := 9}, W {en := true, cnt := 5, started := true, released := true, eff := .running},
  {b0 with islandQ := [{iw (pinBase 0 + 0x5C) 7 (some 0) with synced := true}, {iw (pinBase 0 + 0x60) 0 (some 0) with synced := true}]}, {b0 with islandQ := [iw 0x5058 0x85 none, {iw (pinBase 0 + 0x60) 0 (some 0) with synced := true}], pins := b0.pins.set 0 {rxfull := true}},
  W {en := true, cnt := 0, zero := true, exp := true, eff := .intermission, q1 := .halted}, W {en := true, cnt := 4, load := 0, exp := true, held := true, second := true},
 {b0 with islandQ := [iw 0x5058 0x85 none, iw (pinBase 0 + 0x60) 0 (some 0), iw (pinBase 0 + 0x5C) 7 (some 0)]}, {b0 with islandQ := [iw (pinBase 0 + 0x5C) 7 (some 0), iw 0x5058 0x85 none, iw 0x5058 0x85 none 0x1234567]},
 (b0.setReg 0x5050 5).setReg 0x504C 77, b0.setReg 0x4008 1, b0.setReg 0x100304 0x80000000, {b0 with slots := b0.slots.set 3 {(b0.slots[3]) with st := .voting}}, b0.setReg 0x5068 0x2000000, 
 (T 3 {st := .armed} (T 2 {st := .armed, link := true, reloadMode := true, reload := 4, cmp := 5} (T 0 {st := .armed}))).setReg 0x5060 0xFFFFFFF, {(T 3 {st := .armed} (T 2 {st := .armed, link := true, reloadMode := true, reload := 4, cmp := 5} (T 0 {st := .armed}))).setReg 0x5060 0xFFFFFF2 with gsWait := some 0x1234567},
 T 0 {wrapped := true, st := .running}, T 0 {wrapped := true, st := .running, reloadMode := true, reload := 5, cmp := 6}, T 0 {st := .running, carmed := true, count := 10, cmpact := 10, route := 0xC5000003}, T 0 {st := .running, carmed := true, count := 10, cmpact := 11}, T 0 {st := .running, reloadMode := true, moved := true, count := 11, cmpact := 11},
 T 0 {st := .running, carmed := true, link := true} (T 1 {cmpact := 5}), T 0 {link := true, heldCmp := some 5}, T 0 {link := true, reloadMode := true, heldCmp := some 5}, T 0 {link := true}, T 1 {st := .running}, T 0 {reloadMode := true}, T 0 {st := .stopped, reload := 5, cmp := 7, rldact := 3, cmpact := 4, hit := true},
 ((en (.capture 0) b0).setReg (capAddr 0 0) 0xE0000000).setReg (pageBase (.capture 0) + 0x48) 0xC5000003, {((en (.capture 0) b0).setReg (capAddr 0 0) 0xE0000000) with capRise := b0.capRise.set 0 true, fofs := 0x80}.setReg (capAddr 0 8) 0x100, 
  {((en (.capture 0) b0).setReg (capAddr 0 0) 0xE0000000) with capRise := b0.capRise.set 0 true, fofs := 0x7}.setReg (capAddr 0 8) 0x12345600, (b0.setReg (capAddr 0 0) 0xE8000000), ((en (.capture 0) b0).setReg (capAddr 0 0) 0xF0000000).setReg (capAddr 0 4) 0xFF000003, (en (.capture 0) b0).setReg (capAddr 0 0) 0xC8000000]
def pe : PinEng := {st := .running, pc := 63, sr := 0x80000005, bc := 9, lc := 1, pout := 0xF0F0, pinIn := 0xFFFF0000, sync1 := 0x33, txd := 0xAAAA5555, rxd := 9, psel := 16}
def codes : List Nat := [0x0000, 0x0100, 0x0200, 0x0300, 0x0500, 0x1003, 0x1403, 0x1804, 0x1C05, 0x2000, 0x2400, 0x2800, 0x3004, 0x3844, 0x3800, 0x4004, 0x4A40,0x4800, 0x5000, 0x5800, 0x6000, 0x6800, 0x7001, 0x7031, 0x7C00, 0x7800, 0x7881, 0x8005, 0x8105, 0x8205, 0x8605,0x8705, 0x8805, 0x8905, 0x9123, 0xA005, 0xB000]
def engs : List PinEng := [pe, {pe with txfull := true, rxfull := true, lc := 5, order := true, strb := true, strbpin := 3}, {pe with bc := 0, txfull := true}, {pe with bc := 0}, {pe with bc := 31, busy := true, nrem := 2}, {pe with bc := 31, busy := true, nrem := 1, rxfull := true}, {pe with busy := true, half := true, strb := true, nrem := 1},
  {pe with busy := true, spill := true, nrem := 0, strb := true, bc := 32}, {pe with busy := true, spill := true, nrem := 3, rxfull := true, bc := 32}, {pe with st := .stalled, busy := true, beatSeen := some 0x1234567}, {pe with st := .running, beatSeen := some 0x1234567}, {pe with st := .stopped}]
def psamples : List State := (engs.flatMap (fun p => codes.flatMap (fun c => [P p c] ++ (if c % 7 < 3 then [(P {p with injected := some (BitVec.ofNat 16 c)} 0).setReg (pinBase 0 + 0x74) 0xF8F00003, P {p with injected := some (BitVec.ofNat 16 c), injStopped := true, st := .stopped} 0] else [])))) ++ (engs.flatMap (fun p => [0x3004, 0x4A40, 0x5000].map (fun c => { P {p with strobed := true, strb := true} c with islandQ := [{iw (pinBase 0 + 0x5C) 7 (some 0) with synced := true}, iw (pinBase 0 + 0x68) 0x3004 (some 0), iw (pinBase 1 + 0x68) 0x3004 (some 1)] })))
def s11ca (i : Nat) : State := (tsamples).getD i State.reset
def s11cb (i : Nat) : State := (psamples ++ [P {pe with injected := some 0x0100, injStopped := true, st := .stopped} 0, P {pe with injected := some 0x0100} 0, P {pe with st := .stopped} 0x0100 b0]).getD i State.reset

/-- Meets the hypotheses of `Obligations.PinEngines`, clause by clause. -/
theorem witness_PinEngines_1 :
    (((((s11cb 3).pinSync (0 : Fin 32)).pinWrites (0 : Fin 32)).pinCur (0 : Fin 32)).any (fun i => decide (pinDecode i ≠ PinOp.nop)) = true) ∧
    (((((s11cb 0).pinSync (0 : Fin 32)).pinWrites (0 : Fin 32)).pinCur (0 : Fin 32)).any (fun i => decide (pinDecode i ≠ PinOp.stop)) = true) ∧
    (((((s11cb 0).pinSync (0 : Fin 32)).pinWrites (0 : Fin 32)).pinCur (0 : Fin 32)).any (fun i => decide (pinDecode i ≠ PinOp.signal)) = true) ∧
    (((((s11cb 0).pinSync (0 : Fin 32)).pinWrites (0 : Fin 32)).pinCur (0 : Fin 32)).any (fun i => decide (pinDecode i ≠ PinOp.clr)) = true) ∧
    (((((s11cb 0).pinSync (0 : Fin 32)).pinWrites (0 : Fin 32)).pinCur (0 : Fin 32)).any (fun i => decide (pinDecode i ≠ PinOp.drive)) = true) ∧
    (((((s11cb 0).pinSync (0 : Fin 32)).pinWrites (0 : Fin 32)).pinCur (0 : Fin 32)).any (fun i => decide (pinDecode i ≠ PinOp.putp)) = true) ∧
    (((((s11cb 0).pinSync (0 : Fin 32)).pinWrites (0 : Fin 32)).pinCur (0 : Fin 32)).any (fun i => decide (pinDecode i ≠ PinOp.getp)) = true) ∧
    (((((s11cb 0).pinSync (0 : Fin 32)).pinWrites (0 : Fin 32)).pinCur (0 : Fin 32)).any (fun i => decide (pinDecode i ≠ PinOp.sho)) = true) ∧
    (((((s11cb 0).pinSync (0 : Fin 32)).pinWrites (0 : Fin 32)).pinCur (0 : Fin 32)).any (fun i => decide (pinDecode i ≠ PinOp.shi)) = true) ∧
    (((((s11cb 0).pinSync (0 : Fin 32)).pinWrites (0 : Fin 32)).pinCur (0 : Fin 32)).any (fun i => decide (pinDecode i ≠ PinOp.take)) = true) ∧
    (((((s11cb 0).pinSync (0 : Fin 32)).pinWrites (0 : Fin 32)).pinCur (0 : Fin 32)).any (fun i => decide (pinDecode i ≠ PinOp.give)) = true) ∧
    (((((s11cb 0).pinSync (0 : Fin 32)).pinWrites (0 : Fin 32)).pinCur (0 : Fin 32)).any (fun i => decide (pinDecode i ≠ PinOp.awaitPin)) = true) ∧
    (((((s11cb 0).pinSync (0 : Fin 32)).pinWrites (0 : Fin 32)).pinCur (0 : Fin 32)).any (fun i => decide (pinDecode i ≠ PinOp.awaitBeat)) = true) ∧
    (((((s11cb 0).pinSync (0 : Fin 32)).pinWrites (0 : Fin 32)).pinCur (0 : Fin 32)).any (fun i => decide (pinDecode i ≠ PinOp.br)) = true) ∧
    (((((s11cb 0).pinSync (0 : Fin 32)).pinWrites (0 : Fin 32)).pinCur (0 : Fin 32)).any (fun i => decide (pinDecode i ≠ PinOp.ldlc)) = true) ∧
    (((((s11cb 0).pinSync (0 : Fin 32)).pinWrites (0 : Fin 32)).pinCur (0 : Fin 32)).any (fun i => decide (pinDecode i ≠ PinOp.loop)) = true) ∧
    (((((s11cb 0).pinSync (0 : Fin 32)).pinWrites (0 : Fin 32)).pinCur (0 : Fin 32)).any (fun i => decide (pinDecode i ≠ PinOp.reserved)) = true) ∧
    (pe.injected = none) ∧
    (({ (pe) with injected := some (5 : BitVec 16) }).injected ≠ none) ∧
    (decide ((((s11cb 0).pinSync (0 : Fin 32)).pinWrites (0 : Fin 32)).Canonical ∧ Option.any (fun i => decide (pinDecode i = PinOp.nop)) ((((s11cb
      0).pinSync (0 : Fin 32)).pinWrites (0 : Fin 32)).pinCur (0 : Fin 32)) = true) = true) ∧
    (decide ((((s11cb 4).pinSync (0 : Fin 32)).pinWrites (0 : Fin 32)).Canonical ∧ Option.any (fun i => decide (pinDecode i = PinOp.signal))
      ((((s11cb 4).pinSync (0 : Fin 32)).pinWrites (0 : Fin 32)).pinCur (0 : Fin 32)) = true) = true) ∧
    (decide ((((s11cb 7).pinSync (0 : Fin 32)).pinWrites (0 : Fin 32)).Canonical ∧ Option.any (fun i => decide (pinDecode i = PinOp.clr)) ((((s11cb
      7).pinSync (0 : Fin 32)).pinWrites (0 : Fin 32)).pinCur (0 : Fin 32)) = true) = true) ∧
    (decide ((((s11cb 9).pinSync (0 : Fin 32)).pinWrites (0 : Fin 32)).Canonical ∧ Option.any (fun i => decide (pinDecode i = PinOp.drive))
      ((((s11cb 9).pinSync (0 : Fin 32)).pinWrites (0 : Fin 32)).pinCur (0 : Fin 32)) = true) = true) ∧
    (decide ((((s11cb 15).pinSync (0 : Fin 32)).pinWrites (0 : Fin 32)).Canonical ∧ Option.any (fun i => decide (pinDecode i = PinOp.putp))
      ((((s11cb 15).pinSync (0 : Fin 32)).pinWrites (0 : Fin 32)).pinCur (0 : Fin 32)) = true) = true) ∧
    (decide ((((s11cb 18).pinSync (0 : Fin 32)).pinWrites (0 : Fin 32)).Canonical ∧ Option.any (fun i => decide (pinDecode i = PinOp.getp))
      ((((s11cb 18).pinSync (0 : Fin 32)).pinWrites (0 : Fin 32)).pinCur (0 : Fin 32)) = true) = true) ∧
    (decide ((((s11cb 64).pinSync (0 : Fin 32)).pinWrites (0 : Fin 32)).Canonical ∧ Option.any (fun i => decide (pinDecode i = PinOp.ldlc))
      ((((s11cb 64).pinSync (0 : Fin 32)).pinWrites (0 : Fin 32)).pinCur (0 : Fin 32)) = true) = true) ∧
    (decide ((((s11cb 65).pinSync (0 : Fin 32)).pinWrites (0 : Fin 32)).Canonical ∧ Option.any (fun i => decide (pinDecode i = PinOp.loop))
      ((((s11cb 65).pinSync (0 : Fin 32)).pinWrites (0 : Fin 32)).pinCur (0 : Fin 32)) = true) = true) ∧
    (decide ((((s11cb 51).pinSync (0 : Fin 32)).pinWrites (0 : Fin 32)).Canonical ∧ Option.any (fun i => decide (pinDecode i = PinOp.br)) ((((s11cb
      51).pinSync (0 : Fin 32)).pinWrites (0 : Fin 32)).pinCur (0 : Fin 32)) = true) = true) ∧
    (decide ((((s11cb 40).pinSync (0 : Fin 32)).pinWrites (0 : Fin 32)).Canonical ∧ Option.any (fun i => decide (pinDecode i = PinOp.awaitPin))
      ((((s11cb 40).pinSync (0 : Fin 32)).pinWrites (0 : Fin 32)).pinCur (0 : Fin 32)) = true) = true) ∧
    (decide ((((s11cb 103).pinSync (0 : Fin 32)).pinWrites (0 : Fin 32)).Canonical ∧ Option.any (fun i => decide (pinDecode i = PinOp.take))
      ((((s11cb 103).pinSync (0 : Fin 32)).pinWrites (0 : Fin 32)).pinCur (0 : Fin 32)) = true) = true) ∧
    (decide ((((s11cb 38).pinSync (0 : Fin 32)).pinWrites (0 : Fin 32)).Canonical ∧ Option.any (fun i => decide (pinDecode i = PinOp.give))
      ((((s11cb 38).pinSync (0 : Fin 32)).pinWrites (0 : Fin 32)).pinCur (0 : Fin 32)) = true) = true) ∧
    (decide ((((s11cb 3).pinSync (0 : Fin 32)).pinWrites (0 : Fin 32)).Canonical ∧ Option.any (fun i => decide (pinDecode i = PinOp.stop))
      ((((s11cb 3).pinSync (0 : Fin 32)).pinWrites (0 : Fin 32)).pinCur (0 : Fin 32)) = true) = true) ∧
    (decide ((((s11cb 8).pinSync (0 : Fin 32)).pinWrites (0 : Fin 32)).Canonical ∧ Option.any (fun i => decide (pinDecode i = PinOp.reserved))
      ((((s11cb 8).pinSync (0 : Fin 32)).pinWrites (0 : Fin 32)).pinCur (0 : Fin 32)) = true) = true) := by
  refine ⟨?_, ?_, ?_, ?_, ?_, ?_, ?_, ?_, ?_, ?_, ?_, ?_, ?_, ?_, ?_, ?_, ?_, ?_, ?_, ?_, ?_, ?_, ?_, ?_, ?_, ?_, ?_, ?_, ?_, ?_, ?_, ?_, ?_⟩ <;> decide +kernel

/-- Meets the hypotheses of `Obligations.PinEngines`, clause by clause. -/
theorem witness_PinEngines_2 :
    (decide ((((s11cb 434).pinSync (0 : Fin 32)).pinWrites (0 : Fin 32)).Canonical ∧ Option.any (fun i => decide (pinDecode i = PinOp.sho ∧ (if
      (((s11cb 434).pinSync (0 : Fin 32)).pinWrites (0 : Fin 32)).pins[(0 : Fin 32)].strobeEnds.busy = true then (((s11cb 434).pinSync (0 : Fin
      32)).pinWrites (0 : Fin 32)).pins[(0 : Fin 32)].strobeEnds else
      { (((s11cb 434).pinSync (0 : Fin 32)).pinWrites (0 : Fin 32)).pins[(0 : Fin 32)].strobeEnds with nrem := fld i (0 : Nat) 5 + 1, busy := true }).half
      = true)) ((((s11cb 434).pinSync (0 : Fin 32)).pinWrites (0 : Fin 32)).pinCur (0 : Fin 32)) = true) = true) ∧
    (decide ((((s11cb 230).pinSync (0 : Fin 32)).pinWrites (0 : Fin 32)).Canonical ∧ Option.any (fun i => decide (pinDecode i = PinOp.sho ∧ (if
      (((s11cb 230).pinSync (0 : Fin 32)).pinWrites (0 : Fin 32)).pins[(0 : Fin 32)].strobeEnds.busy = true then (((s11cb 230).pinSync (0 : Fin
      32)).pinWrites (0 : Fin 32)).pins[(0 : Fin 32)].strobeEnds else
      { (((s11cb 230).pinSync (0 : Fin 32)).pinWrites (0 : Fin 32)).pins[(0 : Fin 32)].strobeEnds with nrem := fld i (0 : Nat) 5 + 1, busy := true }).half
      = false ∧ (((s11cb 230).pinSync (0 : Fin 32)).pinWrites (0 : Fin 32)).pins[(0 : Fin 32)].strobeEnds.bc = (0 : Nat) ∧ bitAt i (11 : Nat) =
      true ∧ (((s11cb 230).pinSync (0 : Fin 32)).pinWrites (0 : Fin 32)).pins[(0 : Fin 32)].strobeEnds.txfull = false)) ((((s11cb 230).pinSync (0 :
      Fin 32)).pinWrites (0 : Fin 32)).pinCur (0 : Fin 32)) = true) = true) ∧
    (decide ((((s11cb 20).pinSync (0 : Fin 32)).pinWrites (0 : Fin 32)).Canonical ∧ Option.any (fun i => decide (pinDecode i = PinOp.sho ∧ (if
      (((s11cb 20).pinSync (0 : Fin 32)).pinWrites (0 : Fin 32)).pins[(0 : Fin 32)].strobeEnds.busy = true then (((s11cb 20).pinSync (0 : Fin
      32)).pinWrites (0 : Fin 32)).pins[(0 : Fin 32)].strobeEnds else
      { (((s11cb 20).pinSync (0 : Fin 32)).pinWrites (0 : Fin 32)).pins[(0 : Fin 32)].strobeEnds with nrem := fld i (0 : Nat) 5 + 1, busy := true }).half
      = false ∧ ((((s11cb 20).pinSync (0 : Fin 32)).pinWrites (0 : Fin 32)).pins[(0 : Fin 32)].strobeEnds.bc ≠ (0 : Nat) ∨ bitAt i (11 : Nat) =
      false))) ((((s11cb 20).pinSync (0 : Fin 32)).pinWrites (0 : Fin 32)).pinCur (0 : Fin 32)) = true) = true) ∧
    (decide ((((s11cb 161).pinSync (0 : Fin 32)).pinWrites (0 : Fin 32)).Canonical ∧ Option.any (fun i => decide (pinDecode i = PinOp.sho ∧ (if
      (((s11cb 161).pinSync (0 : Fin 32)).pinWrites (0 : Fin 32)).pins[(0 : Fin 32)].strobeEnds.busy = true then (((s11cb 161).pinSync (0 : Fin
      32)).pinWrites (0 : Fin 32)).pins[(0 : Fin 32)].strobeEnds else
      { (((s11cb 161).pinSync (0 : Fin 32)).pinWrites (0 : Fin 32)).pins[(0 : Fin 32)].strobeEnds with nrem := fld i (0 : Nat) 5 + 1, busy := true }).half
      = false ∧ (((s11cb 161).pinSync (0 : Fin 32)).pinWrites (0 : Fin 32)).pins[(0 : Fin 32)].strobeEnds.bc = (0 : Nat) ∧ bitAt i (11 : Nat) =
      true ∧ (((s11cb 161).pinSync (0 : Fin 32)).pinWrites (0 : Fin 32)).pins[(0 : Fin 32)].strobeEnds.txfull = true)) ((((s11cb 161).pinSync (0 :
      Fin 32)).pinWrites (0 : Fin 32)).pinCur (0 : Fin 32)) = true) = true) ∧
    (decide ((((s11cb 96).pinSync (0 : Fin 32)).pinWrites (0 : Fin 32)).Canonical ∧ Option.any (fun i => decide (pinDecode i = PinOp.shi ∧ (if
      (((s11cb 96).pinSync (0 : Fin 32)).pinWrites (0 : Fin 32)).pins[(0 : Fin 32)].strobeEnds.busy = true then (((s11cb 96).pinSync (0 : Fin
      32)).pinWrites (0 : Fin 32)).pins[(0 : Fin 32)].strobeEnds else
      { (((s11cb 96).pinSync (0 : Fin 32)).pinWrites (0 : Fin 32)).pins[(0 : Fin 32)].strobeEnds with nrem := fld i (0 : Nat) 5 + 1, busy := true }).spill
      = false ∧ (((s11cb 96).pinSync (0 : Fin 32)).pinWrites (0 : Fin 32)).pins[(0 : Fin 32)].strobeEnds.strb = true ∧ (if (((s11cb 96).pinSync (0
      : Fin 32)).pinWrites (0 : Fin 32)).pins[(0 : Fin 32)].strobeEnds.busy = true then (((s11cb 96).pinSync (0 : Fin 32)).pinWrites (0 : Fin
      32)).pins[(0 : Fin 32)].strobeEnds else
      { (((s11cb 96).pinSync (0 : Fin 32)).pinWrites (0 : Fin 32)).pins[(0 : Fin 32)].strobeEnds with nrem := fld i (0 : Nat) 5 + 1, busy := true }).half
      = false)) ((((s11cb 96).pinSync (0 : Fin 32)).pinWrites (0 : Fin 32)).pinCur (0 : Fin 32)) = true) = true) ∧
    (decide ((((s11cb 27).pinSync (0 : Fin 32)).pinWrites (0 : Fin 32)).Canonical ∧ Option.any (fun i => decide (pinDecode i = PinOp.shi ∧ (if
      (((s11cb 27).pinSync (0 : Fin 32)).pinWrites (0 : Fin 32)).pins[(0 : Fin 32)].strobeEnds.busy = true then (((s11cb 27).pinSync (0 : Fin
      32)).pinWrites (0 : Fin 32)).pins[(0 : Fin 32)].strobeEnds else
      { (((s11cb 27).pinSync (0 : Fin 32)).pinWrites (0 : Fin 32)).pins[(0 : Fin 32)].strobeEnds with nrem := fld i (0 : Nat) 5 + 1, busy := true }).spill
      = false ∧ ((((s11cb 27).pinSync (0 : Fin 32)).pinWrites (0 : Fin 32)).pins[(0 : Fin 32)].strobeEnds.strb = false ∨ (if (((s11cb 27).pinSync
      (0 : Fin 32)).pinWrites (0 : Fin 32)).pins[(0 : Fin 32)].strobeEnds.busy = true then (((s11cb 27).pinSync (0 : Fin 32)).pinWrites (0 : Fin
      32)).pins[(0 : Fin 32)].strobeEnds else
      { (((s11cb 27).pinSync (0 : Fin 32)).pinWrites (0 : Fin 32)).pins[(0 : Fin 32)].strobeEnds with nrem := fld i (0 : Nat) 5 + 1, busy := true }).half
      = true) ∧ ((((s11cb 27).pinSync (0 : Fin 32)).pinWrites (0 : Fin 32)).pins[(0 : Fin 32)].strobeEnds.bc < (31 : Nat) ∨ bitAt i (11 : Nat) =
      false) ∧ (if (((s11cb 27).pinSync (0 : Fin 32)).pinWrites (0 : Fin 32)).pins[(0 : Fin 32)].strobeEnds.busy = true then (((s11cb 27).pinSync
      (0 : Fin 32)).pinWrites (0 : Fin 32)).pins[(0 : Fin 32)].strobeEnds else
      { (((s11cb 27).pinSync (0 : Fin 32)).pinWrites (0 : Fin 32)).pins[(0 : Fin 32)].strobeEnds with nrem := fld i (0 : Nat) 5 + 1, busy := true }).nrem
      ≠ (0 : Nat))) ((((s11cb 27).pinSync (0 : Fin 32)).pinWrites (0 : Fin 32)).pinCur (0 : Fin 32)) = true) = true) := by
  refine ⟨?_, ?_, ?_, ?_, ?_, ?_⟩ <;> decide +kernel

/-- Meets the hypotheses of `Obligations.PinEngines`, clause by clause. -/
theorem witness_PinEngines_3 :
    (decide ((((s11cb 306).pinSync (0 : Fin 32)).pinWrites (0 : Fin 32)).Canonical ∧ Option.any (fun i => decide (pinDecode i = PinOp.shi ∧ (if
      (((s11cb 306).pinSync (0 : Fin 32)).pinWrites (0 : Fin 32)).pins[(0 : Fin 32)].strobeEnds.busy = true then (((s11cb 306).pinSync (0 : Fin
      32)).pinWrites (0 : Fin 32)).pins[(0 : Fin 32)].strobeEnds else
      { (((s11cb 306).pinSync (0 : Fin 32)).pinWrites (0 : Fin 32)).pins[(0 : Fin 32)].strobeEnds with nrem := fld i (0 : Nat) 5 + 1, busy := true }).spill
      = false ∧ ((((s11cb 306).pinSync (0 : Fin 32)).pinWrites (0 : Fin 32)).pins[(0 : Fin 32)].strobeEnds.strb = false ∨ (if (((s11cb 306).pinSync
      (0 : Fin 32)).pinWrites (0 : Fin 32)).pins[(0 : Fin 32)].strobeEnds.busy = true then (((s11cb 306).pinSync (0 : Fin 32)).pinWrites (0 : Fin
      32)).pins[(0 : Fin 32)].strobeEnds else
      { (((s11cb 306).pinSync (0 : Fin 32)).pinWrites (0 : Fin 32)).pins[(0 : Fin 32)].strobeEnds with nrem := fld i (0 : Nat) 5 + 1, busy := true }).half
      = true) ∧ (31 : Nat) ≤ (((s11cb 306).pinSync (0 : Fin 32)).pinWrites (0 : Fin 32)).pins[(0 : Fin 32)].strobeEnds.bc ∧ bitAt i (11 : Nat) =
      true ∧ (if (((s11cb 306).pinSync (0 : Fin 32)).pinWrites (0 : Fin 32)).pins[(0 : Fin 32)].strobeEnds.busy = true then (((s11cb 306).pinSync
      (0 : Fin 32)).pinWrites (0 : Fin 32)).pins[(0 : Fin 32)].strobeEnds else
      { (((s11cb 306).pinSync (0 : Fin 32)).pinWrites (0 : Fin 32)).pins[(0 : Fin 32)].strobeEnds with nrem := fld i (0 : Nat) 5 + 1, busy := true }).nrem
      ≠ (0 : Nat))) ((((s11cb 306).pinSync (0 : Fin 32)).pinWrites (0 : Fin 32)).pinCur (0 : Fin 32)) = true) = true) ∧
    (decide ((((s11cb 510).pinSync (0 : Fin 32)).pinWrites (0 : Fin 32)).Canonical ∧ Option.any (fun i => decide (pinDecode i = PinOp.shi ∧ (if
      (((s11cb 510).pinSync (0 : Fin 32)).pinWrites (0 : Fin 32)).pins[(0 : Fin 32)].strobeEnds.busy = true then (((s11cb 510).pinSync (0 : Fin
      32)).pinWrites (0 : Fin 32)).pins[(0 : Fin 32)].strobeEnds else
      { (((s11cb 510).pinSync (0 : Fin 32)).pinWrites (0 : Fin 32)).pins[(0 : Fin 32)].strobeEnds with nrem := fld i (0 : Nat) 5 + 1, busy := true }).spill
      = true)) ((((s11cb 510).pinSync (0 : Fin 32)).pinWrites (0 : Fin 32)).pinCur (0 : Fin 32)) = true) = true) ∧
    (decide ((((s11cb 322).pinSync (0 : Fin 32)).pinWrites (0 : Fin 32)).Canonical ∧ Option.any (fun i => decide (pinDecode i = PinOp.awaitBeat ∧
      (((s11cb 322).pinSync (0 : Fin 32)).pinWrites (0 : Fin 32)).pins[(0 : Fin 32)].strobeEnds.busy = true)) ((((s11cb 322).pinSync (0 : Fin
      32)).pinWrites (0 : Fin 32)).pinCur (0 : Fin 32)) = true) = true) ∧
    (decide ((((s11cb 736).pinSync (0 : Fin 32)).pinWrites (0 : Fin 32)).Canonical ∧ Option.any (fun i => decide (pinDecode i = PinOp.awaitBeat ∧
      (((s11cb 736).pinSync (0 : Fin 32)).pinWrites (0 : Fin 32)).pins[(0 : Fin 32)].strobeEnds.busy = false ∧ bitAt i (10 : Nat) = true ∧
      Option.any (fun n => (((s11cb 736).pinSync (0 : Fin 32)).pinWrites (0 : Fin 32)).beatMeets (0 : Fin 32) i n) (((s11cb 736).pinSync (0 : Fin
      32)).pinWrites (0 : Fin 32)).pins[(0 : Fin 32)].strobeEnds.beatSeen = true)) ((((s11cb 736).pinSync (0 : Fin 32)).pinWrites (0 : Fin
      32)).pinCur (0 : Fin 32)) = true) = true) ∧
    (decide ((((s11cb 46).pinSync (0 : Fin 32)).pinWrites (0 : Fin 32)).Canonical ∧ Option.any (fun i => decide (pinDecode i = PinOp.awaitBeat ∧
      (((s11cb 46).pinSync (0 : Fin 32)).pinWrites (0 : Fin 32)).pins[(0 : Fin 32)].strobeEnds.busy = false ∧ (bitAt i (10 : Nat) = false ∨
      Option.any (fun n => (((s11cb 46).pinSync (0 : Fin 32)).pinWrites (0 : Fin 32)).beatMeets (0 : Fin 32) i n) (((s11cb 46).pinSync (0 : Fin
      32)).pinWrites (0 : Fin 32)).pins[(0 : Fin 32)].strobeEnds.beatSeen = false))) ((((s11cb 46).pinSync (0 : Fin 32)).pinWrites (0 : Fin
      32)).pinCur (0 : Fin 32)) = true) = true) ∧
    ((s11cb 0).Accepts (Master.hrp (3 : BitVec 8)) (pinBase (0 : Fin 32) + 64) ∧ decide (((s11cb 0).rowReady (pinBase (0 : Fin 32) + 64)).Canonical
      ∧ ((s11cb 0).rowReady (pinBase (0 : Fin 32) + 64)).Accepts (Master.hrp (3 : BitVec 8)) (pinBase (0 : Fin 32) + 64) ∧ ((s11cb 0).rowReady
      (pinBase (0 : Fin 32) + 64)).srstBusy (Page.pin (0 : Fin 32)) = false ∧ ((s11cb 0).rowReady (pinBase (0 : Fin 32) + 64)).pins[(0 : Fin
      32)].runs = true) = true) ∧
    ((s11cb 866).Accepts (Master.hrp (3 : BitVec 8)) (pinBase (0 : Fin 32) + 64) ∧ decide (((s11cb 866).rowReady (pinBase (0 : Fin 32) +
      64)).Canonical ∧ ((s11cb 866).rowReady (pinBase (0 : Fin 32) + 64)).Accepts (Master.hrp (3 : BitVec 8)) (pinBase (0 : Fin 32) + 64) ∧ ((s11cb
      866).rowReady (pinBase (0 : Fin 32) + 64)).srstBusy (Page.pin (0 : Fin 32)) = false ∧ ((s11cb 866).rowReady (pinBase (0 : Fin 32) +
      64)).pins[(0 : Fin 32)].runs = false ∧ ((s11cb 866).rowReady (pinBase (0 : Fin 32) + 64)).pageEn (Page.pin (0 : Fin 32)) = false) = true) ∧
    ((s11cb 759).Accepts (Master.hrp (3 : BitVec 8)) (pinBase (0 : Fin 32) + 64) ∧ decide (((s11cb 759).rowReady (pinBase (0 : Fin 32) +
      64)).Canonical ∧ ((s11cb 759).rowReady (pinBase (0 : Fin 32) + 64)).Accepts (Master.hrp (3 : BitVec 8)) (pinBase (0 : Fin 32) + 64) ∧ ((s11cb
      759).rowReady (pinBase (0 : Fin 32) + 64)).srstBusy (Page.pin (0 : Fin 32)) = false ∧ ((s11cb 759).rowReady (pinBase (0 : Fin 32) +
      64)).pins[(0 : Fin 32)].runs = false ∧ ((s11cb 759).rowReady (pinBase (0 : Fin 32) + 64)).pageEn (Page.pin (0 : Fin 32)) = true ∧ ((s11cb
      759).rowReady (pinBase (0 : Fin 32) + 64)).pins[(0 : Fin 32)].injected = none) = true) ∧
    ((s11cb 2).Accepts (Master.hrp (3 : BitVec 8)) (pinBase (0 : Fin 32) + 64) ∧ decide (((s11cb 2).rowReady (pinBase (0 : Fin 32) + 64)).Canonical
      ∧ ((s11cb 2).rowReady (pinBase (0 : Fin 32) + 64)).Accepts (Master.hrp (3 : BitVec 8)) (pinBase (0 : Fin 32) + 64) ∧ ((s11cb 2).rowReady
      (pinBase (0 : Fin 32) + 64)).srstBusy (Page.pin (0 : Fin 32)) = false ∧ ((s11cb 2).rowReady (pinBase (0 : Fin 32) + 64)).pins[(0 : Fin
      32)].runs = false ∧ ((s11cb 2).rowReady (pinBase (0 : Fin 32) + 64)).pageEn (Page.pin (0 : Fin 32)) = true ∧ ((s11cb 2).rowReady (pinBase (0
      : Fin 32) + 64)).pins[(0 : Fin 32)].injected ≠ none) = true) := by
  refine ⟨?_, ?_, ?_, ?_, ?_, ?_, ?_, ?_, ?_⟩ <;> decide +kernel

/-- Meets the hypotheses of `Obligations.PinEngines`, clause by clause. -/
theorem witness_PinEngines_4 :
    ((s11cb 2).Accepts (Master.hrp (3 : BitVec 8)) (pinBase (0 : Fin 32) + 64) ∧ decide (((s11cb 2).rowReady (pinBase (0 : Fin 32) + 64)).Canonical
      ∧ ((s11cb 2).rowReady (pinBase (0 : Fin 32) + 64)).Accepts (Master.hrp (3 : BitVec 8)) (pinBase (0 : Fin 32) + 64) ∧ ((s11cb 2).rowReady
      (pinBase (0 : Fin 32) + 64)).srstBusy (Page.pin (0 : Fin 32)) = false ∧ ((s11cb 2).rowReady (pinBase (0 : Fin 32) + 64)).pins[(0 : Fin
      32)].runs = false) = true) ∧
    ((s11cb 0).Accepts (Master.hrp (3 : BitVec 8)) (pinBase (0 : Fin 32) + 92) ∧ decide (((s11cb 0).rowReady (pinBase (0 : Fin 32) + 92)).Canonical
      ∧ ((s11cb 0).rowReady (pinBase (0 : Fin 32) + 92)).Accepts (Master.hrp (3 : BitVec 8)) (pinBase (0 : Fin 32) + 92) ∧ ((s11cb 0).rowReady
      (pinBase (0 : Fin 32) + 92)).srstBusy (Page.pin (0 : Fin 32)) = false) = true) ∧
    (decide (((s11cb 0).rowReady (pinBase (0 : Fin 32) + 96)).takes (Master.hrp (3 : BitVec 8)) (pinBase (0 : Fin 32) + 96) = true ∧ ((s11cb
      0).rowReady (pinBase (0 : Fin 32) + 96)).srstBusy (Page.pin (0 : Fin 32)) = false ∧ ((s11cb 0).rowReady (pinBase (0 : Fin 32) +
      96)).islandQ.all (fun w => decide (w.pinPage ≠ some (0 : Fin 32))) = true) = true) ∧
    ((s11cb 0).Accepts (Master.hrp (3 : BitVec 8)) (pinBase (0 : Fin 32) + 104) ∧ decide (((s11cb 0).rowReady (pinBase (0 : Fin 32) +
      104)).Canonical ∧ ((s11cb 0).rowReady (pinBase (0 : Fin 32) + 104)).Accepts (Master.hrp (3 : BitVec 8)) (pinBase (0 : Fin 32) + 104) ∧
      ((s11cb 0).rowReady (pinBase (0 : Fin 32) + 104)).srstBusy (Page.pin (0 : Fin 32)) = false) = true) ∧
    ((((s11cb 759).pinSync 0).pinWrites 0).pinCur 0 = none) := by
  refine ⟨?_, ?_, ?_, ?_, ?_⟩ <;> decide +kernel

end Sys2Proof.Tests.W11C
end

