-- ==== Sys2Proof/Tests/Witness12.lean ====
section
/-!
SUPPORT. Witnesses: for each statement of part 12 of the obligations, states and operands that meet the hypotheses of each of its clauses.
-/
namespace Sys2Proof.Tests.W12
set_option linter.unusedVariables false
set_option Elab.async false
open Sys2Proof Sys2Proof.Machine Sys2Proof.Tests

def b0 : State := { State.reset with clkOk := true, firstEdge := true, beatno := 0x1234567, wiping := false }
def tr (f : Trust → Trust) (s : State := b0) : State := s.modTrust f
def ent (k m len : Nat) (tg : Nat) (h : Nat := 0x100) : List Byte := [BitVec.ofNat 8 k, BitVec.ofNat 8 m, 0, 0] ++ bytesLE 4 len ++ bytesLE 8 h ++ bytesLE 8 tg ++ bytesLE 8 0
def desc (es : List (List Byte)) (magic : Nat := 0x44423947) : List Byte := bytesLE 4 magic ++ bytesLE 2 1 ++ bytesLE 2 es.length ++ bytesLE 4 0x14000 ++ List.replicate 52 0 ++ es.flatten
def dgood := desc [ent 5 3 32 0, ent 4 2 32 0x40001000, ent 1 7 32 0x400, ent 2 1 16 (0x4000300 + 0x2), ent 3 4 32 0x10521]
def im (i : Nat) : State := tr (fun t => {t with boot := .images, desc := dgood, image := i, lc := some 3})
def qs : List Quote := [{cb := 5, who := .host, nonce := List.replicate 32 7, snap := none}, {cb := 6, who := .peer 3, nonce := [], snap := none}]
def rq (w : QuoteFor) : Quote := {cb := 5, who := w, nonce := [], snap := some (List.replicate 448 3)}
def secm : List (Nat × Byte) := [(0x10, 5), (0x48000000, 8), (0x48000047,8), (0x4803FFFF, 1), (0x48040000,3)]
def bad (i : Nat) (s : State) : State := s.modCb ⟨i % 64, by omega⟩ (fun c => {c with cur := {c.cur with st := .running}, abort := true})
def full : State := {b0 with callboard := b0.callboard.map (fun c => {c with cur := {c.cur with st := .running}})}
def en (s : State) : State := s.setReg 0x80 0x80000000
def samples : List State := [b0, tr (fun t => {t with lc := some 3}), {tr (fun t => {t with lc := some 3, boot := .descriptor, keys := true, tamper := true}) with mem := secm.take 0}, {tr (fun t => {t with lc := some 0x3F, boot := .done}) with dbg := {level := 1}}, {tr (fun t => {t with lc := some 0xF, boot := .done, keys := true}) with mem := [(0x10,5), (0x48000000, 8)]},
 tr (fun t => {t with lc := some 0xFF, boot := .failed}), {tr (fun t => {t with lc := some 3, boot := .done, keys := true, quotes := qs}) with mem := [(0x48000040,8)]},
 {tr (fun t => {t with lc := some 3}) with wiping := true}, {tr (fun t => {t with lc := some 0}) with wiping := true}, {tr (fun t => {t with lc := some 0xFF}) with wiping := true},
 tr (fun t => {t with lc := some 3, boot := .secret, secretReq := true}), tr (fun t => {t with lc := some 3, boot := .secret, secretReq := true, rs := [1,2]}), tr (fun t => {t with lc := some 3, boot := .secret, secretReq := true, rs := (List.range 11).map (BitVec.ofNat 32)}),
 tr (fun t => {t with boot := .waitGo}), (tr (fun t => {t with boot := .waitGo})).setReg 0x2044 0xFFFFFFFF, tr (fun t => {t with boot := .descriptor}), im 0, im 1, im 2, im 3, im 4, 
 (b0.setReg 0x60C0 0x1234).setReg 0x6054 3, tr (fun t => {t with boot := .done, pages := [65, 3]}), (tr (fun t => {t with boot := .done, pages := [65, 3]})).modEng houseNo (fun g => {g with run := .dark}),
 tr (fun t => {t with keys := true, lc := some 3}), (tr (fun t => {t with keys := true, lc := some 3})).modEng houseNo (fun g => {g with run := .dark}), (tr (fun t => {t with keys := true, lc := some 3})).setReg 0x2044 0xFFFFFFFF, tr (fun t => {t with hostRec := some 5}), full,
 tr (fun t => {t with quotes := List.replicate 8 {cb := 6, who := .peer 3, nonce := [], snap := none}}), {tr (fun t => {t with keys := true, lc := some 3}) with dbg := {level := 1}}, {b0 with dbg := {level := 2}},
 tr (fun t => {t with peerRec := some 5, hostRec := some 5}), tr (fun t => {t with peerRec := some 5, hostRec := some 5, peerHalves := 1, peerBeat := 0x1230000}), tr (fun t => {t with peerRec := some 5, hostRec := some 5, peerHalves := 2, peerBeat := 0x1224567}),
 {tr (fun t => {t with quotes := [qs[1], rq .host], hostRec := some 5}) with permit := {grants := [(.quote 5, 6)]}}, bad 5 (tr (fun t => {t with quotes := [rq .host], hostRec := some 5})), tr (fun t => {t with quotes := [rq .debugger]}), en full, en ((tr (fun t => {t with keys := true, lc := some 3})).modEng houseNo (fun g => {g with run := .dark})), en ((tr (fun t => {t with keys := true, lc := some 3})).setReg 0x2044 0xFFFFFFFF), en (tr (fun t => {t with peerRec := some 5, hostRec := some 5, peerBeat := 0x1234567})), en (tr (fun t => {t with keys := true, lc := some 3})), en (tr (fun t => {t with keys := true, lc := some 3, hostRec := some 5, peerRec := some 5, peerHalves := 2, peerBeat := 0x1230000})), en (tr (fun t => {t with peerRec := some 5, hostRec := some 5, peerHalves := 1, peerBeat := 0x1234567})), en (tr (fun t => {t with quotes := List.replicate 8 {cb := 6, who := .peer 3, nonce := [], snap := none}})), (en b0).setReg 0x84 0xFFFFFFFF, tr (fun t => {t with quotes := [rq (.peer 3)]}), {((tr (fun t => {t with keys := true, lc := some 3})).modEng houseNo (fun g => {g with run := .dark})) with dbg := {level := 1}}, {((tr (fun t => {t with keys := true, lc := some 3})).setReg 0x2044 0xFFFFFFFF) with dbg := {level := 1}},
 ((tr (fun t => {t with boot := .descriptor})).setReg 0x604C 0x80), ((tr (fun t => {t with boot := .descriptor})).setReg 0x604C 0x7F).setReg 0x6048 0xFFFFFFF0,
 {((tr (fun t => {t with lc := some 0xF})).setReg 0x7044 1) with dbg := {level := 1}, retained := [.secureBank]}, {((tr (fun t => {t with lc := none})).setReg 0x7044 1) with dbg := {level := 1}, retained := [.secureBank]},
 {b0 with lastGrant := b0.lastGrant, singles := [{m := 16, t := 23, granted := false}]}, {full with dbg := {level := 1}}, tr (fun t => {t with keys := true, lc := some 0xFF}), {(tr (fun t => {t with keys := true, lc := some 0xFF})) with dbg := {level := 1}}, en (tr (fun t => {t with keys := true, lc := some 0xFF}))]
def s12a (i : Nat) : State := (samples ++ [tr (fun t => {t with boot := .images, desc := desc [ent 5 3 32 0 (2^39)], image := 0, lc := some 3})]).getD i State.reset

/-- Meets the hypotheses of `Obligations.TrustBoot`, clause by clause. -/
theorem witness_TrustBoot_1 :
    ((s12a 13).Canonical ∧ (s12a 13).dbg.level < (2 : Nat) ∧ (s12a 13).trust.lc = none ∧ ((s12a 13).trust.boot ≠ BootStage.wipe ∨ (s12a 13).wiping
      = true)) ∧
    ((s12a 8).Canonical ∧ (s12a 8).dbg.level < (2 : Nat) ∧ Option.any (fun old => decide (Option.any (fun io => decide ((lcIndex (if lcIndex (0 :
      BitVec 8) = none then (255 : BitVec 8) else (0 : BitVec 8))).getD (0 : Nat) = io ∧ ¬lcIndex (0 : BitVec 8) = none)) (lcIndex old) = true))
      (s12a 8).trust.lc = true) ∧
    ((s12a 5).Canonical ∧ (s12a 5).dbg.level < (2 : Nat) ∧ Option.any (fun old => decide (Option.any (fun io => decide ((lcIndex (if lcIndex (85 :
      BitVec 8) = none then (255 : BitVec 8) else (85 : BitVec 8))).getD (0 : Nat) = io ∧ lcIndex (85 : BitVec 8) = none)) (lcIndex old) = true))
      (s12a 5).trust.lc = true) ∧
    ((s12a 1).Canonical ∧ (s12a 1).dbg.level < (2 : Nat) ∧ Option.any (fun old => decide (Option.any (fun io => decide ((lcIndex (if lcIndex (0 :
      BitVec 8) = none then (255 : BitVec 8) else (0 : BitVec 8))).getD (0 : Nat) < io)) (lcIndex old) = true)) (s12a 1).trust.lc = true) ∧
    ((s12a 8).Canonical ∧ (s12a 8).dbg.level < (2 : Nat) ∧ Option.any (fun old => decide (Option.any (fun io => decide (io < (lcIndex (if lcIndex
      (3 : BitVec 8) = none then (255 : BitVec 8) else (3 : BitVec 8))).getD (0 : Nat) ∧ (s12a 8).trust.boot ≠ BootStage.secret ∧ (s12a
      8).trust.quotes = [])) (lcIndex old) = true)) (s12a 8).trust.lc = true) ∧
    ((s12a 0).Canonical ∧ (s12a 0).trust.boot ≠ BootStage.secret ∧ (s12a 0).dbg.level < (2 : Nat)) ∧
    ((s12a 1).Canonical ∧ (s12a 1).trust.boot = BootStage.wipe ∧ (s12a 1).trust.lc ≠ none ∧ (s12a 1).trust.keyed = true ∧ (s12a 1).trust.noKeys =
      false) ∧
    ((s12a 8).Canonical ∧ (s12a 8).trust.boot = BootStage.wipe ∧ (s12a 8).trust.lc ≠ none ∧ ((s12a 8).trust.keyed = false ∨ (s12a 8).trust.noKeys =
      true) ∧ (s12a 8).trust.index ≠ (4 : Nat) ∧ (s12a 8).trust.goHeld = false) ∧
    ((s12a 9).Canonical ∧ (s12a 9).trust.boot = BootStage.wipe ∧ (s12a 9).trust.lc ≠ none ∧ (s12a 9).trust.index = (4 : Nat)) ∧
    ((s12a 0).Canonical ∧ (s12a 0).trust.secretReq = false) ∧
    ((s12a 10).Canonical ∧ (s12a 10).trust.secretReq = true ∧ (s12a 10).trust.rs.length < (11 : Nat)) ∧
    ((s12a 12).Canonical ∧ (s12a 12).trust.secretReq = true ∧ (s12a 12).trust.rs.length = (11 : Nat) ∧ (s12a 12).trust.noKeys = false ∧ (s12a
      12).trust.index ≠ (4 : Nat) ∧ (s12a 12).trust.goHeld = false) ∧
    ((s12a 0).Canonical ∧ ((s12a 0).trust.secretReq = false ∨ (s12a 0).trust.rs ≠ [])) ∧
    ((s12a 10).Canonical ∧ (s12a 10).trust.secretReq = true ∧ (s12a 10).trust.rs = [] ∧ (s12a 10).trust.index ≠ (4 : Nat) ∧ (s12a 10).trust.goHeld
      = false ∧ (s12a 10).logcnt < (4095 : Nat)) ∧
    ((s12a 0).Canonical ∧ (s12a 0).Accepts (Master.xbar (16 : Fin 21)) (24656 : Nat) ∧ (s12a 0).srstBusy Page.trust = false ∧ ((s12a 0).trust.boot
      = BootStage.wipe ∨ (s12a 0).trust.boot = BootStage.secret)) ∧
    ((s12a 13).Canonical ∧ (s12a 13).Accepts (Master.xbar (16 : Fin 21)) (24656 : Nat) ∧ (s12a 13).srstBusy Page.trust = false ∧ (s12a
      13).trust.boot = BootStage.waitGo ∧ (s12a 13).charge (300 : Nat) ≤ (s12a 13).avail) ∧
    ((s12a 14).Canonical ∧ (s12a 14).Accepts (Master.xbar (16 : Fin 21)) (24656 : Nat) ∧ (s12a 14).srstBusy Page.trust = false ∧ (s12a
      14).trust.boot = BootStage.waitGo ∧ (s12a 14).avail < (s12a 14).charge (300 : Nat)) ∧
    ((s12a 2).Canonical ∧ (s12a 2).Accepts (Master.xbar (16 : Fin 21)) (24656 : Nat) ∧ (s12a 2).srstBusy Page.trust = false ∧ ¬(s12a 2).trust.boot
      ∈ [BootStage.wipe, BootStage.secret, BootStage.waitGo]) ∧
    ((s12a 0).Canonical ∧ ¬(s12a 0).trust.boot ∈ [BootStage.descriptor, BootStage.images]) ∧
    ((s12a 2).Canonical ∧ (s12a 2).trust.boot = BootStage.descriptor) ∧
    ((s12a 16).Canonical ∧ (s12a 16).trust.boot = BootStage.images) ∧
    ((s12a 50).Canonical ∧ (s12a 50).trust.boot = BootStage.descriptor ∧ Option.any (fun d => decide (2 ^ 39 < (s12a 50).regN 24648 + (s12a
      50).regN 24652 * 2 ^ 32 + d.length)) (some (desc [])) = true) ∧
    ((s12a 59).Canonical ∧ (s12a 59).trust.boot = BootStage.images ∧ Option.any (fun b => decide (2 ^ 39 < entryField (s12a 59).trust.desc (s12a
      59).trust.image (8 : Nat) 8 + b.length)) (some (desc [])) = true) ∧
    ((s12a 2).Canonical ∧ (s12a 2).trust.boot = BootStage.descriptor ∧ Option.any (fun d => decide ((64 : Nat) ≤ d.length ∧ (s12a 2).regN 24648 +
      (s12a 2).regN 24652 * 2 ^ 32 + d.length ≤ 2 ^ 39 ∧ headerOk d = false)) (some (desc [])) = true) ∧
    ((s12a 2).Canonical ∧ (s12a 2).trust.boot = BootStage.descriptor ∧ Option.any (fun d => decide ((64 : Nat) ≤ d.length ∧ (s12a 2).regN 24648 +
      (s12a 2).regN 24652 * 2 ^ 32 + d.length ≤ 2 ^ 39 ∧ headerOk d = true ∧ d.length ≠ 64 + 32 * descField d (6 : Nat) (2 : Nat))) (some (dgood ++
      [(1 : Byte)])) = true) ∧
    ((s12a 2).Canonical ∧ (s12a 2).trust.boot = BootStage.descriptor ∧ Option.any (fun d => decide ((64 : Nat) ≤ d.length ∧ (s12a 2).regN 24648 +
      (s12a 2).regN 24652 * 2 ^ 32 + d.length ≤ 2 ^ 39 ∧ headerOk d = true ∧ d.length = 64 + 32 * descField d (6 : Nat) (2 : Nat) ∧ Option.any (fun
      p => true) (List.findSome? (fun i => Option.map (fun r => (i, r)) (entryFault d i)) (List.range (descField d (6 : Nat) (2 : Nat)))) = true))
      (some (desc [ent (5 : Nat) (1 : Nat) (16 : Nat) (0 : Nat), ent (6 : Nat) (1 : Nat) (16 : Nat) (0 : Nat)])) = true) ∧
    ((s12a 2).Canonical ∧ (s12a 2).trust.boot = BootStage.descriptor ∧ Option.any (fun d => decide ((64 : Nat) ≤ d.length ∧ (s12a 2).regN 24648 +
      (s12a 2).regN 24652 * 2 ^ 32 + d.length ≤ 2 ^ 39 ∧ headerOk d = true ∧ d.length = 64 + 32 * descField d (6 : Nat) (2 : Nat) ∧ ((List.range
      (descField d (6 : Nat) (2 : Nat))).all fun i => (entryFault d i).isNone) = true ∧ (s12a 2).logcnt < (4095 : Nat))) (some dgood) = true) ∧
    ((s12a 16).Canonical ∧ (s12a 16).trust.boot = BootStage.images ∧ Option.any (fun b => decide (entryField (s12a 16).trust.desc (s12a
      16).trust.image (8 : Nat) 8 + b.length ≤ 2 ^ 39 ∧ b.length ≠ entryField (s12a 16).trust.desc (s12a 16).trust.image (4 : Nat) (4 : Nat)))
      (some (desc [])) = true) := by
  refine ⟨?_, ?_, ?_, ?_, ?_, ?_, ?_, ?_, ?_, ?_, ?_, ?_, ?_, ?_, ?_, ?_, ?_, ?_, ?_, ?_, ?_, ?_, ?_, ?_, ?_, ?_, ?_, ?_⟩ <;> decide +kernel

/-- Meets the hypotheses of `Obligations.TrustBoot`, clause by clause. -/
theorem witness_TrustBoot_2 :
    ((s12a 19).Canonical ∧ (s12a 19).trust.boot = BootStage.images ∧ Option.any (fun b => decide (entryField (s12a 19).trust.desc (s12a
      19).trust.image (8 : Nat) 8 + b.length ≤ 2 ^ 39 ∧ b.length = entryField (s12a 19).trust.desc (s12a 19).trust.image (4 : Nat) (4 : Nat) ∧
      entryFault (s12a 19).trust.desc (s12a 19).trust.image = none ∧ (s12a 19).logcnt < (4095 : Nat) ∧ spWf csBase (s12a 19).cstore = true ∧ spWf
      (fun x => (0 : Word128)) (s12a 19).sstore = true)) (some (List.replicate (16 : Nat) (7 : Byte))) = true) ∧
    ((s12a 0).Canonical ∧ (s12a 0).Accepts (Master.xbar (16 : Fin 21)) (24816 : Nat) ∧ (s12a 0).srstBusy Page.trust = false ∧ fld (0 : Word) (16 :
      Nat) (3 : Nat) = (0 : Nat)) ∧
    ((s12a 0).Canonical ∧ (s12a 0).Accepts (Master.xbar (16 : Fin 21)) (24816 : Nat) ∧ (s12a 0).srstBusy Page.trust = false ∧ fld (196693 : Word)
      (16 : Nat) (3 : Nat) ≠ (0 : Nat) ∧ (s12a 0).logcnt < (4095 : Nat)) ∧
    ((s12a 0).Canonical ∧ ((s12a 0).trust.boot ≠ BootStage.done ∨ (s12a 0).engines[houseNo].run = RunState.dark ∨ (s12a 0).trust.pages = [])) ∧
    ((s12a 22).Canonical ∧ (s12a 22).trust.boot = BootStage.done ∧ (s12a 22).engines[houseNo].run ≠ RunState.dark ∧ (s12a 22).logcnt < (4095 : Nat)
      ∧ Option.any (fun p => true) (s12a 22).trust.pages.min? = true) := by
  refine ⟨?_, ?_, ?_, ?_, ?_⟩ <;> decide +kernel

/-- Meets the hypotheses of `Obligations.Quotes`, clause by clause. -/
theorem witness_Quotes :
    ((s12a 27).Canonical ∧ (s12a 27).Accepts (Master.xbar (16 : Fin 21)) (24664 : Nat) ∧ (s12a 27).srstBusy Page.trust = false ∧ (s12a
      27).trust.hostRec ≠ none) ∧
    ((s12a 28).Canonical ∧ (s12a 28).Accepts (Master.xbar (16 : Fin 21)) (24664 : Nat) ∧ (s12a 28).srstBusy Page.trust = false ∧ (s12a
      28).trust.hostRec = none ∧ (s12a 28).cbFree = none) ∧
    ((s12a 0).Canonical ∧ (s12a 0).Accepts (Master.xbar (16 : Fin 21)) (24664 : Nat) ∧ (s12a 0).srstBusy Page.trust = false ∧ (s12a
      0).trust.hostRec = none ∧ Option.any (fun r => decide ((s12a 0).trust.keys = false ∨ (s12a 0).trust.keyed = false)) (s12a 0).cbFree = true) ∧
    ((s12a 2).Canonical ∧ (s12a 2).Accepts (Master.xbar (16 : Fin 21)) (24664 : Nat) ∧ (s12a 2).srstBusy Page.trust = false ∧ (s12a
      2).trust.hostRec = none ∧ Option.any (fun r => decide ((s12a 2).trust.keys = true ∧ (s12a 2).trust.keyed = true)) (s12a 2).cbFree = true) ∧
    ((s12a 0).Canonical ∧ (s12a 0).sysEn = false) ∧
    ((s12a 45).Canonical ∧ (s12a 45).sysEn = true ∧ (8 : Nat) ≤ countIf (fun q => match q.who with | QuoteFor.peer src => true | x => false) (s12a
      45).trust.quotes) ∧
    ((s12a 38).Canonical ∧ (s12a 38).sysEn = true ∧ ¬(8 : Nat) ≤ countIf (fun q => match q.who with | QuoteFor.peer src => true | x => false) (s12a
      38).trust.quotes ∧ (s12a 38).cbFree = none) ∧
    ((s12a 39).Canonical ∧ (s12a 39).sysEn = true ∧ ¬(8 : Nat) ≤ countIf (fun q => match q.who with | QuoteFor.peer src => true | x => false) (s12a
      39).trust.quotes ∧ Option.any (fun r => true) (s12a 39).cbFree = true) ∧
    ((s12a 55).Canonical ∧ (1 : Nat) ≤ (s12a 55).dbg.level ∧ (s12a 55).dbg.daccStatus ≠ (1 : Nat) ∧ (s12a 55).inReset = false ∧ (s12a
      55).pageLocked Page.debug = false ∧ (s12a 55).srstBusy Page.debug = false ∧ (s12a 55).cbFree = none) ∧
    ((s12a 3).Canonical ∧ (1 : Nat) ≤ (s12a 3).dbg.level ∧ (s12a 3).dbg.daccStatus ≠ (1 : Nat) ∧ (s12a 3).inReset = false ∧ (s12a 3).pageLocked
      Page.debug = false ∧ (s12a 3).srstBusy Page.debug = false ∧ Option.any (fun r => true) (s12a 3).cbFree = true) ∧
    ((s12a 0).dbg.level = (0 : Nat) ∧ (s12a 0).dbg.daccStatus ≠ (1 : Nat) ∧ (s12a 0).inReset = false) ∧
    ((s12a 0).Canonical ∧ ((s12a 0).trust.peerRec = none ∨ [(1 : Word128), (2 : Word128)].length ≠ (16 : Nat) ∨ (s12a 0).sysEn = false ∨ (65536 :
      Nat) ≤ BitVec.toNat ((s12a 0).beatno - (s12a 0).trust.peerBeat))) ∧
    ((s12a 41).Canonical ∧ Option.any (fun r => decide ((List.map (BitVec.ofNat (128 : Nat)) (List.range (16 : Nat))).length = (16 : Nat) ∧ (s12a
      41).sysEn = true ∧ BitVec.toNat ((s12a 41).beatno - (s12a 41).trust.peerBeat) < (65536 : Nat))) (s12a 41).trust.peerRec = true) ∧
    ((s12a 0).Canonical ∧ ((s12a 0).trust.peerRec = none ∨ BitVec.toNat ((s12a 0).beatno - (s12a 0).trust.peerBeat) < (65536 : Nat))) ∧
    ((s12a 32).Canonical ∧ Option.any (fun r => decide ((65536 : Nat) ≤ BitVec.toNat ((s12a 32).beatno - (s12a 32).trust.peerBeat))) (s12a
      32).trust.peerRec = true) ∧
    ((s12a 0).Canonical ∧ ((s12a 0).trust.quotes.all fun q => q.snap.isNone) = true) ∧
    ((s12a 36).Canonical ∧ Option.any (fun q => decide ((s12a 36).callboard[q.cb].abort = true)) (List.find? (fun q => q.snap.isSome) (s12a
      36).trust.quotes) = true) ∧
    ((s12a 35).Canonical ∧ Option.any (fun q => decide ((s12a 35).callboard[q.cb].abort = false ∧ (q.snap.getD []).length = (448 : Nat) ∧ (q.who =
      QuoteFor.host ∨ q.who = QuoteFor.debugger))) (List.find? (fun q => q.snap.isSome) (s12a 35).trust.quotes) = true) ∧
    ((s12a 47).Canonical ∧ ((s12a 47).trust.quotes.find? (fun q => q.snap.isSome)).any (fun q => !(s12a 47).callboard[q.cb].abort && (match q.who
      with | .peer _ => true | _ => false)) = true) := by
  refine ⟨?_, ?_, ?_, ?_, ?_, ?_, ?_, ?_, ?_, ?_, ?_, ?_, ?_, ?_, ?_, ?_, ?_, ?_, ?_⟩ <;> decide +kernel

end Sys2Proof.Tests.W12
end

