-- ==== Sys2Proof/Tests/Witness13.lean ====
section
/-!
SUPPORT. Witnesses: for each statement of part 13 of the obligations, states and operands that meet the hypotheses of each of its clauses.
-/
namespace Sys2Proof.Tests.W13
set_option linter.unusedVariables false
set_option Elab.async false
open Sys2Proof Sys2Proof.Machine Sys2Proof.Tests

/-- The House engine, halted, with an instruction to prompt and its cells in memory. -/
def prmH : State := { engS 256 { g0 with run := .halted, haltCause := 1, cells := [], dsp := 0xF00, dsl := 0xF } with
  dbg := { level := 2, prompt := some (256, [0]) } }
/-- Prompted, the instruction goes through, and cell 0 is then to be read from memory: it is read (`read`), or the read waits. -/
def promptReads (s : State) (read : Bool) : Bool :=
  (s.dbg.prompt == some (256, [0])) && s.paced 256 && s.entryIsBase 256 0 && !s.entryMoved 256 0 &&
    okAnd (promptInstr 256 [0] s) (fun _ s1 => okAnd (settleLoad 256 s1) (fun _ s2 => s2.engines[(256 : Fin 257)].cells.isEmpty &&
      decide (s2.engines[(256 : Fin 257)].depth ≠ 0) &&
      match loadN 256 s2.engines[(256 : Fin 257)].dsp 4 false (s2.boundary 256) with
        | .ok .. => read | .error (.wait _) _ => !read | _ => false))
def D (d : Debug) (s : State := b0) : State := {s with dbg := d}
def hz (f : Engine → Engine := id) (s : State := b0) : State := s.modEng 3 (fun g => f {g with run := .halted, haltCause := 1})
def prm (bytes : List Byte) (f : Engine → Engine := id) : State := D {level := 2, prompt := some (3, bytes)} (engS 3 (f {g0 with run := .halted, haltCause := 1}))
def bells (s : State) : State := ((((s.setReg 0x7200 0x8).setReg (0x7220) 0x1)).setReg 0x70BC 0x0100).setReg (0x7240) 0x8
def trP (c : Nat) (s : State := b0) : State := (((en (.link 3) s).setReg (linkAddr 3 0x44) 0x11).setReg 0x70B0 0xC0000302).modPort 3 (fun p => { p with txKnown := Vector.replicate 16 true, txLimit := Vector.replicate 16 (BitVec.ofNat 12 c) })
def trS : List State := [trP 100, trP 0, trP 100 (D {traceLost := 2}), (((b0.setReg 0x70B0 0x80000000).setReg (ringBase 0) 0x1000).setReg (ringBase 0 + 8) 0x80000010).setReg (ringBase 0 + 4) 0x80, D {traceLost := 2} ((b0.setReg 0x70B0 0x80000000))]
def samples : List State := [b0, D {level := 1}, D {level := 2}, (D {level := 2}).setReg 0x701C 1, D {level := 2} (b0.modEng 3 (fun g => {g with haltReq := [1,4]})), D {level := 2} (en (.cue 3) ((hz).setReg (engBase 3 + 0x40) 1)), D {level := 2} hz, D {level := 2, prompt := some (3,[6])} hz,
 (D {level := 2} (hz (fun g => {g with haltCause := 6}))).setReg (engBase 3 + 8) 3 |>.setReg 0x7050 1 |>.setReg (engBase 3 + 0x40) 1, D {level := 2} (bells hz), D {level := 2} (bells b0), (D {level := 2} (bells b0)).setReg 0x715C 0,
 (engS 3 {g0 with haltReq := [1]}), bells (engS 3 {g0 with haltReq := [2,1]}), (bells (engS 3 {g0 with haltReq := [5]})), engS 3 {g0 with haltReq := [5], stepping := true}, (engS 3 g0).setReg (engBase 3 + 8) 3 |>.setReg 0x7050 1,
 prm [6], prm [3,1,2,3,4], prm [0x44], prm [0xBF], prm [0x12] , prm [0x20] (fun g => {g with cells := []}), prm [6] (fun g => {g with cells := [1]}), prm [0xC5], prm [0x1F], prm [6] (fun g => {g with cells := [1], dsp := BitVec.ofNat 32 g.stackBase}), prm [6] (fun g => {g with micro := true}), prm [6] (fun g => {g with run := .stopped}), (D {level := 2} (engS 3 {g0 with run := .halted})).setReg 0x7140 3, (D {level := 2} (engS 3 g0)).setReg 0x7140 3,
 b0.setReg 0x70B0 0x80000000, (b0.setReg 0x70B0 0x80000000).setReg 0x70B4 5 |>.setReg (ringBase 5 + 8) 0x1, (b0.setReg 0x70B0 0xC0000000), ((b0.setReg 0x70B0 0x80000000).setReg (ringBase 0) 0x1000 ).setReg (ringBase 0 + 8) 0x80000000 |>.setReg (ringBase 0 + 0x4) 0, (((b0.setReg 0x70B0 0x80000000).setReg (ringBase 0) 0x1000 ).setReg (ringBase 0 + 8) 0x80000010)] ++
 ([.testLogicReset, .captureDr, .shiftDr, .exit1Dr, .exit2Dr, .shiftIr, .exit1Ir, .captureIr, .pauseDr].flatMap (fun t : Tap => [D {tap := t, dr := 0x1ABCDEF01234, ir := 8, irShift := 9, daccStatus := 2, daccOff := 5, daccData := 0x55}, D {tap := t, dr := 0x2080ABCDEF12, ir := 8, irShift := 9}, D {tap := t, dr := 0x0080ABCDEF12, ir := 1, irShift := 9}, D {tap := t, dr := 0x0080ABCDEF12, ir := 0xF, irShift := 9}, D {tap := t, dr := 0x0080ABCDEF12, ir := 8, irShift := 9}])) ++
 [D {daccStatus := 1}, D {level := 2, shBusy := true} ]
def K : State := (b0.modTrust (fun t => {t with keys := true, lc := some 3}))
def K2 : State := (K.setReg 0x7060 0x1234).modDebug (fun d => {d with chalValid := true})
def K3 (l : Nat) : State := K2.setRegBytes 0x7080 (hmac384 (K2.bytesAt 0x48000040 48) (ascii "G9-RESP" ++ K2.regBytes 0x7060 8 ++ [BitVec.ofNat 8 l]))
def csamples : List State := [K, K2, K3 1, K3 2, K2.setReg 0x704C 15, K.modDebug (fun d => {d with backoff := true})]
def ssamples : List State := [D {level := 2, shBusy := true} {b0 with bursts := [{m := 17, t := 0, addr := 0, left := 3, size := 32, write := false, data := [], got := [], err := [], busy := [], tag := 0}]}, (D {level := 2}).setReg 0x7160 0x48000000, (D {level := 2}).setReg 0x7160 0x40000000, (D {level := 1}).setReg 0x7164 0xFF]
def ksamples : List State := ([.updateDr, .updateIr, .shiftIr, .shiftDr].flatMap (fun t : Tap => [0x1ABCDEF01234, 0x2080ABCDEF12, 0x3080ABCDEF12].map (fun v => D {tck := true, tap := t, dr := BitVec.ofNat 46 v, ir := 8, irShift := 9}))) ++
  [{b0 with porLow := true}, {b0 with rstLow := true, retained := [.secureBank], retReq := true}, {b0 with porLow := true, retReq := true, retAck := true},
   D {level := 2} ({b0 with singles := [{m := 17, t := 0, granted := true}], bursts := [{m := 17, t := 0, addr := 0x100, left := 3, size := 32, write := false, data := [], got := [], err := [], busy := [], tag := 0, granted := 2}]}),
   (D {level := 2}).setReg 0x7160 0x7F000000, (D {level := 2}).setReg 0x7160 0x7F400000]
def rsamples : List State := [{b0 with rstLow := true, mem := [(0x10, 5), (0x48000000, 8), (0x48000047,8), (0x4803FFFF, 1), (0x48040000,3)], freeIndex := 7}, {(prm [0] (fun g => {g with cells := [], dsp := 0xF00, dsl := 0xF})) with retained := (List.finRange 1024).map .eventBank}, (prm [6] (fun g => {g with cells := [], dsp := 0x1EE0})), {b0 with porLow := true, rstLow := true, mem := [(0x10, 5), (0x48000000, 8), (0x48000047,8), (0x4803FFFF, 1), (0x48040000,3)], freeIndex := 7, hfiRst := true, ports := b0.ports.set 3 {(b0.ports[3]) with phyRdy := true}, dbg := {level := 2, tap := .shiftDr, ccount := 5}}]
def s13a (i : Nat) : State := (samples ++ trS ++ csamples ++ ssamples ++ rsamples ++ ksamples).getD i State.reset

/-- Meets the hypotheses of `Obligations.DebugHalt`, clause by clause. -/
theorem witness_DebugHalt_1 :
    ((s13a 81).dbg.daccStatus = (1 : Nat) ∨ (s13a 81).inReset = true) ∧
    ((s13a 0).dbg.daccStatus ≠ (1 : Nat) ∧ (s13a 0).inReset = false ∧ (s13a 0).dbg.level < (2 : Nat)) ∧
    ((s13a 2).dbg.daccStatus ≠ (1 : Nat) ∧ (s13a 2).inReset = false ∧ (s13a 2).dbg.level = (2 : Nat) ∧ (s13a 2).pageLocked Page.debug = false ∧
      (s13a 2).srstBusy Page.debug = false) ∧
    ((s13a 2).dbg.daccStatus ≠ (1 : Nat) ∧ (s13a 2).inReset = false ∧ (s13a 2).dbg.level = (2 : Nat) ∧ (s13a 2).pageLocked Page.debug = false ∧
      (s13a 2).srstBusy Page.debug = false ∧ bitAt (s13a 2).trcfg (31 : Nat) = false ∧ (s13a 2).engines[(0 : Fin 257)].run ≠ RunState.halted) ∧
    ((s13a 7).dbg.daccStatus ≠ (1 : Nat) ∧ (s13a 7).inReset = false ∧ (s13a 7).dbg.level = (2 : Nat) ∧ (s13a 7).pageLocked Page.debug = false ∧
      (s13a 7).srstBusy Page.debug = false ∧ bitAt (s13a 7).trcfg (31 : Nat) = false ∧ (s13a 7).engines[(3 : Fin 257)].run = RunState.halted ∧
      (s13a 7).prompting (3 : Fin 257) = true) ∧
    ((s13a 8).dbg.daccStatus ≠ (1 : Nat) ∧ (s13a 8).inReset = false ∧ (s13a 8).dbg.level = (2 : Nat) ∧ (s13a 8).pageLocked Page.debug = false ∧
      (s13a 8).srstBusy Page.debug = false ∧ bitAt (s13a 8).trcfg (31 : Nat) = false ∧ (s13a 8).engines[(3 : Fin 257)].run = RunState.halted ∧
      (s13a 8).prompting (3 : Fin 257) = false ∧ (s13a 8).engines[(3 : Fin 257)].haltCause = (6 : Nat) ∧ (s13a 8).frozen (enginePage (3 : Fin 257))
      = true) ∧
    ((s13a 5).dbg.daccStatus ≠ (1 : Nat) ∧ (s13a 5).inReset = false ∧ (s13a 5).dbg.level = (2 : Nat) ∧ (s13a 5).pageLocked Page.debug = false ∧
      (s13a 5).srstBusy Page.debug = false ∧ bitAt (s13a 5).trcfg (31 : Nat) = false ∧ (s13a 5).engines[(3 : Fin 257)].run = RunState.halted ∧
      (s13a 5).prompting (3 : Fin 257) = false ∧ ¬((s13a 5).engines[(3 : Fin 257)].haltCause = (6 : Nat) ∧ (s13a 5).frozen (enginePage (3 : Fin
      257)) = true) ∧ (s13a 5).stopDue (3 : Fin 257) = false) ∧
    ((s13a 6).dbg.daccStatus ≠ (1 : Nat) ∧ (s13a 6).inReset = false ∧ (s13a 6).dbg.level = (2 : Nat) ∧ (s13a 6).pageLocked Page.debug = false ∧
      (s13a 6).srstBusy Page.debug = false ∧ bitAt (s13a 6).trcfg (31 : Nat) = false ∧ (s13a 6).engines[(3 : Fin 257)].run = RunState.halted ∧
      (s13a 6).prompting (3 : Fin 257) = false ∧ ¬((s13a 6).engines[(3 : Fin 257)].haltCause = (6 : Nat) ∧ (s13a 6).frozen (enginePage (3 : Fin
      257)) = true) ∧ (s13a 6).stopDue (3 : Fin 257) = true) ∧
    ((s13a 11).Canonical ∧ (s13a 11).dbg.daccStatus ≠ (1 : Nat) ∧ (s13a 11).inReset = false ∧ (s13a 11).dbg.level = (2 : Nat) ∧ (s13a
      11).pageLocked Page.debug = false ∧ (s13a 11).srstBusy Page.debug = false ∧ bitAt ((s13a 11).getReg (29020 : Nat)) (0 : Nat) = false) ∧
    ((s13a 2).Canonical ∧ (s13a 2).dbg.daccStatus ≠ (1 : Nat) ∧ (s13a 2).inReset = false ∧ (s13a 2).dbg.level = (2 : Nat) ∧ (s13a 2).pageLocked
      Page.debug = false ∧ (s13a 2).srstBusy Page.debug = false ∧ bitAt ((s13a 2).getReg (29020 : Nat)) (0 : Nat) = true) ∧
    ((s13a 2).Canonical ∧ (s13a 2).dbg.daccStatus ≠ (1 : Nat) ∧ (s13a 2).inReset = false ∧ (s13a 2).dbg.level = (2 : Nat) ∧ (s13a 2).pageLocked
      Page.debug = false ∧ (s13a 2).srstBusy Page.debug = false ∧ (∀ (j : Fin 8), (s13a 2).slots[j].st = TState.free) ∧ bitAt (s13a 2).trcfg (31 :
      Nat) = false) ∧
    ((s13a 0).Canonical ∧ ((s13a 0).atBoundary (0 : Fin 257) = false ∨ (s13a 0).engines[(0 : Fin 257)].stepping = true ∨ (s13a 0).haltCauses (0 :
      Fin 257) = [])) ∧
    ((s13a 12).Canonical ∧ (s13a 12).atBoundary (3 : Fin 257) = true ∧ (s13a 12).engines[(3 : Fin 257)].stepping = false ∧ (s13a 12).engines[(3 :
      Fin 257)].load = none ∧ bitAt (s13a 12).trcfg (31 : Nat) = false ∧ (consAnd ((s13a 12).haltCauses (3 : Fin 257)) fun cause rest => true) =
      true) ∧
    ((s13a 0).Canonical ∧ (s13a 0).pageLocked Page.debug = false ∧ (s13a 0).srstBusy Page.debug = false ∧ (s13a 0).dbg.prompt = none) ∧
    ((s13a 0).Canonical ∧ (s13a 0).pageLocked Page.debug = false ∧ (s13a 0).srstBusy Page.debug = false ∧ (some (6 : Word)).isSome = true ∧ (s13a
      0).dbg.daccStatus ≠ (1 : Nat) ∧ (s13a 0).inReset = false ∧ (s13a 0).dbg.level < (2 : Nat) ∧ (s13a 0).dbg.prompt = none) ∧
    ((s13a 2).Canonical ∧ (s13a 2).pageLocked Page.debug = false ∧ (s13a 2).srstBusy Page.debug = false ∧ (some (6 : Word)).isSome = true ∧ (s13a
      2).dbg.daccStatus ≠ (1 : Nat) ∧ (s13a 2).inReset = false ∧ (s13a 2).dbg.level = (2 : Nat) ∧ (s13a 2).dbg.prompt = none ∧ Option.any (fun e =>
      decide ((s13a 2).engines[e].run ≠ RunState.halted)) (engineNo (fld ((s13a 2).getReg (28992 : Nat)) (0 : Nat) (9 : Nat))) = true) ∧
    ((s13a 29).Canonical ∧ (s13a 29).pageLocked Page.debug = false ∧ (s13a 29).srstBusy Page.debug = false ∧ Option.any (fun v => decide ((s13a
      29).dbg.daccStatus ≠ (1 : Nat) ∧ (s13a 29).inReset = false ∧ (s13a 29).dbg.level = (2 : Nat) ∧ (s13a 29).dbg.prompt = none ∧ Option.any (fun
      e => decide ((s13a 29).engines[e].run = RunState.halted)) (engineNo (fld ((s13a 29).getReg (28992 : Nat)) (0 : Nat) (9 : Nat))) = true))
      (some (6 : Word)) = true) ∧
    ((s13a 28).Canonical ∧ (s13a 28).pageLocked Page.debug = false ∧ (s13a 28).srstBusy Page.debug = false ∧ Option.any (fun p => decide ((s13a
      28).engines[p.fst].run ≠ RunState.halted)) (s13a 28).dbg.prompt = true) ∧
    ((s13a 27).Canonical ∧ (s13a 27).pageLocked Page.debug = false ∧ (s13a 27).srstBusy Page.debug = false ∧ Option.any (fun p => decide ((s13a
      27).engines[p.fst].run = RunState.halted ∧ ((s13a 27).engines[p.fst].micro = true ∨ (s13a 27).paced p.fst = false))) (s13a 27).dbg.prompt =
      true) := by
  refine ⟨?_, ?_, ?_, ?_, ?_, ?_, ?_, ?_, ?_, ?_, ?_, ?_, ?_, ?_, ?_, ?_, ?_, ?_, ?_⟩ <;> decide +kernel

/-- Meets the hypotheses of `Obligations.DebugHalt`, clause by clause. -/
theorem witness_DebugHalt_2 :
    ((s13a 26).Canonical ∧ (s13a 26).pageLocked Page.debug = false ∧ (s13a 26).srstBusy Page.debug = false ∧ Option.any (fun p => decide ((s13a
      26).engines[p.fst].run = RunState.halted ∧ (s13a 26).engines[p.fst].micro = false ∧ (s13a 26).paced p.fst = true ∧ (s13a 26).dbg.resumeHeld =
      none ∧ (BitVec.toNat (p.snd.getD (0 : Nat) (0 : Byte)) < (224 : Nat) ∨ (240 : Nat) ≤ BitVec.toNat (p.snd.getD (0 : Nat) (0 : Byte))) ∧ (s13a
      26).entryIsBase (↑p.fst) (BitVec.toNat (p.snd.getD (0 : Nat) (0 : Byte))) = true ∧ (s13a 26).entryMoved (↑p.fst) (BitVec.toNat (p.snd.getD (0
      : Nat) (0 : Byte))) = false ∧ (okAnd (promptInstr p.fst p.snd (s13a 26)) fun p_1 s1 => decide ((okAnd (settleLoad p.fst s1) fun p_2 s2 =>
      decide (s2.engines[p.fst].depth = (0 : Nat))) = true)) = true)) (s13a 26).dbg.prompt = true) ∧
    ((s13a 17).Canonical ∧ (s13a 17).pageLocked Page.debug = false ∧ (s13a 17).srstBusy Page.debug = false ∧ Option.any (fun p => decide ((s13a
      17).engines[p.fst].run = RunState.halted ∧ (s13a 17).engines[p.fst].micro = false ∧ (s13a 17).paced p.fst = true ∧ (s13a 17).dbg.resumeHeld =
      none ∧ (BitVec.toNat (p.snd.getD (0 : Nat) (0 : Byte)) < (224 : Nat) ∨ (240 : Nat) ≤ BitVec.toNat (p.snd.getD (0 : Nat) (0 : Byte))) ∧ (s13a
      17).entryIsBase (↑p.fst) (BitVec.toNat (p.snd.getD (0 : Nat) (0 : Byte))) = true ∧ (s13a 17).entryMoved (↑p.fst) (BitVec.toNat (p.snd.getD (0
      : Nat) (0 : Byte))) = false ∧ (okAnd (promptInstr p.fst p.snd (s13a 17)) fun p_1 s1 => decide ((okAnd (settleLoad p.fst s1) fun p_2 s2 =>
      decide ((consAnd s2.engines[p.fst].cells fun x l => true) = true)) = true)) = true)) (s13a 17).dbg.prompt = true) ∧
    ((s13a 24).Canonical ∧ (s13a 24).pageLocked Page.debug = false ∧ (s13a 24).srstBusy Page.debug = false ∧ Option.any (fun p => decide ((s13a
      24).engines[p.fst].run = RunState.halted ∧ (s13a 24).engines[p.fst].micro = false ∧ (s13a 24).paced p.fst = true ∧ (s13a 24).dbg.resumeHeld =
      none ∧ (BitVec.toNat (p.snd.getD (0 : Nat) (0 : Byte)) < (224 : Nat) ∨ (240 : Nat) ≤ BitVec.toNat (p.snd.getD (0 : Nat) (0 : Byte))) ∧ (s13a
      24).entryIsBase (↑p.fst) (BitVec.toNat (p.snd.getD (0 : Nat) (0 : Byte))) = true ∧ (s13a 24).entryMoved (↑p.fst) (BitVec.toNat (p.snd.getD (0
      : Nat) (0 : Byte))) = false ∧ (s13a 24).engines[p.fst].load = none ∧ ((s13a 24).engines[p.fst].cells ≠ [] ∨ (s13a 24).engines[p.fst].depth =
      (0 : Nat)) ∧ bodyOf p.fst (BitVec.toNat (p.snd.getD (0 : Nat) (0 : Byte))) (natLE (List.take (ilenOf (baseFlags (BitVec.toNat (p.snd.getD (0
      : Nat) (0 : Byte))))) (List.drop (1 : Nat) p.snd))) = none)) (s13a 24).dbg.prompt = true) ∧
    ((s13a 0).Canonical ∧ (s13a 0).Accepts (Master.xbar (5 : Fin 21)) (29696 + 4 * (1 : Fin 256).val) ∧ (s13a 0).srstBusy Page.debug = false ∧
      bitAt (s13a 0).trcfg (31 : Nat) = false) ∧
    ((s13a 31).Canonical ∧ (s13a 31).Accepts (Master.xbar (5 : Fin 21)) (29696 + 4 * (1 : Fin 256).val) ∧ (s13a 31).srstBusy Page.debug = false ∧
      bitAt (s13a 31).trcfg (31 : Nat) = true ∧ (s13a 31).sinkOk = false ∧ bitAt (s13a 31).trcfg (30 : Nat) = false) ∧
    ((s13a 33).Canonical ∧ (s13a 33).Accepts (Master.xbar (5 : Fin 21)) (29696 + 4 * (1 : Fin 256).val) ∧ (s13a 33).srstBusy Page.debug = false ∧
      bitAt (s13a 33).trcfg (31 : Nat) = true ∧ (s13a 33).sinkOk = false ∧ bitAt (s13a 33).trcfg (30 : Nat) = true) ∧
    ((s13a 34).Canonical ∧ (s13a 34).Accepts (Master.xbar (5 : Fin 21)) (29696 + 4 * (1 : Fin 256).val) ∧ (s13a 34).srstBusy Page.debug = false ∧
      bitAt (s13a 34).trcfg (31 : Nat) = true ∧ (s13a 34).sinkOk = true ∧ (s13a 34).dbg.traceLost = (0 : Nat) ∧ bitAt (s13a 34).trcfg (30 : Nat) =
      false ∧ (s13a 34).dbg.traceQ = [] ∧ (okAnd (ringPut (fld ((s13a 34).getReg (28852 : Nat)) (0 : Nat) (14 : Nat)) ((s13a 34).packet (freeByte
      ((s13a 34).freeIndex + 2)) (1 : Fin 256).val (1 : Nat) (masterNo (Master.xbar (5 : Fin 21))) (0 : Word))
      ({ (((s13a 34).taken (Master.xbar (5 : Fin 21)) (29696 + 4 * (1 : Fin 256).val)).drew (4 : Nat)) with dbg := { ((s13a 34).dbg) with traceQ := [(fld ((s13a 34).getReg (28852 : Nat)) (0 : Nat) (14 : Nat), (0 : Nat), (s13a 34).packet (freeByte ((s13a 34).freeIndex + 2)) (1 : Fin 256).val (1 : Nat) (masterNo (Master.xbar (5 : Fin 21))) (0 : Word))] } }))
      fun p u => doneAnd p fun v => true) = true) ∧
    ((s13a 32).Canonical ∧ (s13a 32).Accepts (Master.xbar (5 : Fin 21)) (29696 + 4 * (1 : Fin 256).val) ∧ (s13a 32).srstBusy Page.debug = false ∧
      bitAt (s13a 32).trcfg (31 : Nat) = true ∧ (s13a 32).sinkOk = true ∧ (s13a 32).dbg.traceLost = (0 : Nat) ∧ bitAt (s13a 32).trcfg (30 : Nat) =
      false ∧ (s13a 32).dbg.traceQ = [] ∧ (okAnd (ringPut (fld ((s13a 32).getReg (28852 : Nat)) (0 : Nat) (14 : Nat)) ((s13a 32).packet (freeByte
      ((s13a 32).freeIndex + 2)) (1 : Fin 256).val (1 : Nat) (masterNo (Master.xbar (5 : Fin 21))) (0 : Word))
      ({ (((s13a 32).taken (Master.xbar (5 : Fin 21)) (29696 + 4 * (1 : Fin 256).val)).drew (4 : Nat)) with dbg := { ((s13a 32).dbg) with traceQ := [(fld ((s13a 32).getReg (28852 : Nat)) (0 : Nat) (14 : Nat), (0 : Nat), (s13a 32).packet (freeByte ((s13a 32).freeIndex + 2)) (1 : Fin 256).val (1 : Nat) (masterNo (Master.xbar (5 : Fin 21))) (0 : Word))] } }))
      fun x u => decide ((x = Put.full ∨ x = Put.unusable ∨ x = Put.failed) ∧ spWf regReset u.regs = true ∧ u.dbg.traceLost = (0 : Nat))) = true) := by
  refine ⟨?_, ?_, ?_, ?_, ?_, ?_, ?_, ?_⟩ <;> decide +kernel

/-- Meets the hypotheses of `Obligations.DebugHalt`, clause by clause. -/
theorem witness_DebugHalt_3 :
    ((s13a 86).Canonical ∧ (s13a 86).Accepts (Master.xbar (5 : Fin 21)) (29696 + 4 * (1 : Fin 256).val) ∧ (s13a 86).srstBusy Page.debug = false ∧
      bitAt (s13a 86).trcfg (31 : Nat) = true ∧ (s13a 86).sinkOk = true ∧ (s13a 86).dbg.traceLost = (0 : Nat) ∧ bitAt (s13a 86).trcfg (30 : Nat) =
      false ∧ (s13a 86).dbg.traceQ = [] ∧ (errAnd (ringPut (fld ((s13a 86).getReg (28852 : Nat)) (0 : Nat) (14 : Nat)) ((s13a 86).packet (freeByte
      ((s13a 86).freeIndex + 2)) (1 : Fin 256).val (1 : Nat) (masterNo (Master.xbar (5 : Fin 21))) (0 : Word))
      ({ (((s13a 86).taken (Master.xbar (5 : Fin 21)) (29696 + 4 * (1 : Fin 256).val)).drew (4 : Nat)) with dbg := { ((s13a 86).dbg) with traceQ := [(fld ((s13a 86).getReg (28852 : Nat)) (0 : Nat) (14 : Nat), (0 : Nat), (s13a 86).packet (freeByte ((s13a 86).freeIndex + 2)) (1 : Fin 256).val (1 : Nat) (masterNo (Master.xbar (5 : Fin 21))) (0 : Word))] } }))
      fun p u => waitAnd p fun v => true) = true) ∧
    ((s13a 83).Canonical ∧ (s13a 83).Accepts (Master.xbar (5 : Fin 21)) (29696 + 4 * (1 : Fin 256).val) ∧ (s13a 83).srstBusy Page.debug = false ∧
      bitAt (s13a 83).trcfg (31 : Nat) = true ∧ (s13a 83).sinkOk = true ∧ (s13a 83).dbg.traceLost = (0 : Nat) ∧ bitAt (s13a 83).trcfg (30 : Nat) =
      true ∧ (s13a 83).pageEn (Page.link (Fin.ofNat (128 : Nat) (fld (s13a 83).trcfg (8 : Nat) (7 : Nat)))) = true ∧ (s13a 83).frozen (Page.link
      (Fin.ofNat (128 : Nat) (fld (s13a 83).trcfg (8 : Nat) (7 : Nat)))) = false ∧ (s13a 83).portUp (Fin.ofNat (128 : Nat) (fld (s13a 83).trcfg (8
      : Nat) (7 : Nat))) = true ∧ (1 : Nat) ≤ txCredit (s13a 83).ports[Fin.ofNat (128 : Nat) (fld (s13a 83).trcfg (8 : Nat) (7 : Nat))] (fld (s13a
      83).trcfg (0 : Nat) (4 : Nat))) ∧
    ((s13a 84).Canonical ∧ (s13a 84).Accepts (Master.xbar (5 : Fin 21)) (29696 + 4 * (1 : Fin 256).val) ∧ (s13a 84).srstBusy Page.debug = false ∧
      bitAt (s13a 84).trcfg (31 : Nat) = true ∧ (s13a 84).sinkOk = true ∧ (s13a 84).dbg.traceLost = (0 : Nat) ∧ bitAt (s13a 84).trcfg (30 : Nat) =
      true ∧ ¬((s13a 84).pageEn (Page.link (Fin.ofNat (128 : Nat) (fld (s13a 84).trcfg (8 : Nat) (7 : Nat)))) = true ∧ (s13a 84).frozen (Page.link
      (Fin.ofNat (128 : Nat) (fld (s13a 84).trcfg (8 : Nat) (7 : Nat)))) = false ∧ (s13a 84).portUp (Fin.ofNat (128 : Nat) (fld (s13a 84).trcfg (8
      : Nat) (7 : Nat))) = true ∧ (1 : Nat) ≤ txCredit (s13a 84).ports[Fin.ofNat (128 : Nat) (fld (s13a 84).trcfg (8 : Nat) (7 : Nat))] (fld (s13a
      84).trcfg (0 : Nat) (4 : Nat)))) ∧
    ((s13a 85).Canonical ∧ (s13a 85).Accepts (Master.xbar (5 : Fin 21)) (29696 + 4 * (1 : Fin 256).val) ∧ (s13a 85).srstBusy Page.debug = false ∧
      bitAt (s13a 85).trcfg (31 : Nat) = true ∧ (s13a 85).sinkOk = true ∧ (s13a 85).dbg.traceLost ≠ (0 : Nat) ∧ bitAt (s13a 85).trcfg (30 : Nat) =
      true ∧ (s13a 85).pageEn (Page.link (Fin.ofNat (128 : Nat) (fld (s13a 85).trcfg (8 : Nat) (7 : Nat)))) = true ∧ (s13a 85).frozen (Page.link
      (Fin.ofNat (128 : Nat) (fld (s13a 85).trcfg (8 : Nat) (7 : Nat)))) = false ∧ (s13a 85).portUp (Fin.ofNat (128 : Nat) (fld (s13a 85).trcfg (8
      : Nat) (7 : Nat))) = true ∧ (2 : Nat) ≤ txCredit (s13a 85).ports[Fin.ofNat (128 : Nat) (fld (s13a 85).trcfg (8 : Nat) (7 : Nat))] (fld (s13a
      85).trcfg (0 : Nat) (4 : Nat))) ∧
    (promptReads prmH true = true) ∧
    (promptReads { prmH with retained := (List.finRange 1024).map .eventBank } false = true) := by
  refine ⟨?_, ?_, ?_, ?_, ?_, ?_⟩ <;> decide +kernel

/-- Meets the hypotheses of `Obligations.DebugPort`, clause by clause. -/
theorem witness_DebugPort_1 :
    ((s13a 101).porLow = true) ∧
    ((s13a 0).porLow = false ∧ (s13a 0).dbg.tck = false) ∧
    ((s13a 108).porLow = false ∧ (s13a 108).dbg.tck = true ∧ (s13a 108).dbg.tap ≠ Tap.updateIr ∧ ((s13a 108).dbg.tap ≠ Tap.updateDr ∨ (s13a
      108).dbg.ir ≠ (8 : BitVec 4))) ∧
    ((s13a 105).porLow = false ∧ (s13a 105).dbg.tck = true ∧ (s13a 105).dbg.tap = Tap.updateIr) ∧
    ((s13a 102).porLow = false ∧ (s13a 102).dbg.tck = true ∧ (s13a 102).dbg.tap = Tap.updateDr ∧ (s13a 102).dbg.ir = (8 : BitVec 4) ∧ fld (s13a
      102).dbg.dr (44 : Nat) (2 : Nat) = (1 : Nat)) ∧
    ((s13a 103).porLow = false ∧ (s13a 103).dbg.tck = true ∧ (s13a 103).dbg.tap = Tap.updateDr ∧ (s13a 103).dbg.ir = (8 : BitVec 4) ∧ fld (s13a
      103).dbg.dr (44 : Nat) (2 : Nat) = (2 : Nat)) ∧
    ((s13a 104).porLow = false ∧ (s13a 104).dbg.tck = true ∧ (s13a 104).dbg.tap = Tap.updateDr ∧ (s13a 104).dbg.ir = (8 : BitVec 4) ∧ (fld (s13a
      104).dbg.dr (44 : Nat) (2 : Nat) = (0 : Nat) ∨ fld (s13a 104).dbg.dr (44 : Nat) (2 : Nat) = (3 : Nat))) ∧
    ((s13a 81).dbg.daccStatus = (1 : Nat) ∨ (s13a 81).inReset = true) ∧
    ((s13a 0).dbg.daccStatus ≠ (1 : Nat) ∧ (s13a 0).inReset = false ∧ regDesc Page.debug (g7Alias (BitVec.toNat (424 : BitVec 12) / 4 * 4)) = none) ∧
    ((s13a 0).dbg.daccStatus ≠ (1 : Nat) ∧ (s13a 0).inReset = false ∧ (regDesc Page.debug (g7Alias (BitVec.toNat (68 : BitVec 12) / 4 * 4))).isSome
      = true ∧ (s13a 0).dbg.level < regLevel (g7Alias (BitVec.toNat (68 : BitVec 12) / 4 * 4))) ∧
    ((s13a 0).dbg.daccStatus ≠ (1 : Nat) ∧ (s13a 0).inReset = false ∧ (regDesc Page.debug (g7Alias (BitVec.toNat (0 : BitVec 12) / 4 * 4))).isSome
      = true ∧ regLevel (g7Alias (BitVec.toNat (0 : BitVec 12) / 4 * 4)) ≤ (s13a 0).dbg.level) ∧
    ((s13a 3).dbg.daccStatus ≠ (1 : Nat) ∧ (s13a 3).inReset = false ∧ (s13a 3).pageLocked Page.debug = true ∧ g7Alias (BitVec.toNat (0 : BitVec 12)
      / 4 * 4) ≠ (24 : Nat)) ∧
    ((s13a 0).dbg.daccStatus ≠ (1 : Nat) ∧ (s13a 0).inReset = false ∧ ((s13a 0).pageLocked Page.debug = false ∨ g7Alias (BitVec.toNat (424 : BitVec
      12) / 4 * 4) = (24 : Nat)) ∧ regDesc Page.debug (g7Alias (BitVec.toNat (424 : BitVec 12) / 4 * 4)) = none) ∧
    ((s13a 0).dbg.daccStatus ≠ (1 : Nat) ∧ (s13a 0).inReset = false ∧ ((s13a 0).pageLocked Page.debug = false ∨ g7Alias (BitVec.toNat (68 : BitVec
      12) / 4 * 4) = (24 : Nat)) ∧ (regDesc Page.debug (g7Alias (BitVec.toNat (68 : BitVec 12) / 4 * 4))).isSome = true ∧ (s13a 0).dbg.level < if
      g7Alias (BitVec.toNat (68 : BitVec 12) / 4 * 4) = (360 : Nat) ∧ (bitAt (0 : Word) (30 : Nat) = true ∨ bitAt (0 : Word) (29 : Nat) = true)
      then (2 : Nat) else regLevel (g7Alias (BitVec.toNat (68 : BitVec 12) / 4 * 4))) ∧
    ((s13a 0).dbg.daccStatus ≠ (1 : Nat) ∧ (s13a 0).inReset = false ∧ ((s13a 0).pageLocked Page.debug = false ∨ g7Alias (BitVec.toNat (0 : BitVec
      12) / 4 * 4) = (24 : Nat)) ∧ (regDesc Page.debug (g7Alias (BitVec.toNat (0 : BitVec 12) / 4 * 4))).isSome = true ∧ (if g7Alias (BitVec.toNat
      (0 : BitVec 12) / 4 * 4) = (360 : Nat) ∧ (bitAt (0 : Word) (30 : Nat) = true ∨ bitAt (0 : Word) (29 : Nat) = true) then (2 : Nat) else
      regLevel (g7Alias (BitVec.toNat (0 : BitVec 12) / 4 * 4))) ≤ (s13a 0).dbg.level) ∧
    ((s13a 0).Canonical ∧ (s13a 0).dbg.daccStatus ≠ (1 : Nat) ∧ (s13a 0).inReset = false ∧ (s13a 0).pageLocked Page.debug = false ∧ (s13a
      0).srstBusy Page.debug = false ∧ ((s13a 0).trust.keys = false ∨ (s13a 0).trust.index = (4 : Nat) ∨ (s13a 0).dbg.backoff = true ∨ (s13a
      0).dbg.lockout = true)) ∧
    ((s13a 88).Canonical ∧ (s13a 88).dbg.daccStatus ≠ (1 : Nat) ∧ (s13a 88).inReset = false ∧ (s13a 88).pageLocked Page.debug = false ∧ (s13a
      88).srstBusy Page.debug = false ∧ ¬((s13a 88).trust.keys = false ∨ (s13a 88).trust.index = (4 : Nat) ∨ (s13a 88).dbg.backoff = true ∨ (s13a
      88).dbg.lockout = true)) ∧
    ((s13a 90).Canonical ∧ (s13a 90).dbg.daccStatus ≠ (1 : Nat) ∧ (s13a 90).inReset = false ∧ (s13a 90).pageLocked Page.debug = false ∧ (s13a
      90).srstBusy Page.debug = false ∧ ¬((s13a 90).trust.keys = false ∨ (s13a 90).trust.index = (4 : Nat) ∨ (s13a 90).dbg.backoff = true ∨ (s13a
      90).dbg.lockout = true) ∧ (s13a 90).dbg.chalValid = true ∧ ((1 : BitVec 2) = (1 : BitVec 2) ∨ (1 : BitVec 2) = (2 : BitVec 2)) ∧ (s13a
      90).regBytes (28800 : Nat) (12 : Nat) = hmac384 ((s13a 90).bytesAt (1207959616 : Nat) (48 : Nat)) (ascii "G9-RESP" ++ (s13a 90).regBytes
      (28768 : Nat) (8 : Nat) ++ [BitVec.setWidth (8 : Nat) (1 : BitVec 2)])) ∧
    ((s13a 88).Canonical ∧ (s13a 88).dbg.daccStatus ≠ (1 : Nat) ∧ (s13a 88).inReset = false ∧ (s13a 88).pageLocked Page.debug = false ∧ (s13a
      88).srstBusy Page.debug = false ∧ ¬((s13a 88).trust.keys = false ∨ (s13a 88).trust.index = (4 : Nat) ∨ (s13a 88).dbg.backoff = true ∨ (s13a
      88).dbg.lockout = true) ∧ ¬((s13a 88).dbg.chalValid = true ∧ ((0 : BitVec 2) = (1 : BitVec 2) ∨ (0 : BitVec 2) = (2 : BitVec 2)) ∧ (s13a
      88).regBytes (28800 : Nat) (12 : Nat) = hmac384 ((s13a 88).bytesAt (1207959616 : Nat) (48 : Nat)) (ascii "G9-RESP" ++ (s13a 88).regBytes
      (28768 : Nat) (8 : Nat) ++ [BitVec.setWidth (8 : Nat) (0 : BitVec 2)]))) ∧
    ((s13a 0).Canonical ∧ (s13a 0).dbg.daccStatus ≠ (1 : Nat) ∧ (s13a 0).inReset = false ∧ (s13a 0).pageLocked Page.debug = false ∧ (s13a
      0).srstBusy Page.debug = false ∧ (s13a 0).dbg.level < if bitAt (0 : Word) (30 : Nat) = true then (2 : Nat) else (1 : Nat)) ∧
    ((s13a 82).Canonical ∧ (s13a 82).dbg.daccStatus ≠ (1 : Nat) ∧ (s13a 82).inReset = false ∧ (s13a 82).pageLocked Page.debug = false ∧ (s13a
      82).srstBusy Page.debug = false ∧ (s13a 82).dbg.level = (2 : Nat) ∧ (s13a 82).dbg.shBusy = true) ∧
    ((s13a 2).Canonical ∧ (s13a 2).dbg.daccStatus ≠ (1 : Nat) ∧ (s13a 2).inReset = false ∧ (s13a 2).pageLocked Page.debug = false ∧ (s13a
      2).srstBusy Page.debug = false ∧ (s13a 2).dbg.level = (2 : Nat) ∧ (s13a 2).dbg.shBusy = false ∧ bitAt (268435459 : Word) (28 : Nat) = true) := by
  refine ⟨?_, ?_, ?_, ?_, ?_, ?_, ?_, ?_, ?_, ?_, ?_, ?_, ?_, ?_, ?_, ?_, ?_, ?_, ?_, ?_, ?_, ?_⟩ <;> decide +kernel

/-- Meets the hypotheses of `Obligations.DebugPort`, clause by clause. -/
theorem witness_DebugPort_2 :
    ((s13a 2).Canonical ∧ (s13a 2).dbg.daccStatus ≠ (1 : Nat) ∧ (s13a 2).inReset = false ∧ (s13a 2).pageLocked Page.debug = false ∧ (s13a
      2).srstBusy Page.debug = false ∧ (s13a 2).dbg.level = (2 : Nat) ∧ (s13a 2).dbg.shBusy = false ∧ bitAt (0 : Word) (28 : Nat) = false ∧
      Option.any (fun p => true) ((s13a 2).burstCheck (17 : Nat) (bitAt (0 : Word) (30 : Nat)) (BitVec.toNat ((s13a 2).getReg (29024 : Nat)) + 2 ^
      32 * fld ((s13a 2).getReg (29028 : Nat)) (0 : Nat) (8 : Nat)) (fld (0 : Word) (0 : Nat) 6 + 1)).fst = true) ∧
    ((s13a 95).Canonical ∧ (s13a 95).dbg.daccStatus ≠ (1 : Nat) ∧ (s13a 95).inReset = false ∧ (s13a 95).pageLocked Page.debug = false ∧ (s13a
      95).srstBusy Page.debug = false ∧ (s13a 95).dbg.level = (2 : Nat) ∧ (s13a 95).dbg.shBusy = false ∧ bitAt (0 : Word) (28 : Nat) = false ∧
      ((s13a 95).burstCheck (17 : Nat) (bitAt (0 : Word) (30 : Nat)) (BitVec.toNat ((s13a 95).getReg (29024 : Nat)) + 2 ^ 32 * fld ((s13a
      95).getReg (29028 : Nat)) (0 : Nat) (8 : Nat)) (fld (0 : Word) (0 : Nat) 6 + 1)).fst = none ∧ ((s13a 95).bursts.all fun b => b.m != (17 :
      Nat)) = true) ∧
    ((s13a 0).Canonical ∧ (s13a 0).dbg.daccStatus ≠ (1 : Nat) ∧ (s13a 0).inReset = false ∧ (s13a 0).pageLocked Page.debug = false ∧ (s13a
      0).srstBusy Page.debug = false ∧ (s13a 0).dbg.level < (2 : Nat)) ∧
    ((s13a 118).Canonical ∧ (s13a 118).dbg.daccStatus ≠ (1 : Nat) ∧ (s13a 118).inReset = false ∧ (s13a 118).pageLocked Page.debug = false ∧ (s13a
      118).srstBusy Page.debug = false ∧ Option.any (fun p => decide (p.fst = Region.rings ∨ p.fst = Region.pages)) (regionOf (BitVec.toNat ((s13a
      118).getReg (29024 : Nat)) + 2 ^ 32 * fld ((s13a 118).getReg (29028 : Nat)) (0 : Nat) (8 : Nat))) = true) ∧
    ((s13a 2).Canonical ∧ (s13a 2).dbg.daccStatus ≠ (1 : Nat) ∧ (s13a 2).inReset = false ∧ (s13a 2).pageLocked Page.debug = false ∧ (s13a
      2).srstBusy Page.debug = false ∧ (s13a 2).dbg.level = (2 : Nat)) ∧
    ((s13a 2).Canonical ∧ (s13a 2).dbg.daccStatus ≠ 1 ∧ (s13a 2).pageLocked .debug = false ∧ (s13a 2).srstBusy .debug = false ∧ (0x80 : BitVec
      12).toNat = 0x80 + 4 * (0 : Fin 12).val) := by
  refine ⟨?_, ?_, ?_, ?_, ?_, ?_⟩ <;> decide +kernel

/-- Meets the hypotheses of `Obligations.Resets`, clause by clause. -/
theorem witness_Resets :
    ((s13a 114).porLow = true ∧ (s13a 114).rstLow = false) ∧
    ((s13a 101).porLow = true ∧ (s13a 101).rstLow = true) ∧
    ((s13a 0).porLow = false) ∧
    ((s13a 0).Canonical) ∧
    ((s13a 98).Canonical ∧ (s13a 98).rstLow = true ∧ (s13a 98).porLow = false) ∧
    ((s13a 101).Canonical ∧ (s13a 101).rstLow = true ∧ (s13a 101).porLow = true) ∧
    ((s13a 0).Canonical ∧ (s13a 0).rstLow = false) ∧
    ((s13a 98).inReset = true) := by
  refine ⟨?_, ?_, ?_, ?_, ?_, ?_, ?_, ?_⟩ <;> decide +kernel

end Sys2Proof.Tests.W13
end

