-- ==== Sys2Proof/Tests/Witness14.lean ====
section
/-!
SUPPORT. Witnesses: for each statement of part 14 of the obligations, states and operands that meet the hypotheses of each of its clauses.
-/
namespace Sys2Proof.Tests.W14
set_option linter.unusedVariables false
set_option Elab.async false
open Sys2Proof Sys2Proof.Machine Sys2Proof.Tests

def b0 : State := { State.reset with clkOk := true, firstEdge := true, beatno := 0x1234567, wiping := false }
def en (p : Page) (s : State) : State := s.modReg (pageBase p + 8) (fun w => w ||| 1)
def P (p : PinEng) (i : Nat) (s : State := en (.pin 0) b0) : State := (s.modPin 0 (fun _ => p)).setReg (pinBase 0 + 0x100 + 4*p.pc) (BitVec.ofNat 32 i)
def pe : PinEng := {st := .running, pc := 63, sr := 0x80000005, bc := 9, lc := 1, pout := 0xF0F0, pinIn := 0xFFFF0000, sync1 := 0x33, txd := 0xAAAA5555, rxd := 9, psel := 16}
def rq (c : Nat) : PermitReq := {who := .boot, mw := c, since := 5, aged := false}
def samples : List State := [P pe 0x0100, P pe 0x0500, P {pe with injected := some 0xB000} 0, P {pe with injected := some 0x8900, injStopped := true, st := .stopped} 0, P {pe with injected := some 0x100, injStopped := true, st := .stopped} 0, P {pe with injected := some 0x100} 0, b0,
  {b0 with permit := {grants := [(.boot, 50000)], q0 := [rq 5000], q2 := [rq 30000]}}, {b0 with permit := {grants := [(.boot, 100)], q0 := [rq 5000], q2 := [rq 30000]}}]
def s14a (i : Nat) : State := (samples).getD i State.reset
def wx : List Word := [0,1,2,7,0x7F,0x80,0xFF,0x81,0x7FFF,0x8000,0xFFFF,0x80000000,0x7FFFFFFF,0xFFFFFFFF,0xFFFFFFFE,100,1000, 0xC0000001]

/-- Meets the hypotheses of `Obligations.PinReservedEncodings`, clause by clause. -/
theorem witness_PinReservedEncodings :
    (Option.any (fun i => decide (pinDecode i = PinOp.stop)) ((s14a 0).pinCur (0 : Fin 32)) = true) ∧
    (Option.any (fun i => decide (pinDecode i = PinOp.reserved)) ((s14a 1).pinCur (0 : Fin 32)) = true) := by
  refine ⟨?_, ?_⟩ <;> decide +kernel

/-- Meets the hypotheses of `Obligations.BudgetWriteKeepsGrants`, clause by clause. -/
theorem witness_BudgetWriteKeepsGrants :
    ((s14a 0).Canonical ∧ (s14a 0).srstBusy Page.permit = false ∧ (s14a 0).Accepts (Master.hrp (3 : BitVec 8)) (budgetAddr BudgetReg.peakMw)) := by
  decide +kernel

/-- A cue of `n` elements of type `et` with options `opt`. -/
def fm (n opt et : Nat) : Member := { words := [9000, BitVec.ofNat 32 n, BitVec.ofNat 32 (opt * 2 ^ 24)], k := 0, wt := et, out := et }
/-- A Channel Map entry, and a Pattern Memory entry of key 0x00010002 at the second way. -/
def tb : State := { State.reset with mem :=
  ((bytesLE 8 (0x00010002 * 2 ^ 32 + 2 ^ 31 + 5)).zipIdx.map (fun (x : Byte × Nat) => (0x50000000 + 64 * (0x00010002 * 0x8DA6B343 % 2 ^ 32 / 2 ^ 13) + 8 + x.2, x.1)) ++
    (bytesLE 4 0x12000102).zipIdx.map (fun (x : Byte × Nat) => (0x54000010 + x.2, x.1))).filter (fun (x : Nat × Byte) => x.2 ≠ 0) }
/-- A look-up gives a value. -/
def looksUp (op : Nat) (x y yu : Word) (hit : Bool) : Bool :=
  okAnd (lookup (fm 5 0 2) [] op 0 x y yu tb) (fun r _ => match r with | .ok v => op < 0x62 || v == (if hit then (if op = 0x62 then 5 else 1) else if op = 0x62 then 0xFFFF else 0, 0) | _ => false)
/-- Elements and their segment marks. -/
def marked : List (Word × Bool) := [(5, false), (0x7F, false), (0x80, true), (1, false), (0xFF, false)]

/-- Meets the hypotheses of `Obligations.VectorValues`: elements and conversions. -/
theorem witness_VectorValues_elements :
    (6 ≤ 8 ∧ (0x3C00 : Word).toNat < 2 ^ etWidth 6 ∧ (0x8000 : Word).toNat < 2 ^ etWidth 6 ∧ (6 = 6 ∨ 6 = 7) ∧
      (0x3C00 : Word).toNat % 2 ^ (etWidth 6 - 1) ≠ 0 ∧ (0x8000 : Word).toNat % 2 ^ (etWidth 6 - 1) = 0) ∧
    (1 ≤ 5 ∧ (0x80 : Word).toNat < 2 ^ etWidth 1 ∧ (0x7F : Word).toNat < 2 ^ etWidth 1 ∧ (0x80 : Word) ≠ 0) ∧
    (8 = 8 ∧ (1 : Word).toNat < 2 ^ etWidth 8 ∧ etWidth 1 < etWidth 4 ∧ etWidth 1 ≤ etWidth 5 ∧ 5 ≠ 1 ∧ (0xFFFFFFFF : Word).toNat < 2 ^ etWidth 5) ∧
    (fld (0x80003C00 : Word) 16 16 ≠ 0 ∧ fld (0x00003C00 : Word) 16 16 = 0) := by
  decide +kernel
/-- Meets the hypotheses of `Obligations.VectorValues`: look-ups, with a hit and without. -/
theorem witness_VectorValues_lookups :
    looksUp 0x60 0 0 4 true = true ∧ looksUp 0x61 0 0 4 true = true ∧ looksUp 0x62 2 1 0 true = true ∧ looksUp 0x63 2 1 0 true = true ∧
    looksUp 0x62 3 1 0 false = true ∧ looksUp 0x63 3 1 0 false = true := by
  refine ⟨?_, ?_, ?_, ?_, ?_, ?_⟩ <;> decide +kernel
/-- Meets the hypotheses of `Obligations.VectorValues`: scans with segments, at a first element and at later ones. -/
theorem witness_VectorValues_scans :
    (1 ≤ 5 ∧ 2 < 16 ∧ 1 < marked.length ∧ (∀ j ≤ 1, 0 < j → (marked.getD j (0, false)).2 = false)) ∧
    (4 < marked.length ∧ 2 ≤ 4 ∧ (marked.getD 2 (0, false)).2 = true ∧ (∀ j ≤ 4, 2 < j → (marked.getD j (0, false)).2 = false)) := by
  decide +kernel
/-- Meets the hypotheses of `Obligations.VectorValues`: a window of hits. -/
theorem witness_VectorValues_window :
    let m : Member := { fm 5 0 2 with wt := 2 }
    let hits := [true, false, true, true, false]
    let r : PipeRun := { chain := 0, idx := 0, eng := 0, ring := 48, cclass := 0, m, taken := min (1 + m.param) (m.n - 1) + 1
                         scan := { window := (((hits.take (min (1 + m.param) (m.n - 1) + 1)).reverse.map (fun h => (b2n h : Int))).take 40) } }
    1 < m.n ∧ m.param < 16 ∧ hits.length = m.n ∧ r.taken = min (1 + m.param) (m.n - 1) + 1 ∧
    r.scan.window = (((hits.take r.taken).reverse.map (fun h => (b2n h : Int))).take 40) := by
  decide +kernel
/-- Meets the hypotheses of `Obligations.VectorValues`: whole-vector operations. -/
theorem witness_VectorValues_whole :
    ([3, 1, 2, 0x80] : List Word).all (fun x => decide (x.toNat < 2 ^ etWidth 1)) = true ∧
    ([3, 1, 0x80] : List Word).length = [1, 2, 0xFFFF].length ∧ 0xFFFFFFFF < 0x100000000 ∧
    ([3, 1, 2] : List Word).length = [true, false, true].length ∧ ([true, false, true].filter id).length ≤ ([3, 1] : List Word).length ∧
    ([(1, 0), (2, 0), (3, 0), (4, 0)] : List (Nat × Nat)).length = 2 ^ (1 + 1) ∧ 2 ≤ 12 ∧
    ([0x3C00, 0] : List Word).length = 2 ^ 1 := by
  refine ⟨?_, ?_, ?_, ?_, ?_, ?_, ?_, ?_⟩ <;> decide +kernel
/-- Meets the hypotheses of `Obligations.VectorIntegerOperations`: sums that fit and do not, a zero divisor of each kind, the edge, any other. -/
theorem witness_VectorIntegerOperations :
    (1 ≤ 5 ∧ (0x7F : Word).toNat < 2 ^ etWidth 1 ∧ (0x01 : Word).toNat < 2 ^ etWidth 1 ∧ etSigned 1 = true ∧
      2 ^ (etWidth 1 - 1) ≤ etVal 1 0x7F + etVal 1 0x01 ∧ etVal 1 0x01 + etVal 1 0x01 < 2 ^ (etWidth 1 - 1)) ∧
    ((0xFF : Word).toNat < 2 ^ etWidth 1 ∧ (0x80 : Word).toNat < 2 ^ etWidth 1 ∧ etVal 1 0x80 + etVal 1 0xFF < -2 ^ (etWidth 1 - 1)) ∧
    (0 ≤ 5 ∧ (0xFF : Word).toNat < 2 ^ etWidth 0 ∧ (1 : Word).toNat < 2 ^ etWidth 0 ∧ etSigned 0 = false ∧ (2 ^ etWidth 0 : Int) ≤ etVal 0 0xFF + etVal 0 1 ∧
      etVal 0 1 - etVal 0 0xFF < 0) ∧
    (etVal 1 0x80 = -2 ^ (etWidth 1 - 1) ∧ etVal 1 0xFF = -1) ∧
    ((2 : Word) ≠ 0 ∧ etVal 0 (vElem 0x34 0 0 1 2 0 0).1 ≠ 0) := by
  decide +kernel
/-- Meets the hypotheses of `Obligations.VectorFloatValues`, for binary16: NaNs, infinities, zeros and finite values of each sign. -/
theorem witness_VectorFloatValues :
    let inf := (2 ^ 5 - 1) * 2 ^ 10
    (6 = 6 ∧ 2 < 4 ∧ inf < 0x7E01 % 2 ^ 15 ∧ (inf < 0x7C01 % 2 ^ 15 ∧ 0x7C01 % 2 ^ 15 < inf + 2 ^ 9)) ∧
    (0x3C00 < 2 ^ 16 ∧ 0x3C00 % 2 ^ 15 < inf ∧ 0xBC00 < 2 ^ 16 ∧ 0xBC00 % 2 ^ 15 < inf ∧ 2 ^ 15 ≤ 0xBC00) ∧
    (0x8000 % 2 ^ 15 = 0 ∧ 0xFC00 % 2 ^ 15 = inf ∧ 0x7C00 % 2 ^ 15 = inf) ∧
    (etVal 3 0xFFF0 ≠ 0 ∧ etVal 3 0 = 0 ∧ etWidth 7 = 32 ∧ 0x7F800001 < 0x100000000 ∧ 5 ≤ 5) := by
  decide +kernel

end Sys2Proof.Tests.W14
end

section
/-!
PROOF. The integer operations of the vector pipes (R109 to R112). A pattern of an integer type is read through the library's `BitVec` of the
type's width: `etVal` is `toInt` or `toNat` of it, and `etBits` is `BitVec.ofInt`. What a wrapping, a saturating and an exact result is then
follows once for every operation; shifts are settled bit by bit, DIV and REM from the library's truncating division.
-/
namespace Sys2Proof.Machine

/-! ### Patterns and values -/

theorem etWidth_pos (t : Nat) : 0 < etWidth t := by
  unfold etWidth
  split <;> decide

theorem etWidth_le (t : Nat) : etWidth t ≤ 32 := by
  unfold etWidth
  split <;> decide

/-- The range of an unsigned type is twice the half range of a signed one. -/
theorem two_pow_etWidth (t : Nat) : (2 : Int) ^ etWidth t = 2 * 2 ^ (etWidth t - 1) :=
  (mul_pow_sub_one (etWidth_pos t).ne' 2).symm

theorem half_range_pos (t : Nat) : (0 : Int) < 2 ^ (etWidth t - 1) := by positivity

theorem sextInt_eq_toInt (x : Word) {w : Nat} (hw : 0 < w) : sextInt x w = (x.setWidth w).toInt := by
  have hpow : 2 ^ w = 2 * 2 ^ (w - 1) := (mul_pow_sub_one hw.ne' 2).symm
  have hcast : ((2 ^ w : Nat) : Int) = 2 ^ w := by norm_cast
  rw [BitVec.toInt_eq_toNat_cond, BitVec.toNat_setWidth, hcast]
  dsimp only [sextInt]
  split <;> split <;> omega

theorem etVal_of_signed {t : Nat} (h : etSigned t = true) (x : Word) : etVal t x = (x.setWidth (etWidth t)).toInt := by
  rw [etVal, if_pos h, sextInt_eq_toInt x (etWidth_pos t)]

theorem etVal_of_unsigned {t : Nat} (h : etSigned t = false) (x : Word) : etVal t x = (x.setWidth (etWidth t)).toNat := by
  simp [etVal, h]

theorem etBits_eq_ofInt (t : Nat) (e : Int) : etBits t e = (BitVec.ofInt (etWidth t) e).setWidth 32 := by
  apply BitVec.eq_of_toNat_eq
  simp [etBits]

theorem setWidth_etBits (t : Nat) (e : Int) : (etBits t e).setWidth (etWidth t) = BitVec.ofInt (etWidth t) e := by
  rw [etBits_eq_ofInt, BitVec.setWidth_setWidth_of_le _ (etWidth_le t), BitVec.setWidth_eq]

theorem etBits_toNat_lt (t : Nat) (e : Int) : (etBits t e).toNat < 2 ^ etWidth t := by
  rw [etBits_eq_ofInt, BitVec.toNat_setWidth]
  exact (Nat.mod_le _ _).trans_lt (BitVec.ofInt (etWidth t) e).isLt

theorem setWidth_setWidth_etWidth {t : Nat} {x : Word} (hx : x.toNat < 2 ^ etWidth t) : (x.setWidth (etWidth t)).setWidth 32 = x := by
  apply BitVec.eq_of_toNat_eq
  rw [BitVec.toNat_setWidth, BitVec.toNat_setWidth, Nat.mod_eq_of_lt hx, Nat.mod_eq_of_lt x.isLt]

theorem etBits_etVal {t : Nat} {x : Word} (hx : x.toNat < 2 ^ etWidth t) : etBits t (etVal t x) = x := by
  rw [etBits_eq_ofInt]
  cases h : etSigned t with
  | true => rw [etVal_of_signed h, BitVec.ofInt_toInt, setWidth_setWidth_etWidth hx]
  | false => rw [etVal_of_unsigned h, BitVec.ofInt_natCast, BitVec.ofNat_toNat, BitVec.setWidth_eq, setWidth_setWidth_etWidth hx]

@[simp] theorem etVal_zero (t : Nat) : etVal t 0 = 0 := by
  cases h : etSigned t with
  | true => simp [etVal_of_signed h]
  | false => simp [etVal_of_unsigned h]

theorem etVal_eq_zero_iff {t : Nat} {x : Word} (hx : x.toNat < 2 ^ etWidth t) : etVal t x = 0 ↔ x = 0 := by
  refine ⟨fun h => ?_, fun h => h ▸ etVal_zero t⟩
  have h0 : etVal t x = etVal t 0 := h.trans (etVal_zero t).symm
  rw [← etBits_etVal hx, h0, etBits_etVal (by simp)]

/-! ### Representable integers -/

/-- `e` is a value of the integer type `t`. -/
def EtFits (t : Nat) (e : Int) : Prop :=
  if etSigned t then -2 ^ (etWidth t - 1) ≤ e ∧ e < 2 ^ (etWidth t - 1) else 0 ≤ e ∧ e < 2 ^ etWidth t

theorem etFits_of_signed {t : Nat} (h : etSigned t = true) (e : Int) :
    EtFits t e ↔ -2 ^ (etWidth t - 1) ≤ e ∧ e < 2 ^ (etWidth t - 1) := by
  rw [EtFits, if_pos h]

theorem etFits_of_unsigned {t : Nat} (h : etSigned t = false) (e : Int) : EtFits t e ↔ 0 ≤ e ∧ e < 2 ^ etWidth t := by
  simp [EtFits, h]

theorem etFits_iff (t : Nat) (e : Int) : EtFits t e ↔ etMin t ≤ e ∧ e ≤ etMax t := by
  unfold EtFits etMin etMax
  split <;> omega

theorem etFits_zero (t : Nat) : EtFits t 0 := by
  have := half_range_pos t
  have := two_pow_etWidth t
  unfold EtFits
  split <;> omega

theorem etFits_etVal (t : Nat) (x : Word) : EtFits t (etVal t x) := by
  cases h : etSigned t with
  | true =>
    rw [etFits_of_signed h, etVal_of_signed h]
    exact ⟨BitVec.le_toInt _, BitVec.toInt_lt⟩
  | false =>
    rw [etFits_of_unsigned h, etVal_of_unsigned h]
    exact ⟨Int.natCast_nonneg _, by exact_mod_cast (x.setWidth (etWidth t)).isLt⟩

/-- Reading back the low bits of an integer: the same residue modulo 2^w. -/
theorem etVal_etBits_emod (t : Nat) (e : Int) : etVal t (etBits t e) % 2 ^ etWidth t = e % 2 ^ etWidth t := by
  have hcast : ((2 ^ etWidth t : Nat) : Int) = 2 ^ etWidth t := by norm_cast
  rw [← hcast]
  cases h : etSigned t with
  | true => rw [etVal_of_signed h, setWidth_etBits, BitVec.toInt_ofInt, Int.bmod_emod]
  | false =>
    rw [etVal_of_unsigned h, setWidth_etBits, BitVec.toNat_ofInt, Int.toNat_of_nonneg (Int.emod_nonneg _ (by positivity)),
      Int.emod_emod_of_dvd _ dvd_rfl]

theorem etVal_etBits {t : Nat} {e : Int} (he : EtFits t e) : etVal t (etBits t e) = e := by
  cases h : etSigned t with
  | true =>
    obtain ⟨hlo, hhi⟩ := (etFits_of_signed h e).mp he
    rw [etVal_of_signed h, setWidth_etBits, BitVec.toInt_ofInt_eq_self (etWidth_pos t) hlo hhi]
  | false =>
    obtain ⟨hlo, hhi⟩ := (etFits_of_unsigned h e).mp he
    have hemod := etVal_etBits_emod t e
    obtain ⟨hlo', hhi'⟩ := (etFits_of_unsigned h _).mp (etFits_etVal t (etBits t e))
    rwa [Int.emod_eq_of_lt hlo hhi, Int.emod_eq_of_lt hlo' hhi'] at hemod

/-! ### Wrapping, saturating and exact results (R110) -/

/-- The result of exact value `e` modulo 2^w, with WRAP when `e` is not representable. -/
def Wraps (t : Nat) (o : Word × Flags) (e : Int) : Prop :=
  o.1.toNat < 2 ^ etWidth t ∧ (etVal t o.1 - e) % 2 ^ etWidth t = 0 ∧ (EtFits t e → o.2 = 0) ∧ (¬ EtFits t e → o.2 = fWrap)

/-- The result of exact value `e` clamped to the type's range, with SAT when `e` is not representable. -/
def Saturates (t : Nat) (o : Word × Flags) (e : Int) : Prop :=
  o.1.toNat < 2 ^ etWidth t ∧ (EtFits t e → etVal t o.1 = e ∧ o.2 = 0) ∧
    (¬ EtFits t e → o.2 = fSat ∧ (0 < e → etVal t o.1 = (if etSigned t then 2 ^ (etWidth t - 1) else 2 ^ etWidth t) - 1) ∧
      (e < 0 → etVal t o.1 = if etSigned t then -2 ^ (etWidth t - 1) else 0))

/-- The value `e` itself, without a flag. -/
def GivesExactly (t : Nat) (o : Word × Flags) (e : Int) : Prop := o.1.toNat < 2 ^ etWidth t ∧ etVal t o.1 = e ∧ o.2 = 0

theorem wraps_etWrap (t : Nat) (e : Int) : Wraps t (etWrap t e) e := by
  have hout : (e < etMin t ∨ etMax t < e) ↔ ¬ EtFits t e := by
    rw [etFits_iff]
    omega
  refine ⟨etBits_toNat_lt t e, ?_, fun h => ?_, fun h => ?_⟩
  · exact Int.emod_eq_emod_iff_emod_sub_eq_zero.mp (etVal_etBits_emod t e)
  · simp [etWrap, hout, h, fIf]
  · simp [etWrap, hout, h, fIf]

theorem etMax_eq (t : Nat) : etMax t = (if etSigned t then 2 ^ (etWidth t - 1) else 2 ^ etWidth t) - 1 := by
  unfold etMax
  split <;> rfl

theorem etVal_etBits_etMin (t : Nat) : etVal t (etBits t (etMin t)) = etMin t :=
  etVal_etBits ((etFits_iff t _).mpr ⟨le_rfl, by have := (etFits_iff t 0).mp (etFits_zero t); omega⟩)

theorem etVal_etBits_etMax (t : Nat) : etVal t (etBits t (etMax t)) = etMax t :=
  etVal_etBits ((etFits_iff t _).mpr ⟨by have := (etFits_iff t 0).mp (etFits_zero t); omega, le_rfl⟩)

theorem saturates_etSat (t : Nat) (e : Int) : Saturates t (etSat t e) e := by
  obtain ⟨hmin, hmax⟩ := (etFits_iff t 0).mp (etFits_zero t)
  rw [Saturates, etFits_iff, ← etMax_eq, ← etMin]
  unfold etSat
  split
  · refine ⟨etBits_toNat_lt t _, by omega, fun _ => ⟨rfl, by omega, fun _ => etVal_etBits_etMin t⟩⟩
  · split
    · exact ⟨etBits_toNat_lt t _, by omega, fun _ => ⟨rfl, fun _ => etVal_etBits_etMax t, by omega⟩⟩
    · exact ⟨etBits_toNat_lt t _, fun h => ⟨etVal_etBits ((etFits_iff t e).mpr h), rfl⟩, by omega⟩

theorem givesExactly_etBits {t : Nat} {e : Int} (he : EtFits t e) : GivesExactly t (etBits t e, 0) e :=
  ⟨etBits_toNat_lt t e, etVal_etBits he, rfl⟩

theorem givesExactly_min {t : Nat} {x y : Word} (hx : x.toNat < 2 ^ etWidth t) (hy : y.toNat < 2 ^ etWidth t) :
    GivesExactly t (if etVal t y < etVal t x then y else x, 0) (min (etVal t x) (etVal t y)) := by
  split
  · exact ⟨hy, by dsimp only; omega, rfl⟩
  · exact ⟨hx, by dsimp only; omega, rfl⟩

theorem givesExactly_max {t : Nat} {x y : Word} (hx : x.toNat < 2 ^ etWidth t) (hy : y.toNat < 2 ^ etWidth t) :
    GivesExactly t (if etVal t x < etVal t y then y else x, 0) (max (etVal t x) (etVal t y)) := by
  split
  · exact ⟨hy, by dsimp only; omega, rfl⟩
  · exact ⟨hx, by dsimp only; omega, rfl⟩

theorem etFits_half_sum {t : Nat} {a b : Int} (ha : EtFits t a) (hb : EtFits t b) : EtFits t ((a + b) / 2) := by
  rw [etFits_iff] at *
  omega

theorem etFits_high_product {t : Nat} {a b : Int} (ha : EtFits t a) (hb : EtFits t b) : EtFits t (a * b / 2 ^ etWidth t) := by
  have hpos : (0 : Int) < 2 ^ etWidth t := by positivity
  cases h : etSigned t with
  | true =>
    rw [etFits_of_signed h] at *
    rw [Int.le_ediv_iff_mul_le hpos, Int.ediv_lt_iff_lt_mul hpos, two_pow_etWidth]
    have hhalf := half_range_pos t
    have habs : |a * b| ≤ 2 ^ (etWidth t - 1) * 2 ^ (etWidth t - 1) := by
      rw [abs_mul]
      exact mul_le_mul (abs_le.mpr ⟨ha.1, ha.2.le⟩) (abs_le.mpr ⟨hb.1, hb.2.le⟩) (abs_nonneg b) hhalf.le
    obtain ⟨hlo, hhi⟩ := abs_le.mp habs
    constructor <;> nlinarith
  | false =>
    rw [etFits_of_unsigned h] at *
    rw [Int.ediv_lt_iff_lt_mul hpos]
    exact ⟨Int.ediv_nonneg (mul_nonneg ha.1 hb.1) hpos.le, mul_lt_mul'' ha.2 hb.2 ha.1 hb.1⟩

/-! ### Shifts and rotation (R112) -/

/-- A shift by the whole width or more leaves no value but 0 representable. -/
theorem not_etFits_mul_two_pow {t n : Nat} {e : Int} (hn : etWidth t ≤ n) (he : e ≠ 0) : ¬ EtFits t (e * 2 ^ n) := by
  have hpow : (2 : Int) ^ etWidth t ≤ 2 ^ n := pow_le_pow_right₀ (by decide) hn
  have hhalf := half_range_pos t
  have htwo := two_pow_etWidth t
  intro h
  have hbound : -2 ^ etWidth t < e * 2 ^ n ∧ e * 2 ^ n < 2 ^ etWidth t := by
    unfold EtFits at h
    split at h <;> omega
  rcases lt_or_gt_of_ne he with hneg | hpos
  · nlinarith
  · nlinarith

theorem wraps_vShl (t : Nat) (e : Int) (n : Nat) : Wraps t (vShl t e n) (e * 2 ^ n) := by
  unfold vShl
  split
  · next hn =>
    refine ⟨by simp, ?_, fun h => ?_, fun h => ?_⟩
    · have hdvd : (2 : Int) ^ etWidth t ∣ 2 ^ n := pow_dvd_pow 2 hn
      show (etVal t 0 - e * 2 ^ n) % 2 ^ etWidth t = 0
      rw [etVal_zero, zero_sub]
      exact Int.emod_eq_zero_of_dvd (hdvd.mul_left e).neg_right
    · have he : e = 0 := by_contra fun he => not_etFits_mul_two_pow hn he h
      simp [he, fIf]
    · have he : e ≠ 0 := by
        rintro rfl
        simp [etFits_zero] at h
      simp [he, fIf]
  · exact wraps_etWrap t _

theorem bitAt_shiftRight (x : Word) (n i : Nat) : bitAt (BitVec.ofNat 32 (x.toNat >>> n)) i = bitAt x (i + n) := by
  have hshift : BitVec.ofNat 32 (x.toNat >>> n) = x >>> n := by
    apply BitVec.eq_of_toNat_eq
    rw [BitVec.toNat_ushiftRight, BitVec.toNat_ofNat, Nat.mod_eq_of_lt ((Nat.shiftRight_le _ _).trans_lt x.isLt)]
  rw [hshift, bitAt, bitAt, BitVec.getLsbD_ushiftRight, Nat.add_comm]

theorem bitAt_etBits (t : Nat) (e : Int) (i : Nat) : bitAt (etBits t e) i = (BitVec.ofInt (etWidth t) e).getLsbD i := by
  have hwidth := etWidth_le t
  rw [etBits_eq_ofInt, bitAt, BitVec.getLsbD_setWidth]
  by_cases hi : i < 32
  · simp [hi]
  · rw [BitVec.getLsbD_of_ge _ i (by omega), Bool.and_false]

/-- The arithmetic shift: the model shifts by at most 64, which every width has passed. -/
theorem bitAt_etBits_sextInt_div (t : Nat) (x : Word) (n i : Nat) :
    bitAt (etBits t (sextInt x (etWidth t) / 2 ^ min n 64)) i =
      (decide (i < etWidth t) && bitAt x (min (i + n) (etWidth t - 1))) := by
  have hle := etWidth_le t
  have hpos := etWidth_pos t
  have hcast : (2 : Int) ^ min n 64 = ((2 ^ min n 64 : Nat) : Int) := by norm_cast
  rw [bitAt_etBits, sextInt_eq_toInt x hpos, hcast, ← Int.shiftRight_eq_div_pow, ← BitVec.sshiftRight_eq, BitVec.getLsbD_sshiftRight,
    BitVec.msb_eq_getLsbD_last, BitVec.getLsbD_setWidth, BitVec.getLsbD_setWidth, bitAt]
  by_cases hi : i < etWidth t
  · by_cases hshift : i + n < etWidth t
    · have hmin : min (i + n) (etWidth t - 1) = i + n := by omega
      have hamount : min n 64 + i = i + n := by omega
      simp [hi, hshift, hmin, hamount]
    · have hmin : min (i + n) (etWidth t - 1) = etWidth t - 1 := by omega
      have hout : ¬ min n 64 + i < etWidth t := by omega
      simp [hi, hmin, hout, hpos]
  · simp [hi]

theorem bitAt_rotate {w : Nat} (hw : w ≤ 32) (x : Word) {n : Nat} (hn : n < w) (hx : x.toNat < 2 ^ w) (i : Nat) :
    bitAt (BitVec.ofNat 32 ((x.toNat <<< n) % 2 ^ w + x.toNat >>> (w - n))) i = (decide (i < w) && bitAt x ((i + (w - n)) % w)) := by
  have hpow : 2 ^ w = 2 ^ n * 2 ^ (w - n) := by rw [← pow_add, Nat.add_sub_cancel' hn.le]
  have hlow : x.toNat >>> (w - n) < 2 ^ n := by
    rw [Nat.shiftRight_eq_div_pow, Nat.div_lt_iff_lt_mul (by positivity), ← hpow]
    exact hx
  have hhigh : (x.toNat <<< n) % 2 ^ w = 2 ^ n * (x.toNat % 2 ^ (w - n)) := by
    rw [Nat.shiftLeft_eq, Nat.mul_comm, hpow, Nat.mul_mod_mul_left]
  rw [hhigh, bitAt, BitVec.getLsbD_ofNat, Nat.testBit_two_pow_mul_add _ hlow, bitAt]
  split
  · next hi =>
    rw [Nat.mod_eq_of_lt (by omega : i + (w - n) < w), Nat.testBit_shiftRight, BitVec.testBit_toNat, Nat.add_comm]
    simp [show i < 32 by omega, show i < w by omega]
  · next hi =>
    rw [Nat.testBit_mod_two_pow, BitVec.testBit_toNat]
    by_cases hiw : i < w
    · have hturn : (i + (w - n)) % w = i - n := by
        rw [show i + (w - n) = i - n + w by omega, Nat.add_mod_right, Nat.mod_eq_of_lt (by omega)]
      rw [hturn]
      simp [hiw, show i < 32 by omega, show i - n < w - n by omega]
    · simp [hiw, show ¬ i - n < w - n by omega]

/-! ### DIV and REM (R111) -/

/-- The one quotient of a signed type that is not representable: the most negative value by -1. -/
def DivEdge (t : Nat) (x y : Int) : Prop := etSigned t = true ∧ x = -2 ^ (etWidth t - 1) ∧ y = -1

theorem etFits_between_zero {t : Nat} {a e : Int} (ha : EtFits t a) (he : 0 ≤ e ∧ e ≤ a ∨ a ≤ e ∧ e ≤ 0) : EtFits t e := by
  have hzero := etFits_zero t
  rw [etFits_iff] at *
  omega

theorem tmod_between_zero (x y : Int) : 0 ≤ x.tmod y ∧ x.tmod y ≤ x ∨ x ≤ x.tmod y ∧ x.tmod y ≤ 0 := by
  have habs : (x.tmod y).natAbs ≤ x.natAbs := by
    rw [Int.natAbs_tmod]
    exact Nat.mod_le _ _
  rcases le_total 0 x with hx | hx
  · have := Int.tmod_nonneg y hx
    omega
  · have := Int.tmod_nonneg y (Int.neg_nonneg.mpr hx)
    rw [Int.neg_tmod] at this
    omega

theorem natAbs_tdiv_le_half {x y : Int} (hy : 2 ≤ y.natAbs) : 2 * (x.tdiv y).natAbs ≤ x.natAbs := by
  rw [Int.natAbs_tdiv]
  calc 2 * (x.natAbs / y.natAbs) ≤ y.natAbs * (x.natAbs / y.natAbs) := Nat.mul_le_mul_right _ hy
    _ ≤ x.natAbs := Nat.mul_div_le _ _

theorem etFits_tdiv {t : Nat} {x y : Int} (hx : EtFits t x) (hy : EtFits t y) (hy0 : y ≠ 0) (hedge : ¬ DivEdge t x y) :
    EtFits t (x.tdiv y) := by
  have hhalf := half_range_pos t
  cases h : etSigned t with
  | true =>
    rw [etFits_of_signed h] at *
    by_cases hone : y = 1
    · simpa [hone] using hx
    by_cases hneg : y = -1
    · have hmin : x ≠ -2 ^ (etWidth t - 1) := fun hmin => hedge ⟨h, hmin, hneg⟩
      rw [hneg, Int.tdiv_neg, Int.tdiv_one]
      omega
    · have := natAbs_tdiv_le_half (x := x) (y := y) (by omega)
      omega
  | false =>
    refine etFits_between_zero hx (Or.inl ?_)
    rw [etFits_of_unsigned h] at *
    exact ⟨Int.tdiv_nonneg hx.1 hy.1, Int.tdiv_le_self y hx.1⟩

theorem vDiv_of_zero (t : Nat) (rem : Bool) (x : Int) :
    vDiv t rem x 0 = (if rem then etBits t x else etBits t (-1), fWrap ||| fDz) := by
  simp [vDiv]

theorem vDiv_of_edge {t : Nat} {x y : Int} (h : DivEdge t x y) (rem : Bool) : vDiv t rem x y = (if rem then 0 else etBits t x, fWrap) := by
  obtain ⟨hs, rfl, rfl⟩ := h
  simp [vDiv, hs, etMin]

theorem vDiv_of_not_edge {t : Nat} {x y : Int} (hy : y ≠ 0) (h : ¬ DivEdge t x y) (rem : Bool) :
    vDiv t rem x y = (etBits t (if rem then x.tmod y else x.tdiv y), 0) := by
  have hcond : ¬ (etSigned t && x == etMin t && y == -1) = true := by
    simp only [Bool.and_eq_true, beq_iff_eq]
    rintro ⟨⟨hs, hx⟩, hneg⟩
    exact h ⟨hs, by rw [hx, etMin, if_pos hs], hneg⟩
  rw [vDiv, if_neg hy, if_neg hcond]

theorem etBits_neg_one_toNat (t : Nat) : (etBits t (-1)).toNat = 2 ^ etWidth t - 1 := by
  have hpow : 2 ^ etWidth t ≤ 2 ^ 32 := Nat.pow_le_pow_right (by decide) (etWidth_le t)
  have hones : BitVec.ofInt (etWidth t) (-1) = BitVec.allOnes (etWidth t) := by
    rw [BitVec.ofInt_neg, ← BitVec.neg_one_eq_allOnes]
    rfl
  rw [etBits_eq_ofInt, hones, BitVec.toNat_setWidth, BitVec.toNat_allOnes, Nat.mod_eq_of_lt (by omega)]

theorem etFits_neg_one {t : Nat} (h : etSigned t = true) : EtFits t (-1) := by
  have := half_range_pos t
  rw [etFits_of_signed h]
  omega

/-- A zero divisor: all ones (-1 in a signed type) and x, with WRAP and DZ. -/
theorem vDiv_zero_spec {t : Nat} {x : Word} (hx : x.toNat < 2 ^ etWidth t) :
    let q := vDiv t false (etVal t x) 0
    let r := vDiv t true (etVal t x) 0
    (etSigned t = false → q.1.toNat = 2 ^ etWidth t - 1) ∧ (etSigned t = true → etVal t q.1 = -1) ∧ r.1 = x ∧
      q.2 = fWrap ||| fDz ∧ r.2 = fWrap ||| fDz := by
  rw [vDiv_of_zero, vDiv_of_zero]
  exact ⟨fun _ => etBits_neg_one_toNat t, fun h => etVal_etBits (etFits_neg_one h), etBits_etVal hx, rfl, rfl⟩

/-- The edge: x and 0, with WRAP. -/
theorem vDiv_edge_spec {t : Nat} {x : Word} {y : Int} (hx : x.toNat < 2 ^ etWidth t) (h : DivEdge t (etVal t x) y) :
    let q := vDiv t false (etVal t x) y
    let r := vDiv t true (etVal t x) y
    q.1 = x ∧ r.1 = 0 ∧ q.2 = fWrap ∧ r.2 = fWrap := by
  rw [vDiv_of_edge h, vDiv_of_edge h]
  exact ⟨etBits_etVal hx, rfl, rfl, rfl⟩

/-- Every other case: the truncating quotient and its remainder, without a flag. -/
theorem vDiv_spec {t : Nat} {x y : Int} (hx : EtFits t x) (hy : EtFits t y) (hy0 : y ≠ 0) (h : ¬ DivEdge t x y) :
    let q := vDiv t false x y
    let r := vDiv t true x y
    x = etVal t q.1 * y + etVal t r.1 ∧ (etVal t r.1).natAbs < y.natAbs ∧ (etVal t r.1 ≠ 0 → (etVal t r.1 < 0 ↔ x < 0)) ∧
      q.2 = 0 ∧ r.2 = 0 := by
  have hbetween := tmod_between_zero x y
  have hq : etVal t (etBits t (x.tdiv y)) = x.tdiv y := etVal_etBits (etFits_tdiv hx hy hy0 h)
  have hr : etVal t (etBits t (x.tmod y)) = x.tmod y := etVal_etBits (etFits_between_zero hx hbetween)
  rw [vDiv_of_not_edge hy0 h, vDiv_of_not_edge hy0 h]
  simp only [Bool.false_eq_true, if_true, if_false, hq, hr]
  refine ⟨(Int.tdiv_mul_add_tmod x y).symm, ?_, by omega, trivial, trivial⟩
  rw [Int.natAbs_tmod]
  exact Nat.mod_lt _ (Int.natAbs_pos.mpr hy0)

/-! ### The operations -/

/-- Settles O58: every operation is one of the result forms above, the shifts bit by bit, and DIV and REM by the three cases of R111. -/
theorem vectorIntegerOperations : Obligations.VectorIntegerOperations := by
  intro t rm x y b c _ hx hy
  have hX := etFits_etVal t x
  have hY := etFits_etVal t y
  have hamount : y.toNat % 2 ^ etWidth t = y.toNat := Nat.mod_eq_of_lt hy
  have hpattern : x.toNat % 2 ^ etWidth t = x.toNat := Nat.mod_eq_of_lt hx
  have hSar : (if etSigned t then etVal t x else sextInt x (etWidth t)) = sextInt x (etWidth t) := by
    unfold etVal
    split <;> rfl
  intro q r edge v w fits wraps sats exactly X Y n
  refine ⟨⟨wraps_etWrap t _, saturates_etSat t _, wraps_etWrap t _, saturates_etSat t _, wraps_etWrap t _, wraps_etWrap t _,
    wraps_etWrap t _, saturates_etSat t _, givesExactly_min hx hy, givesExactly_max hx hy, givesExactly_etBits (etFits_half_sum hX hY),
    wraps_etWrap t _, saturates_etSat t _, givesExactly_etBits (etFits_high_product hX hY)⟩, ?shl, ?shr, rfl, ?sar, rfl, ?rol, rfl,
    ?zero, ?edge, ?other⟩
  case shl =>
    show Wraps t (vShl t X (y.toNat % 2 ^ etWidth t)) (X * 2 ^ n)
    rw [hamount]
    exact wraps_vShl t X n
  case shr =>
    intro i
    show bitAt (BitVec.ofNat 32 ((x.toNat % 2 ^ etWidth t) >>> (y.toNat % 2 ^ etWidth t))) i = _
    rw [hamount, hpattern]
    exact bitAt_shiftRight x n i
  case sar =>
    intro i
    show bitAt (etBits t ((if etSigned t then etVal t x else sextInt x (etWidth t)) / 2 ^ min (y.toNat % 2 ^ etWidth t) 64)) i = _
    rw [hamount, hSar]
    exact bitAt_etBits_sextInt_div t x n i
  case rol =>
    intro i
    show bitAt (BitVec.ofNat 32 (((x.toNat % 2 ^ w) <<< (y.toNat % 2 ^ w % w)) % 2 ^ w + (x.toNat % 2 ^ w) >>> (w - y.toNat % 2 ^ w % w))) i = _
    rw [hamount, hpattern]
    exact bitAt_rotate (etWidth_le t) x (Nat.mod_lt n (etWidth_pos t)) hx i
  case zero =>
    rintro rfl
    have hspec := vDiv_zero_spec hx
    rw [← etVal_zero t] at hspec
    exact hspec
  case edge => exact vDiv_edge_spec hx
  case other => exact fun hy0 hedge => vDiv_spec hX hY (mt (etVal_eq_zero_iff hy).mp hy0) hedge

end Sys2Proof.Machine
end

section
/-!
PROOF. A write of the power budget (R388). An accepted BUDGET_WRITE stores into one register of the PERMIT page and then runs the model's
budget check, which touches nothing but IRQ_STAT; the grants and the queues are no registers. An evaluation of the queues in which no head
fits under AVAIL then chooses none.
-/
namespace Sys2Proof.Machine

/-! ### What an access leaves of the registers and of GRANTED -/

@[simp] theorem State.getReg_taken (s : State) (m : Master) (a b : Nat) : (s.taken m a).getReg b = s.getReg b := rfl

@[simp] theorem State.getReg_answer (s x : State) (m : Master) (r : Rsp) (a : Nat) :
    (s.answer (x.originOf m) r).getReg a = s.getReg a := by
  rw [State.getReg, State.answer_regs, State.getReg_mk_regs]

theorem State.granted_congr {s t : State} (h : t.permit = s.permit) : t.granted = s.granted := by
  rw [State.granted, h, State.granted]

/-- What the Permit unit may grant depends on no register but PEAK_MW, RESERVE_MW and VDD_MV. -/
theorem State.budget_congr {s t : State} (h : ∀ a ≠ 0x2018, t.getReg a = s.getReg a) :
    t.peakMw = s.peakMw ∧ t.regN 0x2044 = s.regN 0x2044 ∧ t.vddMv = s.vddMv ∧ t.avail = s.avail := by
  simp [State.avail, State.peakMw, State.vddMv, State.regN, h]

/-! ### The budget check -/

theorem State.budgetCheck_frame (s old : State) : s.budgetCheck old = { s with regs := (s.budgetCheck old).regs } := by
  unfold State.budgetCheck
  split <;> rfl

theorem State.getReg_budgetCheck_ne (s old : State) {a : Nat} (h : a ≠ 0x2018) : (s.budgetCheck old).getReg a = s.getReg a := by
  unfold State.budgetCheck
  split
  · exact s.getReg_irq_ne .permit 2 h
  · rfl

/-- The write to `old` that led to `s` lowered PEAK_MW, or raised RESERVE_MW or VDD_MV. -/
def State.BudgetCut (s old : State) : Prop := s.peakMw < old.peakMw ∨ old.regN 0x2044 < s.regN 0x2044 ∨ old.vddMv < s.vddMv

theorem State.getReg_budgetCheck_of_over {s old : State} (hwf : spWf regReset s.regs = true) (hcut : s.BudgetCut old)
    (hover : s.avail < s.granted) : (s.budgetCheck old).getReg 0x2018 = s.getReg 0x2018 ||| 4 := by
  rw [State.budgetCheck, if_pos ⟨hcut, hover⟩]
  exact s.getReg_orReg_self 0x2018 4 hwf

theorem State.budgetCheck_of_not_over {s old : State} (h : ¬ s.BudgetCut old ∨ s.granted ≤ s.avail) : s.budgetCheck old = s :=
  if_neg fun ⟨hcut, hover⟩ => h.elim (· hcut) (Nat.not_le.mpr hover)

/-! ### The three registers -/

/-- The offset of a budget register in the PERMIT page. -/
def budgetOff : BudgetReg → Nat
  | .peakMw => 0x040 | .reserveMw => 0x044 | .vddMv => 0x058

theorem budgetAddr_eq (reg : BudgetReg) : budgetAddr reg = pageBase .permit + budgetOff reg := by
  cases reg <;> rfl

theorem budgetAddr_ne_irqStat (reg : BudgetReg) : 0x2018 ≠ budgetAddr reg := by
  cases reg <;> decide

/-- Each is a register of the page's map, and none is staged-capable. -/
theorem regDesc_budget (reg : BudgetReg) : ∃ d, regDesc .permit (budgetOff reg) = some d ∧ d.staged = false := by
  cases reg <;> exact ⟨_, rfl, rfl⟩

theorem State.storeReg_budget (s : State) (reg : BudgetReg) (data : Word) :
    ∃ w, s.storeReg .permit (budgetOff reg) data = s.setReg (budgetAddr reg) w := by
  cases reg <;> exact ⟨_, rfl⟩

/-- The PERMIT page is in no island and is not the CURTAIN page: a row that writes it writes at once. -/
theorem State.rowWrite_permit (s : State) (m : Master) {off : Nat} (h : off < 0x1000) (data : Word) :
    s.rowWrite m (pageBase .permit + off) data = .next (s.busWrite m (pageBase .permit + off) data 0xF true) := by
  have hready : s.rowReady (pageBase .permit + off) = s := by
    rw [State.rowReady, pageAt_pageBase .permit h]
    rfl
  rw [State.rowWrite, pageAt_pageBase .permit h, if_neg (c := _ ∧ _) (fun hc => nomatch hc.1), hready, ite_self]

/-- A write past the header of a page not in reset, to a register that is not staged-capable: the unit's own effect, else a plain store. -/
theorem State.pageWrite_unstaged {s : State} {p : Page} {off : Nat} {d : RegDesc} (m : Master) (who : Nat) (data : Word) (a : Word64)
    (hbusy : s.srstBusy p = false) (hoff : 0x040 ≤ off) (hd : regDesc p off = some d) (hstaged : d.staged = false) :
    s.pageWrite m who p off data a = (s.unitWrite m who p off data a).getD (s.storeReg p off data) := by
  -- The two registers of the header that `pageWrite` treats apart are not meant.
  have hctrl : off ≠ 0x008 := by omega
  have hlock : off ≠ 0x01C := by omega
  simp only [State.pageWrite, hbusy, Bool.false_and, Bool.false_eq_true, if_false, hd, hstaged]
  rw [if_neg (by omega)]
  cases s.unitWrite m who p off data a <;> rfl

theorem State.unitWrite_budget (s : State) (reg : BudgetReg) (m : Master) (who : Nat) (data : Word) (a : Word64) :
    s.unitWrite m who .permit (budgetOff reg) data a = some ((s.storeReg .permit (budgetOff reg) data).budgetCheck s) := by
  cases reg <;> rfl

/-- What an accepted BUDGET_WRITE does: some word stored in the register it names, the budget check, the response. -/
theorem exec_budgetWrite {s : State} {m : Master} {reg : BudgetReg} (data : Word) (hbusy : s.srstBusy .permit = false)
    (ha : s.Accepts m (budgetAddr reg)) :
    ∃ w, exec (.budgetWrite reg m data) s =
      .next ((((s.taken m (budgetAddr reg)).setReg (budgetAddr reg) w).budgetCheck (s.taken m (budgetAddr reg))).answer (s.originOf m) {}) := by
  obtain ⟨hlow, hhigh, halign⟩ : 0x040 ≤ budgetOff reg ∧ budgetOff reg < 0x1000 ∧ budgetOff reg % 4 = 0 := by cases reg <;> decide
  obtain ⟨d, hd, hstaged⟩ := regDesc_budget reg
  obtain ⟨w, hw⟩ := (s.taken m (budgetAddr reg)).storeReg_budget reg data
  obtain ⟨htakes, hcause⟩ := ha
  rw [budgetAddr_eq] at *
  refine ⟨w, ?_⟩
  calc exec (.budgetWrite reg m data) s
    _ = s.rowWrite m (budgetAddr reg) data := rfl
    _ = .next (s.busWrite m (pageBase .permit + budgetOff reg) data 0xF true) := by rw [budgetAddr_eq, s.rowWrite_permit m hhigh]
    _ = _ := by
      rw [State.busWrite_accepted data (by decide) hhigh halign hd htakes hcause,
        State.pageWrite_unstaged m _ data _ (s := s.taken m _) hbusy hlow hd hstaged, State.unitWrite_budget, Option.getD_some, hw]

/-! ### An evaluation that grants nothing (R385, R386) -/

/-- No BIST and no bulk load waits: there is nothing to poll for. -/
theorem State.memPoll_of_idle (s : State) (hbist : ∀ j : Fin 16, s.bists[j] = none) (hbulk : s.bulk = none) : s.memPoll = s := by
  have hpoll : ∀ j, s.bistPoll j = s := fun j => by simp only [State.bistPoll, hbist j]
  rw [State.memPoll, List.foldl_fixed' hpoll]
  simp only [State.bulkPoll, hbulk]

/-- No head of a queue fits under AVAIL. -/
def State.NoHeadFits (s : State) : Prop :=
  ∀ c : Fin 3, ∀ r rest, s.permit.queue c.val = r :: rest → s.avail < s.granted + s.charge r.mw

/-- Aged or not, only a head that fits is chosen. -/
theorem State.nextGrant_of_noHeadFits {s : State} (h : s.NoHeadFits) : s.nextGrant = none := by
  have hhead : ∀ c ∈ [0, 1, 2], ∀ r rest, s.permit.queue c = r :: rest → s.avail < s.granted + s.charge r.mw :=
    fun c hc => h ⟨c, by simp at hc; omega⟩
  unfold State.nextGrant
  dsimp only
  split
  · next c hc =>
    refine if_neg ?_
    split
    · next hq => simpa using hhead c (List.mem_of_find?_eq_some hc) _ _ hq
    · simp
  · refine List.find?_eq_none.mpr fun c hmem => ?_
    split
    · next hq => simpa using hhead c hmem _ _ hq
    · simp

theorem exec_permitGrant (s : State) : exec .permitGrant s = .next s.permitGrant := rfl

theorem exec_permitGrant_of_noHeadFits (s : State) (hbist : ∀ j : Fin 16, s.bists[j] = none) (hbulk : s.bulk = none)
    (h : s.NoHeadFits) : exec .permitGrant s = .next s := by
  have hnone : s.grantOne = none := by rw [State.grantOne, State.nextGrant_of_noHeadFits h]
  have hsame : s.permitGrant = s := by
    unfold State.permitGrant
    simp only [s.memPoll_of_idle hbist hbulk, hnone]
  rw [exec_permitGrant, hsame]

/-- Settles O60: the write stores one register and runs the budget check, so what the Permit unit holds stays, and IRQ_STAT changes as the
check says. -/
theorem budgetWriteKeepsGrants : Obligations.BudgetWriteKeepsGrants := by
  intro reg m data s hcanon hbusy haccepts
  obtain ⟨w, hexec⟩ := exec_budgetWrite data hbusy haccepts
  generalize hold : s.taken m (budgetAddr reg) = old at hexec
  generalize hu : old.setReg (budgetAddr reg) w = u at hexec
  obtain ⟨hwf, hirq, hpermit, hbists, hbulk⟩ : spWf regReset u.regs = true ∧ u.getReg 0x2018 = s.getReg 0x2018 ∧
      u.permit = s.permit ∧ u.bists = s.bists ∧ u.bulk = s.bulk := by
    subst hu hold
    exact ⟨State.setReg_wf _ _ w hcanon.2, State.getReg_setReg_ne _ w (budgetAddr_ne_irqStat reg), rfl, rfl, rfl⟩
  refine ⟨_, hexec, ?_⟩
  generalize ht : (u.budgetCheck old).answer (s.originOf m) {} = t
  have htreg : ∀ a, t.getReg a = (u.budgetCheck old).getReg a := fun a => by rw [← ht, State.getReg_answer]
  obtain ⟨htpermit, htbists, htbulk⟩ : t.permit = s.permit ∧ t.bists = s.bists ∧ t.bulk = s.bulk := by
    rw [← ht, State.answer_permit, State.answer_bists, State.answer_bulk, State.budgetCheck_frame]
    exact ⟨hpermit, hbists, hbulk⟩
  have hgranted : t.granted = u.granted := State.granted_congr (htpermit.trans hpermit.symm)
  obtain ⟨hpeak, hreserve, hvdd, havail⟩ := State.budget_congr fun a ha => (htreg a).trans (u.getReg_budgetCheck_ne old ha)
  have hcuts : (t.peakMw < s.peakMw ∨ s.regN 0x2044 < t.regN 0x2044 ∨ s.vddMv < t.vddMv) ↔ u.BudgetCut old := by
    rw [hpeak, hreserve, hvdd, ← hold]
    rfl
  refine ⟨htpermit, State.granted_congr htpermit, fun hbist hload hfits => ?_, fun hcut hover => ?_, fun hnot => ?_⟩
  · exact exec_permitGrant_of_noHeadFits t (fun j => by rw [htbists, hbist]) (htbulk.trans hload) hfits
  · rw [havail, hgranted] at hover
    rw [htreg, State.getReg_budgetCheck_of_over hwf (hcuts.mp hcut) hover, hirq]
  · rw [hcuts, havail, hgranted] at hnot
    rw [htreg, State.budgetCheck_of_not_over hnot, hirq]

end Sys2Proof.Machine
end
